-- ==== Sys2Proof/Word.lean ====
section
/-! DEFINITION. Word types of the EL2080 and their plainest arithmetic (00_scope R4, R5, R7). -/
namespace Sys2Proof

/-- An 18-bit word, the unit of deep memory and cisterns (00_scope R4). -/
abbrev Word18 := BitVec 18

/-- A 32-bit word, the unit of host-facing structures (00_scope R4). -/
abbrev W32 := BitVec 32

/-- A stored word: 18 data bits with the six bits of the light code above them (07_deep_memory R148). -/
abbrev Stored := BitVec 24

abbrev Byte := BitVec 8

/-- Sparse contents by number: strictly rising keys, no entry equal to what an unlisted key reads as.
The default is named at each use. -/
abbrev Tab (α : Type) := List (Nat × α)

/-- Add one, holding at all ones: the "saturates" of the register tables. -/
def satInc {w : Nat} (x : BitVec w) : BitVec w :=
  if x = BitVec.allOnes w then x else x + 1

/-- Add `n`, holding at all ones. -/
def satAdd {w : Nat} (x : BitVec w) (n : Nat) : BitVec w :=
  if x.toNat + n < 2 ^ w then x + BitVec.ofNat w n else BitVec.allOnes w

/-- `n` as a 32-bit word. -/
abbrev w32 (n : Nat) : W32 := BitVec.ofNat 32 n

/-- A flag as a bit vector of one bit's value at place `i` of a 32-bit word. -/
def bitAt (b : Bool) (i : Nat) : W32 := if b then (1 : W32) <<< i else 0

/-- Bits [lo + w - 1 : lo] of a 32-bit word, as a number. -/
def field (x : W32) (lo w : Nat) : Nat := (x.toNat >>> lo) % 2 ^ w

/-- Bits [31:0] and the bits above of a number, as two 32-bit words. -/
def loWord (n : Nat) : W32 := BitVec.ofNat 32 n
def hiWord (n : Nat) : W32 := BitVec.ofNat 32 (n >>> 32)

/-- `ceil (a / b)`; 0 for `b = 0`. -/
def ceilDiv (a b : Nat) : Nat := (a + (b - 1)) / b

end Sys2Proof
end

