-- ==== Sys2Proof/Machine/Table.lean ====
section
/-! DEFINITION. Sparse tables in one canonical form: strictly rising keys, no default entry. -/
namespace Sys2Proof.Machine

/-- What the table holds at `k`; `d` is what an unlisted key reads as. -/
def tget {α : Type} (t : Tab α) (d : α) (k : Nat) : α :=
  match t with
  | [] => d
  | (k', v) :: t => if k' = k then v else tget t d k

/-- Drop the entries whose key meets `p`. -/
def tdrop {α : Type} (p : Nat → Bool) (t : Tab α) : Tab α := t.filter (fun e => !p e.1)

/-- Put an entry before the first greater key. -/
def tins {α : Type} (t : Tab α) (k : Nat) (v : α) : Tab α :=
  match t with
  | [] => [(k, v)]
  | (k', v') :: t => if k < k' then (k, v) :: (k', v') :: t else (k', v') :: tins t k v

/-- Write `v` at `k`; writing the default removes the entry. -/
def tset {α : Type} [DecidableEq α] (t : Tab α) (d : α) (k : Nat) (v : α) : Tab α :=
  if v = d then tdrop (· = k) t else tins (tdrop (· = k) t) k v

/-- Apply `f` at `k`. -/
def tmod {α : Type} [DecidableEq α] (t : Tab α) (d : α) (k : Nat) (f : α → α) : Tab α :=
  tset t d k (f (tget t d k))

/-- Every key of the table is above `b`. -/
def Tab.above {α : Type} (b : Nat) (t : Tab α) : Bool := t.all (fun e => b < e.1)

/-- The canonical form: keys strictly rising, no entry equal to the default. -/
def Tab.wf {α : Type} [DecidableEq α] (d : α) : Tab α → Bool
  | [] => true
  | (k, v) :: t => Tab.above k t && decide (v ≠ d) && Tab.wf d t

/-- Write every pair of the list in turn. -/
def tsetAll {α : Type} [DecidableEq α] (d : α) (t : Tab α) (l : List (Nat × α)) : Tab α :=
  l.foldl (fun t e => tset t d e.1 e.2) t

/-- Apply `f` to every listed value, and keep the form. -/
def tmapListed {α : Type} [DecidableEq α] (d : α) (f : Nat → α → α) (t : Tab α) : Tab α :=
  t.foldl (fun t e => tset t d e.1 (f e.1 e.2)) t

/-- The keys listed. -/
def tkeys {α : Type} (t : Tab α) : List Nat := t.map (·.1)

end Sys2Proof.Machine
end

