-- ==== Sys2Proof/Machine/State/Base.lean ====
section
/-! DEFINITION. What the blocks of the state share: stamps, log entries, parties, origins of long operations, outputs. -/
namespace Sys2Proof.Machine

/-- An event stamp (05_window_timing R96): the three words' fields. -/
structure Stamp where
  win : BitVec 48 := 0
  turn : W32 := 0
  strand : BitVec 3 := 0
  /-- 00 pulse, 01 stall or slot wait, 10 stopped between windows, 11 not released. -/
  phase : BitVec 2 := 3
deriving DecidableEq, Repr

/-- One entry of the event log (13_lockkeeper R323). A gap marker has code 0 (R324). -/
structure LogEntry where
  index : W32 := 0
  stamp : Stamp := {}
  seconds : W32 := 0
  code : BitVec 16 := 0
  int : Bool := false
  fault : Bool := false
  p0 : W32 := 0
  p1 : W32 := 0
  p2 : W32 := 0
deriving DecidableEq, Repr

/-- The five command ports in the order in which they are served (13_lockkeeper R326). -/
inductive Port where
  | pf0 | smbus | jtag | array | pf1
deriving DecidableEq, Repr

/-- A command packet as a port delivers it (14_command_reference R341): FLAGS, LENGTH, TAG and the parameters p0, p1, …;
`link` is the link that carried an array-link command. The opcode is the row's. -/
structure Req where
  port : Port
  tag : W32 := 0
  params : List W32 := []
  /-- LENGTH as the request's word 0 gives it -/
  length : Nat := 2 + params.length
  flags : BitVec 4 := 0
  link : Nat := 0
deriving DecidableEq, Repr

/-- The two PCI Express functions (12_host_ports R293). -/
inductive Func where
  | pf0 | pf1
deriving DecidableEq, Repr

/-- Who is to have the completion record of a long operation (13_lockkeeper R339). -/
structure Origin where
  port : Port
  tag : W32
  opcode : BitVec 16
  /-- the link that carried an array-link command (R330) -/
  link : Nat := 0
deriving DecidableEq, Repr

/-- What the block sends to the outside. The model keeps them in order in `State.out`; the list is the
model's own field and no effect reads it back. -/
inductive Output where
  /-- an MSI-X message of a function's vector (12_host_ports R296) -/
  | msix (func : Func) (vector : Nat)
  /-- a PME message of PF0 (12_host_ports R297) -/
  | pme
  /-- completion of a BAR0 or CSR read -/
  | bar0Read (func : Func) (data : W32)
  /-- completion of a BAR4 read: its data, EP, and whether it is a CA without data (07_deep_memory R156, R163) -/
  | bar4Read (data : W32) (ep ca : Bool)
  /-- a PCIe read request to host memory: its number, byte address and length -/
  | hostRead (id : Nat) (addr : Nat) (bytes : Nat)
  /-- a posted write to host memory: byte address and 32-bit words -/
  | hostWrite (addr : Nat) (words : List W32)
  /-- a Flume host write: address, byte enables of the first and last word are whole -/
  | hostBytes (addr : Nat) (bytes : List Byte)
  /-- bytes returned on SMBus, with the PEC byte offered after them (12_host_ports R301) -/
  | smbusRead (bytes : List Byte) (pec : Byte)
  /-- a NACK of the command byte or of the PEC byte -/
  | smbusNack
  /-- the instruction register captured by the test access port (12_host_ports R303) -/
  | jtagIr (value : Nat)
  /-- the data register captured by the test access port -/
  | jtagDr (bits : Nat) (value : Nat)
  /-- a frame on a link: START payload, data blocks, CRC (11_lanes_gwynior R272) -/
  | linkFrame (link : Nat) (start : BitVec 64) (data : List (BitVec 64)) (crc : W32)
  /-- a GO message in a MGMT frame, whose type code the spec does not give (11_lanes_gwynior R279) -/
  | linkGo (link : Nat) (start : BitVec 64)
  /-- the report of SLOT_OUT at link-up in a MGMT frame, whose words the spec does not give (11_lanes_gwynior R280) -/
  | linkSlotOut (link : Nat) (start : BitVec 64) (bits : BitVec 16)
  /-- an ALIGN block on a lane of a group (11_lanes_gwynior R264) -/
  | laneAlign (group lane : Nat) (payload : BitVec 64)
  /-- an IDLE column on every lane of a link (11_lanes_gwynior R267) -/
  | linkIdle (link : Nat)
  /-- a rising and falling pulse on WIN_OUT, 32 Sill core cycles (05_window_timing R99) -/
  | winOut
  /-- values of the user output pins that changed: bank, value bits, enable bits -/
  | pins (bank : Nat) (value : BitVec 48) (enable : BitVec 48)
  /-- one free-running output entry of a bank (12_host_ports R308) -/
  | frEntry (bank : Nat) (bits : Nat)
  /-- THERM_SHDN_N driven low (17_power_thermal R435) -/
  | thermShdn
  /-- PWR_EN driven (17_power_thermal R420) -/
  | pwrEn (high : Bool)
deriving DecidableEq, Repr

end Sys2Proof.Machine
end

