-- ==== Sys2Proof/Machine/State/Host.lean ====
section
/-! DEFINITION. State of the host ports: PCI Express endpoint, SMBus, JTAG, identity block (12_host_ports). -/
namespace Sys2Proof.Machine

/-- MSI-X and configuration-space state of one function (12_host_ports R293, R296, R297). -/
structure FuncState where
  /-- MSI-X Enable (R297). Reset 0 -/
  msixEn : Bool := false
  /-- mask bit of each vector; set at reset as PCI Express gives it (R292, PRESUMED log entry 5). Reset all 1 -/
  msixMask : BitVec 32 := BitVec.allOnes 32
  /-- pending bit array, PBA (R296). Reset 0 -/
  pba : BitVec 32 := 0
  /-- Bus Master Enable (R297). Reset 0 -/
  bme : Bool := false
  /-- Memory Space Enable (R297). Reset 0 -/
  mse : Bool := false
  /-- in D3hot (R297). Reset 0 -/
  d3hot : Bool := false
  /-- Max_Read_Request_Size in bytes (R292). Reset 512 (PRESUMED, log entry 5) -/
  mrrs : Nat := 512
  /-- Max_Payload_Size in bytes (R292). Reset 128 -/
  mps : Nat := 128
deriving DecidableEq, Repr

/-- What an outstanding PCIe read serves. -/
inductive HostAsk where
  /-- a read of region 0xF: the packet's source and TAG (07 R162) -/
  | window (src tag rsv : Nat)
  /-- a Flume burst: channel and first transfer index (09 R212) -/
  | flume (ch first : Nat)
  /-- staging of an image from host memory (14 R354) -/
  | stage
deriving DecidableEq, Repr

/-- An outstanding PCIe read request (R298). -/
structure HostRead where
  id : Nat
  ask : HostAsk
  /-- offset of its first byte in what it serves, and its length (R298) -/
  off : Nat
  len : Nat
  got : List (Byte × Bool) := []
deriving DecidableEq, Repr

/-- The ports of the Sill (12_host_ports). -/
structure HostState where
  /-- functions PF0 and PF1 (R293). Reset: see FuncState -/
  pf0 : FuncState := {}
  pf1 : FuncState := {}
  /-- ID_PCIE.SPEED (R314). Reset 0 -/
  speed : BitVec 3 := 0
  /-- ID_PCIE.WIDTH (R314). Reset 0 -/
  width : BitVec 4 := 0
  /-- ID_PCIE.LINK_UP (R314). Reset 0 -/
  linkUp : Bool := false
  /-- the endpoint is held in reset by PERST_N (R297). Reset 0 -/
  perst : Bool := false
  /-- AER: completion timeouts and unexpected statuses recorded (R292, R298). Reset 0 -/
  aerTimeouts : Nat := 0
  aerErrors : Nat := 0
  /-- PCIe reads outstanding, and the number of the next (R298). Reset none, 0 -/
  reads : List HostRead := []
  nextRead : Nat := 0
  /-- ID_CSR_ERR.OFF_ACCESS, DROPPED, PARTIAL (R314). Reset 0 -/
  csrErr : BitVec 3 := 0
  /-- ID_CSR_LAST.OFFSET, KIND, FUNC (R314). Reset 0 -/
  lastOffset : BitVec 26 := 0
  lastKind : BitVec 2 := 0
  lastFunc : BitVec 1 := 0
  /-- ID_DROP_CNT (R314). Reset 0 -/
  dropCnt : W32 := 0
  /-- ADDR_SEL strap as sampled at power-on (R300). Reset 0 (DESIGN CHOICE, log entry 3) -/
  addrSel : BitVec 2 := 0
  /-- ID_SMB.PEC_REQ (R314). Reset 0 -/
  pecReq : Bool := false
  /-- ID_SMB.PEC_ERRS (R314). Reset 0 -/
  pecErrs : BitVec 16 := 0
  /-- a new event arose since the last Alert Response (R299). Reset 0 -/
  alertArmed : Bool := false
  /-- a log entry with INT has been logged and not answered by an Alert Response (R296, R299). Reset 0 -/
  logAlert : Bool := false
  /-- instruction register of the TAP (R303). Reset 0x01 IDCODE -/
  ir : Byte := 1
  /-- CMD data register as captured (R329). Reset 0 -/
  cmdDr : BitVec 34 := 0
  /-- boundary register update latches by boundary cell; unlisted 0 (R304). Reset 0 (DESIGN CHOICE, log entry 3) -/
  boundary : Tab Bool := []
deriving DecidableEq, Repr

end Sys2Proof.Machine
end

