-- ==== Sys2Proof/Machine/State/Leat.lean ====
section
/-! DEFINITION. State of the Leat: packets, interfaces, reservations, trains in flight (08_leat_network).

Nodes are numbered as in R165: 0 to 159 Tier A weirs, 160 to 319 Tier B weirs, 320 to 351 Sill weirs, 352 to 383
Reservoir front ends. -/
namespace Sys2Proof.Machine

/-- CMD of a header (08_leat_network R171). -/
inductive Cmd where
  | read | write | writeMore | readResp | writeResp | credit | fallback | reserved
deriving DecidableEq, Repr

/-- Completion statuses (08_leat_network R173). -/
inductive Status where
  | ok | poison | badAddress | cisternClosed | targetIsolated | domainOff | pathLost | noRoute | noReservation
  | overBudget | overrun | refused | powerPending
deriving DecidableEq, Repr

/-- A word on the Leat with its poison mark (07_deep_memory R156). -/
structure MWord where
  data : Word18 := 0
  poison : Bool := false
deriving DecidableEq, Repr

/-- A packet: the fields of the header unit of R170 with the words it carries (R169). -/
structure Packet where
  dest : Nat
  src : Nat
  wps : List (BitVec 10) := []
  /-- index of the next waypoint -/
  wpi : Nat := 0
  cmd : Cmd
  tag : Nat := 0
  len : Nat := 0
  rsv : Nat := 0
  age : Nat := 0
  addr : BitVec 48 := 0
  remote : BitVec 5 := 0
  status : Status := .ok
  words : List MWord := []
deriving DecidableEq, Repr

/-- Who asked, and what is to be done when the request completes. -/
inductive Asker where
  /-- an offtake read, by its issue number (R199) -/
  | offtakeRead (seq : Nat)
  | offtakeWrite (seq : Nat)
  /-- READ of a Flume burst: channel, burst, first source item of the piece (09_flume_dma R212) -/
  | flumeRead (ch burst item : Nat)
  | flumeWrite (ch burst item : Nat)
  /-- BAR4 read and write of the host (07_deep_memory R163) -/
  | bar4Read
  | bar4Write
  /-- a packet of a MEM_READ or MEM_WRITE, by the command's number (14 R363) -/
  | lkRead (op : Nat)
  | lkWrite (op : Nat)
  /-- a request taken from a link: link, requester's tag and source there (11 R287) -/
  | gwynior (link : Nat) (tag : Nat) (src : Nat)
deriving DecidableEq, Repr

/-- A request at its source, from issue to completion (R183 to R186, R193). -/
structure Request where
  asker : Asker
  dest : Nat
  cmd : Cmd
  addr : BitVec 48
  len : Nat
  words : List MWord := []
  remote : BitVec 5 := 0
  /-- ORIGIN of a request taken from a link: 0 Flume, 1 host, 2 Lockkeeper (11 R272, 05 R110) -/
  origin : Nat := 0
  /-- taken from a link before that link's DRAIN: served in step 2 (11 R289) -/
  early : Bool := false
  /-- units of the link's credit that return when the Leat has accepted the request (11 R288) -/
  linkUnits : Nat := 0
  /-- words of it already sent in pieces (R186) -/
  sent : Nat := 0
  /-- its last piece has been injected, and under this TAG (R193) -/
  lastTag : Option Nat := none
  /-- units of it in the network or awaiting response (R187) -/
  units : Nat := 0
  /-- admitted before admission closed, so step 2 waits for it (05 R107) -/
  admitted : Bool := false
  /-- first non-OK status of its pieces (R186) -/
  status : Status := .ok
deriving DecidableEq, Repr

/-- A reservation at its source (R183, R185). -/
structure SrcRsv where
  target : Nat
  rsv : Nat
  standing : Bool
  size : Nat
  credit : Nat
  nextTag : Nat := 0
deriving DecidableEq, Repr

/-- A reservation at its target (R183, R185, LEAT_NI_RSV_TBL). -/
structure TgtRsv where
  src : Nat
  standing : Bool
  credit : Nat
  nextTag : Nat := 0
  /-- TAGs past the next that the edge stage has absorbed (R185, R195) -/
  gone : List Nat := []
  /-- first non-OK status of the pieces of the write being received (R186) -/
  pieceStatus : Status := .ok
deriving DecidableEq, Repr

/-- A read of an offtake from issue to presentation (R199 to R201). -/
structure OtkRead where
  seq : Nat
  /-- pulse number turn·L + strand of the due point -/
  due : Nat
  units : Nat
  /-- failed at issue (R199) -/
  failed : Bool := false
  /-- words, poison and status once delivered -/
  data : Option (Status × List MWord) := none
deriving DecidableEq, Repr

/-- One Leat interface (08_leat_network R204). -/
structure NodeRec where
  /-- LEAT_NI_RXBUF.SIZE_STG (R204). Reset 00: from the image (DESIGN CHOICE, log entry 3) -/
  sizeStg : BitVec 2 := 0
  /-- LEAT_NI_RXBUF.SIZE (R204). Reset 00: from the image (DESIGN CHOICE, log entry 3) -/
  size : BitVec 2 := 0
  /-- LEAT_NI_STATUS.RXBUF_PEND (R192). Reset 0 -/
  sizePend : Bool := false
  /-- BUDGET_STG and BUDGET, 24 bits (R204). Reset 0: from the image (DESIGN CHOICE, log entry 3) -/
  budgetStg : BitVec 24 := 0
  budget : BitVec 24 := 0
  /-- LIMIT_STG and LIMIT (R204). Reset 256 -/
  limitStg : BitVec 12 := 256
  limit : BitVec 12 := 256
  /-- LEAT_NI_TIMEOUT (R204). Reset 0xFF_FFFF -/
  timeout : BitVec 24 := 0xFFFFFF
  /-- LEAT_NI_USED (R187, R204). Reset 0 -/
  used : BitVec 24 := 0
  /-- units of its requests in the network or awaiting response (R187). Reset 0 -/
  inflight : Nat := 0
  /-- LEAT_NI_OVB_CNT, TMO_CNT, ABS_CNT, ERR_CNT (R204). Reset 0 -/
  ovbCnt : W32 := 0
  tmoCnt : W32 := 0
  absCnt : W32 := 0
  errCnt : W32 := 0
  /-- LEAT_NI_LAST_ERR: status, DEST, CMD (R204). Reset 0 -/
  lastStatus : BitVec 4 := 0
  lastNode : BitVec 9 := 0
  lastCmd : BitVec 3 := 0
  /-- LEAT_NI_BOUND (R190, R204). Reset 0 -/
  bound : BitVec 24 := 0
  /-- LEAT_NI_EVT and LEAT_NI_EVT_EN (R204). Reset 0 -/
  evt : BitVec 8 := 0
  evtEn : BitVec 8 := 0
  /-- LEAT_NI_STATUS.ISOLATED and LEAT_ISOL_MAP (R193). Reset 0 -/
  isolated : Bool := false
  /-- an isolation notice for this node has been sent: source and TAG of the request (R193). Reset none -/
  notice : Option (Nat × Nat) := none
  /-- clear the isolation at the next step 5 (R194). Reset 0 -/
  isolClr : Bool := false
  /-- LEAT_NI_STATUS.PWR_PEND (R196). Reset 0 -/
  pwrPend : Bool := false
  /-- LEAT_OTK_CTL.STRAND_EN (R198). Reset 0: from the image (DESIGN CHOICE, log entry 3) -/
  strandEn : Byte := 0
  /-- reads held from issue to presentation, at most 64 (R201). Reset empty -/
  reads : List OtkRead := []
  /-- unit index of the read now presented (R200). Reset 0 -/
  unit : Nat := 0
  /-- writes in the write queue, by issue number, at most 256 (R201). Reset empty -/
  wq : List Nat := []
  /-- next issue number of the offtake (R199). Reset 0 -/
  seq : Nat := 0
  /-- a failing write has been logged in this window (R199). Reset 0 -/
  wrLogged : Bool := false
  /-- pulse numbers at which free write queue entries are due (R201). Reset empty -/
  wqDue : List Nat := []
  /-- issue numbers whose responses are to be discarded (R202). Reset empty -/
  discard : List Nat := []
  /-- LEAT_OTK_RSV_STG and LEAT_OTK_RSV_ACT, 64 entries each (R204). Reset 0: from the image (DESIGN CHOICE, log entry 3) -/
  otkStg : Tab W32 := []
  otkAct : Tab W32 := []
  /-- route tables staged and in force: word 2e and 2e + 1 of entry e (R205). Reset 0: VALID 0 -/
  rteStg : Tab W32 := []
  rteAct : Tab W32 := []
  /-- entries of the route table in force that R182 made invalid. Reset none -/
  rteBad : List Nat := []
  /-- LEAT_NI_RSV_TBL: reservations held as target, by index RSV (R204). Reset none -/
  tgt : Tab (Option TgtRsv) := []
  /-- reservations held as source (R183). Reset none -/
  srcs : List SrcRsv := []
  /-- targets whose dynamic reservation was refused and is to be retried (R184). Reset none -/
  retry : List Nat := []
  /-- requests issued and not complete, oldest first (R183). Reset none -/
  reqs : List Request := []
  /-- responses and credits to be injected, oldest first (R183). Reset none -/
  resp : List Packet := []
  /-- arrivals: requests, responses, credits (R183, R185). Reset none -/
  rxReq : List Packet := []
  rxResp : List Packet := []
  rxCredit : List Packet := []
  /-- requests being executed at this target, in order (R185). Reset none -/
  work : List Packet := []
  /-- the standing reservation of the splice fallback sender at the other weir of its weir pair (04 R85): packets that wait for credit,
  units not yet returned, next TAG; and at the receiver packets that have arrived and the next TAG. Reset empty, 0 -/
  fbOut : List Packet := []
  fbUsed : Nat := 0
  fbTag : Nat := 0
  rxFb : List Packet := []
  fbNext : Nat := 0
deriving DecidableEq, Repr

/-- A train in the network (R174): its header's packet, the weir it has reached and the port it arrived on;
port 6 stands for an endpoint port of injection. -/
structure Train where
  pkt : Packet
  weir : Nat
  port : Nat
deriving DecidableEq, Repr

/-- The Leat (08_leat_network). -/
structure LeatState where
  /-- interfaces by node, unlisted at reset values (R204). Reset none listed -/
  node : Tab NodeRec := []
  /-- trains in the weirs (R174). Reset none -/
  net : List Train := []
  /-- LEAT_COMMIT.ARM, CHECKED, CHECK_FAIL, SWAP_DONE (R206). Reset 0 -/
  arm : Bool := false
  checked : Bool := false
  checkFail : Bool := false
  swapDone : Bool := false
  /-- who awaits CHECKED from a ROUTE_ARM (14 R365). Reset none -/
  armOrigin : Option Origin := none
  /-- LEAT_HORIZON_STG (R206). Reset 0 -/
  horizonStg : BitVec 24 := 0
  /-- LEAT_SVC_HOST (R206). Reset 3,200 -/
  svcHost : BitVec 24 := 3200
  /-- LEAT_SVC_LINK (R206). Reset 6,400 -/
  svcLink : BitVec 24 := 6400
  /-- the splice fallback senders hold their standing reservations (R184, 04 R85). Reset 0 -/
  fbHeld : Bool := false
  /-- between-window admission is open (05 R110). Reset 0 -/
  admission : Bool := false
  /-- the route commit while held waits for the Leat to be empty (05 R106). Reset 0 -/
  swapWait : Bool := false
  /-- gateway edge stages closed by a forced Sill reset (18 R446). Reset 0 -/
  gateClosed : Bool := false
deriving DecidableEq, Repr

end Sys2Proof.Machine
end

