-- ==== Sys2Proof/Machine/State/Lanes.lean ====
section
/-! DEFINITION. State of the serial lanes, the links and the array (11_lanes_gwynior). -/
namespace Sys2Proof.Machine

/-- What a link carries in MGMT frames (11 R279, R280, 13 R330). The spec gives GO and the report of SLOT_OUT at link-up no type
code, so they are kept apart. -/
inductive Mgmt where
  | words (l : List W32)
  | go
  | slotOut (bits : BitVec 16)
deriving DecidableEq, Repr

/-- A frame as sent (11_lanes_gwynior R272): START payload, data blocks; its CRC follows from them. -/
structure Frame where
  start : BitVec 64
  data : List (BitVec 64)
  /-- a message whose words the spec does not give -/
  bare : Option Mgmt := none
deriving DecidableEq, Repr

/-- Roles of a group spare's half (11_lanes_gwynior R291). -/
inductive SpareRole where
  | free | shadowing | assigned | unusable
deriving DecidableEq, Repr

/-- One half, receive or transmit, of a group's lanes (11_lanes_gwynior R276, R277, R291). -/
structure HalfRec where
  /-- ROLE of the spare, and SHADOW_OF -/
  spare : SpareRole := .free
  lane : Nat := 0
  /-- lanes declared failing -/
  failing : BitVec 9 := 0
  /-- data lanes failed for good (ROLE 11) -/
  failed : BitVec 9 := 0
  /-- the receiver takes the spare's copy (R276) -/
  taken : Bool := false
deriving DecidableEq, Repr

/-- One lane group (11_lanes_gwynior R291). -/
structure GroupRec where
  /-- receive and transmit half (R276, R291). Reset: spare free, no lane failing -/
  rx : HalfRec := {}
  tx : HalfRec := {}
  /-- LANE_RX.EYE, PEAK by lane (R291). Reset 0 -/
  eye : Tab Byte := []
  peak : Tab (BitVec 6) := []
  /-- LANE_RX.LOCK by lane (R291). Reset 0 -/
  lock : BitVec 9 := 0
  /-- payload of the last ALIGN block of each lane since its link began to train (R264, R270). Reset none -/
  align : Tab (Option (BitVec 64)) := []
  /-- invalid blocks of each lane in this window (R268). Reset 0 -/
  bad : Tab Nat := []
  /-- GRP_STATUS.PLL (R291). Reset 11, unlocked -/
  pll : BitVec 2 := 3
  /-- its PLL has lost lock and a standby PLL is to take over (R262). Reset 0 -/
  sought : Bool := false
deriving DecidableEq, Repr

/-- LNK_STATUS.STATE (11_lanes_gwynior R291). -/
inductive LinkSt where
  | disabled | training | up | down
deriving DecidableEq, Repr

/-- A packet in TXN frames: with its ORIGIN and RESP (11_lanes_gwynior R272, R287). -/
structure TxnPkt where
  pkt : Packet
  origin : Nat
  resp : Bool
  /-- units sent so far -/
  sent : Nat := 0
deriving DecidableEq, Repr

/-- Slot bits of one strand of one turn on a link (11_lanes_gwynior R283). -/
structure SlotVal where
  turn : Nat
  strand : Nat
  bits : Nat
deriving DecidableEq, Repr

/-- A request taken from a link and not yet on the Leat, or being served (11_lanes_gwynior R287, R289). -/
structure LinkReq where
  pkt : Packet
  origin : Nat
  /-- received before the link's DRAIN (R289) -/
  early : Bool := true
deriving DecidableEq, Repr

/-- One link (11_lanes_gwynior R271 to R291). -/
structure LinkRec where
  /-- LNK_CTL.EN (R291). Reset VALID of the entry: 0 with no image -/
  en : Bool := false
  /-- LNK_CFG0 and LNK_CFG1 (R281, R291). Reset 0: from the image (DESIGN CHOICE, log entry 3) -/
  cfg0 : W32 := 0
  cfg1 : W32 := 0
  /-- LNK_STATUS.STATE, PARTNER_DEV, PARTNER_LINK (R291). Reset 0 -/
  st : LinkSt := .disabled
  partnerDev : BitVec 5 := 0
  partnerLink : BitVec 4 := 0
  /-- LNK_CRC_CNT, REPLAY_CNT, HDR_CNT, FILL_CNT, SKEW (R291). Reset 0 -/
  crcCnt : W32 := 0
  replayCnt : W32 := 0
  hdrCnt : W32 := 0
  fillCnt : W32 := 0
  skew : BitVec 6 := 0
  /-- LNK_EVT and LNK_EVT_EN (R291). Reset 0 -/
  evt : BitVec 11 := 0
  evtEn : BitVec 11 := 0
  /-- SEQ of the next frame sent (R272). Reset 0 (DESIGN CHOICE, log entry 7) -/
  txSeq : BitVec 12 := 0
  /-- SEQ of the last frame accepted, 0xFFF before any (R272). Reset 0xFFF -/
  rxSeq : BitVec 12 := 0xFFF
  /-- replay buffer, oldest first, at most 256; UNACKED (R274). Reset empty -/
  replay : List Frame := []
  /-- frames of the replay buffer still to be resent (R274). Reset 0 -/
  resend : Nat := 0
  /-- resends of the oldest frame without progress (R274). Reset 0 -/
  tries : Nat := 0
  /-- NAK = 1 goes in the next frame sent back; frames are discarded until the expected one (R273). Reset 0 -/
  nak : Bool := false
  /-- a CTRL frame is due (R275). Reset 0 -/
  ctrlDue : Bool := false
  /-- units of the next CTRL frame's CREDIT (R288). Reset 0 -/
  creditOut : Nat := 0
  /-- DRAIN = 1 is to be sent (R289). Reset 0 -/
  drainOut : Bool := false
  /-- DRAIN has been received for this boundary (R289). Reset 0 -/
  drained : Bool := false
  /-- lanes that SHADOW_REQ is still to name, one in each CTRL frame (R276). Reset none -/
  shadowReq : List (BitVec 3) := []
  /-- block 0 that further CTRL frames repeat (R286). Reset none -/
  ctrlRun : Option (BitVec 64) := none
  /-- the link has been up, so pacing waits for its neighbour (05 R114, R278). Reset 0 -/
  active : Bool := false
  /-- marker count of the next ALIGN blocks sent (R264, R265). Reset 0 (DESIGN CHOICE, log entry 157) -/
  marker : W32 := 0
  /-- notice and resume masks last sent on this link, by due point (R286). Reset none -/
  sentMasks : List (Nat × Nat × W32 × W32) := []
  /-- SLOT frames to be sent, oldest first (R275, R283). Reset empty -/
  slotQ : List SlotVal := []
  /-- MGMT messages to be sent (R275). Reset empty -/
  mgmtQ : List Mgmt := []
  /-- TXN packets to be sent, oldest first (R287). Reset empty -/
  txnQ : List TxnPkt := []
  /-- transaction credit toward the far endpoint, units (R288). Reset 4,096 -/
  credit : Nat := 4096
  /-- words so far of a MGMT message in several frames (R280, 13 R330). Reset empty -/
  mgmtIn : List W32 := []
  /-- units so far of a packet in several TXN frames (R287). Reset empty -/
  txnIn : List (BitVec 144) := []
  /-- slot values received and not yet delivered (R284). Reset empty -/
  slotIn : List SlotVal := []
  /-- turn and strand of the next SLOT frame expected (R284). Reset 0 -/
  slotTurn : Nat := 0
  slotStrand : Nat := 0
  /-- the neighbour's TURN, WCNT and MCNT as last received (R286). Reset 0 -/
  nbTurn : W32 := 0
  nbSeen : Bool := false
  nbWcnt : BitVec 16 := 0
  /-- the neighbour's SLOT_OUT, reported at link-up (R280). Reset 0 -/
  nbSlotOut : BitVec 16 := 0
  /-- requests sent over the link and not answered (R287). Reset none -/
  asked : List Packet := []
  /-- requests taken from the link that wait for the next window (R289), and those on our Leat. Reset none -/
  waiting : List LinkReq := []
  serving : List LinkReq := []
deriving DecidableEq, Repr

/-- LNK_ARRAY.STATE (11_lanes_gwynior R291). -/
inductive ArraySt where
  | alone | exchanging | joined | notPart | incomplete
deriving DecidableEq, Repr

/-- An answer collected by the start device (11_lanes_gwynior R280). -/
structure AckRec where
  dev : Nat
  reason : Nat
  neighbours : W32
deriving DecidableEq, Repr

/-- The lanes block (11_lanes_gwynior R291). -/
structure LaneState where
  /-- links 0 to 15, unlisted at reset values (R291). Reset none listed -/
  link : Tab LinkRec := []
  /-- groups 0 to 15, unlisted at reset values (R291). Reset none listed -/
  group : Tab GroupRec := []
  /-- LNK_ID.DEV_NUM, NLINK, FIXED_EQ, TABLE (R291). Reset 0: from the image (DESIGN CHOICE, log entry 3) -/
  devNum : BitVec 5 := 0
  nlink : BitVec 5 := 0
  fixedEq : Bool := false
  table : Bool := false
  /-- equalisation words 65 + 9g + l of the table by 9g + l (R281). Reset 0: from the image (DESIGN CHOICE, log entry 3) -/
  lanes : Tab W32 := []
  /-- LNK_ARRAY.STATE, SIZE, START_DEV, DIAMETER, REASON (R291). Reset 0 -/
  array : ArraySt := .alone
  size : BitVec 6 := 0
  startDev : BitVec 5 := 0
  diameter : BitVec 5 := 0
  reason : BitVec 4 := 0
  /-- start identity in use (R279, R280). Reset 0 -/
  ident : W32 := 0
  /-- link on which START arrived (R279). Reset none -/
  startLink : Option Nat := none
  /-- window count carried by START (R279). Reset 0 -/
  startCnt : BitVec 48 := 0
  /-- GO has been taken for this identity (R279). Reset 0 -/
  gone : Bool := false
  /-- the array start command that waits, and the answers collected (R279). Reset none -/
  startOrigin : Option Origin := none
  acks : List AckRec := []
  /-- MCNT as relayed: the count master's count at its latest start (R286). Reset 0 -/
  mcnt : BitVec 16 := 0
  /-- MCNT has changed since the own count was last compared with it (05 R101). Reset 0 -/
  mcntNew : Bool := false
  /-- LNK_EYE_MIN (R291). Reset 40 -/
  eyeMin : Byte := 40
  /-- LNK_REPLAY_TMO (R291). Reset 400 -/
  replayTmo : BitVec 16 := 400
  /-- a lane direction without spare is to hold the device at the next boundary (R277). Reset 0 -/
  holdDue : Bool := false
  /-- SLOT_SEQ is to hold the device at the next boundary (R284). Reset 0 -/
  seqDue : Bool := false
deriving DecidableEq, Repr

end Sys2Proof.Machine
end

