-- ==== Sys2Proof/Machine/State/Memory.lean ====
section
/-! DEFINITION. State of the cisterns and of deep memory (06_cisterns, 07_deep_memory).

Numbers: cistern index plot·8 + c; row key cistern·2048 + row; stored-word key (m·2^28 + local page)·240 + j. -/
namespace Sys2Proof.Machine

/-- A service request being served by a cistern, row by row (06_cisterns R135). -/
structure Service where
  /-- node whose interface serves it, and the packet -/
  node : Nat
  pkt : Packet
  /-- rows already served -/
  done : Nat := 0
  /-- words read so far -/
  got : List MWord := []
deriving DecidableEq, Repr

/-- A service access or patrol read of one row in the coming pulse, while the fabric runs (06_cisterns R129, R135). -/
structure SlotAcc where
  row : Nat
  /-- the word a service write brings; none for a read -/
  write : Option Word18 := none
  scrub : Bool := false
deriving DecidableEq, Repr

/-- The cisterns (06_cisterns). -/
structure CisternState where
  /-- configuration records, 144 bits by cistern; unlisted 0 (R123). Reset 0 -/
  cfg : Tab (BitVec 144) := []
  /-- rows, 24 stored bits by row key; unlisted 0, a clean zero (R121). Reset 0: the image or zero (18 R442) -/
  rows : Tab Stored := []
  /-- service requests in progress, oldest first (R135). Reset none -/
  service : List Service := []
  /-- the access that takes port B's place in the coming pulse, by cistern (R129, R135). Reset none -/
  slot : Tab (Option SlotAcc) := []
  /-- CST_CORR_CNT, CST_UNCORR_CNT (R140). Reset 0 -/
  corrCnt : W32 := 0
  uncorrCnt : W32 := 0
  /-- CST_LAST_LOC, LAST_ROW, LAST_REQ, LAST_STAMP (R140). Reset 0 -/
  lastCistern : Nat := 0
  lastRow : Nat := 0
  lastReq : Nat := 0
  lastStamp : Stamp := { phase := 0 }
  /-- cisterns whose first uncorrectable access of this window has been logged (R132). Reset none -/
  logged : List Nat := []
  /-- CST_SCRUB_PASS (R140). Reset 0 -/
  scrubPass : W32 := 0
  /-- scrub period in seconds (R136). Reset 28,800 -/
  period : W32 := 28800
  /-- next row of the patrol of each cistern; unlisted 0 (R136). Reset 0 -/
  pos : Tab Nat := []
  /-- cisterns fully read in this scrub period (R136). Reset none -/
  passed : List Nat := []
deriving DecidableEq, Repr

/-- MEM_CH_STATUS.PSTATE (07_deep_memory R164). -/
inductive PState where
  | run | sleep | deep | off | waking
deriving DecidableEq, Repr

/-- A check-ledger entry (07_deep_memory R152). -/
structure Ledger where
  page : Nat
  /-- the 32 delta symbols as 16 words stored under the light code (R152, R155) -/
  words : List Stored
deriving DecidableEq, Repr

/-- Why a page path runs (07_deep_memory R150). -/
inductive PathWhy where
  | read | write | patrol | flush
deriving DecidableEq, Repr

/-- What the SPD of a DIMM gives (07_deep_memory R145, R147): rate code, type, ranks - 1, stack, width, capacity in GiB. -/
structure Spd where
  rate : BitVec 2
  type : BitVec 2
  ranksM1 : BitVec 2
  stack : BitVec 2
  width : BitVec 1
  capGib : BitVec 8
deriving DecidableEq, Repr

/-- One memory controller (07_deep_memory R164). -/
structure MemCtl where
  /-- MEM_CH_STATUS.PSTATE (R164). Reset Run -/
  pstate : PState := .run
  /-- state to return to after a wake on demand (17 R417). Reset none -/
  wokenFrom : Option PState := none
  /-- VALID (R160). Reset 0 -/
  valid : Bool := false
  /-- FILLING (R160). Reset 0 -/
  filling : Bool := false
  /-- the page whose page path runs, and why; PAGE_PATH (R150). Reset none -/
  path : Option (Nat × PathWhy) := none
  /-- PATROL_EN (R164). Reset 1 -/
  patrolEn : Bool := true
  /-- MEM_LEDGER_LIMIT (R164). Reset 4,096 -/
  limit : BitVec 13 := 4096
  /-- the check ledger, oldest entry first (R152). Reset empty -/
  ledger : List Ledger := []
  /-- largest occupancy in the last completed window, and in this one: MEM_LEDGER_CNT.PEAK (R164). Reset 0 -/
  peak : BitVec 13 := 0
  peakNow : BitVec 13 := 0
  /-- the limit flush goes on to three quarters (R153). Reset 0 -/
  draining : Bool := false
  /-- such a flush has taken the controller since it last served a request (R153). Reset 0 -/
  flushed : Bool := false
  /-- MEM_LEDGER_EARLY, CORR_CNT, PAGE_FIX_CNT, PAGE_FAIL_CNT, POISON_RD_CNT (R164). Reset 0 -/
  early : W32 := 0
  corrCnt : W32 := 0
  fixCnt : W32 := 0
  failCnt : W32 := 0
  poisonCnt : W32 := 0
  /-- MEM_LAST_ADDR: address and requester (R164). Reset 0 -/
  lastAddr : BitVec 48 := 0
  lastReq : BitVec 4 := 0
  /-- LAST_HI as latched (R164). Reset 0 -/
  hiLatch : BitVec 16 := 0
  /-- a poisoned delivery has been logged in this window (R157). Reset 0 -/
  poisonLogged : Bool := false
  /-- MEM_SCRUB_PERIOD (R164). Reset 28,800 -/
  period : W32 := 28800
  /-- MEM_SCRUB_POS (R164). Reset 0 -/
  pos : BitVec 28 := 0
  /-- MEM_SCRUB_PASS (R164). Reset 0 -/
  pass : W32 := 0
  /-- MEM_EVT and MEM_EVT_EN (R164). Reset 0 -/
  evt : BitVec 8 := 0
  evtEn : BitVec 8 := 0
  /-- SPD of the DIMM; none absent or not yet read (R145). Reset none (DESIGN CHOICE, log entry 3) -/
  spd : Option Spd := none
  /-- MEM_DDR_CFG.RATE in use (R147, R164). Reset 00 (DESIGN CHOICE, log entry 3) -/
  rate : BitVec 2 := 0
  /-- start-up SPD reading and training have ended, DDR4 only (R145, R147). Reset 0 -/
  ready : Bool := false
  /-- MEM_DDR_TRAIN.DONE, FAIL, LANE, RANK (R164). Reset 0 -/
  trainDone : Bool := false
  trainFail : Bool := false
  failLane : BitVec 4 := 0
  failRank : BitVec 2 := 0
  /-- entries of the ledger to be rebuilt at start: a reset timed out (18 R448, R155). Reset none -/
  rebuild : Bool := false
deriving DecidableEq, Repr

/-- A read of region 0xF under way at the PCI Express endpoint (07_deep_memory R162). -/
structure HostReq where
  pkt : Packet
  /-- bytes for which PCIe requests have been sent -/
  sent : Nat := 0
  /-- no further request can be sent: the path closed part way -/
  stop : Bool := false
  /-- bytes that have arrived: offset, bytes with their poison marks -/
  got : List (Nat × List (Byte × Bool)) := []
deriving DecidableEq, Repr

/-- A MEM_FILL under way (14_command_reference R362). -/
structure FillOp where
  origin : Origin
  mask : W32
  /-- controllers not yet done -/
  left : List Nat
deriving DecidableEq, Repr

/-- Deep memory (07_deep_memory). -/
structure MemState where
  /-- stored words by key; unlisted 0, a clean zero word (R143, R160). Reset 0 (DESIGN CHOICE, log entry 6) -/
  words : Tab Stored := []
  /-- controllers by number m, unlisted at reset values (R164) -/
  ctl : Tab MemCtl := []
  /-- MEM_HW_BASE, 64 bits (R164). Reset 0 -/
  hwBase : BitVec 64 := 0
  /-- MEM_HW_SIZE (R164). Reset 0 -/
  hwSize : W32 := 0
  /-- MEM_B4_BASE, 48 bits (R164). Reset 0 -/
  b4Base : BitVec 48 := 0
  /-- MEM_BAR4_DROP (R164). Reset 0 -/
  b4Drop : W32 := 0
  /-- DDR_RATE of the image header (R147). Reset 11: none loaded (DESIGN CHOICE, log entry 3) -/
  imgRate : BitVec 2 := 3
  /-- the host-window reads whose PCIe requests are outstanding (R162). Reset none -/
  host : List HostReq := []
  /-- fills asked by MEM_FILL (14 R362). Reset none -/
  fills : List FillOp := []
deriving DecidableEq, Repr

end Sys2Proof.Machine
end

