-- ==== Sys2Proof/Machine/State/Power.lean ====
section
/-! DEFINITION. State of clocks, sluices, power domains, device states and thermal management (16_clocks,
17_power_thermal). -/
namespace Sys2Proof.Machine

/-! ### Clocks -/

/-- A reference input (16_clocks R392). -/
inductive RefIn where
  | a | b
deriving DecidableEq, Repr

/-- A switch of a clock multiplexer, in progress or waiting (16_clocks R404, R406). Multiplexers are numbered by their row:
0 reference (target 0 REFA, 1 REFB), 1 REFB source, 2 Lockkeeper (target 0 Sill core PLL, 1 fast oscillator). -/
structure MuxSwitch where
  mux : Nat
  target : Nat
  /-- caused by a loss, not by a command -/
  loss : Bool := false
deriving DecidableEq, Repr

/-- One sluice (16_clocks R412). -/
structure Sluice where
  /-- SLC_CTL.REQ, STATE (R407, R412). Reset 00 -/
  req : BitVec 2 := 0
  st : BitVec 2 := 0
  /-- SLC_CTL.CLOSING, FAIL, REOPEN_CNT (R408, R412). Reset 0 -/
  closing : Bool := false
  fail : Bool := false
  reopen : BitVec 16 := 0
  /-- the SLUICE_SET that waits for the outcome (14 R359). Reset none -/
  waiter : Option Req := none
deriving DecidableEq, Repr

/-- The clocks block (16_clocks R412). -/
structure ClockState where
  /-- CLK_STATUS.REF_IN_USE (R396, R412). Reset none -/
  inUse : Option RefIn := none
  /-- REFA_VALID and REFB_VALID (R395). Reset 0 -/
  validA : Bool := false
  validB : Bool := false
  /-- HOLDOVER (R397). Reset 0 -/
  holdover : Bool := false
  /-- SAFE (R399). Reset 0 -/
  safe : Bool := false
  /-- milliseconds in the safe state, as REF_RESTORED reports them (R411). Reset 0 -/
  safeMs : W32 := 0
  /-- the resume of R400 is under way (R400). Reset 0 -/
  resuming : Bool := false
  /-- LK_FOSC (R406). Reset 1 -/
  lkFosc : Bool := true
  /-- CLK_LOCK, bit layout of 14 R359 (R401). Reset 0 -/
  lock : BitVec 25 := 0
  /-- PLLs that keep their lock indication in holdover and have yet to relock (R397). Reset 0 -/
  relock : BitVec 25 := 0
  /-- the relock under way ends a failover (R397). Reset 0 -/
  failingOver : Bool := false
  /-- CLK_REF_CTL.SELECT (R396). Reset 00 -/
  select : BitVec 2 := 0
  /-- REFA_MODE and REFB_MODE straps (R393). Reset 0 (DESIGN CHOICE, log entry 3) -/
  modeA : BitVec 2 := 0
  modeB : BitVec 2 := 0
  /-- CLK_REF_CFG.REFB_SRC, REC_GROUP, REC_LANE (R394). Reset 0 -/
  refbSrc : Bool := false
  recGroup : BitVec 4 := 0
  recLane : BitVec 4 := 0
  /-- CLK_PULSE_NOW (R402). Reset 800,000: the grade maximum of a fused grade the model names (DESIGN CHOICE, log entry 3) -/
  pulseNow : Nat := 800000
  /-- CLK_FOSC (R395). Reset 0 -/
  fosc : BitVec 18 := 0
  /-- CLK_FAILOVER_CNT and CLK_STOP_CNT (R398). Reset 0 -/
  failovers : W32 := 0
  stops : W32 := 0
  /-- REF_DRIFT has been logged for this qualification (R395). Reset 0 -/
  driftLogged : Bool := false
  /-- switches of the multiplexers, oldest first (R406). Reset none -/
  sw : List MuxSwitch := []
  /-- sluices by number, unlisted at reset values (R410). Reset Run -/
  slc : Tab Sluice := []
  /-- CLK_EVT and CLK_EVT_EN (R412). Reset 0 -/
  evt : BitVec 10 := 0
  evtEn : BitVec 10 := 0
deriving DecidableEq, Repr

/-! ### Power -/

/-- One power domain (17_power_thermal R413, R425). -/
structure DomRec where
  /-- the state it is in (R413). Reset Run -/
  st : PState := .run
  /-- the state it had before the device went to sleep (R425). Reset none -/
  before : Option PState := none
  /-- who awaits the end of a change to Run, or of a change that the device's wake applies (R423, R425). Reset none -/
  waking : Option Origin := none
  /-- the lowest state it has been in since it last ran: what a wake has to restore (R414). Reset Run -/
  deepest : PState := .run
deriving DecidableEq, Repr

/-- A power-down of a domain that waits for a boundary (17_power_thermal R415, 08 R196). -/
structure DomReq where
  dom : Nat
  st : PState
  origin : Option Origin
  /-- boundaries passed since the request -/
  waited : Nat := 0
deriving DecidableEq, Repr

/-- PWR_DEV.STATE (17_power_thermal R437). -/
inductive DevSt where
  | run | sleep | deep | thermal | entering | waking | off
deriving DecidableEq, Repr

/-- A pending Sleep, Deep sleep or Off request (17_power_thermal R420). -/
structure SleepReq where
  /-- 1 Sleep, 2 Deep sleep, 3 Off -/
  st : BitVec 2
  origin : Option Origin
  postponed : Nat := 0
deriving DecidableEq, Repr

/-- A wake under way (17_power_thermal R422, R423). -/
structure Wake where
  /-- bit of the source -/
  src : Nat
  left : DevSt
  origin : Option Origin
deriving DecidableEq, Repr

/-- Power domains and device states (17_power_thermal R437). -/
structure PowerState where
  /-- domains by number, unlisted Run (R413, 14 R347). Reset Run -/
  dom : Tab DomRec := []
  /-- domain power-downs that wait for step 6h (R415). Reset none -/
  reqs : List DomReq := []
  /-- domains that have changed at this boundary and whose record is due (R415). Reset none -/
  changed : List DomReq := []
  /-- PWR_DEV.STATE (R420). Reset Run -/
  dev : DevSt := .run
  /-- PWR_DEV.PEND, PEND_STATE, POSTPONED (R420). Reset none -/
  pend : Option SleepReq := none
  /-- the entry under way (R421). Reset none -/
  entry : Option SleepReq := none
  /-- level of PWR_EN (R420). Reset 1 -/
  pwrEn : Bool := true
  /-- milliseconds that a rail has been out of range since VAUX or PWR_EN rose, at most 200 (20 R465). Reset 0 -/
  railMs : Nat := 0
  /-- the rails are present: POWER_GOOD has come since PWR_EN rose (R424, 20 R465). Reset 0 -/
  railsGood : Bool := false
  /-- PWR_WAKE_EN (R422). Reset 0x23 -/
  wakeEn : BitVec 6 := 0x23
  /-- PWR_WAKE_TIMER (R422). Reset 0 -/
  timer : W32 := 0
  /-- PWR_WAKE_LAST (R422). Reset 0 -/
  wakeLast : BitVec 6 := 0
  wakeUs : BitVec 24 := 0
  /-- the wake under way, or held until entry or the rails are complete (R422, R424, R439). Reset none -/
  wake : Option Wake := none
  /-- it has begun (R423). Reset 0 -/
  wakeOn : Bool := false
  /-- PWR_RET_FAIL of Tier A and Tier B (R419). Reset 0 -/
  retFailA : BitVec 64 := 0
  retFailB : BitVec 64 := 0
  /-- retention banks: QA and QB of the quadrants in Deep sleep, by strand key (R418, R419). Reset 0 -/
  retA : Tab Bool := []
  retB : Tab Bool := []
  /-- quadrant domains that return at the next window start (R416). Reset none -/
  rejoin : List Nat := []
  /-- PWR_EVT and PWR_EVT_EN (R437). Reset 0 -/
  evt : BitVec 6 := 0
  evtEn : BitVec 6 := 0
deriving DecidableEq, Repr

/-! ### Temperature -/

/-- One diode (17_power_thermal R428). -/
structure Diode where
  /-- reading in 1/16 °C, two's complement (R428). Reset 0 -/
  t : BitVec 16 := 0
  /-- VALID and WHY of its register (R428, R438). Reset 0 -/
  valid : Bool := false
  why : BitVec 3 := 0
  /-- consecutive bad samples, consecutive good samples (R428). Reset 0 -/
  bad : Nat := 0
  good : Nat := 0
  /-- it has been declared ignored (R428). Reset 0 -/
  ignored : Bool := false
deriving DecidableEq, Repr

/-- Sensors and thermal management (17_power_thermal R438). -/
structure ThermalState where
  /-- THM_CTL.START and CAP_EN (R431, R433). Reset 90, 0 -/
  start : BitVec 7 := 90
  capEn : Bool := false
  /-- THM_CAP (R433). Reset 0 -/
  capAddr : BitVec 48 := 0
  /-- THM_STATUS.REDUCTION, TARGET (R431, R432). Reset 0 -/
  reduction : BitVec 6 := 0
  target : BitVec 6 := 0
  /-- targets of the consecutive samples that stayed below the reduction, newest first, at most 10 (R432). Reset none -/
  lows : List (BitVec 6) := []
  /-- FIXED (R431). Reset 0 -/
  fixed : Bool := false
  /-- STOPPING, with the milliseconds since the sample that began it (R433). Reset 0 -/
  stopping : Bool := false
  stopMs : Nat := 0
  /-- HOT_T of the sample that began the orderly stop (R433, R436). Reset 0 -/
  stopT : BitVec 16 := 0
  /-- the capture of the orderly stop completed, or it was begun and abandoned (R433). Reset 0 -/
  stopCaptured : Bool := false
  /-- STOPPED (R433). Reset 0 -/
  stopped : Bool := false
  /-- TRIP: set at the start after a trip (R435). Reset 0 -/
  trip : Bool := false
  /-- a hard trip acts: THERM_SHDN_N is low; the comparators that tripped, latched until the next start (R435). Reset 0 -/
  shdn : Bool := false
  tripped : BitVec 6 := 0
  /-- HOT_DIODE and the governing temperature in 1/16 °C (R430). Reset 7, 0 -/
  hot : BitVec 3 := 7
  hotT : BitVec 16 := 0
  /-- THM_THROTTLE_MS and THM_STOP_CNT (R438). Reset 0 -/
  throttleMs : W32 := 0
  stopCnt : W32 := 0
  /-- diodes by number (R428). Reset 0 -/
  diode : Tab Diode := []
  /-- words 6 to 29 of 13 R322: voltage monitors, by m (R438). Reset 0 -/
  vmon : Tab W32 := []
  /-- words 30 to 33 of 13 R322: rail currents (R438). Reset 0 -/
  imon : Tab W32 := []
  /-- word 35 of 13 R322: VCCIO_OK. Reset 0 -/
  vccioOk : BitVec 20 := 0
  /-- word 36 of 13 R322: SAMPLE_S. Reset 0 -/
  sampleS : W32 := 0
  /-- THM_EVT and THM_EVT_EN (R438). Reset 0 -/
  evt : BitVec 6 := 0
  evtEn : BitVec 6 := 0
deriving DecidableEq, Repr

end Sys2Proof.Machine
end

