-- ==== Sys2Proof/Machine/State/Security.lean ====
section
/-! DEFINITION. State of keys, firmware and attestation (15_security), and the fused identity (13 R316).

A byte string of 32 bytes is held as a 256-bit number with byte i in bits [8i + 7 : 8i]. -/
namespace Sys2Proof.Machine

/-- One owner key slot (15_security R375). -/
structure KeySlot where
  /-- 0 empty, 1 in use, 2 revoked (R375). Reset 0 -/
  st : BitVec 2 := 0
  /-- the modulus as a number, most significant byte first (R373). Reset 0, read by nothing while the slot is empty -/
  key : Nat := 0
deriving DecidableEq, Repr

/-- An attestation under way (15_security R386). -/
structure Attest where
  origin : Origin
  nonce : List W32
deriving DecidableEq, Repr

/-- Fuses set at manufacture (13 R316, 15 R374). None is readable but through the registers that mirror it. -/
structure Fuses where
  /-- speed grade, 1 or 2 (00 R1). Reset 2: fused (DESIGN CHOICE, log entry 3) -/
  grade : BitVec 2 := 2
  /-- silicon revision (13 R316). Reset 0: fused (DESIGN CHOICE, log entry 3) -/
  rev : Byte := 0
  /-- serial number (13 R316). Reset 0: fused (DESIGN CHOICE, log entry 3) -/
  serial : BitVec 64 := 0
  /-- vendor root key hash, SEC_ROOT_HASH (15 R374, R391). Reset 0: fused (DESIGN CHOICE, log entry 3) -/
  rootHash : BitVec 256 := 0
  /-- device key (15 R374). Reset 0: fused (DESIGN CHOICE, log entry 3) -/
  devKey : BitVec 256 := 0
  /-- SEC_STATUS.DK_OK: device key present, self-test passed (15 R391). Reset 0: fused (DESIGN CHOICE, log entry 3) -/
  dkOk : Bool := false
deriving DecidableEq, Repr

/-- The security block (15_security). -/
structure SecState where
  /-- fuses (13 R316, 15 R374). Reset as Fuses gives (DESIGN CHOICE, log entry 3) -/
  fuses : Fuses := {}
  /-- owner key slots 0 to 3 (R374, R375). Reset empty: kept over resets (DESIGN CHOICE, log entry 4) -/
  slot0 : KeySlot := {}
  slot1 : KeySlot := {}
  slot2 : KeySlot := {}
  slot3 : KeySlot := {}
  /-- KEY_CTR (R375). Reset 0 -/
  keyCtr : W32 := 0
  /-- FW_MIN (R383). Reset 0: kept over resets (DESIGN CHOICE, log entry 4) -/
  fwMin : W32 := 0
  /-- SEC_FAIL_CNT (R391). Reset 0 -/
  failCnt : W32 := 0
  /-- identity key: modulus and private exponent (R374). Reset 0: written at manufacture (DESIGN CHOICE, log entry 3) -/
  idN : Nat := 0
  idD : Nat := 0
  /-- device certificate, DER bytes (R388). Reset empty: written at manufacture (DESIGN CHOICE, log entry 3) -/
  cert : List Byte := []
  /-- firmware banks 0 and 1, bytes, unlisted 0 (R382, 10 R228). Reset 0: the Headgate's content (DESIGN CHOICE, log entry 4) -/
  fw0 : Tab Byte := []
  fw1 : Tab Byte := []
  /-- a firmware bank has passed R383 since it was last written (R384). Reset 1: the manufacturer's firmware (DESIGN CHOICE, log entry 4) -/
  fwOk0 : Bool := true
  fwOk1 : Bool := true
  /-- the slot that the role table names (13 R315). Reset 0 (DESIGN CHOICE, log entry 4) -/
  fwNamed : BitVec 1 := 0
  /-- SEC_STATUS.FW_FALLBACK (R391). Reset 0 -/
  fwFallback : Bool := false
  /-- SEC_STATUS.RECOVERY (R385). Reset 0 -/
  recovery : Bool := false
  /-- SEC_STATUS.SWITCH_BUSY: an FW_SWITCH runs, its length, and who asked (R384, R391). Reset none -/
  switching : Option (Origin × Nat) := none
  /-- a FW_SWITCH record waits for the end of the restart (14 R366). Reset none -/
  switched : Option Origin := none
  /-- attestations under way, oldest first (R386). Reset none -/
  attests : List Attest := []
  /-- latest report made for each port, by port number (R386, 14 R366). Reset none -/
  reports : Tab (List W32) := []
  /-- SEC_EVT and SEC_EVT_EN (R391). Reset 0 -/
  evt : BitVec 5 := 0
  evtEn : BitVec 5 := 0
deriving DecidableEq, Repr

end Sys2Proof.Machine
end

