-- ==== Sys2Proof/Machine/State/Splice.lean ====
section
/-! DEFINITION. State of the splices, the vertical channels and the clock couplers (04_splices, 01_stack).

Numbers: pair 64·py + px of a plot pair; group pair·256 + 16·hy + hx; channel (group·8 + s)·2 + d, d = 0 upward;
group spare group·2 + d; pool splice (pair·16 + j)·2 + d; weir pair 16·wy + wx. -/
namespace Sys2Proof.Machine

/-- What carries a logical channel (04_splices R79). -/
inductive Carrier where
  | own | spare | pool (j : Nat)
deriving DecidableEq, Repr

/-- State of a logical channel (04_splices R82). A channel that an image leaves unused while its own splice is good
stays `normal`; nothing tells the two apart (R84). -/
inductive ChanSt where
  | normal | shadowed | spared | borrowed | uncarried | fallback | frozen | unused
deriving DecidableEq, Repr

/-- One logical channel of a direction of a coupler (04_splices R72, R82). -/
structure ChanRec where
  st : ChanSt := .normal
  /-- its own splice has been declared failing (R84) -/
  failed : Bool := false
  /-- the carrier in use -/
  carrier : Carrier := .own
  /-- the shadow chosen (R79) -/
  shadow : Option Carrier := none
  /-- a pulse has been executed since the declaration, so the receiver takes the shadow's copy from the next (R79) -/
  due : Bool := false
  /-- the receiver takes the shadow's copy (R79) -/
  taken : Bool := false
  /-- declared after the repair step of this boundary began (R81) -/
  late : Bool := false
  /-- order in which it became uncarried (R87) -/
  order : Nat := 0
  /-- uncarried since before this turn: the fallback path forwards its values (R87) -/
  fwd : Bool := false
deriving DecidableEq, Repr

/-- State of a group spare or a pool splice (04_splices R78, R91). -/
inductive SpareSt where
  | free | shadowing | assigned | unusable
deriving DecidableEq, Repr

structure SpareRec where
  st : SpareSt := .free
  /-- the channel served -/
  chan : Nat := 0
  /-- the borrow port used by a pool splice, 0 or 1 (R73) -/
  port : Nat := 0
deriving DecidableEq, Repr

/-- Values of one turn at a fallback receiver: bit 2t + p is signal p of strand t (04_splices R86). -/
structure History where
  turn : Nat
  bits : BitVec 16
deriving DecidableEq, Repr

/-- A plot pair's own data (04_splices R86, R88, R76). -/
structure PairRec where
  /-- S of the image (R86) -/
  slack : Byte := 0
  frozen : Bool := false
  /-- cause: 0 no slack, 1 F > S, 2 path full (13 R325) -/
  cause : Nat := 0
  /-- present phase drift in ps, as SPL_PHASE gives it: of the direction observed last, since the record has one field for two
  directions (R91; DESIGN CHOICE, log entry 152) -/
  drift : Int := 0
  /-- drift of each direction, upward and downward (R76) -/
  driftUp : Int := 0
  driftDn : Int := 0
deriving DecidableEq, Repr

/-- The splices (04_splices). -/
structure SpliceState where
  /-- logical channels, unlisted normal (R82). Reset normal: from the repair record (R83), empty (DESIGN CHOICE, log entry 4) -/
  chan : Tab ChanRec := []
  /-- group spares by group·2 + d, unlisted free (R78). Reset free -/
  spare : Tab SpareRec := []
  /-- pool splices by (pair·16 + j)·2 + d, unlisted free (R73, R78). Reset free -/
  pool : Tab SpareRec := []
  /-- borrow ports unusable by group·2 + d, bit per port (R82). Reset 0 -/
  badPort : Tab (BitVec 2) := []
  /-- plot pairs by pair number (R86, R88). Reset slack 0, not frozen -/
  pair : Tab PairRec := []
  /-- low-amplitude refreshes of each carrier in this window, by carrier key (R77). Reset 0 -/
  weak : Tab Nat := []
  /-- fallback receiver's store by channel, newest first (R87). Reset empty -/
  store : Tab (List History) := []
  /-- values driven so far in this turn by channel (R87). Reset 0 -/
  driven : Tab (BitVec 16) := []
  /-- next order number of an uncarried channel (R87). Reset 0 -/
  nextOrder : Nat := 0
  /-- SPL_WEAK_CNT (R90). Reset 0 -/
  weakCnt : W32 := 0
  /-- SPL_VERR_CNT (R90). Reset 0 -/
  verrCnt : W32 := 0
  /-- F of each fallback path by weir pair; none: no valid route (R86). Unlisted none. Reset none -/
  pathF : Tab (Option Nat) := []
  /-- the repair record in the Headgate: channels, spares, pool splices, ports, frozen pairs (R83). Reset empty (DESIGN CHOICE, log entry 4) -/
  recChan : Tab ChanRec := []
  recSpare : Tab SpareRec := []
  recPool : Tab SpareRec := []
  recPort : Tab (BitVec 2) := []
  recFrozen : List Nat := []
deriving DecidableEq, Repr

/-- Kinds of vertical channel (01_stack R15, R19). -/
inductive VKind where
  | column | rsvPort | weirLink | relay | headgate
deriving DecidableEq, Repr

/-- A vertical channel: die that receives, kind, group, direction (up = true) and number (01_stack R19). -/
structure VChan where
  die : Fin 5
  kind : VKind
  group : Fin 128
  up : Bool
  ch : Fin 4096
deriving DecidableEq, Repr

/-- One vertical channel's record (01_stack R18, R19). -/
structure VRec where
  id : VChan
  /-- rejected frames in this window (R18) -/
  rejects : Nat := 0
  /-- the payloads of the sender's last 16 frames, newest first (R18) -/
  kept : List (BitVec 56) := []
  /-- a resend has been requested and not yet received (R18) -/
  resend : Bool := false
  failed : Bool := false
  /-- the spare taken (R19), and the spares given up before it -/
  spare : Option Nat := none
  spent : List Nat := []
  /-- the sender duplicates onto the spare (R19) -/
  shadowing : Bool := false
  swapped : Bool := false
  /-- declared after step 6c of this boundary (R19) -/
  late : Bool := false
  /-- failed with no free spare: the resends go on (R20) -/
  bare : Bool := false
  /-- a Headgate channel's frames have moved to the adjacent group (R20) -/
  moved : Bool := false
deriving DecidableEq, Repr

/-- State of one clock coupler (01_stack R23). -/
inductive CouplerSt where
  | active | standby | failed
deriving DecidableEq, Repr

/-- Vertical channels and clock couplers (01_stack). -/
structure VerticalState where
  /-- channels with a record (R18, R19). Reset none -/
  chans : List VRec := []
  /-- the vertical channel repair map of the repair record in the Headgate: channels swapped or moved (10 R228). Reset empty (DESIGN CHOICE,
  log entry 4) -/
  record : List VRec := []
  /-- the four couplers Sill to Tier A (R23). Reset 2 active, 2 standby -/
  sillA : List CouplerSt := [.active, .active, .standby, .standby]
  /-- the two couplers Tier A to Tier B (R23). Reset 1 active, 1 standby -/
  ab : List CouplerSt := [.active, .standby]
  /-- switches to a standby that are under way: at Tier A one for each active coupler lost, and at Tier B (R23). Reset 0 -/
  switchA : Nat := 0
  switchB : Bool := false
  /-- every coupler to Tier A, to Tier B has failed: the PLLs behind it are in holdover until the die is reset (R23). Reset 0 -/
  holdA : Bool := false
  holdB : Bool := false
  /-- a channel without spare is to hold the device at the next boundary (R20). Reset 0 -/
  holdDue : Bool := false
deriving DecidableEq, Repr

end Sys2Proof.Machine
end

