-- ==== Sys2Proof/Machine/State/Events.lean ====
section
/-! DEFINITION. What the events of the outside bring to the block as their operands. -/
namespace Sys2Proof.Machine

/-- A received frame as the deskewed lanes give it. -/
structure RxFrame where
  start : BitVec 64
  data : List (BitVec 64)
  crc : W32
  /-- the physical lane of each invalid block of it; none where every block is valid (R273, R268) -/
  bad : List Nat := []
deriving DecidableEq, Repr

/-- What one block time shows of one lane direction (11_lanes_gwynior R268). -/
structure LaneObs where
  lane : Fin 9
  /-- receive: its phase-tracking loop has lost lock -/
  unlock : Bool := false
  /-- receive: invalid blocks that no frame and no ALIGN row has told of, and how many of the lane's last 64 blocks are invalid -/
  bad : Nat := 0
  run : Nat := 0
  /-- receive: the eye figure, and its highest value within the last 1 ms -/
  eye : Byte := 255
  eyeTop : Byte := 255
  /-- transmit: its driver reports a fault -/
  driver : Bool := false
deriving DecidableEq, Repr

/-- What falls between two frames on a link (11_lanes_gwynior R265, R267). -/
structure SendObs where
  /-- the block time of the ALIGN blocks has come, one in 16,384 -/
  align : Bool := false
  /-- an IDLE column is due, at least one in 2,048 block times -/
  idle : Bool := false
deriving DecidableEq, Repr

/-- What training of a link found (R266, R269, R270, R280). -/
structure LinkObs where
  /-- skew in block times -/
  skew : Nat
  /-- offset between the ends in ppm -/
  ppm : Nat
  /-- of each lane: the eye figure at each peaking code from 0 -/
  eyes : List (Nat × List Byte)
  /-- SLOT_OUT that the neighbour reports in MGMT -/
  slotOut : BitVec 16
  /-- start identity that the neighbour reports, where it has one -/
  ident : Option W32
deriving DecidableEq, Repr

/-- What the receivers of the splices observe in one pulse, and the pins of the user input (04 R74, R76, R77, 05 R119). -/
structure PulseObs where
  /-- carriers whose refresh has low amplitude, by carrier key -/
  weak : List Nat := []
  /-- carriers whose refresh differs from the keeper, by carrier key -/
  verr : List Nat := []
  /-- drift of a plot pair and direction, in ps, where it has changed -/
  drift : List (Nat × Nat × Int) := []
  /-- levels of the input pins of a bank; a bank not listed reads 0 at every pin -/
  pins : List (Nat × BitVec 48) := []
  /-- banks whose sample of this turn's beginning is held up by further resends on its way (01 R21) -/
  held : List Nat := []
  /-- banks whose oldest sample held up has arrived by this pulse period -/
  came : List Nat := []
deriving DecidableEq, Repr

/-- What a self-test of an instance gives (19_bist R451, R452). -/
structure BistObs where
  /-- kinds 1 and 2: what defects do to the reads of March C−: element, address, stored bits turned over -/
  flips : List (Nat × Nat × BitVec 24) := []
  /-- kinds 0 and 4: the responses in the order in which the MISR takes them -/
  got : List (BitVec 128) := []
  /-- kind 3: the bits received on each splice channel -/
  rx : List (Nat × List Bool) := []
deriving DecidableEq, Repr

/-- One diode's raw sample (17 R428). -/
structure DiodeObs where
  /-- reading in 1/16 °C -/
  t : Int
  /-- forward voltage in mV -/
  mv : Nat
deriving DecidableEq, Repr

/-- What the sensor block reads in one millisecond (13 R321, R322). -/
structure SensorObs where
  /-- frequency of the fast oscillator in kHz, as counted against the reference (16 R395) -/
  foscKhz : Nat
  /-- diodes 0 to 5 (01 R10) -/
  diodes : List DiodeObs
  /-- voltage monitors 0 to 23, in mV -/
  mv : List Nat
  /-- rails 0 to 3, in 0.1 A -/
  amps : List Nat
  /-- VCCIO of banks 0 to 19, in mV (12 R310) -/
  vccio : List Nat
deriving DecidableEq, Repr

/-- Straps sampled at power-on (20 R467). -/
structure Straps where
  refaMode : BitVec 2
  refbMode : BitVec 2
  addrSel : BitVec 2
  winMstr : Bool
deriving DecidableEq, Repr

/-- The resets of the PCI Express endpoint (12 R297). -/
inductive PcieReset where
  | perst | hot | linkDisable
deriving DecidableEq, Repr

/-- How a PCI Express read request completes (07 R162, 12 R298). -/
inductive CplStatus where
  | sc | ur | ca
deriving DecidableEq, Repr

/-- What the link partner has negotiated and written to the configuration space when the link comes up (12 R292, R297). -/
structure PcieCfg where
  bme : Bool
  mse : Bool
  msixEn : Bool
  mrrs : Nat
  mps : Nat
deriving DecidableEq, Repr

/-- What a wake found: its duration, and the retention banks whose CRC-32 fails, 0 to 63 Tier A, 64 to 127 Tier B (17 R419,
R425). -/
structure WakeObs where
  us : Nat
  banks : List Nat
deriving DecidableEq, Repr

end Sys2Proof.Machine
end

