-- ==== Sys2Proof/Syntax.lean ====
section
/-! DEFINITION. The commands of the block: one constructor for each row of the table of operations and events. A command
that a port delivers carries its request; an event carries what the outside brings with it. -/
namespace Sys2Proof
open Sys2Proof.Machine

/-- A command or event of the EL2080. -/
inductive Instr where
  /-- PULSE (R48) -/
  | pulse (o : PulseObs)
  /-- SPLICE_SHADOW_TAKEOVER (R79) -/
  | spliceShadowTakeover (c : Nat)
  /-- FALLBACK_PACKET_RECEIVE (R87) -/
  | fallbackPacketReceive (path : Fin 160) (dir : Fin 2)
  /-- CONFIGURATION_UPSET (R42) -/
  | configurationUpset (knot : Nat) (strand : Fin 8) (bit : Fin 160)
  /-- VERTICAL_FRAME_RECEIVE (R18) -/
  | verticalFrameReceive (v : VChan) (frame : (BitVec 56)) (good : Bool)
  /-- VERTICAL_SHADOW_START (R19) -/
  | verticalShadowStart (v : VChan)
  /-- CLOCK_COUPLER_FAIL (R23) -/
  | clockCouplerFail (k : Fin 6)
  /-- CLOCK_COUPLER_SWITCH (R23) -/
  | clockCouplerSwitch (tierB : Bool)
  /-- WIN_EDGE (R98) -/
  | winEdge
  /-- GENERATOR_FIRE (R99) -/
  | generatorFire
  /-- EDGE_PULSE (R98) -/
  | edgePulse
  /-- WINDOW_START (R98) -/
  | windowStart
  /-- LEAT_DRAIN_COMPLETE (R107) -/
  | leatDrainComplete
  /-- LEDGER_FLUSH_COMPLETE (R154) -/
  | ledgerFlushComplete
  /-- CAPTURE_COPY_COMPLETE (R108) -/
  | captureCopyComplete
  /-- STALL_END (R113) -/
  | stallEnd
  /-- LONG_STALL (R117) -/
  | longStall
  /-- IO_OUTPUT_FRAME (R119) -/
  | ioOutputFrame (b : Fin 20)
  /-- WIN_STAMP_READ (R120) -/
  | winStampRead (f : Func) (be : BitVec 4)
  /-- WIN_CNT_LO_READ (R120) -/
  | winCntLoRead (f : Func) (be : BitVec 4)
  /-- CISTERN_SERVICE_REQUEST (R134) -/
  | cisternServiceRequest (n : Fin 320)
  /-- CISTERN_SERVICE_ROW (R135) -/
  | cisternServiceRow (i : Fin 40960)
  /-- CISTERN_PATROL_READ (R136) -/
  | cisternPatrolRead (i : Fin 40960)
  /-- CISTERN_SCRUB_OVERRUN (R136) -/
  | cisternScrubOverrun (i : Fin 40960)
  /-- MEMORY_REQUEST (R158) -/
  | memoryRequest (m : Fin 40)
  /-- PAGE_PATH_COMPLETE (R150) -/
  | pagePathComplete (m : Fin 40)
  /-- LEDGER_ENTRY_FLUSH (R153) -/
  | ledgerEntryFlush (m : Fin 40)
  /-- PATROL_SCRUB (R159) -/
  | patrolScrub (m : Fin 40)
  /-- SCRUB_OVERRUN (R159) -/
  | scrubOverrun (m : Fin 40)
  /-- FILL_DONE (R160) -/
  | fillDone (m : Fin 40)
  /-- MEM_CH_FILL (R164) -/
  | memChFill (f : Func) (be : BitVec 4) (m : Fin 40) (data : W32)
  /-- MEMORY_WAKE_COMPLETE (R161) -/
  | memoryWakeComplete (d : Fin 9)
  /-- MEMORY_IDLE_RETURN (R417) -/
  | memoryIdleReturn (d : Fin 9)
  /-- CA_PARITY_ERROR (R147) -/
  | caParityError (ch : Fin 8) (retryOk : Bool)
  /-- MEM_LAST_ADDR_READ (R164) -/
  | memLastAddrRead (f : Func) (be : BitVec 4) (m : Fin 40)
  /-- HOST_WINDOW_REQUEST (R162) -/
  | hostWindowRequest
  /-- HOST_COMPLETION (R162) -/
  | hostCompletion (id : Nat) (st : CplStatus) (ep : Bool) (bytes : (List Byte))
  /-- COMPLETION_TIMEOUT (R298) -/
  | completionTimeout (id : Nat)
  /-- BAR4_READ (R163) -/
  | bar4Read (off : Nat)
  /-- BAR4_WRITE (R163) -/
  | bar4Write (off : Nat) (be : BitVec 4) (data : W32)
  /-- WEIR_HOP (R175) -/
  | weirHop (n : Fin 352) (held : BitVec 6)
  /-- TRAIN_INJECTION (R177) -/
  | trainInjection (n : Fin 384)
  /-- LEAT_REQUEST_RECEIVE (R185) -/
  | leatRequestReceive (n : Fin 384)
  /-- LEAT_RESPONSE_RECEIVE (R183) -/
  | leatResponseReceive (n : Fin 384)
  /-- CREDIT_RECEIVE (R183) -/
  | creditReceive (n : Fin 384)
  /-- RESERVATION_REQUEST (R184) -/
  | reservationRequest (src : Fin 384) (tgt : Fin 384)
  /-- RESERVATION_RETRY (R184) -/
  | reservationRetry (src : Fin 384) (tgt : Fin 384)
  /-- RESERVATION_IDLE_RELEASE (R184) -/
  | reservationIdleRelease (src : Fin 384) (tgt : Fin 384)
  /-- RESPONSE_TIMEOUT (R193) -/
  | responseTimeout (src : Fin 384) (tgt : Fin 384) (tag : Fin 128)
  /-- ISOLATION (R193) -/
  | isolation (n : Fin 384)
  /-- LEAT_COMMIT_ARM (R191) -/
  | leatCommitArm (f : Func) (be : BitVec 4) (data : W32)
  /-- ROUTE_CHECK_COMPLETE (R190) -/
  | routeCheckComplete
  /-- LEAT_ISOL_CLR (R194) -/
  | leatIsolClr (f : Func) (be : BitVec 4) (data : W32)
  /-- LEAT_SVC_WRITE (R189) -/
  | leatSvcWrite (f : Func) (be : BitVec 4) (link : Bool) (data : W32)
  /-- GWYNIOR_ENDPOINT_REQUEST (R287) -/
  | gwyniorEndpointRequest (i : Fin 16)
  /-- FLM_CH_TAIL_WRITE (R209) -/
  | flmChTailWrite (f : Func) (be : BitVec 4) (c : Fin 32) (data : W32)
  /-- FLM_RUN (R223) -/
  | flmRun (f : Func) (be : BitVec 4) (c : Fin 32) (data : W32)
  /-- FLM_ABORT (R223) -/
  | flmAbort (f : Func) (be : BitVec 4) (c : Fin 32) (data : W32)
  /-- FLM_RING_LO_WRITE (R226) -/
  | flmRingLoWrite (f : Func) (be : BitVec 4) (c : Fin 32) (data : W32)
  /-- DESCRIPTOR_FETCH (R209) -/
  | descriptorFetch (c : Fin 32)
  /-- DESCRIPTOR_ARRIVAL (R211) -/
  | descriptorArrival (c : Fin 32) (words : (List W32)) (good : Bool)
  /-- READ_ARBITER_GRANT (R217) -/
  | readArbiterGrant
  /-- WRITE_ARBITER_GRANT (R217) -/
  | writeArbiterGrant
  /-- DESCRIPTOR_WRITEBACK (R219) -/
  | descriptorWriteback (c : Fin 32)
  /-- POWER_ON (R441) -/
  | powerOn (st : Straps)
  /-- POWER_OFF (R467) -/
  | powerOff
  /-- RESET_N_ASSERT (R443) -/
  | resetNAssert
  /-- WARM_RESET_QUIESCE_DONE (R443) -/
  | warmResetQuiesceDone
  /-- RESET_TIMEOUT (R448) -/
  | resetTimeout (ctls : (List Nat))
  /-- RESET_N_RELEASE (R238) -/
  | resetNRelease (winMstr : Bool) (cool : Bool)
  /-- POWER_GOOD (R465) -/
  | powerGood
  /-- LOCKKEEPER_IN_SERVICE (R319) -/
  | lockkeeperInService
  /-- FULL_LOAD_COMPLETE (R239) -/
  | fullLoadComplete
  /-- APPLY_FAIL (R246) -/
  | applyFail
  /-- PLL_LOCK (R401) -/
  | pllLock (p : Fin 25)
  /-- RELEASE_STEP (R241) -/
  | releaseStep (vccio : (List Nat))
  /-- CFG_RELEASE_GO (R258) -/
  | cfgReleaseGo (f : Func) (be : BitVec 4) (data : W32)
  /-- STAGE_READBACK_COMPLETE (R231) -/
  | stageReadbackComplete
  /-- PATCH_COPY_COMPLETE (R248) -/
  | patchCopyComplete
  /-- PARTIAL_APPLY_COMPLETE (R249) -/
  | partialApplyComplete
  /-- VERIFY_COMPLETE (R243) -/
  | verifyComplete
  /-- SCRUB_FRAME_READ (R253) -/
  | scrubFrameRead
  /-- REPAIR_FRAME_ARRIVAL (R254) -/
  | repairFrameArrival (bad : Bool)
  /-- SCRUB_WDOG (R256) -/
  | scrubWdog
  /-- LANE_DIRECTION_FAILING (R268) -/
  | laneDirectionFailing (g : Fin 16) (tx : Bool) (os : (List LaneObs))
  /-- ALIGN_BLOCK_RECEIVE (R276) -/
  | alignBlockReceive (g : Fin 16) (l : Fin 9) (payload : BitVec 64)
  /-- IDLE_COLUMN_ADJUST (R267) -/
  | idleColumnAdjust (i : Fin 16) (fill : Nat)
  /-- LANE_PLL_UNLOCK (R262) -/
  | lanePllUnlock (g : Fin 16)
  /-- STANDBY_PLL_TAKEOVER (R262) -/
  | standbyPllTakeover (g : Fin 16)
  /-- FRAME_SEND (R275) -/
  | frameSend (i : Fin 16) (o : SendObs)
  /-- SLOT_FRAME_RECEIVE (R284) -/
  | slotFrameReceive (i : Fin 16) (f : RxFrame)
  /-- CTRL_FRAME_RECEIVE (R286) -/
  | ctrlFrameReceive (i : Fin 16) (f : RxFrame)
  /-- TXN_FRAME_RECEIVE (R287) -/
  | txnFrameReceive (i : Fin 16) (f : RxFrame)
  /-- START_RECEIVE (R279) -/
  | startReceive (i : Fin 16) (f : RxFrame)
  /-- START_ACK_RECEIVE (R279) -/
  | startAckReceive (i : Fin 16) (f : RxFrame)
  /-- GO_RECEIVE (R279) -/
  | goReceive (i : Fin 16) (f : RxFrame)
  /-- ARRAY_START_TIMEOUT (R280) -/
  | arrayStartTimeout
  /-- MGMT_COMMAND (R330) -/
  | mgmtCommand (i : Fin 16) (f : RxFrame)
  /-- MGMT_REPLY (R352) -/
  | mgmtReply (i : Fin 16) (f : RxFrame)
  /-- MGMT_RECORD (R352) -/
  | mgmtRecord (i : Fin 16) (f : RxFrame)
  /-- FORWARD_TIMEOUT (R352) -/
  | forwardTimeout (i : Fin 16)
  /-- REPLAY_TIMEOUT (R274) -/
  | replayTimeout (i : Fin 16)
  /-- LINK_DOWN (R278) -/
  | linkDown (i : Fin 16)
  /-- LINK_UP (R270) -/
  | linkUp (i : Fin 16) (o : LinkObs)
  /-- LNK_CTL_EN (R291) -/
  | lnkCtlEn (f : Func) (be : BitVec 4) (i : Fin 16) (data : W32)
  /-- LNK_CTL_RETRAIN (R270) -/
  | lnkCtlRetrain (f : Func) (be : BitVec 4) (i : Fin 16) (data : W32)
  /-- BAR0_WRITE (R294) -/
  | bar0Write (f : Func) (be : BitVec 4) (off : BitVec 26) (data : W32)
  /-- BAR0_READ_OFF_DOMAIN (R294) -/
  | bar0ReadOffDomain (f : Func) (be : BitVec 4) (off : BitVec 26)
  /-- PCIE_RESET (R297) -/
  | pcieReset (k : PcieReset)
  /-- FUNCTION_LEVEL_RESET (R297) -/
  | functionLevelReset (f : Func)
  /-- D3HOT_ENTRY (R297) -/
  | d3hotEntry (f : Func)
  /-- D3HOT_EXIT (R422) -/
  | d3hotExit (f : Func)
  /-- SMBUS_REQ (R328) -/
  | smbusReq (bytes : (List Byte)) (pec : (Option Byte))
  /-- SMBUS_REQ_END (R328) -/
  | smbusReqEnd (bytes : (List Byte)) (pec : (Option Byte))
  /-- SMBUS_ABORT (R328) -/
  | smbusAbort (data : Byte) (pec : (Option Byte))
  /-- SMBUS_REPLY (R328) -/
  | smbusReply
  /-- SMBUS_RECORD (R328) -/
  | smbusRecord
  /-- SMBUS_STATUS (R328) -/
  | smbusStatus
  /-- SMBUS_ALERT_RESPONSE (R299) -/
  | smbusAlertResponse
  /-- SMBUS_ADDRESS_MATCH (R302) -/
  | smbusAddressMatch (addr : BitVec 7)
  /-- SMBUS_TIMEOUT (R299) -/
  | smbusTimeout
  /-- JTAG_CMD (R329) -/
  | jtagCmd
  /-- JTAG_REQUEST_WORD (R329) -/
  | jtagRequestWord (w : W32)
  /-- JTAG_LAST_WORD (R329) -/
  | jtagLastWord (w : W32)
  /-- JTAG_ADVANCE (R329) -/
  | jtagAdvance
  /-- JTAG_CAPTURE (R329) -/
  | jtagCapture
  /-- EXTEST (R304) -/
  | extest
  /-- SAMPLE_PRELOAD (R304) -/
  | samplePreload (cells : (List (Nat × Bool)))
  /-- CLAMP (R304) -/
  | clamp
  /-- HIGHZ (R304) -/
  | highz
  /-- IDCODE (R303) -/
  | idcode
  /-- USERCODE (R303) -/
  | usercode
  /-- BYPASS (R303) -/
  | bypass (code : Byte)
  /-- TAP_RESET (R303) -/
  | tapReset
  /-- FR_INPUT_ENTRY (R308) -/
  | frInputEntry (b : Fin 20) (bits : Nat)
  /-- FR_OUTPUT_ENTRY (R308) -/
  | frOutputEntry (b : Fin 20)
  /-- MBX_DOORBELL (R327) -/
  | mbxDoorbell (f : Func) (words : (List W32)) (tail : (Option (BitVec 6))) (data : W32)
  /-- BAD_OPCODE (R336) -/
  | badOpcode (opcode : BitVec 16) (r : Req)
  /-- HOUSEKEEPING (R337) -/
  | housekeeping
  /-- LOCKSTEP_MISMATCH (R318) -/
  | lockstepMismatch
  /-- FETCH_TRAP (R320) -/
  | fetchTrap (lo : W32) (hi : W32) (dataArea : Bool)
  /-- HW_RESPONDER_CUTOFF (R338) -/
  | hwResponderCutoff (p : Port)
  /-- LEASE_EXPIRY (R333) -/
  | leaseExpiry
  /-- SENSOR_SAMPLE (R321) -/
  | sensorSample (o : SensorObs)
  /-- LOG_HEADGATE_WRITE (R324) -/
  | logHeadgateWrite
  /-- CONTROL_RING_SEGMENT_FAIL (R331) -/
  | controlRingSegmentFail (v : VChan)
  /-- ID_GET (R348) -/
  | idGet (r : Req)
  /-- PING (R348) -/
  | ping (r : Req)
  /-- CSR_READ (R349) -/
  | csrRead (r : Req)
  /-- CSR_WRITE (R349) -/
  | csrWrite (r : Req)
  /-- CLAIM (R332) -/
  | claim (r : Req)
  /-- RELEASE (R334) -/
  | release (r : Req)
  /-- HANDOVER (R334) -/
  | handover (r : Req)
  /-- LEASE_SET (R333) -/
  | leaseSet (r : Req)
  /-- OWNER_GET (R350) -/
  | ownerGet (r : Req)
  /-- FORWARD (R351) -/
  | forward (r : Req)
  /-- IMG_STATUS (R353) -/
  | imgStatus (r : Req)
  /-- STAGE_HOST (R354) -/
  | stageHost (r : Req)
  /-- STAGE_BEGIN (R354) -/
  | stageBegin (r : Req)
  /-- STAGE_CHUNK (R354) -/
  | stageChunk (r : Req)
  /-- STAGE_END (R354) -/
  | stageEnd (r : Req)
  /-- ROLLBACK (R355) -/
  | rollback (r : Req)
  /-- JOIN (R355) -/
  | join (r : Req)
  /-- CANCEL (R355) -/
  | cancel (r : Req)
  /-- VERIFY (R355) -/
  | verify (r : Req)
  /-- RELEASE_GO (R355) -/
  | releaseGo (r : Req)
  /-- IMG_HEADER (R353) -/
  | imgHeader (r : Req)
  /-- WIN_STATUS (R356) -/
  | winStatus (r : Req)
  /-- WIN_HOLD (R356) -/
  | winHold (r : Req)
  /-- WIN_CONFIG (R356) -/
  | winConfig (r : Req)
  /-- ARRAY_START (R356) -/
  | arrayStart (r : Req)
  /-- FAULT_CLEAR (R357) -/
  | faultClear (r : Req)
  /-- PWR_STATUS (R358) -/
  | pwrStatus (r : Req)
  /-- DOMAIN_SET (R358) -/
  | domainSet (r : Req)
  /-- DEVICE_SLEEP (R358) -/
  | deviceSleep (r : Req)
  /-- WAKE_CONFIG (R358) -/
  | wakeConfig (r : Req)
  /-- WAKE (R358) -/
  | wake (r : Req)
  /-- THERMAL_SET (R358) -/
  | thermalSet (r : Req)
  /-- CLK_STATUS (R359) -/
  | clkStatus (r : Req)
  /-- REF_SELECT (R359) -/
  | refSelect (r : Req)
  /-- SLUICE_SET (R359) -/
  | sluiceSet (r : Req)
  /-- SENSOR_READ (R360) -/
  | sensorRead (r : Req)
  /-- SPLICE_SUMMARY (R360) -/
  | spliceSummary (r : Req)
  /-- SPLICE_PAIR (R360) -/
  | splicePair (r : Req)
  /-- LOG_READ (R360) -/
  | logRead (r : Req)
  /-- LOG_INFO (R360) -/
  | logInfo (r : Req)
  /-- LINK_STATUS (R361) -/
  | linkStatus (r : Req)
  /-- LANE_GROUP (R361) -/
  | laneGroup (r : Req)
  /-- LINK_SET (R361) -/
  | linkSet (r : Req)
  /-- ARRAY_STATUS (R361) -/
  | arrayStatus (r : Req)
  /-- MEM_STATUS (R362) -/
  | memStatus (r : Req)
  /-- MEM_FILL (R362) -/
  | memFill (r : Req)
  /-- SCRUB_SET (R362) -/
  | scrubSet (r : Req)
  /-- CISTERN_ECC (R362) -/
  | cisternEcc (r : Req)
  /-- MEM_READ (R363) -/
  | memRead (r : Req)
  /-- MEM_WRITE (R363) -/
  | memWrite (r : Req)
  /-- FLM_STATUS (R364) -/
  | flmStatus (r : Req)
  /-- FLM_RING (R364) -/
  | flmRing (r : Req)
  /-- FLM_TAIL (R364) -/
  | flmTail (r : Req)
  /-- FLM_CTL (R364) -/
  | flmCtl (r : Req)
  /-- HORIZON (R365) -/
  | horizon (r : Req)
  /-- NI_STATUS (R365) -/
  | niStatus (r : Req)
  /-- NI_SET (R365) -/
  | niSet (r : Req)
  /-- ROUTE_WRITE (R365) -/
  | routeWrite (r : Req)
  /-- ROUTE_READ (R365) -/
  | routeRead (r : Req)
  /-- OTK_RSV_WRITE (R365) -/
  | otkRsvWrite (r : Req)
  /-- ROUTE_ARM (R365) -/
  | routeArm (r : Req)
  /-- ISOL_CLEAR (R365) -/
  | isolClear (r : Req)
  /-- ATTEST (R386) -/
  | attest (r : Req)
  /-- ATTEST_REPORT_DONE (R386) -/
  | attestReportDone
  /-- ATTEST_GET (R366) -/
  | attestGet (r : Req)
  /-- CERT_GET (R388) -/
  | certGet (r : Req)
  /-- KEY_STATUS (R366) -/
  | keyStatus (r : Req)
  /-- KEY_INSTALL (R377) -/
  | keyInstall (r : Req)
  /-- KEY_REVOKE (R377) -/
  | keyRevoke (r : Req)
  /-- FW_CHUNK (R384) -/
  | fwChunk (r : Req)
  /-- FW_SWITCH (R384) -/
  | fwSwitch (r : Req)
  /-- FW_VERIFY_COMPLETE (R384) -/
  | fwVerifyComplete
  /-- BIST_RUN (R454) -/
  | bistRun (r : Req)
  /-- BIST_TEST_COMPLETE (R458) -/
  | bistTestComplete (o : BistObs)
  /-- BIST_RESULT (R367) -/
  | bistResult (r : Req)
  /-- DIE_RESET (R444) -/
  | dieReset (r : Req)
  /-- DIE_RESET_COMPLETE (R444) -/
  | dieResetComplete (die : Fin 5)
  /-- DOMAIN_RESET (R445) -/
  | domainReset (r : Req)
  /-- DOMAIN_RESET_COMPLETE (R445) -/
  | domainResetComplete (d : Fin 64) (mv : Nat)
  /-- DEVICE_RESET (R368) -/
  | deviceReset (r : Req)
  /-- LK_RESTART (R368) -/
  | lkRestart (r : Req)
  /-- SILL_RESET_HOLD_END (R446) -/
  | sillResetHoldEnd
  /-- FORCED_RESET_COMPLETE (R446) -/
  | forcedResetComplete
  /-- CAPTURE (R369) -/
  | capture (r : Req)
  /-- RESTORE (R371) -/
  | restore (r : Req)
  /-- FRAME_READ (R369) -/
  | frameRead (r : Req)
  /-- FF_READ (R369) -/
  | ffRead (r : Req)
  /-- REF_LOST (R395) -/
  | refLost (r : RefIn)
  /-- REF_QUALIFIED (R395) -/
  | refQualified (r : RefIn)
  /-- REF_COMPARE (R395) -/
  | refCompare (ppm : Nat)
  /-- CLK_REF_SELECT_WRITE (R396) -/
  | clkRefSelectWrite (f : Func) (be : BitVec 4) (data : W32)
  /-- MUX_SWITCH_COMPLETE (R404) -/
  | muxSwitchComplete (m : Fin 6)
  /-- MUX_FORCED (R405) -/
  | muxForced (m : Fin 6)
  /-- MUX_ABANDONED (R404) -/
  | muxAbandoned (m : Fin 6)
  /-- SAFE_ENTERED (R399) -/
  | safeEntered
  /-- REF_RESTORED (R400) -/
  | refRestored
  /-- PLL_UNLOCK (R403) -/
  | pllUnlock (p : Fin 25)
  /-- SLUICE_REQ_WRITE (R408) -/
  | sluiceReqWrite (f : Func) (be : BitVec 4) (n : Fin 56) (data : W32)
  /-- SLUICE_CLOSE (R408) -/
  | sluiceClose (n : Fin 56)
  /-- SLUICE_FAIL (R408) -/
  | sluiceFail (n : Fin 56)
  /-- SLUICE_REOPEN (R409) -/
  | sluiceReopen (n : Fin 56)
  /-- THROTTLE_RELOCK_COMPLETE (R402) -/
  | throttleRelockComplete
  /-- DOMAIN_CHANGE_COMPLETE (R415) -/
  | domainChangeComplete (d : Fin 64) (mv : Nat)
  /-- SLEEP_ENTRY_COMPLETE (R421) -/
  | sleepEntryComplete
  /-- WAKE_TIMER (R422) -/
  | wakeTimer
  /-- DEVICE_WAKE_COMPLETE (R423) -/
  | deviceWakeComplete (o : WakeObs)
  /-- QUADRANT_WAKE_COMPLETE (R423) -/
  | quadrantWakeComplete (q : Fin 8) (banks : (List Nat))
  /-- PWR_OFF_REQ (R420) -/
  | pwrOffReq (f : Func) (be : BitVec 4) (data : W32)
  /-- PWR_CANCEL (R420) -/
  | pwrCancel (f : Func) (be : BitVec 4) (data : W32)
  /-- ORDERLY_STOP_TIMEOUT (R433) -/
  | orderlyStopTimeout
  /-- HARD_TRIP (R435) -/
  | hardTrip (diodes : BitVec 6)
  /-- IMAGE_COMMIT (R355) -/
  | imageCommit (r : Req)
  /-- FRAME_ALIGNMENT_LOSS (R18) -/
  | frameAlignmentLoss (v : VChan)
  /-- WARM_RESET_BEGIN (R443) -/
  | warmResetBegin
  /-- PERST_N_RELEASE (R422) -/
  | perstNRelease
  /-- PCIE_LINK_UP (R297) -/
  | pcieLinkUp (speed : BitVec 3) (width : BitVec 4) (c0 : PcieCfg) (c1 : PcieCfg)
  /-- MSIX_UNMASK (R296) -/
  | msixUnmask (f : Func) (v : (Option (Fin 32)))
  /-- DDR_TRAINING_COMPLETE (R147) -/
  | ddrTrainingComplete (ch : Fin 8) (spd : (Option Spd)) (fail : (Option (BitVec 4 × BitVec 2)))
  /-- RESTORE_COMPLETE (R371) -/
  | restoreComplete
deriving DecidableEq, Repr

end Sys2Proof
end

