-- ==== Sys2Proof/Decode.lean ====
section
/-! DEFINITION. The words of the table: its rows carry no bits, so no word spells a command. -/
namespace Sys2Proof

/-- The command that a word spells by the table's bits. The table of this part gives bits to no row. -/
def decodeTableWord (_nbits _w : Nat) : Option Instr := none

end Sys2Proof
end

