-- ==== Sys2Proof/Config.lean ====
section
/-! DEFINITION. The free values: what the spec leaves open, with nothing known of them. Each is applied to the counter
`State.fresh`, which every use advances, and to a place. -/
namespace Sys2Proof.Config

/-- An undefined logic value (02 R36 and the other places the assumption log names), by use and place. -/
opaque freeBit : Nat → Nat → Bool

/-- An undefined 18-bit word, by use and place. -/
opaque freeWord18 : Nat → Nat → Word18

/-- An undefined 32-bit word, by use and place. -/
opaque freeWord : Nat → Nat → W32

/-- What an erased cell of the Headgate reads as, by byte offset (14 R354). -/
opaque erasedByte : Nat → BitVec 8

/-- Nominal value, and least and largest value within the operating conditions, in mV, of the internal supplies that have none in
the spec: monitors 20 (range alone), 22 and 23 (13 R322, 20 R462). -/
opaque monitorNominal : Nat → BitVec 16
opaque monitorMin : Nat → Nat
opaque monitorMax : Nat → Nat

end Sys2Proof.Config
end

