-- ==== Sys2Proof/Machine/Codes.lean ====
section
/-! DEFINITION. The codes of the part: light code (07 R148), page code (07 R149, R150), CRC-8 of SMBus (12 R301),
CRC-32 of the link (11 R273) and CRC-32C of configuration frames (10 R236). -/
namespace Sys2Proof.Machine

/-- Exclusive or of the low `n` bits of `x`. -/
def parity (n x : Nat) : Bool := (List.range n).foldl (fun p i => p ^^ x.testBit i) false

/-- Masks of the check bits c0 to c5 over the 18 data bits (07_deep_memory R148). -/
def lightMasks : List Nat := [0x003FF, 0x0FC0F, 0x31C71, 0x36592, 0x1AAA4, 0x2D348]

/-- Check bits c5 … c0 of a data word, as a number (07_deep_memory R148). -/
def lightCheck (d : Nat) : Nat :=
  (List.range 6).foldl (fun c i => if parity 18 (d &&& lightMasks.getD i 0) then c + 2 ^ i else c) 0

/-- A stored word: the 18 data bits with their check bits above (07_deep_memory R143, R148). -/
def lightEncode (d : Word18) : Stored := BitVec.ofNat 24 (d.toNat + 2 ^ 18 * lightCheck d.toNat)

/-- The mask column of data bit `i`: which check bits it enters (07_deep_memory R148). -/
def lightColumn (i : Nat) : Nat :=
  (List.range 6).foldl (fun c k => if (lightMasks.getD k 0).testBit i then c + 2 ^ k else c) 0

/-- How a stored word decodes (07_deep_memory R148). -/
inductive Light where
  | clean | single | poison | bad
deriving DecidableEq, Repr

structure LightRead where
  kind : Light
  data : Word18
deriving DecidableEq, Repr

/-- Syndrome of a stored word, c5 … c0 (07_deep_memory R148). -/
def lightSyndrome (w : Stored) : Nat :=
  (w.toNat >>> 18) ^^^ lightCheck (w.toNat % 2 ^ 18)

/-- Decode a stored word (07_deep_memory R148). -/
def lightDecode (w : Stored) : LightRead :=
  let d : Word18 := BitVec.ofNat 18 w.toNat
  let s := lightSyndrome w
  if s = 0 then ⟨.clean, d⟩
  else if s = 3 then ⟨.poison, d⟩
  else if (List.range 6).any (fun i => s = 2 ^ i) then ⟨.single, d⟩
  else match (List.range 18).find? (fun i => lightColumn i = s) with
    | some i => ⟨.single, d ^^^ BitVec.ofNat 18 (2 ^ i)⟩
    | none => ⟨.bad, d⟩

/-- The poison pattern: a stored word with check bits 0 and 1 inverted (06_cisterns R133). -/
def lightPoison (d : Word18) : Stored := lightEncode d ^^^ BitVec.ofNat 24 (3 * 2 ^ 18)

/-- The read delivers its data with the poison flag. -/
def LightRead.poisoned (r : LightRead) : Bool := r.kind = .poison || r.kind = .bad

/-! ### GF(2^9) with x^9 + x^4 + 1 (07_deep_memory R149) -/

def gfDouble (a : Nat) : Nat := if a < 256 then 2 * a else (2 * a) ^^^ 0x211

def gfMulBits : Nat → Nat → Nat → Nat
  | 0, _, _ => 0
  | n + 1, a, b => (if b % 2 = 1 then a else 0) ^^^ gfMulBits n (gfDouble a) (b / 2)

def gfMul (a b : Nat) : Nat := gfMulBits 9 a b

/-- α^n, α = 2. -/
def gfExp : Nat → Nat
  | 0 => 1
  | n + 1 => gfDouble (gfExp n)

/-- Inverse: the power 510 of a nonzero element. -/
def gfInvFrom : Nat → Nat → Nat → Nat
  | 0, _, acc => acc
  | n + 1, sq, acc => gfInvFrom n (gfMul sq sq) (gfMul acc (gfMul sq sq))

def gfInv (a : Nat) : Nat := gfInvFrom 8 a 1

/-- Coefficientwise sum of two polynomials, lowest first, lengths as the longer. -/
def polyAdd : List Nat → List Nat → List Nat
  | [], q => q
  | p, [] => p
  | a :: p, b :: q => (a ^^^ b) :: polyAdd p q

def polyScale (c : Nat) (p : List Nat) : List Nat := p.map (gfMul c)

def polyMul : List Nat → List Nat → List Nat
  | [], _ => []
  | a :: p, q => polyAdd (polyScale a q) (0 :: polyMul p q)

def polyEval (p : List Nat) (x : Nat) : Nat := p.foldr (fun a acc => a ^^^ gfMul x acc) 0

/-- The generator polynomial, lowest coefficient first (07_deep_memory R149). -/
def pageGen : List Nat := (List.range 32).foldl (fun g i => polyMul g [gfExp i, 1]) [1]

/-- g without its leading coefficient, highest first. -/
def pageGenTail : List Nat := (pageGen.take 32).reverse

/-- The 32 check symbols of 448 data symbols (07_deep_memory R149). -/
def pageCheck (syms : List Nat) : List Nat :=
  syms.foldl (fun r u =>
    match r with
    | [] => []
    | h :: t => List.zipWith (· ^^^ ·) (t ++ [0]) (polyScale (h ^^^ u) pageGenTail)) (List.replicate 32 0)

/-- The two symbols of a data word (07_deep_memory R149). -/
def wordSyms (d : Word18) : List Nat := [d.toNat % 512, d.toNat / 512]

/-- The word of two symbols. -/
def symsWord (lo hi : Nat) : Word18 := BitVec.ofNat 18 (lo + 512 * hi)

/-- Pair up a list of symbols into words. -/
def wordsOfSyms : List Nat → List Word18
  | lo :: hi :: t => symsWord lo hi :: wordsOfSyms t
  | _ => []

/-- Syndromes of 480 symbols at α^0 … α^31 (07_deep_memory R149). -/
def pageSyndromes (c : List Nat) : List Nat :=
  (List.range 32).map (fun r => c.foldl (fun acc u => gfMul acc (gfExp r) ^^^ u) 0)

def coef (p : List Nat) (i : Nat) : Nat := p.getD i 0

/-- The state of the search for the error locator. -/
structure Locator where
  lam : List Nat
  b : List Nat
  len : Nat

/-- One round of the locator search (Berlekamp and Massey, started from `f` erasures), for syndrome number `r`. -/
def locatorStep (syn : List Nat) (f : Nat) (st : Locator) (r : Nat) : Locator :=
  let d := (List.range (r + 1)).foldl (fun a j => a ^^^ gfMul (coef st.lam j) (coef syn (r - j))) 0
  let xb := 0 :: st.b
  if d = 0 then { st with b := xb }
  else
    let t := polyAdd st.lam (polyScale d xb)
    if 2 * st.len ≤ r + f then { lam := t, b := polyScale (gfInv d) st.lam, len := r + 1 + f - st.len }
    else { st with lam := t, b := xb }

/-- Correct 480 symbols with the positions in `er` erased; none when no codeword lies within 2e + f ≤ 32
(07_deep_memory R150 step 3). -/
def pageDecode (c : List Nat) (er : List Nat) : Option (List Nat) :=
  let syn := pageSyndromes c
  if 32 < er.length then none
  else if syn.all (· = 0) then some c
  else
    let gamma := er.foldl (fun g i => polyMul g [1, gfExp (479 - i)]) [1]
    let st := (List.range (32 - er.length)).foldl
      (fun st k => locatorStep syn er.length st (er.length + k)) ⟨gamma, gamma, er.length⟩
    let omega := (polyMul syn st.lam).take 32
    let deriv := (List.range st.lam.length).map (fun i => if i % 2 = 0 then coef st.lam (i + 1) else 0)
    let fixed := (List.range 480).map (fun i =>
      let x := gfExp (479 - i)
      let xi := gfInv x
      if polyEval st.lam xi = 0 then
        coef c i ^^^ gfMul (gfMul x (polyEval omega xi)) (gfInv (polyEval deriv xi))
      else coef c i)
    let errors := ((List.range 480).filter (fun i => coef c i ≠ coef fixed i ∧ !er.contains i)).length
    if (pageSyndromes fixed).all (· = 0) ∧ 2 * errors + er.length ≤ 32 then some fixed else none

/-! ### Cyclic redundancy checks -/

/-- One bit of a reflected CRC with polynomial `poly`. -/
def crcBit (poly c : Nat) : Nat := if c % 2 = 1 then (c / 2) ^^^ poly else c / 2

def crcByteR (poly c b : Nat) : Nat := (List.range 8).foldl (fun c _ => crcBit poly c) (c ^^^ b)

/-- Reflected 32-bit CRC, initial and final value all ones. -/
def crcReflected (poly : Nat) (bytes : List Nat) : Nat :=
  bytes.foldl (crcByteR poly) 0xFFFFFFFF ^^^ 0xFFFFFFFF

/-- CRC-32C, polynomial 0x1EDC6F41 (10_configuration). -/
def crc32c (bytes : List Nat) : Nat := crcReflected 0x82F63B78 bytes

/-- CRC-32, polynomial 0x04C11DB7. -/
def crc32 (bytes : List Nat) : Nat := crcReflected 0xEDB88320 bytes

/-- CRC-8 of SMBus, x^8 + x^2 + x + 1, initial value 0 (12_host_ports R301). -/
def pecByte (c b : Nat) : Nat :=
  (List.range 8).foldl (fun c _ => if c < 128 then 2 * c else ((2 * c) % 256) ^^^ 0x07) (c ^^^ b)

def pec (bytes : List Byte) : Byte := BitVec.ofNat 8 (bytes.foldl (fun c b => pecByte c b.toNat) 0)

/-- The four bytes of a 32-bit word, little-endian (00_scope R4). -/
def wordBytes (w : W32) : List Nat :=
  [w.toNat % 256, w.toNat / 256 % 256, w.toNat / 65536 % 256, w.toNat / 16777216]

/-- A 32-bit word of four bytes, little-endian. -/
def bytesWord (a b c d : Nat) : W32 := BitVec.ofNat 32 (a + 256 * b + 65536 * c + 16777216 * d)

end Sys2Proof.Machine
end

