-- ==== Sys2Proof/Machine/Operands.lean ====
section
/-! DEFINITION. The operands of a command row: the words of a request (14_command_reference R341, R344, R346), the vertical channels
that exist (01_stack R15, R16, R25). -/
namespace Sys2Proof.Machine

/-- Port numbers 1 to 5 (14_command_reference R350). -/
def Port.num : Port → Nat
  | .pf0 => 1 | .smbus => 2 | .jtag => 3 | .array => 4 | .pf1 => 5

/-- The command port of a PCI Express function (13_lockkeeper R326). -/
def Func.port : Func → Port
  | .pf0 => .pf0 | .pf1 => .pf1

/-- Parameter pi, 0 where the request is shorter. -/
def Req.p (r : Req) (i : Nat) : W32 := r.params.getD i 0

/-- Every bit of the word outside its low `w` bits is 0 (R346). -/
def only (x : W32) (w : Nat) : Bool := decide (x.toNat < 2 ^ w)

/-- LENGTH is out of range or differs from the words received: row 1 of R344. -/
def Req.badLength (r : Req) : Bool :=
  decide (r.length < 2) || decide (1024 < r.length) || decide (r.length ≠ r.params.length + 2)

/-- Who is to have the record of a long operation that a request begins (13_lockkeeper R339). -/
def Req.origin (r : Req) (opcode : Nat) : Origin :=
  { port := r.port, tag := r.tag, opcode := BitVec.ofNat 16 opcode, link := r.link }

/-! ### Vertical channels (01_stack R15, R16, R25) -/

/-- The use of a channel of a column, by its number in its direction (01_stack R16). -/
inductive ColUse where
  | leat | laneSlot | userIo | scrubber | controlRing | reserved
deriving DecidableEq, Repr

/-- The groups of a kind: 16 gateway and 32 service columns, 32 ports, 112 links, 2 relay groups, 64 Headgate groups for each Tier
(01_stack R15, R16, R25). The spec numbers gateway columns from 0 and the ports by Reservoir channel; that service columns follow
the gateway columns as 16 to 47, and that the relay group of the Headgate's traffic is 0, are the model's (DESIGN CHOICE, log entry
150). -/
def VKind.groups : VKind → Nat
  | .column => 48 | .rsvPort => 32 | .weirLink => 112 | .relay => 2 | .headgate => 128

/-- Channels without the spares in a group and direction: 32 of a gateway column and 42 of a service column (R16), half of a port's 72
and of a link's 288, 3,840 downward and 256 upward of the Headgate's relay group (R15, R25), 60 downward and 4 upward of a Headgate
group (R25). The spec does not divide the 288 channels of the other relay group by direction: each direction may use any of
the numbers (DESIGN CHOICE, log entry 150). -/
def VChan.width (v : VChan) : Nat :=
  match v.kind with
  | .column => if v.group.val < 16 then 32 else 42
  | .rsvPort => 36
  | .weirLink => 144
  | .relay => if v.group.val = 0 then (if v.up then 256 else 3840) else 288
  | .headgate => if v.up then 4 else 60

/-- Dies that receive on a channel: 0 Sill, 1 Reservoir with its relay couplers, 2 Tier A, 3 Tier B, 4 Headgate (01_stack R15,
R19). -/
def VChan.receivers (v : VChan) : List Nat :=
  match v.kind, v.up with
  | .column, true => [1, 2]
  | .column, false => [1, 0]
  | .rsvPort, true => [2]
  | .rsvPort, false => [1]
  | .weirLink, true | .relay, true => [3]
  | .weirLink, false | .relay, false => [2]
  | .headgate, true => [4]
  | .headgate, false => [3]

/-- The channel exists (01_stack R15, R16, R25). -/
def VChan.present (v : VChan) : Bool :=
  decide (v.group.val < v.kind.groups) && decide (v.ch.val < v.width) && v.receivers.contains v.die.val

/-- The use of a column's channel: the order of R16's row gives the numbers (DESIGN CHOICE, log entry 150). -/
def VChan.use (v : VChan) : Option ColUse :=
  if v.kind ≠ .column then none
  else if v.group.val < 16 then some .leat
  else if v.ch.val < 18 then some .laneSlot
  else if v.ch.val < 26 then some .userIo
  else if v.ch.val < 34 then some .scrubber
  else if v.ch.val = 34 then some .controlRing
  else some .reserved

/-- A channel of the control ring: in a service column (R16), or among the last 32 of the relay group of scrubber and control
traffic (R15). -/
def VChan.ring (v : VChan) : Bool :=
  v.use = some .controlRing || (v.kind = .relay && v.group.val = 1 && decide (256 ≤ v.ch.val))

end Sys2Proof.Machine
end

