-- ==== Sys2Proof/Machine/State/Fabric.lean ====
section
/-! DEFINITION. State of the fabric: strand latches, flip-flops, ferry latches, pattern tables, levees (02, 03, 10).

Numbers of places (00_scope R6): plot index (tier·64 + px)·40 + py; hank index plot·256 + 16·hy + hx;
knot index hank·16 + k; strand key knot·8 + s. -/
namespace Sys2Proof.Machine

/-- A rectangle of plots of one Tier (10_configuration R232, R249). -/
structure Rect where
  tierB : Bool
  x0 : Nat
  y0 : Nat
  x1 : Nat
  y1 : Nat
deriving DecidableEq, Repr

/-- A region behind a levee (10_configuration R251, R252). -/
structure Levee where
  rects : List Rect
  /-- apply done, the levee waits for JOIN (R252) -/
  awaitJoin : Bool := false
  /-- a join is requested for step 6d (R252) -/
  joinNow : Bool := false
  /-- border values held, by (hank·96 + n)·8 + strand (R251) -/
  borders : Tab Bool := []
  /-- carries held, by hank·8 + strand (R251) -/
  carries : Tab Bool := []
  version : W32 := 0
deriving DecidableEq, Repr

/-- The fabric (02_knots_hanks_plots, 03_strands_turns). -/
structure FabricState where
  /-- strand latches, 160 bits by strand key; unlisted 0 (03 R52). Reset 0: every knot inactive (10 R238) -/
  latch : Tab (BitVec 160) := []
  /-- clock pattern tables, 96 bits by plot·16 + entry; unlisted 0 (03 R61). Reset 0 (10 R238) -/
  pat : Tab (BitVec 96) := []
  /-- turn length L in force, 1 to 8 (03 R47). Reset 8: from the image header, none loaded (DESIGN CHOICE, log entry 3) -/
  turnLen : Nat := 8
  /-- pulse rate of the image in force, kHz (03 R50, 10 R233). Reset 800,000: from the image header, none loaded (DESIGN CHOICE, log entry 3) -/
  pulseKhz : Nat := 800000
  /-- QA[s] by strand key; unlisted 0 (03 R56). Reset 0 (03 R59) -/
  qa : Tab Bool := []
  /-- QB[s] by strand key; unlisted 0 (03 R56). Reset 0 (03 R59) -/
  qb : Tab Bool := []
  /-- pending values of QA by strand key, none before the strand's pulse of the turn (03 R57). Reset none -/
  pendA : Tab (Option Bool) := []
  /-- pending values of QB by strand key (03 R57). Reset none -/
  pendB : Tab (Option Bool) := []
  /-- OUT ferry latches by knot index (03 R53). Reset 0 (03 R55) -/
  ferryOut : Tab Bool := []
  /-- HALF ferry latches by knot index (03 R53). Reset 0 (03 R55) -/
  ferryHalf : Tab Bool := []
  /-- values the drivers in use took in each strand of the last turn executed, by (hank·96 + n)·8 + strand: what a levee
  or a frozen pair presents (10 R251). Reset 0 -/
  last : Tab Bool := []
  /-- carry out of knot 15 of the hanks (hx, 15), by hank·8 + strand (10 R251). Reset 0 -/
  lastCarry : Tab Bool := []
  /-- standing levees (10 R251). Reset none -/
  levees : List Levee := []
  /-- reasons of a clock stop: by number (16 R398). Reset none -/
  clockStop : List Nat := []
  /-- clock stops requested, to be taken at the next turn end (16 R398). Reset none -/
  stopReq : List Nat := []
  /-- release step SR has freed set and reset (03 R59, 10 R241). Reset 0 -/
  srFree : Bool := false
  /-- release step WE has freed write enables (10 R241). Reset 0 -/
  weFree : Bool := false
  /-- release step OUT has freed the user I/O (10 R241). Reset 0 -/
  outFree : Bool := false
deriving DecidableEq, Repr

end Sys2Proof.Machine
end

