-- ==== Sys2Proof/Machine/State/Flume.lean ====
section
/-! DEFINITION. State of Flume: channels, descriptors, bursts (09_flume_dma). -/
namespace Sys2Proof.Machine

/-- A burst in its slot (09_flume_dma R208, R214). -/
structure FBurst where
  /-- first transfer index and number of words -/
  first : Nat
  len : Nat
  /-- words that have arrived, by place in the burst -/
  words : Tab MWord := []
  /-- bytes that have arrived of a host source: offset in the burst's byte run, bytes with their poison marks -/
  bytes : List (Nat × List (Byte × Bool)) := []
  /-- words (host: bytes) still awaited -/
  need : Nat
  /-- first non-OK status of its requests (R222) -/
  status : Status := .ok
  /-- the write engine has been granted (R217) -/
  granted : Bool := false
  /-- words whose WRITE_RESP is awaited -/
  wleft : Nat := 0
  /-- every write of it has completed: the slot is free (R208) -/
  written : Bool := false
deriving DecidableEq, Repr

/-- A descriptor under way (09_flume_dma R210, R218). -/
structure FDesc where
  /-- its 16 words as fetched -/
  raw : List W32
  /-- its first burst may begin (R218) -/
  started : Bool := false
  /-- a window started after it was fetched is needed; the trigger is checked then (R218) -/
  overlap : Bool := false
  /-- descending order (R216) -/
  desc : Bool := false
  /-- next word to read: the next first index, or in descending order the bound below which words remain (R214, R216) -/
  cursor : Nat := 0
  /-- words written (R219) -/
  written : Nat := 0
  aborting : Bool := false
  /-- STATUS to be written back (R219, R224) -/
  done : Option Nat := none
deriving DecidableEq, Repr

/-- One Flume channel (09_flume_dma R226). -/
structure FChan where
  /-- FLM_CH_CTL.RUN (R226). Reset 0 -/
  run : Bool := false
  /-- halted (R222, R223). Reset 0 -/
  halted : Bool := false
  /-- FLM_CH_RING_LO and FLM_CH_RING_HI (R226). Reset 0 -/
  ring : BitVec 64 := 0
  /-- FLM_CH_RING_SIZE.SIZE_LOG2 (R226). Reset 1 -/
  size : BitVec 4 := 1
  /-- FLM_CH_TAIL (R226). Reset 0 -/
  tail : BitVec 12 := 0
  /-- FLM_CH_HEAD (R226). Reset 0 -/
  head : BitVec 12 := 0
  /-- FLM_CH_DONE (R226). Reset 0 -/
  done : W32 := 0
  /-- FLM_CH_CRC (R221, R226). Reset 0 -/
  crc : W32 := 0
  /-- FLM_CH_CNT (R226). Reset 0 -/
  cnt : W32 := 0
  /-- FLM_CH_EVT and FLM_CH_EVT_EN (R226). Reset 0 -/
  evt : BitVec 3 := 0
  evtEn : BitVec 3 := 0
  /-- FLM_CH_STATUS.TRIG_PEND (R220, R226). Reset 0 -/
  trigPend : Bool := false
  /-- FLM_CH_STATUS.LAST_STATUS (R226). Reset 0 -/
  lastStatus : Byte := 0
  /-- a descriptor fetch is outstanding (R209). Reset 0 -/
  fetching : Bool := false
  /-- the descriptor under way (R209). Reset none -/
  desc : Option FDesc := none
  /-- bursts in processing order (R214). Reset none -/
  bursts : List FBurst := []
  /-- a completion waits for the next strand 0; the fabric event input reads 1 in this turn (R220). Reset 0 -/
  evtPend : Bool := false
  evtNow : Bool := false
deriving DecidableEq, Repr

/-- Flume (09_flume_dma R226, R227). -/
structure FlumeState where
  /-- channels by number, unlisted at reset values (R226). Reset none listed -/
  chan : Tab FChan := []
  /-- FLM_ARB.RD_PTR and WR_PTR (R227). Reset 0 -/
  rdPtr : BitVec 5 := 0
  wrPtr : BitVec 5 := 0
  /-- FLM_TRIG_LOST (R227). Reset 0 -/
  trigLost : W32 := 0
deriving DecidableEq, Repr

end Sys2Proof.Machine
end

