-- ==== Sys2Proof/Machine/State/Image.lean ====
section
/-! DEFINITION. State of the Headgate's image banks, loading, release and the configuration scrubber
(10_configuration). -/
namespace Sys2Proof.Machine

/-- A patch in a bank's patch area (10_configuration R248). -/
structure Patch where
  bytes : Tab (Option Byte)
  len : Nat
  applied : Bool
deriving DecidableEq, Repr

/-- One image bank (10_configuration R228, R230, R248, 14 R355). -/
structure Bank where
  /-- bytes written, unlisted erased (R228). Reset none -/
  bytes : Tab (Option Byte) := []
  /-- number of bytes staged (14 R354). Reset 0 -/
  len : Nat := 0
  /-- patches in order (R248). Reset none -/
  patches : List Patch := []
  /-- CFG_WEARi.WRITES (R258). Reset 0 -/
  writes : BitVec 16 := 0
  /-- checked mark: owner key slot and key hash (14 R355). Reset none -/
  mark : Option (BitVec 2 × BitVec 256) := none
deriving DecidableEq, Repr

/-- CFG_STATUS.STATE (10_configuration R258). -/
inductive CfgSt where
  | noImage | checking | loading | releasing | released | applying
deriving DecidableEq, Repr

/-- The kinds of pending operation (10_configuration R243, R258). -/
inductive OpKind where
  | full | partialCommit | rollback | join
deriving DecidableEq, Repr

/-- The pending operation (10_configuration R244). -/
structure PendOp where
  kind : OpKind
  atStart : Bool
  origin : Option Origin
  /-- partial commit: its copy in the patch area is complete (R248) -/
  copied : Bool := false
  /-- its copy was completed after step 6 of the present boundary began, so that boundary applies nothing for it (R244) -/
  missed : Bool := false
  /-- a commit made while the device ran Previous after a fallback (R243) -/
  fell : Bool := false
deriving DecidableEq, Repr

/-- What a full load in progress is for (10_configuration R238, R243, R246). -/
inductive LoadWhy where
  | start | commit | rollback | reload
deriving DecidableEq, Repr

/-- A full load in progress (10_configuration R239, R245). -/
structure Load where
  why : LoadWhy
  /-- the image bank loaded -/
  bank : Nat
  origin : Option Origin := none
  /-- a commit made while the device ran Previous after a fallback (10_configuration R243) -/
  fell : Bool := false
deriving DecidableEq, Repr

/-- A partial apply in progress (10_configuration R249, R246). -/
structure Apply where
  origin : Option Origin
  /-- the rectangles of the image applied -/
  rects : List Rect
  join : Bool
  /-- a region that it takes in awaited a join before it (R246) -/
  awaits : Bool := false
  /-- the previous frames are being reloaded (R246) -/
  reload : Bool := false
deriving DecidableEq, Repr

/-- Staging from host memory (14 R354). -/
structure Staging where
  origin : Origin
  addr : Nat
  len : Nat
  /-- bytes asked for so far -/
  asked : Nat := 0
deriving DecidableEq, Repr

/-- A frame the Headgate sends for repair, or that waits for the next turn end (10_configuration R254). -/
structure Repair where
  frame : Nat
  arrived : Bool := false
deriving DecidableEq, Repr

/-- Images, loading, release, scrubber (10_configuration). -/
structure ImgState where
  /-- image banks 0 to 2 (R228). Reset empty: the Headgate's content (DESIGN CHOICE, log entry 4) -/
  bank0 : Bank := {}
  bank1 : Bank := {}
  bank2 : Bank := {}
  /-- CFG_SLOTS.BANK_ACT, BANK_PREV, BANK_STG (R258). Reset 0, 1, 2: the role table (DESIGN CHOICE, log entry 4) -/
  act : Nat := 0
  prev : Nat := 1
  stg : Nat := 2
  /-- CFG_SLOTS.STG_VALID (R231). Reset 0: the role table (DESIGN CHOICE, log entry 4) -/
  stgValid : Bool := false
  /-- length fixed by STAGE_BEGIN (14 R354). Reset none -/
  chunkLen : Option Nat := none
  /-- STAGE_HOST under way (14 R354). Reset none -/
  staging : Option Staging := none
  /-- staged bytes are read back and checked; who has the record (R231). Reset none -/
  readback : Option Origin := none
  /-- CFG_STATUS.STATE (R258). Reset no image -/
  st : CfgSt := .noImage
  /-- CFG_STATUS.BOOT_ROLE: 0 Active, 1 Previous, 3 none (R258). Reset 3 -/
  bootRole : BitVec 2 := 3
  /-- CFG_STATUS.ACTIVE_BAD and PREV_BAD (R238). Reset 0 -/
  activeBad : Bool := false
  prevBad : Bool := false
  /-- release steps done, 0 to 3 (R241). Reset 0 -/
  steps : Nat := 0
  /-- GO has been given to the step that waits (R241). Reset 0 -/
  go : Bool := false
  /-- CFG_STATUS.STEP_WAIT (R241). Reset 0 -/
  stepWait : Bool := false
  /-- CFG_START: ORDER, MANUAL, FILL_WAIT, GAP_US of the image in force (R241). Reset 0: from the image header (DESIGN CHOICE, log entry 3) -/
  order : BitVec 6 := 0
  manual : BitVec 3 := 0
  fillWait : Bool := false
  gapUs : BitVec 16 := 0
  /-- fills that start-up asks for: FILL_DDR and FILL_RSV of the image in force (R233). Reset 0: from the image header (DESIGN CHOICE, log entry 3) -/
  fillMask : BitVec 9 := 0
  /-- CFG_STATUS.PEND (R244). Reset none -/
  pend : Option PendOp := none
  /-- CFG_STATUS.VERIFY_BUSY: who asked, and the role (R243). Reset none -/
  verify : Option (Origin × Nat) := none
  /-- a full load in progress (R239). Reset none -/
  load : Option Load := none
  /-- a partial apply in progress (R249). Reset none -/
  app : Option Apply := none
  /-- version of the configuration running, and its bank's image digest chain (15 R387). Reset 0 -/
  runVersion : W32 := 0
  measure : BitVec 256 := 0
  /-- CFG_SCRUB_CTL.EN and REPAIR_EN (R258). Reset 1 -/
  scrubEn : Bool := true
  repairEn : Bool := true
  /-- CFG_SCRUB_STATUS.HALTED (R256). Reset 0 -/
  halted : Bool := false
  /-- next frame of the sweep, by frame number plot·257 + j, j = 0 the plot frame (R253). Reset 0 -/
  sweepPos : Nat := 0
  /-- CFG_SCRUB_STATUS.SWEEP_US, in units of 10 µs (R258). Reset 0 -/
  sweepUs : BitVec 16 := 0
  /-- CRC store by frame number; unlisted unreadable (R253, R256). Reset none -/
  crc : Tab (Option W32) := []
  /-- CFG_SCRUB_SWEEPS, REPAIRS, LAST, STUCK, WDOG, MISMATCH (R258). Reset 0 -/
  sweeps : W32 := 0
  repairs : W32 := 0
  last : W32 := 0
  stuck : W32 := 0
  wdog : W32 := 0
  mismatch : W32 := 0
  /-- scrubber resets since the last completed sweep (R256). Reset 0 -/
  wdogRun : Nat := 0
  /-- repair frames on their way or waiting for a turn end (R254). Reset none -/
  fixes : List Repair := []
  /-- frames logged as mismatching and not repaired (R254). Reset none -/
  reported : List Nat := []
  /-- sweeps in which a frame was repaired, newest first (R255). Reset none -/
  history : Tab (List Nat) := []
  /-- frames declared stuck (R255). Reset none -/
  stuckFrames : List Nat := []
  /-- CFG_EVT and CFG_EVT_EN (R258). Reset 0 -/
  evt : BitVec 11 := 0
  evtEn : BitVec 11 := 0
deriving DecidableEq, Repr

end Sys2Proof.Machine
end

