-- ==== Sys2Proof/Machine/State/Io.lean ====
section
/-! DEFINITION. State of the user I/O banks (12_host_ports R305 to R311, 05 R119). -/
namespace Sys2Proof.Machine

/-- An output frame of a turn-aligned bank (05_window_timing R119). -/
structure OutFrame where
  bank : Nat
  /-- turn whose end changes the pins -/
  due : Nat
  value : BitVec 48
  enable : BitVec 48
  /-- it has reached the Sill -/
  here : Bool := false
deriving DecidableEq, Repr

/-- What a free-running landing sampled in this turn (12_host_ports R309). -/
structure FrSample where
  rd : Bool
  wr : Bool
  bits : Nat
deriving DecidableEq, Repr

/-- What a free-running landing presents in a turn (12_host_ports R309). -/
structure FrView where
  /-- IN_VALID, and the oldest input entry -/
  valid : Bool := false
  entry : Nat := 0
  /-- OUT_FULL -/
  full : Bool := false
deriving DecidableEq, Repr

/-- An input sample of a turn-aligned bank on its way to the landing plot (05_window_timing R111, R119). -/
structure InSample where
  turn : Nat
  pins : BitVec 48
  /-- its frame has reached the Tier -/
  here : Bool := true
deriving DecidableEq, Repr

/-- The user I/O (12_host_ports). -/
structure IoState where
  /-- bank words 1 + b of the section, by bank (R311). Reset 0: from the image (DESIGN CHOICE, log entry 3) -/
  bankCfg : Tab W32 := []
  /-- pin words 21 + 48b + p, by 48b + p (R311). Reset 0: from the image (DESIGN CHOICE, log entry 3) -/
  pinCfg : Tab W32 := []
  /-- banks that stay as before release: supply out of range or domain off (R310). Reset none -/
  dead : List Nat := []
  /-- banks whose domain is in Run again with a good supply: they resume at the next turn end (R310). Reset none -/
  back : List Nat := []
  /-- input samples of each turn-aligned bank, newest first (R119). Reset none -/
  samples : Tab (List InSample) := []
  /-- output values and enables taken so far in this turn, by bank (R119). Reset 0 -/
  takenVal : Tab (BitVec 48) := []
  takenEn : Tab (BitVec 48) := []
  /-- output frames on their way or waiting for their turn end, oldest first (R119). Reset none -/
  frames : List OutFrame := []
  /-- pin values and enables driven, by bank (R240, R241). Reset 0: high impedance -/
  value : Tab (BitVec 48) := []
  enable : Tab (BitVec 48) := []
  /-- free-running FIFOs, oldest entry first, at most 512 (R308, R309). Reset empty -/
  inF : Tab (List Nat) := []
  outF : Tab (List Nat) := []
  /-- what free-running landings present in this turn (R309, 03 R69). Reset none: no entry, not full -/
  frView : Tab FrView := []
  /-- what free-running landings sampled in this turn (R309). Reset none -/
  sampled : Tab (Option FrSample) := []
  /-- banks whose first input or output drop of this window is logged (R309). Reset none -/
  inDrop : List Nat := []
  outDrop : List Nat := []
deriving DecidableEq, Repr

end Sys2Proof.Machine
end

