-- ==== Sys2Proof/Machine/State/Lockkeeper.lean ====
section
/-! DEFINITION. State of the Lockkeeper: command ports, ownership, event log (13_lockkeeper). -/
namespace Sys2Proof.Machine

/-- The state of one command port (13_lockkeeper R326 to R330, R339). -/
structure PortState where
  /-- the complete request held, word by word (R326). Reset none -/
  held : Option (List W32) := none
  /-- MBX_REQ, 1,024 words, unlisted 0 (R327). Reset 0 -/
  req : Tab W32 := []
  /-- request words or bytes so far of SMBus, JTAG and the array link (R328, R329). Reset empty -/
  partialBytes : List Byte := []
  partialWords : List W32 := []
  /-- MBX_REPLY or the reply presented (R327 to R330). Reset empty -/
  reply : List W32 := []
  /-- MBX_STATUS.REPLY_READY (R327). Reset 0 -/
  replyReady : Bool := false
  /-- MBX_STATUS.HW_REPLY (R327, R338). Reset 0 -/
  hwReply : Bool := false
  /-- MBX_STATUS.OVERRUN (R327). Reset 0 -/
  overrun : Bool := false
  /-- SMBus CHUNK_ERR (R328). Reset 0 -/
  chunkErr : Bool := false
  /-- MBX_CR_HEAD, modulo 64 (R327). Reset 0 -/
  crHead : BitVec 6 := 0
  /-- MBX_CR_TAIL, modulo 64 (R327). Reset 0 -/
  crTail : BitVec 6 := 0
  /-- MBX_CR, 32 records of 64 words, unlisted 0 (R327). Reset 0 -/
  cr : Tab W32 := []
  /-- records posted and not yet read on SMBus, JTAG and the array link (R339). Reset empty -/
  records : List (List W32) := []
  /-- long operations of this port still running (R339). Reset 0 -/
  running : Nat := 0
  /-- words or chunk bytes of the reply already read on SMBus and JTAG (R328, R329). Reset 0 -/
  replyPos : Nat := 0
  /-- words or chunk bytes of the oldest record already read (R328, R329). Reset 0 -/
  recordPos : Nat := 0
  /-- the link that carried the held array-link command (R330). Reset 0 -/
  link : Nat := 0
deriving DecidableEq, Repr

/-- One recorded FORWARD that waits for the neighbour (14_command_reference R351, R352). -/
structure Forward where
  origin : Origin
  link : Nat
  /-- the reply was ACCEPTED and its record is awaited -/
  replied : Bool := false
deriving DecidableEq, Repr

/-- The event log (13_lockkeeper R323, R324). -/
structure LogState where
  /-- entries committed and not yet written to the Headgate, oldest first, at most 512 (R324). Reset empty -/
  queue : List LogEntry := []
  /-- the Headgate log area, slot i mod 8,192; unlisted never written (R324). Reset empty (DESIGN CHOICE, log entry 4) -/
  area : Tab (Option LogEntry) := []
  /-- displaced entries whose gap marker is not yet written (R323, R324). Reset empty -/
  gaps : List LogEntry := []
  /-- index of the next entry committed, 32 bits (R323). Reset 0 (DESIGN CHOICE, log entry 4) -/
  next : W32 := 0
  /-- entries dropped or displaced since power-on (R360). Reset 0 -/
  dropped : W32 := 0
  /-- drops not yet reported by LOG_SUPPRESSED, and the code of the first (R324). Reset 0 -/
  unreported : W32 := 0
  firstCode : BitVec 16 := 0
deriving DecidableEq, Repr

/-- A MEM_READ or MEM_WRITE under way (14_command_reference R363). -/
structure MemOp where
  id : Nat
  req : Req
  write : Bool
  /-- deep address of the first word, and the number of words -/
  addr : Nat
  count : Nat
  /-- words to be written -/
  words : List Word18 := []
  /-- words done: its packets go one after the other -/
  done : Nat := 0
  got : List MWord := []
  /-- a MEM_WRITE that has replied ACCEPTED -/
  accepted : Bool := false
  /-- its port has been reset, so its reply is discarded (12 R297, R313) -/
  mute : Bool := false
deriving DecidableEq, Repr

/-- The Lockkeeper (13_lockkeeper). -/
structure LkState where
  /-- in service under R319; MBX_STATUS.LK_UP (R327). Reset 0 -/
  inService : Bool := false
  /-- firmware slot running, 0 or 1 (R315, R316). Reset 0 (DESIGN CHOICE, log entry 3) -/
  fwSlot : BitVec 1 := 0
  /-- firmware version running, 32 bits (R316). Reset 0 (DESIGN CHOICE, log entry 3) -/
  fwVersion : W32 := 0
  /-- a lockstep mismatch within the last second: the milliseconds count of each (R318, R319). Reset empty -/
  mismatches : List Nat := []
  /-- seconds since VAUX was applied, 32 bits (R323). Reset 0 -/
  seconds : W32 := 0
  /-- milliseconds within the second. The model's own: R321 counts milliseconds. Reset 0 -/
  ms : Nat := 0
  /-- owner: 0 none, 1 PF0, 2 SMBus, 3 JTAG, 4 array link (R332). Reset 0 -/
  owner : BitVec 3 := 0
  /-- lease length in seconds (R333). Reset 10 -/
  leaseLen : BitVec 12 := 10
  /-- lease remaining, in Lockkeeper ticks of 10 µs (R326, R333). Reset 0 -/
  leaseTicks : Nat := 0
  pf0 : PortState := {}
  pf1 : PortState := {}
  smbus : PortState := {}
  jtag : PortState := {}
  array : PortState := {}
  log : LogState := {}
  /-- FORWARDs that wait for a neighbour (14 R351, R352). Reset empty -/
  forwards : List Forward := []
  /-- MEM_READ and MEM_WRITE whose packets are on the Leat (14 R363), and the number of the next. Reset none, 0 -/
  memOps : List MemOp := []
  memNext : Nat := 0
  /-- segments of the control ring that have failed (R331). Reset empty -/
  ringFailed : List Nat := []
  /-- full restart under way: out of service until LOCKKEEPER_IN_SERVICE (R319). Reset 0 -/
  restarting : Bool := false
  /-- records that wait for the end of a restart, oldest first (R340). Reset none -/
  deferred : List (Origin × Nat × List W32) := []
deriving DecidableEq, Repr

end Sys2Proof.Machine
end

