-- ==== Sys2Proof/Machine/State/Reset.lean ====
section
/-! DEFINITION. State of resets, of the actions that wait for step 6 of the boundary, and of the self-test
(18_faults_resets, 14_command_reference class 0x0D and 0x0E, 19_bist). -/
namespace Sys2Proof.Machine

/-- A CAPTURE or RESTORE, or the capture of an orderly stop (14 R369 to R371, 17 R433). -/
structure CapReq where
  restore : Bool
  addr : BitVec 48
  /-- cisterns by index, in the order listed -/
  cisterns : List Nat := []
  /-- none: the orderly stop's -/
  origin : Option Origin
deriving DecidableEq, Repr

/-- A die or domain reset by command (18_faults_resets R444, R445). -/
structure ResetReq where
  unit : Nat
  origin : Origin
deriving DecidableEq, Repr

/-- Stages of a warm or power-on reset (18_faults_resets R441, R443). -/
inductive ResetSt where
  /-- VAUX is absent or the power-on reset is asserted -/
  | dead
  /-- the other domains are held in reset -/
  | held
  /-- memory controllers quiesce -/
  | quiescing
  /-- start-up, until an image has been chosen or none can be -/
  | starting
  | none
deriving DecidableEq, Repr

/-- Causes of RESET_CAUSE (18_faults_resets R448). -/
inductive ResetCause where
  | powerOn | resetN | device | trip
deriving DecidableEq, Repr

/-- A forced Sill reset (18_faults_resets R446). -/
structure Forced where
  origin : Origin
  /-- transactions completed with PATH_LOST, Flume descriptors written back -/
  lost : Nat := 0
  written : Nat := 0
  /-- the hold of step 5 has ended -/
  released : Bool := false
deriving DecidableEq, Repr

/-- Resets and the actions that wait for step 6 (18_faults_resets, 05 R108). -/
structure ResetState where
  /-- stage of a warm or power-on reset (R441, R443). Reset: held, the power-on reset released and start-up not begun -/
  st : ResetSt := .held
  /-- why, and the window count before it (R448). Reset power-on, 0 -/
  cause : ResetCause := .powerOn
  cntBefore : W32 := 0
  /-- RESET_N is low, as last observed for 10 µs (R443). Reset low: start-up awaits its release -/
  resetN : Bool := true
  /-- a DEVICE_RESET reply is committed and its reset has not begun (R443). Reset 0 -/
  deviceReset : Bool := false
  /-- RESET_CAUSE has been logged for this start (R448). Reset 0 -/
  causeLogged : Bool := false
  /-- capture or restore pending for step 6a (14 R369). Reset none -/
  cap : Option CapReq := none
  /-- capture or restore under way (05 R108). Reset none -/
  capRun : Option CapReq := none
  /-- cisterns of the captures made, by address A: the layout of 14 R370 holds their number alone (14 R371). Reset none
  (DESIGN CHOICE, log entry 30) -/
  captured : Tab (List Nat) := []
  /-- die and domain resets pending for step 6f (R444, R445). Reset none -/
  dies : List ResetReq := []
  doms : List ResetReq := []
  /-- die and domain resets under way (R444, R445). Reset none -/
  dieRun : List ResetReq := []
  domRun : List ResetReq := []
  /-- domain resets that wait for their domain to enter Run (R445). Reset none -/
  domLater : List ResetReq := []
  /-- forced Sill reset (R446). Reset none -/
  forced : Option Forced := none
  /-- pulse rate change of step 6g under way (16 R402). Reset none -/
  rate : Option Nat := none
deriving DecidableEq, Repr

/-- A self-test under way (19_bist R454 to R457). -/
structure BistRun where
  kind : Nat
  inst : Nat
  origin : Origin
  /-- stopped: a condition failed in a sample (R456) -/
  condLost : Bool := false
deriving DecidableEq, Repr

/-- The self-test block (19_bist R460). -/
structure BistState where
  /-- BIST_STATUS.RUNNING (R460). Reset none -/
  run : Option BistRun := none
  /-- BIST_STATUS.KIND, RESULT (R460). Reset 0 -/
  kind : BitVec 3 := 0
  result : BitVec 3 := 0
  /-- kind of the test of the latest record (14 R367). Reset 0 -/
  recKind : BitVec 3 := 0
  /-- BIST_INST (R460). Reset 0 -/
  inst : W32 := 0
  /-- BIST_SIG0 to BIST_SIG3 (R460). Reset 0 -/
  sig : BitVec 128 := 0
  /-- BIST_RUNS, BIST_FAILS (R460). Reset 0 -/
  runs : W32 := 0
  fails : W32 := 0
  /-- BIST_EVT and BIST_EVT_EN (R460). Reset 0 -/
  evt : BitVec 3 := 0
  evtEn : BitVec 3 := 0
  /-- BIST reference table by kind·2^32 + instance (R453). Reset 0: written at manufacture (DESIGN CHOICE, log entry 3) -/
  refs : Tab (BitVec 128) := []
deriving DecidableEq, Repr

end Sys2Proof.Machine
end

