-- ==== Sys2Proof/Machine/State/Window.lean ====
section
/-! DEFINITION. State of the Window time base (05_window_timing). -/
namespace Sys2Proof.Machine

/-- WIN_STATE.STATE (05_window_timing R98). -/
inductive WinSt where
  | notReleased | running | boundary | ready | starting | held
deriving DecidableEq, Repr

/-- A due point, by turn of the turn count and strand (R111). -/
structure Due where
  turn : Nat
  strand : Nat
deriving DecidableEq, Repr

/-- Where a late delivery comes from (R113, 13 R325 code 0x0204). -/
inductive LateSrc where
  | offtake (node : Nat)
  | fallback (pair : Nat)
  | ioBank (bank : Nat)
deriving DecidableEq, Repr

/-- The unions of notices and resumes held for a due point (R114, R116, 11 R286): bit d for device d. -/
structure Notice where
  due : Due
  notice : W32
  resume : W32 := 0
  /-- the own deliveries that were found incomplete -/
  srcs : List LateSrc := []
  /-- the fabric has stalled before the point (R114) -/
  taken : Bool := false
deriving DecidableEq, Repr

/-- A stall in progress (R113). -/
structure Stall where
  due : Due
  srcs : List LateSrc
  pulses : Nat := 0
  /-- LONG_STALL logged for it (R117) -/
  long : Bool := false
deriving DecidableEq, Repr

/-- The items of boundary step 6, in their order (R108). -/
inductive Item where
  | a | b | c | d | e | f | g | h
deriving DecidableEq, Repr

/-- The window block (05_window_timing). -/
structure WindowState where
  /-- WIN_STATE.STATE (R98, R120). Reset not released -/
  st : WinSt := .notReleased
  /-- WIN_STATE.STEP, 1 to 7, 0 outside the boundary state (R120). Reset 0 -/
  step : Nat := 0
  /-- the item of step 6 that is under way (R108). Reset none -/
  item : Option Item := none
  /-- the boundary is paused by a forced Sill reset (18 R446). Reset 0 -/
  paused : Bool := false
  /-- WIN_HOLD.REASONS, 11 bits (R102, R120). Reset 0x400 -/
  hold : BitVec 11 := 0x400
  /-- window count, 48 bits (R94). Reset 0 -/
  cnt : BitVec 48 := 0
  /-- turn count of 03 R51, running on across windows (R93). Reset 0 -/
  turnCount : Nat := 0
  /-- turn number within the window (R93, WIN_TURN R120). Reset 0 -/
  turn : W32 := 0
  /-- strand of the next pulse (03 R46). Reset 0 -/
  strand : Nat := 0
  /-- WIN_MSTR as sampled (R97). Reset low (DESIGN CHOICE, log entry 3) -/
  winMstr : Bool := false
  /-- WIN_CTL.MODE as written (R97, R120). Reset 00, 10 with WIN_MSTR high -/
  modeReg : BitVec 2 := 0
  /-- the mode in force since the ready state was last entered (R97). Reset as modeReg -/
  mode : BitVec 2 := 0
  /-- WIN_CTL.HOLD (R120). Reset 0 -/
  ownerHold : Bool := false
  /-- WIN_LEN.TURNS_M1 as written (R120). Reset 0: from the image header, none loaded (DESIGN CHOICE, log entry 3) -/
  turnsM1Reg : W32 := 0
  /-- T - 1 in force (R93, R106). Reset as turnsM1Reg -/
  turnsM1 : W32 := 0
  /-- WIN_GEN_PERIOD (R99, R120). Reset 0 -/
  genPeriod : W32 := 0
  /-- WIN_STALL_LEAD.LEAD as written (R120). Reset 2 -/
  leadReg : BitVec 5 := 2
  /-- the lead in force (R114). Reset 2 -/
  lead : BitVec 5 := 2
  /-- WIN_STALL_LIMIT (R120). Reset 1,000 -/
  stallLimit : BitVec 20 := 1000
  /-- WIN_IO_LAT.IN_TURNS (R119, R120). Reset 0: from the image header (DESIGN CHOICE, log entry 3) -/
  kIn : Byte := 0
  /-- WIN_IO_LAT.OUT_TURNS (R119, R120). Reset 0: from the image header (DESIGN CHOICE, log entry 3) -/
  kOut : Byte := 0
  /-- WIN_HORIZON, 24 bits, Leat cycles (R104, R120). Reset 0 -/
  horizon : BitVec 24 := 0
  /-- WIN_MIN_LEN (R104, R120). Reset 4,096 -/
  minLen : W32 := 4096
  /-- WIN_EVT (R120). Reset 0 -/
  evt : BitVec 8 := 0
  /-- WIN_EVT_EN (R120). Reset 0 -/
  evtEn : BitVec 8 := 0
  /-- WIN_LATE_CNT (R113, R120). Reset 0 -/
  lateCnt : W32 := 0
  /-- WIN_STALL_PULSES of the last completed window, and of this one (R113, R120). Reset 0 -/
  stallPulses : W32 := 0
  stallNow : W32 := 0
  /-- WIN_SLOTWAIT_PULSES of the last completed window, and of this one (R118, R120). Reset 0 -/
  slotPulses : W32 := 0
  slotNow : W32 := 0
  /-- WIN_BND_TIME (R120). Reset 0 -/
  bndTime : W32 := 0
  /-- WIN_EARLY_CNT (R100, R120). Reset 0 -/
  earlyCnt : W32 := 0
  /-- an edge has been accepted and its edge pulse has not come (R98). Reset 0 -/
  edgeAccepted : Bool := false
  /-- WIN_STATE.EDGE_PENDING (R100, R120). Reset 0 -/
  edgePending : Bool := false
  /-- the stall in progress; WIN_STATE.STALLED (R113, R120). Reset none -/
  stall : Option Stall := none
  /-- WIN_STATE.SLOT_WAIT (R118, R120). Reset 0 -/
  slotWait : Bool := false
  /-- stall notices held (R114, R116). Reset empty -/
  notices : List Notice := []
  /-- CNT_HI as latched by a read of CNT_LO (R120). Reset 0 -/
  cntHi : BitVec 16 := 0
  /-- words 1 and 2 of the stamp as latched by a read of WIN_STAMP0 (R120). Reset 0 -/
  stamp1 : W32 := 0
  stamp2 : W32 := 0
  /-- causes of hold reason FAULT: count mismatch, vertical channel, lane direction, SLOT_SEQ (R102, 14 R357). Reset 0 -/
  causes : BitVec 4 := 0
  /-- the fault is to be held at the close of this window (R101). Reset 0 -/
  faultDue : Bool := false
  /-- sources for which PROMISE_RAISED was logged (R115). Reset empty -/
  raised : List LateSrc := []
  /-- the device waits for the window count of array start (R101). Reset 0 -/
  awaitCount : Bool := false
deriving DecidableEq, Repr

end Sys2Proof.Machine
end

