-- ==== Sys2Proof/Machine/State.lean ====
section
/-! DEFINITION. The whole state of the block, its reset value, and the reasons to stop. -/
namespace Sys2Proof.Machine

structure State where
  win : WindowState := {}
  fab : FabricState := {}
  spl : SpliceState := {}
  vert : VerticalState := {}
  cst : CisternState := {}
  mem : MemState := {}
  leat : LeatState := {}
  flm : FlumeState := {}
  sec : SecState := {}
  img : ImgState := {}
  io : IoState := {}
  lnk : LaneState := {}
  lk : LkState := {}
  host : HostState := {}
  pwr : PowerState := {}
  clk : ClockState := {}
  thm : ThermalState := {}
  rst : ResetState := {}
  bist : BistState := {}
  /-- the commands that wait, first in first out: the model's own. Reset empty -/
  pending : List Instr := []
  /-- epoch of the free values: the model's own. Reset 0 (DESIGN CHOICE, log entry 1) -/
  fresh : Nat := 0
  /-- what the block has sent to the outside, in order: the model's own. Reset empty -/
  out : List Output := []
deriving DecidableEq, Repr

/-- Right after the power-on reset, before start-up (18_faults_resets R441, R442): every field at its reset value. -/
def State.reset : State := {}

/-- Faults that end a run: none. Every happening that the spec calls a fault is a log entry, an event bit, a hold reason or a
status, all of them state; no command of this model stops with a fault. -/
inductive Fault where
  /-- raised by nothing -/
  | never
deriving DecidableEq, Repr

/-- Reasons to refuse a command. -/
inductive Refusal where
  /-- the command has no meaning in the model yet: raised by the dispatch alone (safe: the run stops) -/
  | notModelled (mnemonic : String)
deriving DecidableEq, Repr

end Sys2Proof.Machine
end

