-- ==== Sys2Proof/Machine/Parts.lean ====
section
/-! DEFINITION. Reading and changing one part of the state: a block, a link, a lane group, a channel, an interface, a controller, a
power domain. -/
namespace Sys2Proof.Machine

/-! ### Codes of the fields -/

/-- The code of WIN_STATE.STATE (R120). -/
def WinSt.code : WinSt → Nat
  | .notReleased => 0 | .running => 1 | .boundary => 2 | .ready => 3 | .starting => 4 | .held => 5

/-- The code of a command (R171). -/
def Cmd.code : Cmd → Nat
  | .read => 0 | .write => 1 | .writeMore => 2 | .readResp => 3 | .writeResp => 4 | .credit => 5 | .fallback => 6
  | .reserved => 7

/-- The code of a status (R173). -/
def Status.code : Status → Nat
  | .ok => 0 | .poison => 1 | .badAddress => 2 | .cisternClosed => 3 | .targetIsolated => 4 | .domainOff => 5
  | .pathLost => 6 | .noRoute => 7 | .noReservation => 8 | .overBudget => 9 | .overrun => 10 | .refused => 11
  | .powerPending => 12

/-- The code of MEM_CH_STATUS.PSTATE (07_deep_memory R164) and of a domain in PWR_DOMn (17_power_thermal R437). -/
def PState.code : PState → Nat
  | .run => 0 | .sleep => 1 | .deep => 2 | .off => 3 | .waking => 4

/-- The code of LNK_STATUS.STATE (11_lanes_gwynior R291). -/
def LinkSt.code : LinkSt → Nat
  | .disabled => 0 | .training => 1 | .up => 2 | .down => 3

/-- The code of LNK_ARRAY.STATE (11_lanes_gwynior R291). -/
def ArraySt.code : ArraySt → Nat
  | .alone => 0 | .exchanging => 1 | .joined => 2 | .notPart => 3 | .incomplete => 4

/-- The code of PWR_DEV.STATE (17_power_thermal R437). -/
def DevSt.code : DevSt → Nat
  | .run => 0 | .sleep => 1 | .deep => 2 | .thermal => 3 | .entering => 4 | .waking => 5 | .off => 6

/-- P0 of RESET_CAUSE (18_faults_resets R448). -/
def ResetCause.code : ResetCause → Nat
  | .powerOn => 0 | .resetN => 1 | .device => 2 | .trip => 3

/-! ### Modifiers of the parts -/

def State.modWin (f : WindowState → WindowState) (s : State) : State := { s with win := f s.win }
def State.modFab (f : FabricState → FabricState) (s : State) : State := { s with fab := f s.fab }
def State.modSpl (f : SpliceState → SpliceState) (s : State) : State := { s with spl := f s.spl }
def State.modVert (f : VerticalState → VerticalState) (s : State) : State := { s with vert := f s.vert }
def State.modCst (f : CisternState → CisternState) (s : State) : State := { s with cst := f s.cst }
def State.modMem (f : MemState → MemState) (s : State) : State := { s with mem := f s.mem }
def State.modLeat (f : LeatState → LeatState) (s : State) : State := { s with leat := f s.leat }
def State.modLk (f : LkState → LkState) (s : State) : State := { s with lk := f s.lk }
def State.modHost (f : HostState → HostState) (s : State) : State := { s with host := f s.host }
def State.modPwr (f : PowerState → PowerState) (s : State) : State := { s with pwr := f s.pwr }
def State.modClk (f : ClockState → ClockState) (s : State) : State := { s with clk := f s.clk }
def State.modThm (f : ThermalState → ThermalState) (s : State) : State := { s with thm := f s.thm }
def State.modRst (f : ResetState → ResetState) (s : State) : State := { s with rst := f s.rst }
def State.modBist (f : BistState → BistState) (s : State) : State := { s with bist := f s.bist }
def State.modFlm (f : FlumeState → FlumeState) (s : State) : State := { s with flm := f s.flm }
def State.modSec (f : SecState → SecState) (s : State) : State := { s with sec := f s.sec }
def State.modImg (f : ImgState → ImgState) (s : State) : State := { s with img := f s.img }
def State.modIo (f : IoState → IoState) (s : State) : State := { s with io := f s.io }
def State.modLnk (f : LaneState → LaneState) (s : State) : State := { s with lnk := f s.lnk }

/-- A link and a lane group (11 R291). -/
def State.linkAt (s : State) (i : Nat) : LinkRec := tget s.lnk.link {} i
def State.modLink (i : Nat) (f : LinkRec → LinkRec) (s : State) : State :=
  s.modLnk fun x => { x with link := tmod x.link {} i f }
def State.groupAt (s : State) (g : Nat) : GroupRec := tget s.lnk.group {} g
def State.modGroup (g : Nat) (f : GroupRec → GroupRec) (s : State) : State :=
  s.modLnk fun x => { x with group := tmod x.group {} g f }

/-- A Flume channel (09 R226). -/
def State.flmAt (s : State) (c : Nat) : FChan := tget s.flm.chan {} c
def State.modFlmCh (c : Nat) (f : FChan → FChan) (s : State) : State :=
  s.modFlm fun x => { x with chan := tmod x.chan {} c f }

/-- The interface of a node (08 R204). -/
def State.nodeAt (s : State) (n : Nat) : NodeRec := tget s.leat.node {} n
def State.modNode (n : Nat) (f : NodeRec → NodeRec) (s : State) : State :=
  s.modLeat fun l => { l with node := tmod l.node {} n f }

/-- The controller numbered `m` (07 R164). -/
def State.ctlAt (s : State) (m : Nat) : MemCtl := tget s.mem.ctl {} m
def State.modCtl (m : Nat) (f : MemCtl → MemCtl) (s : State) : State :=
  s.modMem fun x => { x with ctl := tmod x.ctl {} m f }

/-- Send something to the outside. -/
def State.emit (o : Output) (s : State) : State := { s with out := s.out ++ [o] }

/-- A new epoch of free values. -/
def State.freshen (s : State) : State := { s with fresh := s.fresh + 1 }

/-- State of a power domain (14 R347, 17 R413). -/
def State.domSt (s : State) (d : Nat) : PState := (tget s.pwr.dom {} d).st
/-- The sluice that the state of a domain alone sets (16_clocks R410). -/
def domSluice (d : Nat) : Option Nat :=
  if 2 ≤ d ∧ d ≤ 9 then some (d + 9) else if 20 ≤ d ∧ d ≤ 56 then some (d - 1) else none

/-- The sluice state named like a domain's state (17_power_thermal R415); Off takes Deep sleep, the lowest there is, and a domain that
changes keeps what it has (DEDUCED, log entry 160). -/
def PState.sluice : PState → Option (BitVec 2)
  | .run => some 0 | .sleep => some 1 | .deep | .off => some 2 | .waking => none

/-- A domain is in a state, its sluice with it (17_power_thermal R415). -/
def State.setDom (d : Nat) (st : PState) (s : State) : State :=
  let s := s.modPwr fun p => { p with dom := tmod p.dom {} d fun x => { x with st := st } }
  match domSluice d, st.sluice with
  | some n, some v => s.modClk fun c => { c with slc := tmod c.slc {} n fun x => { x with req := v, st := v } }
  | _, _ => s
def State.domRun (s : State) (d : Nat) : Bool := s.domSt d = .run

end Sys2Proof.Machine
end

