-- ==== Sys2Proof/Machine/Flags.lean ====
section
/-! DEFINITION. The flags of the block: interrupt vectors, and the event registers that assert them (12_host_ports R296, R299). -/
namespace Sys2Proof.Machine

/-! ### Interrupts (12_host_ports R296, R299) -/

def HostState.func (h : HostState) : Func → FuncState
  | .pf0 => h.pf0 | .pf1 => h.pf1

def State.modFunc (f : Func) (g : FuncState → FuncState) (s : State) : State :=
  s.modHost fun h => match f with
    | .pf0 => { h with pf0 := g h.pf0 }
    | .pf1 => { h with pf1 := g h.pf1 }

/-- A vector's message may be sent: MSI-X enabled, the vector unmasked, the link up, and the function a bus master and not in D3hot, since a
message is a memory write of its own (R293, R296, R297; PRESUMED log entry 29). -/
def State.msixOpen (s : State) (f : Func) (v : Nat) : Bool :=
  let x := s.host.func f
  x.msixEn && !x.msixMask.getLsbD v && s.host.linkUp && x.bme && !x.d3hot

/-- Assert a vector of a function: its message is sent, or its pending bit set (R296). A new event of PF0 arms SMBALERT_N
(R299). -/
def State.raiseVec (f : Func) (v : Nat) (s : State) : State :=
  let send := s.msixOpen f v
  let s := s.modHost fun h => { h with alertArmed := h.alertArmed || decide (f = .pf0) }
  if send then s.emit (.msix f v)
  else s.modFunc f fun x => { x with pba := x.pba ||| (1#32 <<< v) }

/-- A block's event register changed: assert its vector when a bit that is 1 in both registers is new (R296). -/
def State.evtAssert {w : Nat} (v : Nat) (evt0 en0 evt1 en1 : BitVec w) (s : State) : State :=
  if evt1 &&& en1 &&& ~~~(evt0 &&& en0) = 0 then s else s.raiseVec .pf0 v

/-- Set a bit of WIN_EVT (05 R120). -/
def State.winEvt (i : Nat) (s : State) : State :=
  let e := s.win.evt ||| (1#8 <<< i)
  (s.evtAssert 2 s.win.evt s.win.evtEn e s.win.evtEn).modWin fun w => { w with evt := e }

/-- Set a bit of MEM_EVT of a controller (07 R164). -/
def State.memEvt (m i : Nat) (s : State) : State :=
  let c := s.ctlAt m
  let e := c.evt ||| (1#8 <<< i)
  (s.evtAssert 4 c.evt c.evtEn e c.evtEn).modCtl m fun c => { c with evt := e }

/-- Set a bit of LEAT_NI_EVT of an interface (08 R204). -/
def State.niEvt (n i : Nat) (s : State) : State :=
  let c := s.nodeAt n
  let e := c.evt ||| (1#8 <<< i)
  (s.evtAssert 5 c.evt c.evtEn e c.evtEn).modNode n fun c => { c with evt := e }

/-- Set bits of FLM_CH_EVT (09 R226). -/
def State.flmEvt (c : Nat) (bits : BitVec 3) (s : State) : State :=
  let x := s.flmAt c
  let e := x.evt ||| bits
  (s.evtAssert 6 x.evt x.evtEn e x.evtEn).modFlmCh c fun x => { x with evt := e }

/-- Set bits of LNK_EVT of a link (11 R291). -/
def State.linkEvt (i k : Nat) (s : State) : State :=
  let x := s.linkAt i
  let e := x.evt ||| (1#11 <<< k)
  (s.evtAssert 7 x.evt x.evtEn e x.evtEn).modLink i fun x => { x with evt := e }

/-- Set a bit of CFG_EVT (10 R258). -/
def State.cfgEvt (k : Nat) (s : State) : State :=
  let e := s.img.evt ||| (1#11 <<< k)
  (s.evtAssert 3 s.img.evt s.img.evtEn e s.img.evtEn).modImg fun x => { x with evt := e }

/-- Set a bit of SEC_EVT (15 R391). -/
def State.secEvt (k : Nat) (s : State) : State :=
  let e := s.sec.evt ||| (1#5 <<< k)
  (s.evtAssert 10 s.sec.evt s.sec.evtEn e s.sec.evtEn).modSec fun x => { x with evt := e }

/-- Set a bit of CLK_EVT (16 R412). -/
def State.clkEvt (k : Nat) (s : State) : State :=
  let e := s.clk.evt ||| (1#10 <<< k)
  (s.evtAssert 8 s.clk.evt s.clk.evtEn e s.clk.evtEn).modClk fun x => { x with evt := e }

/-- Set a bit of PWR_EVT (17 R436, R437). -/
def State.pwrEvt (k : Nat) (s : State) : State :=
  let e := s.pwr.evt ||| (1#6 <<< k)
  (s.evtAssert 9 s.pwr.evt s.pwr.evtEn e s.pwr.evtEn).modPwr fun x => { x with evt := e }

/-- Set a bit of THM_EVT (17 R436, R438). -/
def State.thmEvt (k : Nat) (s : State) : State :=
  let e := s.thm.evt ||| (1#6 <<< k)
  (s.evtAssert 9 s.thm.evt s.thm.evtEn e s.thm.evtEn).modThm fun x => { x with evt := e }

/-- Set a bit of BIST_EVT (19 R460). -/
def State.bistEvt (k : Nat) (s : State) : State :=
  let e := s.bist.evt ||| (1#3 <<< k)
  (s.evtAssert 11 s.bist.evt s.bist.evtEn e s.bist.evtEn).modBist fun x => { x with evt := e }

end Sys2Proof.Machine
end

