-- ==== Sys2Proof/Machine/Ops.lean ====
section
/-! DEFINITION. The operations every family shares: gated clocks, stamps, the event log, hold reasons, the length check. -/
namespace Sys2Proof.Machine

/-! ### Gated clocks (16 R399, R403, R407) -/

/-- The Leat, Flume and the controllers stand still: safe state, thermal stop, Deep sleep, Off, or a reset of the whole device
(16 R399, 17 R421, R433, 18 R443). -/
def State.gated (s : State) : Bool :=
  s.clk.safe || s.thm.stopped || s.thm.shdn || s.rst.st = .dead || s.rst.st = .held || s.rst.st = .quiescing
  || s.pwr.dev = .deep || s.pwr.dev = .off || (s.pwr.dev = .waking && (match s.pwr.wake with
    | some w => w.left = .deep
    | none => false))

/-- A sluice (16 R412). -/
def State.slcAt (s : State) (n : Nat) : Sluice := tget s.clk.slc {} n
def State.modSlc (n : Nat) (f : Sluice → Sluice) (s : State) : State :=
  s.modClk fun c => { c with slc := tmod c.slc {} n f }
def State.slcOpen (s : State) (n : Nat) : Bool := (s.slcAt n).st = 0

/-- The sluice of a memory controller (16 R410). -/
def ctlSluice (m : Nat) : Nat := if m < 32 then 8 else m - 32

/-- A memory controller serves: the device is neither gated nor held in reset, its sluice is open, a DDR4 channel's PLL is
locked and no forced Sill reset holds it, and no self-test has it (16 R399, R403, R409, 18 R443, R446, 19 R457). -/
def State.ctlClocked (s : State) (m : Nat) : Bool :=
  !s.gated && s.slcOpen (ctlSluice m)
  && (decide (m < 32) || (s.clk.lock.getLsbD (5 + (m - 32) / 4)
        && (match s.rst.forced with | some f => f.released | none => true)))
  && (match s.bist.run with | some r => !(r.kind = 2 && r.inst = m) | none => true)

/-- CLK_STATUS.HOLDOVER: PLLs are in holdover, for a lost reference or for the loss of a crossing's clock couplers (16 R397, 01 R23). -/
def State.holdover (s : State) : Bool := s.clk.holdover || s.vert.holdA || s.vert.holdB

/-- The state that WIN_STATE shows: not released while NOT_RELEASED is set, also while a boundary that loads a full image runs on (05
R98). -/
def WindowState.shown (w : WindowState) : WinSt :=
  if w.st = .boundary ∧ w.hold.getLsbD 10 then .notReleased else w.st

/-! ### Stamps (05_window_timing R96) -/

/-- T, the turns of a window in force (R93). -/
def State.turns (s : State) : Nat := s.win.turnsM1.toNat + 1

/-- The stamp of the present pulse period (R96). -/
def State.stamp (s : State) : Stamp :=
  match s.win.shown with
  | .notReleased => { win := s.win.cnt, turn := 0, strand := 0, phase := 3 }
  | .running =>
    { win := s.win.cnt, turn := s.win.turn, strand := BitVec.ofNat 3 s.win.strand,
      phase := if s.win.stall.isSome || s.win.slotWait || !s.fab.clockStop.isEmpty then 1 else 0 }
  | _ => { win := s.win.cnt, turn := w32 s.turns, strand := 0, phase := 2 }

/-- The three words of a stamp (R96). -/
def Stamp.words (t : Stamp) : List W32 :=
  [ BitVec.ofNat 32 t.win.toNat,
    BitVec.ofNat 32 (t.win.toNat / 2 ^ 32 + 2 ^ 16 * t.strand.toNat + 2 ^ 20 * t.phase.toNat),
    t.turn ]

/-! ### The event log (13_lockkeeper R323, R324) -/

/-- Remove the newest entry without FAULT. -/
def dropNewest : List LogEntry → Option (LogEntry × List LogEntry)
  | [] => none
  | e :: t =>
    match dropNewest t with
    | some (d, t') => some (d, e :: t')
    | none => if e.fault then none else some (e, t)

def LogState.countDrop (code : BitVec 16) (l : LogState) : LogState :=
  { l with dropped := satInc l.dropped, unreported := satInc l.unreported,
           firstCode := if l.unreported = 0 then code else l.firstCode }

def LogState.push (e : LogEntry) (l : LogState) : LogState :=
  { l with queue := l.queue ++ [{ e with index := l.next }], next := l.next + 1 }

/-- Commit an entry to the queue, or drop it, or let it displace (R324); tells whether it was committed. -/
def LogState.add (e : LogEntry) (l : LogState) : LogState × Bool :=
  if l.queue.length < 512 then (l.push e, true)
  else if e.fault then
    match dropNewest l.queue with
    | some (d, q) => ((({ l with queue := q, gaps := l.gaps ++ [d] }).countDrop d.code).push e, true)
    | none => (l.countDrop e.code, false)
  else (l.countDrop e.code, false)

/-- Log an event with a stamp of its own (R323, R325). -/
def State.logAt (t : Stamp) (code : Nat) (int fault : Bool) (p0 p1 p2 : W32) (s : State) : State :=
  let e : LogEntry :=
    { stamp := t, seconds := s.lk.seconds, code := BitVec.ofNat 16 code, int := int, fault := fault,
      p0 := p0, p1 := p1, p2 := p2 }
  let (l, done) := s.lk.log.add e
  let s := s.modLk fun k => { k with log := l }
  if done ∧ int then
    ((s.modHost fun h => { h with logAlert := true }).raiseVec .pf0 1).raiseVec .pf1 1
  else s

/-- Log an event with the stamp of the present pulse period (R323). -/
def State.log (code : Nat) (int fault : Bool) (p0 p1 p2 : W32) (s : State) : State :=
  s.logAt s.stamp code int fault p0 p1 p2

/-! ### Hold reasons (05_window_timing R98, R102) -/

/-- Bits of WIN_HOLD (R102). -/
def holdRun := 0
def holdBoundary := 1
def holdCapture := 2
def holdReconfig := 3
def holdThrottle := 4
def holdUnderrun := 5
def holdLenRange := 6
def holdFault := 7
def holdOwner := 8
def holdPower := 9
def holdNotReleased := 10

def holdBit (i : Nat) : BitVec 11 := 1#11 <<< i

/-- The ready state is entered: a written MODE takes effect (R97). -/
def WindowState.enterReady (w : WindowState) : WindowState := { w with st := .ready, mode := w.modeReg }

/-- The state after a change of the hold reasons, outside the boundary sequence (R98). -/
def WindowState.settle (w : WindowState) : WindowState :=
  match w.st with
  | .ready | .held | .notReleased =>
    if w.hold.getLsbD holdNotReleased then { w with st := .notReleased }
    else if w.hold = 0 then (if w.st = .ready then w else w.enterReady)
    else if w.st = .ready ∧ w.edgeAccepted then w
    else { w with st := .held }
  | _ => w

/-- A pending early edge is taken as accepted once the device is ready (R100). -/
def WindowState.takeEdge (w : WindowState) : WindowState :=
  if w.st = .ready ∧ w.edgePending ∧ !w.edgeAccepted then { w with edgePending := false, edgeAccepted := true } else w

def State.setHold (i : Nat) (s : State) : State :=
  s.modWin fun w => { w with hold := w.hold ||| holdBit i }.settle

def State.clearHold (i : Nat) (s : State) : State :=
  s.modWin fun w => ({ w with hold := w.hold &&& ~~~holdBit i }.settle).takeEdge

/-- A load or apply no longer needs RECONFIG; a self-test still may (R102, 19 R457). -/
def State.reconfigEnd (s : State) : State := if s.bist.run.isSome then s else s.clearHold holdReconfig

/-- Hold reason FAULT follows its causes (R102, 14 R357). -/
def State.setCause (i : Nat) (s : State) : State :=
  (s.modWin fun w => { w with causes := w.causes ||| (1#4 <<< i) }).setHold holdFault

def State.clearCause (i : Nat) (s : State) : State :=
  let s := s.modWin fun w => { w with causes := w.causes &&& ~~~(1#4 <<< i) }
  if s.win.causes = 0 then s.clearHold holdFault else s

/-- The window runs, for the commands and accesses that R344 and R160 refuse then: running, boundary or starting. -/
def State.windowRunning (s : State) : Bool :=
  s.win.shown = .running || s.win.shown = .boundary || s.win.shown = .starting

/-! ### The length check (05 R104 to R106) -/

/-- T × L of the window in force. -/
def State.windowPulses (s : State) : Nat := s.turns * s.fab.turnLen

/-- One of the conditions of the length check: each check that it fails sets the hold and logs (05 R105). -/
def State.lengthHold (bit evt code : Nat) (bad : Bool) (p2 : W32) (s : State) : State :=
  if bad then ((s.log code true true (w32 s.turns) (w32 s.fab.turnLen) p2).winEvt evt).setHold bit
  else if s.win.hold.getLsbD bit then s.clearHold bit else s

/-- The length check (05 R105). -/
def State.lengthCheck (s : State) : State :=
  let under := decide (s.windowPulses < s.win.minLen.toNat)
  let tooLong := decide (2 ^ 32 < s.windowPulses)
  (s.lengthHold holdUnderrun 2 0x0202 under (w32 s.win.horizon.toNat)).lengthHold holdLenRange 3 0x0203 tooLong 0

end Sys2Proof.Machine
end

