-- ==== Sys2Proof/Machine/Vertical.lean ====
section
/-! DEFINITION. Vertical channels and their spares (01_stack R15 to R21). -/
namespace Sys2Proof.Machine

/-- Spares of a group and direction (01_stack R15, R16). The relay group of the Headgate's traffic has 64 and the other 8; which number
each has is the model's (DESIGN CHOICE, log entry 150). Headgate channels have none (R20). -/
def vSpares (v : VChan) : Nat :=
  match v.kind with
  | .column => 4
  | .rsvPort => 4
  | .weirLink => 8
  | .relay => if v.group.val = 0 then 64 else 8
  | .headgate => 0

/-- Kind field of the vertical channel events (13 R325). The table has no kind for a Headgate channel; 3 is used. -/
def VKind.code : VKind → Nat
  | .column => 0 | .rsvPort => 1 | .weirLink => 2 | .relay => 3 | .headgate => 3

/-- P0 of the vertical channel events (13 R325 code 0x0401). -/
def vP0 (v : VChan) (spare : Nat) : W32 :=
  w32 (v.die.val + 8 * v.kind.code + 32 * v.group.val + 2 ^ 12 * (if v.up then 0 else 1) + 2 ^ 13 * spare)

/-- Same group and direction. -/
def VChan.sameGroup (a b : VChan) : Bool :=
  a.die = b.die && a.kind = b.kind && a.group = b.group && a.up = b.up

/-- Spares of the channel's group and direction that are taken or given up. -/
def VerticalState.usedSpares (t : VerticalState) (v : VChan) : List Nat :=
  (t.chans.filter fun r => r.id.sameGroup v).flatMap fun r => r.spare.toList ++ r.spent

/-- The lowest free spare (R19). -/
def VerticalState.freeSpare (t : VerticalState) (v : VChan) : Option Nat :=
  (List.range (vSpares v)).find? fun k => !(t.usedSpares v).contains k

/-- The record of a channel. -/
def VerticalState.chanRec (t : VerticalState) (v : VChan) : VRec :=
  (t.chans.find? fun r => r.id = v).getD { id := v }

/-- Replace or add the record of a channel. -/
def VerticalState.put (t : VerticalState) (r : VRec) : VerticalState :=
  if t.chans.any fun x => x.id = r.id then
    { t with chans := t.chans.map fun x => if x.id = r.id then r else x }
  else { t with chans := t.chans ++ [r] }

/-- Items of step 6 in their order (05 R108). -/
def Item.ord : Item → Nat
  | .a => 0 | .b => 1 | .c => 2 | .d => 3 | .e => 4 | .f => 5 | .g => 6 | .h => 7

/-- An item of step 6 of the present boundary has begun: what is declared now waits for the next boundary (05 R108). -/
def State.pastItem (i : Item) (s : State) : Bool :=
  s.win.st = .boundary && (s.win.step = 7 || (s.win.step = 6 &&
    match s.win.item with | some j => decide (i.ord ≤ j.ord) | none => false))

/-- A channel without a free spare: a fault is logged and the hold is scheduled for the next boundary; the channel itself goes on
with resends (R20). -/
def State.vNoSpare (r : VRec) (s : State) : State :=
  ((s.log 0x0403 true true (vP0 r.id 0) (w32 r.id.ch.val) 0).modVert fun t =>
    { (t.put { r with failed := true, bare := true, shadowing := false, swapped := false, spare := none,
                      spent := r.spent ++ r.spare.toList }) with holdDue := true })

/-- A Headgate channel fails: its frames move to the channel of the same number in the adjacent plot column's group (R20); a
second failure in the same pair of groups is as a channel without spare (18 R440). The spec does not say on which side the adjacent
column lies: the model pairs groups 2k and 2k + 1 (DESIGN CHOICE, log entry 150). -/
def State.vHeadgate (r : VRec) (s : State) : State :=
  if s.vert.chans.any fun x => x.id.kind = .headgate && x.moved && x.id.group.val / 2 = r.id.group.val / 2 then s.vNoSpare r
  else s.modVert fun t => t.put { r with failed := true, moved := true }

/-- Declare a vertical channel failed (R19, R20). A spare that fails, in shadow or after the swap, is given up for the next. -/
def State.vFail (v : VChan) (s : State) : State :=
  let r := s.vert.chanRec v
  if r.bare then s
  else if v.kind = .headgate then s.vHeadgate r
  else match s.vert.freeSpare v with
    | none => s.vNoSpare r
    | some k =>
      (s.log 0x0401 false false (vP0 v k) (w32 v.ch.val) 0).modVert fun t =>
        t.put { r with failed := true, rejects := 0, spare := some k,
                       spent := r.spent ++ r.spare.toList, shadowing := false, swapped := false,
                       late := s.pastItem .c }

/-- The sender keeps a frame among its last 16; one that is resent stands there already (R18). -/
def VRec.sent (frame : BitVec 56) (r : VRec) : VRec := if r.resend then r else { r with kept := (frame :: r.kept).take 16 }

/-- A frame of the channel arrives on what carries it, which after a failure is the spare's copy (R18, R19). The sender keeps the last
16 frames; a rejected one is resent from there. Without a spare, and on the channel that a Headgate channel's frames have moved
to, only the resends go on (R20). -/
def State.vFrame (v : VChan) (frame : BitVec 56) (good : Bool) (s : State) : State :=
  let r := (s.vert.chanRec v).sent frame
  let n := r.rejects + 1
  if good then s.modVert fun t => t.put { r with resend := false }
  else if r.bare ∨ r.moved then s.modVert fun t => t.put { r with resend := true }
  else if n < 3 then s.modVert fun t => t.put { r with rejects := n, resend := true }
  else (s.modVert fun t => t.put { r with rejects := n, resend := true }).vFail v

/-- VERTICAL_FRAME_RECEIVE: a frame's CRC-8 holds or fails at the receiver (R18). The polynomial is not in the spec, so the
command says whether the frame passes. While a resend is asked for, the frame that arrives is the resent one, out of the
sender's store. -/
def execVerticalFrameReceive (v : VChan) (frame : BitVec 56) (good : Bool) (s : State) : Host.Outcome State Fault Refusal :=
  .next (if v.present then s.vFrame v frame good else s)

/-- VERTICAL_SHADOW_START: the sender duplicates the failed channel onto its spare (R19). -/
def execVerticalShadowStart (v : VChan) (s : State) : Host.Outcome State Fault Refusal :=
  let r := s.vert.chanRec v
  .next (if r.failed ∧ r.spare.isSome ∧ !r.swapped then s.modVert fun t => t.put { r with shadowing := true } else s)

/-- FRAME_ALIGNMENT_LOSS: the channel, or the spare that carries it, is declared failed without a frame (R18). -/
def execFrameAlignmentLoss (v : VChan) (s : State) : Host.Outcome State Fault Refusal :=
  .next (if v.present ∧ !(s.vert.chanRec v).moved then s.vFail v else s)

/-- What the repair record holds of the vertical channels: those swapped or moved, with the spares given up (10 R228). -/
def VerticalState.repairMap (t : VerticalState) : List VRec :=
  (t.chans.filter fun r => r.swapped || r.moved).map fun r =>
    { id := r.id, failed := true, spare := r.spare, spent := r.spent, swapped := r.swapped, moved := r.moved }

/-- At power-up the vertical channels are as the repair record has them (10 R228, 04 R83). -/
def VerticalState.restored (t : VerticalState) : VerticalState := { chans := t.record, record := t.record }

/-- One channel of step 6c (R19). -/
def State.vSwapOne (s : State) (r : VRec) : State :=
  match r.spare with
  | some k =>
    if r.failed ∧ !r.swapped ∧ !r.late then
      (s.log 0x0402 false false (vP0 r.id k) (w32 r.id.ch.val) 0).modVert fun t =>
        t.put { r with swapped := true, shadowing := false }
    else s
  | none => s

/-- Boundary step 6c: every shadowed channel is permanently replaced by its spare (R19), and the repair record follows (10 R228). One
that was declared since this boundary's step 6c began waits for the following boundary's. -/
def State.vSwapAll (s : State) : State :=
  (s.vert.chans.foldl (fun s r => s.vSwapOne r) s).modVert fun t => { t with record := t.repairMap }

/-- A new window begins: the rejected frames are counted anew (R18), and what the last boundary was too late for is due at the
next (R19). -/
def VerticalState.newWindow (t : VerticalState) : VerticalState :=
  { t with chans := t.chans.map fun r => { r with rejects := 0, late := false } }

end Sys2Proof.Machine
end

