-- ==== Sys2Proof/Machine/Splices.lean ====
section
/-! DEFINITION. Splice health, shadows, remap, fallback and freeze (04_splices). -/
namespace Sys2Proof.Machine

/-! ### Numbers of places (see State/Splice.lean) -/

def chanDir (c : Nat) : Nat := c % 2
def chanCoupler (c : Nat) : Nat := c / 2 % 8
def chanGroup (c : Nat) : Nat := c / 16
def chanPair (c : Nat) : Nat := c / 4096
def chanHx (c : Nat) : Nat := c / 16 % 16
def chanHy (c : Nat) : Nat := c / 256 % 16
def pairPx (p : Nat) : Nat := p % 64
def pairPy (p : Nat) : Nat := p / 64

/-- The weir pair whose fallback path serves a plot pair (R85). -/
def pairPath (p : Nat) : Nat := 16 * (pairPy p / 4) + pairPx p / 4

/-- Key of a channel's group spare, and of a pool splice (see State/Splice.lean). -/
def spareKey (c : Nat) : Nat := chanGroup c * 2 + chanDir c
def poolKey (pair j d : Nat) : Nat := (pair * 16 + j) * 2 + d

/-- Plot index and hank index of a place (00_scope R6). -/
def plotIx (tier px py : Nat) : Nat := (tier * 64 + px) * 40 + py
def hankIx (plot hx hy : Nat) : Nat := plot * 256 + 16 * hy + hx

/-- The hank that drives a channel, and the hank that receives it: upward is from Tier A to Tier B (R71). -/
def chanSender (c : Nat) : Nat :=
  hankIx (plotIx (if chanDir c = 0 then 0 else 1) (pairPx (chanPair c)) (pairPy (chanPair c))) (chanHx c) (chanHy c)

/-- The channel that the source 176 + m of a hank receives (R72): m = 2s + p. -/
def chanInto (hank s : Nat) : Nat :=
  let plot := hank / 256
  let pair := 64 * (plot % 40) + plot / 40 % 64
  ((pair * 256 + hank % 256) * 8 + s) * 2 + (if plot / 2560 = 1 then 0 else 1)

/-- Key of a carrier, for the refresh judgement (R77). -/
def carrierKey (c : Nat) : Carrier → Nat
  | .own => 4 * c
  | .spare => 4 * spareKey c + 1
  | .pool j => 4 * poolKey (chanPair c) j (chanDir c) + 2

/-- The splice location word (13 R325); the carrier field names a spare carrier and is 0 for a channel's own splice. -/
def spliceLoc (c : Nat) (k : Carrier) : W32 :=
  w32 (pairPx (chanPair c) + 2 ^ 6 * pairPy (chanPair c) + 2 ^ 12 * chanHx c + 2 ^ 16 * chanHy c
    + 2 ^ 20 * chanCoupler c + 2 ^ 23 * chanDir c
    + 2 ^ 24 * (match k with | .own => 0 | .spare => 16 | .pool j => j))

/-- P0 of the plot pair events (13 R325 code 0x0307). -/
def pairLoc (p : Nat) : W32 := w32 (pairPx p + 2 ^ 6 * pairPy p)

/-! ### Use of a channel by the image (R84) -/

/-- Strand latches of a knot (03 R52). -/
def FabricState.latchAt (f : FabricState) (knot strand : Nat) : BitVec 160 := tget f.latch 0 (knot * 8 + strand)

/-- The select of driver `n` of a hank in a strand (02 R39). -/
def FabricState.driverSel (f : FabricState) (hank n strand : Nat) : Nat :=
  ((f.latchAt (hank * 16 + n / 6) strand).toNat >>> (136 + 4 * (n % 6))) % 16

/-- No strand of the turn drives the channel (R84). -/
def State.chanUnused (s : State) (c : Nat) : Bool :=
  (List.range s.fab.turnLen).all fun t =>
    (List.range 2).all fun p => s.fab.driverSel (chanSender c) (80 + 2 * chanCoupler c + p) t = 15

/-! ### Spares -/

def SpliceState.chanAt (x : SpliceState) (c : Nat) : ChanRec := tget x.chan {} c
def SpliceState.spareAt (x : SpliceState) (k : Nat) : SpareRec := tget x.spare {} k
def SpliceState.poolAt (x : SpliceState) (k : Nat) : SpareRec := tget x.pool {} k
def SpliceState.pairAt (x : SpliceState) (p : Nat) : PairRec := tget x.pair {} p

def SpliceState.putChan (c : Nat) (r : ChanRec) (x : SpliceState) : SpliceState :=
  { x with chan := tset x.chan {} c r }
def SpliceState.putSpare (k : Nat) (r : SpareRec) (x : SpliceState) : SpliceState :=
  { x with spare := tset x.spare {} k r }
def SpliceState.putPool (k : Nat) (r : SpareRec) (x : SpliceState) : SpliceState :=
  { x with pool := tset x.pool {} k r }
def SpliceState.putPair (p : Nat) (r : PairRec) (x : SpliceState) : SpliceState :=
  { x with pair := tset x.pair {} p r }

/-- The borrow ports of a group and direction that carry a channel (R73). -/
def SpliceState.portsUsed (x : SpliceState) (c : Nat) : List Nat :=
  (List.range 16).filterMap fun j =>
    let r := x.poolAt (poolKey (chanPair c) j (chanDir c))
    if (r.st = .shadowing ∨ r.st = .assigned) ∧ chanGroup r.chan = chanGroup c then some r.port else none

/-- The lowest borrow port of the sending hank that is neither used nor unusable (R73, R82). -/
def SpliceState.freePort (x : SpliceState) (c : Nat) : Option Nat :=
  (List.range 2).find? fun p => !(x.portsUsed c).contains p && !(tget x.badPort 0 (spareKey c)).getLsbD p

/-- The shadow a failing channel takes: the group spare when the channel's own splice fails and it is free, else the
lowest free pool splice with a free borrow port (R79, R82). -/
def SpliceState.chooseShadow (x : SpliceState) (c : Nat) (own : Bool) : Option (Carrier × Nat) :=
  if own ∧ (x.spareAt (spareKey c)).st = .free then some (.spare, 0)
  else match x.freePort c with
    | none => none
    | some p =>
      match (List.range 16).find? fun j => (x.poolAt (poolKey (chanPair c) j (chanDir c))).st = .free with
      | some j => some (.pool j, p)
      | none => none

/-- Mark a carrier that is a spare. 04 R91 gives the fields of a pool splice only while it is free (0), shadowing or assigned: an unusable
one keeps the place of its last channel, or the first channel of its own place where it served none, and port 0 (DESIGN CHOICE,
log entry 152). -/
def SpliceState.markCarrier (c : Nat) (k : Carrier) (st : SpareSt) (port : Nat) (x : SpliceState) : SpliceState :=
  match k with
  | .own => x
  | .spare => x.putSpare (spareKey c) { st := st, chan := c, port := 0 }
  | .pool j => x.putPool (poolKey (chanPair c) j (chanDir c)) { st := st, chan := c, port := port }

/-- State and borrow port of a carrier that is a spare. -/
def SpliceState.carrierRec (c : Nat) (k : Carrier) (x : SpliceState) : SpareRec :=
  match k with
  | .own => {}
  | .spare => x.spareAt (spareKey c)
  | .pool j => x.poolAt (poolKey (chanPair c) j (chanDir c))

/-- The borrow port of a failed pool splice becomes unusable with it (R82). -/
def SpliceState.spoilPort (c : Nat) (k : Carrier) (x : SpliceState) : SpliceState :=
  match k with
  | .pool _ => { x with badPort := tmod x.badPort 0 (spareKey c) fun b => b ||| (1#2 <<< (x.carrierRec c k).port) }
  | _ => x

/-- A failing carrier that carries its channel no more: a group spare or pool splice becomes unusable, which is logged once, a pool
splice together with its borrow port (R78, R82). -/
def State.giveUp (c : Nat) (k : Carrier) (s : State) : State :=
  if k = .own ∨ (s.spl.carrierRec c k).st = .unusable then s
  else (s.log 0x0306 false false (spliceLoc c k) 2 0).modSpl fun x => (x.spoilPort c k).markCarrier c k .unusable 0

/-- A channel is out of spares: it becomes uncarried, in order (R79, R87). `late`: the test of R87 waits for the following
boundary. -/
def State.chanUncarried (c : Nat) (late : Bool) (s : State) : State :=
  (s.log 0x0304 true false (spliceLoc c .own) 0 0).modSpl fun x =>
    { x.putChan c { x.chanAt c with st := .uncarried, shadow := none, due := false, taken := false, late := late, fwd := false,
                                    order := x.nextOrder } with nextOrder := x.nextOrder + 1 }

/-- Choose and start the shadow of a failing channel (R79). A shadow that itself fails is given up for the next (R82). -/
def State.chanShadow (c : Nat) (s : State) : State :=
  let r := s.spl.chanAt c
  let s := match r.shadow with
    | some old => s.giveUp c old
    | none => s
  match s.spl.chooseShadow c (decide (r.carrier = Carrier.own) && r.shadow.isNone) with
  | none => s.chanUncarried c (s.pastItem .d)
  | some (k, p) =>
    (s.log 0x0303 false false (spliceLoc c k) 0 0).modSpl fun x =>
      (x.markCarrier c k .shadowing p).putChan c
        { r with st := .shadowed, shadow := some k, due := false, taken := false, late := s.pastItem .d,
                 failed := r.failed || decide (r.carrier = Carrier.own) }

/-- Take a carrier permanently at once, with no window running (R83, R84); a failing spare is given up for it (R82). -/
def State.carryNow (c : Nat) (s : State) : State :=
  let r := s.spl.chanAt c
  match s.spl.chooseShadow c (decide (r.carrier = Carrier.own)) with
  | none => s.chanUncarried c (decide (s.win.st = .boundary))
  | some (k, p) =>
    ((s.giveUp c r.carrier).log 0x0305 false false (spliceLoc c k) (if k = .spare then 0 else 1) 0).modSpl fun x =>
      (x.markCarrier c k .assigned p).putChan c
        { r with st := if k = .spare then .spared else .borrowed, carrier := k, shadow := none, due := false, taken := false,
                 failed := r.failed || decide (r.carrier = Carrier.own) }

/-- The declaration of a channel is logged and counted, and its own splice keeps the failing mark (R77, R84, R92). -/
def State.logDeclared (c : Nat) (verr : Bool) (k : Carrier) (t : Stamp) (s : State) : State :=
  let s := if verr then
      (s.logAt t 0x0302 true false (spliceLoc c k) 0 0).modSpl fun x => { x with verrCnt := satInc x.verrCnt }
    else (s.logAt t 0x0301 false false (spliceLoc c k) 0 0).modSpl fun x => { x with weakCnt := satInc x.weakCnt }
  if k = .own then s.modSpl fun x => x.putChan c { x.chanAt c with failed := true } else s

/-- Declare a logical channel failing: weak or value error (R77, R79, R82). While an image loads and after a self-test the repair is
permanent at once (R83). -/
def State.chanDeclare (now : Bool) (c : Nat) (verr : Bool) (k : Carrier) (t : Stamp) (s : State) : State :=
  let s := s.logDeclared c verr k t
  if now then s.carryNow c else s.chanShadow c

/-- A spare that carries no channel becomes unusable (R78). -/
def State.spareUnusable (c : Nat) (k : Carrier) (s : State) : State :=
  (s.log 0x0306 false false (spliceLoc c k) 2 0).modSpl fun x => x.markCarrier c k .unusable 0

/-- Where a carrier key points: some channel of its place, and the carrier (R77, R78). -/
def carrierOf (key : Nat) : Nat × Carrier :=
  let k := key / 4
  if key % 4 = 0 then (k, .own)
  else if key % 4 = 1 then (k / 2 * 16 + k % 2, .spare)
  else (k / 32 * 4096 + k % 2, .pool (k / 2 % 16))

/-- The channel a carrier serves now, when it serves one (R77): the channel of an own splice that is still its carrier,
or the channel a spare shadows or is assigned to. -/
def SpliceState.serves (x : SpliceState) (key : Nat) : Option Nat :=
  let (c, k) := carrierOf key
  match k with
  | .own => if (x.chanAt c).carrier = .own then some c else none
  | _ => let r := x.carrierRec c k; if r.st = .shadowing ∨ r.st = .assigned then some r.chan else none

/-- The carrier of a channel that is judged (R77): its carrier, or the shadow that takes its place; none where the channel needs none,
and none that has been declared failing already. -/
def ChanRec.judged (r : ChanRec) : Option Carrier :=
  match r.st with
  | .normal | .spared | .borrowed => some r.carrier
  | .shadowed => r.shadow
  | _ => none

/-- Judge one carrier in a pulse: a low refresh counts, the fourth in the window declares weak; a value error declares at
once (R77, R78). An unused channel needs no carrier, so its splice is judged only while an image loads, `now` (R83, R84). A value
error on the failing carrier of an uncarried channel, which is still in use, is logged (R87). -/
def State.judge (now : Bool) (t : Stamp) (e : Nat × Bool) (s : State) : State :=
  let (key, verr) := e
  let (c0, k) := carrierOf key
  let n := tget s.spl.weak 0 key + 1
  let count (s : State) : State := if verr then s else s.modSpl fun x => { x with weak := tset x.weak 0 key n }
  let bad := verr || decide (n = 4)
  match s.spl.serves key with
  | some c =>
    let r := s.spl.chanAt c
    if !now && s.chanUnused c then s
    else if r.judged = some k then (if bad then (count s).chanDeclare now c verr k t else count s)
    else if r.st = .uncarried ∧ r.carrier = k ∧ verr then s.logAt t 0x0302 true false (spliceLoc c k) 0 0
    else s
  | none =>
    if k = .own ∨ (s.spl.carrierRec c0 k).st = .unusable then s
    else if bad then (count s).spareUnusable c0 k
    else count s

/-- The order in which declarations of one pulse are served: by channel, a carrier going with the channel it serves (R80). R80 orders
within one plot pair: between pairs the lower pair number goes first, and a spare that serves none ranks as the first channel
of its place (DESIGN CHOICE, log entry 152). -/
def SpliceState.judgeKey (x : SpliceState) (key : Nat) : Nat := (x.serves key).getD (carrierOf key).1

/-- Insert by a key, keeping rising order. -/
def insertBy {α : Type} (f : α → Nat) (a : α) : List α → List α
  | [] => [a]
  | b :: t => if f a ≤ f b then a :: b :: t else b :: insertBy f a t

def sortBy {α : Type} (f : α → Nat) (l : List α) : List α := l.foldr (insertBy f) []

/-- What a pulse finds of the splices: a refresh of a carrier, low or wrong (R74, R77), or a channel whose direction has drifted
(R76). -/
inductive Finding where
  | refresh (key : Nat) (verr : Bool)
  | drift (c : Nat)
deriving DecidableEq, Repr

def SpliceState.findKey (x : SpliceState) : Finding → Nat
  | .refresh key _ => 2 * x.judgeKey key
  | .drift c => 2 * c + 1

/-- The current carrier of a channel, unless it has been declared failing (R77, R79). -/
def ChanRec.current (r : ChanRec) : Option Carrier :=
  match r.st with
  | .shadowed => if r.taken then r.shadow else none
  | _ => r.judged

/-- One finding of a pulse; `done` are the channels declared in this pulse already. -/
def State.findOne (now : Bool) (t : Stamp) (a : State × List Nat) (f : Finding) : State × List Nat :=
  let (s, done) := a
  match f with
  | .refresh key verr =>
    let s' := s.judge now t (key, verr)
    match s.spl.serves key with
    | some c => (s', if s'.spl.chanAt c ≠ s.spl.chanAt c then c :: done else done)
    | none => (s', done)
  | .drift c =>
    let r := s.spl.chanAt c
    match r.current with
    | some k => if done.contains c ∨ (!now && s.chanUnused c) then a else (s.chanDeclare now c false k t, c :: done)
    | none => a

/-- Phase drift of one direction of a plot pair, as the crossings of its limits judge it (R76). -/
def PairRec.driftOf (r : PairRec) (d : Nat) : Int := if d = 0 then r.driftUp else r.driftDn

/-- A drift of refresh arrival of a plot pair and direction: logged past 80 ps (R76). -/
def State.phaseDrift (p d : Nat) (ps : Int) (s : State) : State :=
  let old := (s.spl.pairAt p).driftOf d
  let s := s.modSpl fun x =>
    let r := x.pairAt p
    x.putPair p (if d = 0 then { r with drift := ps, driftUp := ps } else { r with drift := ps, driftDn := ps })
  if 80 < ps.natAbs ∧ ¬ 80 < old.natAbs then
    s.log 0x030A false false (pairLoc p + w32 (2 ^ 12 * d)) (BitVec.ofInt 32 ps) 0
  else s

/-- The channels that a drift past 150 ps declares weak: every one of the pair in that direction (R76). -/
def SpliceState.drifted (x : SpliceState) (e : Nat × Nat × Int) : List Nat :=
  if 150 < e.2.2.natAbs ∧ ¬ 150 < ((x.pairAt e.1).driftOf e.2.1).natAbs then
    (List.range 2048).map fun i => e.1 * 4096 + 2 * i + e.2.1
  else []

/-- All observations of a pulse: every declaration in the one order of R80 (R74, R76, R77). -/
def State.judgeAll (now : Bool) (t : Stamp) (weak verr : List Nat) (drift : List (Nat × Nat × Int)) (s : State) : State :=
  let obs := (verr.map fun k => Finding.refresh k true) ++
    ((weak.filter fun k => !verr.contains k).map fun k => Finding.refresh k false) ++
    (drift.flatMap s.spl.drifted).map Finding.drift
  let s := drift.foldl (fun (s : State) e => s.phaseDrift e.1 e.2.1 e.2.2) s
  ((sortBy s.spl.findKey obs).foldl (State.findOne now t) (s, [])).1

/-- Shadows that have carried one whole pulse are taken by the receivers: from the second pulse after the declaration (R79). -/
def SpliceState.takeDue (x : SpliceState) : SpliceState :=
  { x with chan := tmapListed {} (fun _ r => if r.st = .shadowed ∧ r.due then { r with taken := true } else r) x.chan }

/-- A pulse has been executed since the declarations before it (R79). -/
def SpliceState.markDue (x : SpliceState) : SpliceState :=
  { x with chan := tmapListed {} (fun _ r => if r.st = .shadowed then { r with due := true } else r) x.chan }

/-- SPLICE_SHADOW_TAKEOVER: the receiver takes the shadow's copy, from the second pulse after the declaration (R79). The pulse does
the same of itself where the row has not come before it. -/
def execSpliceShadowTakeover (c : Nat) (s : State) : Host.Outcome State Fault Refusal :=
  .next (s.modSpl fun x =>
    if (x.chanAt c).st = .shadowed ∧ (x.chanAt c).due then x.putChan c { x.chanAt c with taken := true } else x)

/-! ### Boundary step 6d (R81, R87, R88) -/

/-- Make one shadow permanent; the carrier it replaces is given up (R78, R81, R82). One declared since this boundary's repair step began
waits for the following boundary. -/
def State.remapOne (c : Nat) (s : State) : State :=
  let r := s.spl.chanAt c
  match r.st, r.shadow with
  | .shadowed, some k =>
    if r.late then s
    else
      ((s.log 0x0305 false false (spliceLoc c k) (if k = .spare then 0 else 1) 0).giveUp c r.carrier).modSpl fun x =>
        (x.markCarrier c k .assigned (x.carrierRec c k).port).putChan c
          { r with st := if k = .spare then .spared else .borrowed, carrier := k, shadow := none, due := false, taken := false }
  | _, _ => s

/-- Position of a channel among those its fallback path carries in its direction (R85, R87). -/
def SpliceState.pathRank (x : SpliceState) (c : Nat) : Nat :=
  let r := x.chanAt c
  (x.chan.filter fun e =>
    (e.2.st = .uncarried || e.2.st = .fallback) && pairPath (chanPair e.1) = pairPath (chanPair c)
      && chanDir e.1 = chanDir c && (e.2.order < r.order || (e.2.order = r.order && e.1 < c))).length

/-- Uncarried channels of a plot pair. -/
def SpliceState.uncarriedOf (x : SpliceState) (p : Nat) : List Nat :=
  (x.chan.filter fun e => e.2.st = .uncarried && chanPair e.1 = p).map (·.1)

/-- F in use of a path: at least λ + 1 in an array (05 R115). -/
def State.pathF (s : State) (w : Nat) (inArray : Bool) : Option Nat :=
  (tget s.spl.pathF none w).map fun f => if inArray then max f (s.win.lead.toNat + 1) else f

/-- Freeze a plot pair (R88): its uncarried channels become frozen, and spares that failed under them are given up (R82). -/
def State.freeze (p cause : Nat) (s : State) : State :=
  let cs := s.spl.uncarriedOf p
  let s := cs.foldl (fun s c => s.giveUp c (s.spl.chanAt c).carrier) s
  (s.log 0x0308 true true (pairLoc p) (w32 cause) (w32 cs.length)).modSpl fun x =>
    let x := cs.foldl (fun x c => x.putChan c { x.chanAt c with st := .frozen }) x
    x.putPair p { x.pairAt p with frozen := true, cause := cause }

/-- A spare that served a channel is free again, unless it is unusable (R84). -/
def SpliceState.freeCarrier (c : Nat) (k : Carrier) (x : SpliceState) : SpliceState :=
  if (x.carrierRec c k).st = .unusable then x
  else match k with
    | .own => x
    | .spare => x.putSpare (spareKey c) {}
    | .pool j => x.putPool (poolKey (chanPair c) j (chanDir c)) {}

/-- A failed channel becomes unused: it releases the spare assigned to it, and a spare that had failed under it is given up (R82,
R84). -/
def State.release (c : Nat) (s : State) : State :=
  let r := s.spl.chanAt c
  let s := if r.st = .spared ∨ r.st = .borrowed then s else s.giveUp c r.carrier
  s.modSpl fun x =>
    let x := match r.shadow with | some k => x.freeCarrier c k | none => x
    { (x.freeCarrier c r.carrier).putChan c
        { r with st := .unused, carrier := .own, shadow := none, due := false, taken := false, fwd := false } with
      store := tset x.store [] c [] }

/-- The receiver holds the values of the last `f` turns (R87). -/
def State.holdsTurns (s : State) (c f : Nat) : Bool :=
  (List.range f).all fun k => (tget s.spl.store [] c).any fun h => h.turn + 1 + k = s.win.turnCount

/-- The test of R87 for one uncarried channel at a boundary. R92 has the fallback event name the pair's channels and 13 R325 has no
field for them: one entry is logged for each channel (DESIGN CHOICE, log entry 152). -/
def State.exhaustTest (inArray : Bool) (c : Nat) (s : State) : State :=
  let r := s.spl.chanAt c
  let p := chanPair c
  if r.st ≠ .uncarried then s
  else if s.chanUnused c then s.release c
  else
    let slack := (s.spl.pairAt p).slack.toNat
    if slack = 0 then s.freeze p 0
    else match s.pathF (pairPath p) inArray with
      | none => s.freeze p 1
      | some f =>
        if slack < f then s.freeze p 1
        else if 32 ≤ s.spl.pathRank c then s.freeze p 2
        else if !s.holdsTurns c f then s
        else ((s.giveUp c r.carrier).log 0x0307 true false (pairLoc p) (w32 f) (w32 slack)).modSpl fun x =>
          x.putChan c { r with st := .fallback }

/-- The test of R87 at a boundary for a channel that became uncarried before this boundary's repair step (R81). -/
def State.exhaustOne (inArray : Bool) (c : Nat) (s : State) : State :=
  if (s.spl.chanAt c).late then s else s.exhaustTest inArray c

/-- Write the repair record (R83). -/
def State.writeRepairRecord (s : State) : State :=
  s.modSpl fun x =>
    { x with recChan := x.chan, recSpare := x.spare, recPool := x.pool, recPort := x.badPort,
             recFrozen := (x.pair.filter fun e => e.2.frozen).map (·.1) }

/-- Repairs, then fallback or freeze (R81 items 1 and 2, R87). -/
def State.spliceStep (inArray : Bool) (s : State) : State :=
  let s := (tkeys s.spl.chan).foldl (fun s c => s.remapOne c) s
  let un := sortBy (fun c => (s.spl.chanAt c).order) (tkeys (s.spl.chan.filter fun e => e.2.st = .uncarried))
  (un.foldl (fun s c => s.exhaustOne inArray c) s).writeRepairRecord

/-! ### Image loads (R84, R87, R89) -/

/-- A covered channel that the configuration just loaded does not use releases its spare (R84). -/
def State.reviewUnused (c : Nat) (s : State) : State :=
  if s.chanUnused c then s.release c else s

/-- A covered channel that the configuration just loaded uses (R84, R87). One whose own splice has failed is declared failing and takes
a carrier at once; one in fallback, frozen or uncarried returns to uncarried with an empty store, and its test waits for a
later boundary. -/
def State.reviewUsed (c : Nat) (s : State) : State :=
  let r := s.spl.chanAt c
  if s.chanUnused c then s
  else match r.st with
    | .unused => if r.failed then s.carryNow c else s.modSpl fun x => x.putChan c {}
    | .fallback | .uncarried | .frozen =>
      s.modSpl fun x =>
        { x.putChan c { r with st := .uncarried, late := decide (s.win.st = .boundary), fwd := false } with
          store := tset x.store [] c [] }
    | .shadowed => if s.win.st = .boundary then s else s.remapOne c
    | _ => s

/-- Unused channels are found and failed channels re-evaluated, in the plot pairs that `cover` takes: first every release, then the
takes in the order of R80 (R84, R89). A frozen pair that is covered runs again only if none of its channels would freeze it again
(R89). -/
def State.reviewSplices (cover : Nat → Bool) (inArray : Bool) (version : W32) (s : State) : State :=
  let cs := (tkeys s.spl.chan).filter fun c => cover (chanPair c)
  let frozen := (tkeys s.spl.pair).filter fun p => cover p && (s.spl.pairAt p).frozen
  let s := cs.foldl (fun s c => s.reviewUnused c) s
  let s := (sortBy id cs).foldl (fun s c => s.reviewUsed c) s
  let s := frozen.foldl (fun s p => s.modSpl fun x => x.putPair p { x.pairAt p with frozen := false, cause := 0 }) s
  -- a channel that would freeze its pair again does so now (R89)
  let s := cs.foldl (fun s c =>
    if frozen.contains (chanPair c) then s.exhaustTest inArray c else s) s
  let s := frozen.foldl (fun s p =>
    if (s.spl.pairAt p).frozen then s else s.log 0x0309 false false (pairLoc p) version 0) s
  s.writeRepairRecord

/-- Restore the repair map from the repair record (R83, R89; 18 R442). What belongs to a running window is not in it. -/
def SpliceState.restoreRecord (x : SpliceState) : SpliceState :=
  { x with chan := tmapListed {} (fun _ r => { r with due := false, taken := false, late := false, fwd := false }) x.recChan, spare := x.recSpare, pool := x.recPool, badPort := x.recPort,
           pair := x.recFrozen.foldl (fun t p => tmod t {} p fun r => { r with frozen := true }) x.pair }

/-! ### Fallback packets (R85 to R87) -/

/-- Channels whose driven values a fallback path forwards: in fallback, or uncarried since an earlier turn, the first 32 of a path
and direction (R85, R87). -/
def SpliceState.forwarded (x : SpliceState) : List Nat :=
  (tkeys (x.chan.filter fun e => (e.2.st = .uncarried && e.2.fwd) || e.2.st = .fallback)).filter fun c => x.pathRank c < 32

/-- Words of the 4 data units of a fallback packet. The spec does not lay them out: word k belongs to the channel of rank k on the path
and direction, bit 2t + p is signal p of strand t, and bit 16 says that the packet carries the channel (DESIGN CHOICE, log entry
153). -/
def SpliceState.fallbackWords (x : SpliceState) (cs : List Nat) : List Word18 :=
  (List.range 32).map fun k =>
    match cs.find? fun c => x.pathRank c = k with
    | some c => BitVec.ofNat 18 ((tget x.driven 0 c).toNat + 2 ^ 16)
    | none => 0

/-- A turn has ended: what was driven in it has been sent, and a channel uncarried by now is forwarded from the next turn (R87). -/
def SpliceState.nextTurn (x : SpliceState) : SpliceState :=
  { x with
    driven := []
    chan := tmapListed {} (fun _ r => if r.st = .uncarried then { r with fwd := true } else r) x.chan }

/-- The receiver stores the values that a fallback packet brings of a turn (R86, R87). A value is held until no F of up to 255 turns
needs it. -/
def SpliceState.storeFallback (path dir turn : Nat) (ws : List Word18) (x : SpliceState) : SpliceState :=
  let cs := (tkeys (x.chan.filter fun e => e.2.st = .uncarried || e.2.st = .fallback)).filter fun c =>
    pairPath (chanPair c) = path && chanDir c = dir
  { x with store := cs.foldl (fun t c =>
      let w := ws.getD (x.pathRank c) 0
      if w.getLsbD 16 then tset t [] c ((⟨turn, BitVec.ofNat 16 w.toNat⟩ :: tget t [] c).take 300) else t) x.store }

/-- The value a channel in fallback presents in a strand: that of F turns before (R86). -/
def SpliceState.fallbackValue (x : SpliceState) (c f turn strand p : Nat) : Option Bool :=
  ((tget x.store [] c).find? fun h => h.turn + f = turn).map fun h => h.bits.getLsbD (2 * strand + p)

/-- A channel in fallback whose packet of F turns before has not arrived (R86). -/
def SpliceState.fallbackMissing (x : SpliceState) (c f turn : Nat) : Bool :=
  f ≤ turn && !((tget x.store [] c).any fun h => h.turn + f = turn)

/-- A new window: low refreshes are counted anew (R77), and what was too late for the last boundary's repair step is due at the next
(R81). -/
def SpliceState.newWindow (x : SpliceState) : SpliceState :=
  { x with weak := [], chan := tmapListed {} (fun _ r => { r with late := false }) x.chan }

end Sys2Proof.Machine
end

