-- ==== Sys2Proof/Machine/LeatNet.lean ====
section
/-! DEFINITION. The Leat: topology, routes, trains, reservations, credits, the horizon, route changes, isolation
(08_leat_network). -/
namespace Sys2Proof.Machine

/-! ### Topology (R165 to R167, 01 R17) -/

/-- Die of a node: 0 Tier A, 1 Tier B, 2 Sill, 3 Reservoir (LEAT_NI_ID.DIE). -/
def nodeDie (n : Nat) : Nat := if n < 160 then 0 else if n < 320 then 1 else if n < 352 then 2 else 3

/-- A node's interface and weir stand still: the whole device does, or a forced Sill reset holds the Sill core
(16 R399, 18 R446). -/
def State.nodeStill (s : State) (n : Nat) : Bool :=
  s.gated || (nodeDie n = 2 && match s.rst.forced with | some f => !f.released | none => false)

def weirX (n : Nat) : Nat := if n < 320 then n % 160 % 16 else (n - 320) % 8
def weirY (n : Nat) : Nat := if n < 320 then n % 160 / 16 else (n - 320) / 8

/-- The Tier A weir through which Reservoir channel `k` is reached (01 R17, 07 R144). -/
def rsvWeir (k : Nat) : Nat := if k < 16 then 16 + k else 16 * 8 + (k - 16)

/-- The weir that serves a node. -/
def nodeWeir (n : Nat) : Nat := if n < 352 then n else rsvWeir (n - 352)

/-- A Tier A weir faces down to a Reservoir port (01 R17). -/
def facesReservoir (n : Nat) : Bool := n < 160 && (n / 16 = 1 || n / 16 = 8)

/-- A Tier A weir faces down to a gateway column (01 R17). -/
def facesGateway (n : Nat) : Bool := n < 160 && (n / 16 = 4 || n / 16 = 5) && n % 2 = 0

/-- The weir at the other end of V, where V joins another weir (R166, R167, 01 R17). -/
def vLink (n : Nat) : Option Nat :=
  if n < 160 then
    if facesReservoir n then none
    else if facesGateway n then some (320 + 8 * (if n / 16 = 4 then 1 else 2) + n % 16 / 2)
    else some (n + 160)
  else if n < 320 then
    if facesReservoir (n - 160) || facesGateway (n - 160) then none else some (n - 160)
  else if weirY n = 1 then some (16 * 4 + 2 * weirX n)
  else if weirY n = 2 then some (16 * 5 + 2 * weirX n)
  else none

/-- The neighbour through mesh port N, E, S, W (0 to 3). -/
def meshLink (n p : Nat) : Option Nat :=
  let w := if n < 320 then 16 else 8
  let h := if n < 320 then 10 else 4
  let x := weirX n
  let y := weirY n
  match p with
  | 0 => if y + 1 < h then some (n + w) else none
  | 1 => if x + 1 < w then some (n + 1) else none
  | 2 => if 0 < y then some (n - w) else none
  | 3 => if 0 < x then some (n - 1) else none
  | _ => none

/-- Where a train that leaves by a port arrives: the weir and the port it arrives on (R167). -/
def linkTo (n p : Nat) : Option (Nat × Nat) :=
  if p < 4 then (meshLink n p).map fun m => (m, (p + 2) % 4)
  else if p = 4 then (vLink n).map fun m => (m, 4)
  else none

/-- Kind of crossing at a weir's V port: cost in Leat cycles at a pulse rate in kHz (R189). -/
def crossCost (khz n : Nat) : Nat :=
  let c (ns : Nat) := ceilDiv (2 * ns * khz) 1000000
  if facesReservoir n then c 5 + c 16
  else if facesGateway n ∨ nodeDie n = 2 then c 9 + c 16
  else 1 + c 16

/-! ### Routes (R172, R175, R180, R181) -/

def wpNode (w : BitVec 10) : Nat := w.toNat % 512
def wpV (w : BitVec 10) : Bool := w.getLsbD 9

/-- The waypoints of a list up to the first that names no weir (R172). -/
def wpList (l : List (BitVec 10)) : List (BitVec 10) := l.takeWhile fun w => wpNode w ≠ 0x1FF

/-- Mesh ports that reduce the distance, E or W first (R175 item 3). -/
def towards (n t : Nat) : List Nat :=
  (if weirX n < weirX t then [1] else if weirX t < weirX n then [3] else []) ++
  (if weirY n < weirY t then [0] else if weirY t < weirY n then [2] else [])

/-- What R175 makes of a header at a weir: its productive ports in order, the index of the next waypoint now, and that index once the
header leaves by a productive port. -/
structure Ranked where
  ports : List Nat
  now : Nat
  left : Nat

/-- The ranking (R175). `wps` are the waypoints that remain, the first of them number `i`. -/
def rank (n dest : Nat) : List (BitVec 10) → Nat → Ranked
  | w :: wps, i =>
    if nodeDie n ≠ nodeDie (wpNode w) then ⟨[4], i, i⟩
    else if n = wpNode w then (if wpV w then ⟨[4], i, i + 1⟩ else rank n dest wps (i + 1))
    else ⟨towards n (wpNode w), i, i⟩
  | [], i =>
    let t := nodeWeir dest
    ⟨if nodeDie n ≠ nodeDie t then [4] else if n = t then [if dest < 352 then 5 else 4] else towards n t, i, i⟩

/-- WPI of a header with index `i`: 3 when no waypoint remains (R170). -/
def wpiOf (wps : List (BitVec 10)) (i : Nat) : Nat := if (wpList wps).length ≤ i then 3 else i

def Packet.rank (p : Packet) (n : Nat) : Ranked := Machine.rank n p.dest ((wpList p.wps).drop p.wpi) p.wpi

/-- A valid entry of the route table in force, by its two words (R180, R182, R205). -/
def rteHas (w0 : W32) (dest : Nat) : Bool :=
  w0.getLsbD 31 && decide (field w0 0 9 ≤ dest) && decide (dest ≤ field w0 9 9)

def rteWps (w0 w1 : W32) : List (BitVec 10) :=
  [BitVec.ofNat 10 (field w0 18 10), BitVec.ofNat 10 (field w1 0 10), BitVec.ofNat 10 (field w1 10 10)]

/-- An entry is invalid under R182. -/
def rteInvalid (w0 w1 : W32) : Bool :=
  decide (field w0 9 9 < field w0 0 9) ||
  (wpList (rteWps w0 w1)).any fun w =>
    decide (351 < wpNode w) || (wpV w && (vLink (wpNode w)).isNone)

/-- The waypoints a table gives a destination: the lowest-numbered valid entry, else none on the source's own die; `none`
when there is no route (R180). -/
def routeIn (n dest : Nat) (rte : Tab W32) (bad : List Nat) : Option (List (BitVec 10)) :=
  match (List.range 256).find? fun e => rteHas (tget rte 0 (2 * e)) dest && !bad.contains e with
  | some e => some (wpList (rteWps (tget rte 0 (2 * e)) (tget rte 0 (2 * e + 1))))
  | none => if nodeDie n = nodeDie (nodeWeir dest) ∧ dest < 352 then some [] else none

/-- Waypoints of a response (R181): those with V, reversed, each replaced by the weir at the other end. -/
def respWps (wps : List (BitVec 10)) : List (BitVec 10) :=
  ((wpList wps).filter wpV).reverse.filterMap fun w =>
    (vLink (wpNode w)).map fun m => BitVec.ofNat 10 (m + 512)

/-- A path of weirs without contention: the weirs passed, mesh hops and crossing cost. -/
structure Path where
  weirs : List Nat
  hops : Nat
  cost : Nat

/-- Walk from a weir to a destination by the first productive port at each weir. -/
def walk (khz dest : Nat) : Nat → Nat → List (BitVec 10) → Option Path
  | 0, _, _ => none
  | fuel + 1, n, wps =>
    let r := rank n dest wps 0
    let i := r.left
    match r.ports with
    | 5 :: _ => some ⟨[n], 0, 0⟩
    | 4 :: _ =>
      match vLink n with
      | some m => (walk khz dest fuel m (wps.drop i)).map fun p =>
          ⟨n :: p.weirs, p.hops, p.cost + crossCost khz n⟩
      | none => if 352 ≤ dest ∧ n = nodeWeir dest then some ⟨[n], 0, crossCost khz n⟩ else none
    | p :: _ =>
      match meshLink n p with
      | some m => (walk khz dest fuel m (wps.drop i)).map fun q => ⟨n :: q.weirs, q.hops + 1, q.cost⟩
      | none => none
    | [] => none

/-- The path of a source interface to a destination; a Reservoir front end's path begins with its port crossing. -/
def pathOf (khz src dest : Nat) (wps : List (BitVec 10)) : Option Path :=
  (walk khz dest 200 (nodeWeir src) wps).map fun p =>
    if src < 352 then p else { p with cost := p.cost + crossCost khz (nodeWeir src) }

/-! ### Interfaces -/

/-- Units of receive space of a reservation for a size code (R183, R204). -/
def rxUnits (size : BitVec 2) : Nat := 16 * 2 ^ size.toNat

/-- Receive store and response store of an interface (R183). -/
def rxStore (n : Nat) : Nat := if n < 320 then 2048 else 4096

/-- Reservations an interface can hold as target (R183). -/
def maxRsv (n : Nat) (size : BitVec 2) : Nat := min 256 (rxStore n / rxUnits size)

/-- The PCI Express endpoint, the Lockkeeper, the Flume engines and the Gwynior endpoints (R166). -/
def nodePcie := 328
def nodeLk := 329
def nodeFlumeRead := 330
def nodeFlumeWrite := 331

/-- Gwynior endpoint of a link (R166, 11 R271). -/
def nodeLink (l : Nat) : Nat := 332 + l

/-- The link of a Gwynior endpoint's node. -/
def linkOfNode (n : Nat) : Nat := n - 332

def isLinkNode (n : Nat) : Bool := 332 ≤ n && n ≤ 347

/-- DEST of a deep address (R179, 07 R141); none for a reserved region or a cistern address with a bad field. -/
def destOf (a : BitVec 48) : Option Nat :=
  let r := a.toNat / 2 ^ 44
  let x := a.toNat % 2 ^ 44
  if r = 0 then some (352 + x / 224 % 32)
  else if r ≤ 8 then some (320 + (r - 1))
  else if r = 0xC then
    let px := x / 2 ^ 20 % 64
    let py := x / 2 ^ 14 % 64
    if x / 2 ^ 27 ≠ 0 ∨ 39 < py then none
    else some (160 * (x / 2 ^ 26 % 2) + 16 * (py / 4) + px / 4)
  else if r = 0xF then some nodePcie
  else none

/-- Units of a packet of `len` words (R169). -/
def pktUnits (len : Nat) : Nat := ceilDiv len 8 + 1

/-- Units of response space a request needs at its source (R183). -/
def respSpace (r : Request) : Nat := if r.cmd = .read then pktUnits r.len else 1

/-- Domain of a node (17 R413, 14 R347): quadrants of the Tiers, Sill core, lane groups are judged apart. -/
def plotQuadrant (px py : Nat) : Nat := (if 32 ≤ px then 1 else 0) + (if 20 ≤ py then 2 else 0)

/-- Quadrant domain of a plot: 2 to 5 on Tier A, 6 to 9 on Tier B (14 R347). -/
def plotDomain (plot : Nat) : Nat := 2 + 4 * (plot / 2560) + plotQuadrant (plot / 40 % 64) (plot % 40)

/-- Host plot of an offtake's weir (02 R45), and the quadrant domain that holds it. -/
def hostPlot (n : Nat) : Nat := n / 160 * 2560 + (4 * weirX n + 1) * 40 + (4 * weirY n + 1)
def nodeQuad (n : Nat) : Nat := plotDomain (hostPlot n)

/-! ### Reservations (R183, R184) -/

/-- Count a non-OK outcome at a source interface (R199). -/
def State.niError (n : Nat) (st : Status) (dest : Nat) (cmd : Cmd) (s : State) : State :=
  s.modNode n fun r =>
    { r with errCnt := satInc r.errCnt, lastStatus := BitVec.ofNat 4 st.code, lastNode := BitVec.ofNat 9 dest,
             lastCmd := BitVec.ofNat 3 cmd.code }

/-- Reservations held at a target by its list of them. -/
def NodeRec.held (r : NodeRec) : Nat := (r.tgt.filter fun e => e.2.isSome).length

/-- A splice fallback sender's reservation stands at the node, which is a Tier weir, and the node's own sender holds one at its twin
(R184, 04 R85). The spec numbers none: it is RSV 0 of every Tier weir, which no other reservation takes (DESIGN CHOICE, log
entry 153). -/
def State.fbHeldAt (s : State) (n : Nat) : Bool := s.leat.fbHeld && decide (n < 320)

/-- The other weir of a Tier weir's pair (04 R85). -/
def fbTwin (n : Nat) : Nat := if n < 160 then n + 160 else n - 160

/-- Reservations held at a target (LEAT_NI_STATUS.RSV_TGT). -/
def State.heldAt (s : State) (n : Nat) : Nat := (s.nodeAt n).held + if s.fbHeldAt n then 1 else 0

/-- The interface and its twin hold a fallback reservation on which nothing is outstanding (04 R85). -/
def NodeRec.fbClear (x : NodeRec) : NodeRec := { x with fbOut := [], fbUsed := 0, fbTag := 0, rxFb := [], fbNext := 0 }

/-- Ask a target for a reservation (R184, R196): granted, or the refusal. -/
def State.grant (src tgt : Nat) (standing : Bool) (s : State) : State × Option Status :=
  let t := s.nodeAt tgt
  if (s.nodeAt src).srcs.any fun x => x.target = tgt then (s, none)
  else if t.pwrPend then (s, some .powerPending)
  else if maxRsv tgt t.size ≤ s.heldAt tgt then (s, some .refused)
  else
    let b := rxUnits t.size
    match (List.range 256).find? fun i => (tget t.tgt none i).isNone && (decide (i ≠ 0) || decide (320 ≤ tgt)) with
    | none => (s, some .refused)
    | some i =>
      ((s.modNode tgt fun r => { r with tgt := tset r.tgt none i (some { src := src, standing := standing, credit := b }) }).modNode
          src fun r => { r with srcs := r.srcs ++ [{ target := tgt, rsv := i, standing := standing, size := b, credit := b }] },
        none)

/-- Release the reservation of a source at a target. -/
def State.releaseRsv (src tgt : Nat) (s : State) : State :=
  (s.modNode src fun r => { r with srcs := r.srcs.filter fun x => x.target ≠ tgt }).modNode tgt fun r =>
    { r with tgt := r.tgt.filter fun e => match e.2 with | some t => decide (t.src ≠ src) | none => true }

/-- Release every dynamic reservation: step 2 of the boundary is complete (R184). -/
def State.releaseDynamic (s : State) : State :=
  (tkeys s.leat.node).foldl (fun s n =>
    s.modNode n fun r =>
      { r with srcs := r.srcs.filter (·.standing),
               retry := [],
               tgt := r.tgt.filter fun e => match e.2 with | some t => t.standing | none => false }) s

/-- Some piece of the request has been sent (R183, R186). -/
def Request.begun (r : Request) : Bool := decide (0 < r.sent) || r.lastTag.isSome

/-- A dynamic reservation is idle: nothing of its source is outstanding on it (R184). -/
def State.rsvIdle (src tgt : Nat) (s : State) : Bool := !((s.nodeAt src).reqs.any fun r => r.dest = tgt && r.begun)

/-- RESERVATION_IDLE_RELEASE (R184). -/
def execReservationIdleRelease (src tgt : Fin 384) (s : State) : Host.Outcome State Fault Refusal :=
  .next (if !s.gated && ((s.nodeAt src).srcs.any fun x => x.target = tgt && !x.standing) && s.rsvIdle src tgt
    then s.releaseRsv src tgt else s)

/-! ### Issue and injection (R180, R183 to R187) -/

/-- Append a request to an interface (R183). -/
def State.enqueue (n : Nat) (r : Request) (s : State) : State :=
  s.modNode n fun x => { x with reqs := x.reqs ++ [r] }

/-- The route of a source interface to a destination (R180). -/
def State.routeOf (s : State) (n dest : Nat) : Option (List (BitVec 10)) :=
  routeIn n dest (s.nodeAt n).rteAct (s.nodeAt n).rteBad

/-- The checks a source makes before it sends (R197 items 1 and 2). -/
def State.sourceCheck (s : State) (n : Nat) (addr : BitVec 48) : Except Status Nat :=
  match destOf addr with
  | none => .error .badAddress
  | some d => if (s.routeOf n d).isNone then .error .noRoute else .ok d

/-- A self-test of a weir runs: admission is closed (19 R457). -/
def State.bistWeir (s : State) : Bool := match s.bist.run with
  | some r => r.kind = 4
  | none => false

/-- Admission of a new request of an interface (05 R107, R110): while the window runs to every one; between windows to those of the host
and the Lockkeeper, and to the same two kinds from links; in step 2 to what a link brought before its DRAIN (11 R289). -/
def State.admits (s : State) (n : Nat) (r : Request) : Bool :=
  match s.win.st with
  | .running => true
  | .ready | .held | .notReleased =>
    s.leat.admission && !s.bistWeir && (n = nodePcie || n = nodeLk || (isLinkNode n && decide (r.origin ≠ 0)))
  | .boundary => decide (s.win.step = 2) && isLinkNode n && r.early
  | _ => false

/-- Traffic counts against budget and limit only while the window runs (R187). -/
def State.counts (s : State) : Bool := s.win.st = .running || s.win.st = .boundary

/-- Words of the next piece of a request on a reservation of `b` units, and whether it is the last (R186). -/
def Request.piece (r : Request) (b : Nat) : Nat × Bool :=
  if r.cmd = .read then (0, true)
  else
    let rest := r.len - r.sent
    if pktUnits rest ≤ b then (rest, true) else (8 * (b - 1), false)

/-- Units of the next piece. -/
def Request.pieceUnits (r : Request) (b : Nat) : Nat := if r.cmd = .read then 1 else pktUnits (r.piece b).1

/-- Units of all the pieces of a request on a reservation of `b` units (R186). -/
def Request.allUnits (r : Request) (b : Nat) : Nat :=
  if r.cmd = .read then 1 else r.len / (8 * (b - 1)) * b + (if r.len % (8 * (b - 1)) = 0 then 0 else pktUnits (r.len % (8 * (b - 1))))

/-- The interface's budget covers a number of units more (R187). -/
def NodeRec.covers (x : NodeRec) (u : Nat) : Bool := x.budget = 0xFFFFFF || decide (x.used.toNat + u ≤ x.budget.toNat)

/-- Admission of a request that has sent nothing: 05 R107 and R110, and the budget of R187, which covers the whole request or makes it
wait. An offtake's request was counted as the fabric issued it, a Flume burst's as it was granted (09 R218). -/
def State.admitsNow (s : State) (n : Nat) (r : Request) (b : Nat) : Bool :=
  n < 320 || r.admitted ||
  (s.admits n r && (decide (s.win.st ≠ .running) || (s.nodeAt n).covers (r.allUnits b)))

/-- A request may send its next piece now: credit, in-flight limit, and for its first piece admission and response space
(R183, R186, R187). -/
def State.canSend (s : State) (n : Nat) (r : Request) : Bool :=
  let x := s.nodeAt n
  match x.srcs.find? fun v => v.target = r.dest with
  | none => false
  | some v =>
    let u := r.pieceUnits v.size
    r.lastTag.isNone && decide (u ≤ v.credit)
    && (!s.counts || decide (x.inflight + u ≤ x.limit.toNat))
    && (r.begun || (s.admitsNow n r v.size
      && decide ((x.reqs.foldl (fun a q => if q.begun then a + respSpace q else a) 0) + respSpace r ≤ rxStore n)))

/-- The first request that may send and that no earlier unsent request to its target precedes (R185). -/
def State.nextSend (s : State) (n : Nat) : Option Request :=
  let rec go (seen : List Nat) : List Request → Option Request
    | [] => none
    | r :: t =>
      if r.lastTag.isSome then go seen t
      else if seen.contains r.dest then go seen t
      else if s.canSend n r then some r
      else go (r.dest :: seen) t
  go [] (s.nodeAt n).reqs

/-- Replace the first request equal to `r`. -/
def replaceReq (r r' : Request) : List Request → List Request
  | [] => []
  | q :: t => if q = r then r' :: t else q :: replaceReq r r' t

/-- The port by which an interface injects: L, and V of its weir for a Reservoir channel (R177). -/
def injPort (n : Nat) : Nat := if n < 352 then 5 else 4

/-- A train has arrived on a port of a weir. -/
def State.atPort (s : State) (w p : Nat) : Bool := s.leat.net.any fun t => decide (t.weir = w) && decide (t.port = p)

/-- The through ports of a weir: mesh ports, and V where it joins another weir (R167, R177). -/
def throughPorts (w : Nat) : List Nat :=
  ((List.range 4).filter fun p => (meshLink w p).isSome) ++ if (vLink w).isSome then [4] else []

/-- An injection has its turn: some through port of the weir has no train arriving, and the train before it has gone (R177). -/
def State.mayInject (s : State) (n : Nat) : Bool :=
  let w := nodeWeir n
  (throughPorts w).any (fun p => !s.atPort w p) && !s.atPort w (injPort n)

/-- Put a train into the network at its interface's weir (R177). A Reservoir channel's has crossed V (R176). -/
def State.inject (n : Nat) (p : Packet) (s : State) : State :=
  s.modLeat fun l =>
    { l with net := l.net ++
        [{ pkt := if n < 352 then p else { p with age := crossCost s.fab.pulseKhz (nodeWeir n) }, weir := nodeWeir n, port := injPort n }] }

/-- Units that a link's request took return to the link's credit, when the Leat has accepted it (11 R288). -/
def State.linkCredit (i u : Nat) (s : State) : State :=
  s.modLink i fun x => { x with creditOut := x.creditOut + u, ctrlDue := true }

/-- Send the next piece of a request (R185, R186, R187). -/
def State.sendPiece (n : Nat) (r : Request) (s : State) : State :=
  let x := s.nodeAt n
  match x.srcs.find? fun v => v.target = r.dest with
  | none => s
  | some v =>
    let (w, last) := r.piece v.size
    let u := r.pieceUnits v.size
    let cmd := if r.cmd = .read then Cmd.read else if last then .write else .writeMore
    let p : Packet :=
      { dest := r.dest, src := n, wps := (s.routeOf n r.dest).getD [], wpi := wpiOf ((s.routeOf n r.dest).getD []) 0, cmd := cmd,
        tag := v.nextTag,
        len := if r.cmd = .read then r.len else w, rsv := v.rsv, addr := r.addr + BitVec.ofNat 48 r.sent,
        remote := r.remote, words := (r.words.drop r.sent).take w }
    let r' := { r with sent := r.sent + w, units := r.units + u, admitted := true,
                       lastTag := if last then some v.nextTag else none }
    let s := s.modNode n fun x =>
      { x with
        srcs := x.srcs.map fun y => if y.target = r.dest then
          { y with credit := y.credit - u, nextTag := (y.nextTag + 1) % 128 } else y
        reqs := replaceReq r r' x.reqs
        inflight := x.inflight + u
        used := if n < 320 ∨ r.begun ∨ r.admitted ∨ !s.counts then x.used else satAdd x.used (r.allUnits v.size) }
    let s := match r.asker with
      | .gwynior i _ _ => if last then s.linkCredit i r.linkUnits else s
      | _ => s
    s.inject n p

/-- Units of a fallback packet (04 R85). -/
def fbUnits : Nat := 5

/-- The next packet of a splice fallback sender, where its reservation's credit covers it (R183, 04 R85). -/
def State.fbSend (s : State) (n : Nat) : Option Packet :=
  if s.fbHeldAt n && decide ((s.nodeAt n).fbUsed + fbUnits ≤ rxUnits (s.nodeAt (fbTwin n)).size) then (s.nodeAt n).fbOut.head? else none

/-- An interface injects one train: a response or credit first, then a fallback packet, else the first request that may be sent. Of an
isolated interface only what its edge stage answers (R183, R193). -/
def State.injectOne (n : Nat) (s : State) : State :=
  match (s.nodeAt n).resp with
  | p :: t => (s.modNode n fun x => { x with resp := t }).inject n p
  | [] =>
    if (s.nodeAt n).isolated then s
    else match s.fbSend n with
    | some p =>
      (s.modNode n fun x => { x with fbOut := x.fbOut.drop 1, fbUsed := x.fbUsed + fbUnits, fbTag := (x.fbTag + 1) % 128 }).inject n
        { p with tag := (s.nodeAt n).fbTag }
    | none =>
      match s.nextSend n with
      | some r => s.sendPiece n r
      | none => s

/-- TRAIN_INJECTION: an interface injects a train; through traffic wins over it (R177, R203). -/
def execTrainInjection (n : Fin 384) (s : State) : Host.Outcome State Fault Refusal :=
  .next (if s.nodeStill n ∨ !s.mayInject n then s else s.injectOne n)

/-! ### At a target's edge stage (R193, R195, 18 R446) -/

/-- Host requests can be sent: the link is up and Bus Master Enable is 1; D3hot acts as with it 0 (07 R162, 12 R297). -/
def State.hostOpen (s : State) : Bool := s.host.linkUp && s.domRun 36 && s.host.pf0.bme && !s.host.pf0.d3hot

/-- The plot whose cistern a packet's address names (07 R141). -/
def cisternPlot (a : BitVec 48) : Nat :=
  let x := a.toNat % 2 ^ 44
  plotIx (x / 2 ^ 26 % 2) (x / 2 ^ 20 % 64) (x / 2 ^ 14 % 64)

/-- The domain of the target that a request is for is off (R195): the quadrant of the plot at a cistern service, the path to the host at
the PCI Express endpoint, the lane groups of a Gwynior endpoint. -/
def State.targetOff (s : State) (n : Nat) (a : BitVec 48) : Bool :=
  if n < 320 then !s.domRun (plotDomain (cisternPlot a))
  else if n = nodePcie then !s.hostOpen
  else isLinkNode n && !s.domRun (20 + field (s.linkAt (linkOfNode n)).cfg0 0 4)

/-- The packet asks its target for a response or for units (R171). -/
def Cmd.asks : Cmd → Bool
  | .read | .write | .writeMore => true
  | _ => false

/-- What the edge stage of a node absorbs of what arrives, and the status it answers with (R193, R195, R197). -/
def State.edgeStatus (s : State) (n : Nat) (p : Packet) : Option Status :=
  if (s.nodeAt n).isolated then some .targetIsolated
  else if p.cmd.asks && s.targetOff n p.addr then some .domainOff
  else none

/-- Return units to a reservation's receive space at the target. -/
def State.returnUnits (n rsv u : Nat) (s : State) : State :=
  s.modNode n fun x =>
    { x with tgt := tmod x.tgt none rsv fun o => o.map fun t => { t with credit := min (rxUnits x.size) (t.credit + u) } }

/-- The response packet of a request (R170, R171, R181). -/
def respond (p : Packet) (st : Status) (words : List MWord) : Packet :=
  { dest := p.src, src := p.dest, wps := respWps p.wps, wpi := wpiOf (respWps p.wps) 0,
    cmd := if p.cmd = .read then .readResp else .writeResp,
    tag := p.tag, len := words.length, rsv := p.rsv, addr := p.addr, status := st, words := words }

/-- The CREDIT packet of a piece or of a fallback packet (R171, R183). -/
def creditOf (p : Packet) : Packet :=
  { dest := p.src, src := p.dest, wps := respWps p.wps, wpi := wpiOf (respWps p.wps) 0, cmd := .credit, tag := p.tag,
    len := pktUnits p.words.length, rsv := p.rsv }

/-- What an absorbed packet brings its source: the response with the status, or the units of a piece; a response or CREDIT brings none. -/
def edgeAnswer (p : Packet) (st : Status) : List Packet :=
  match p.cmd with
  | .read | .write => [respond p st []]
  | .writeMore | .fallback => [creditOf p]
  | _ => []

/-- The next TAG that a target executes, past those that the edge stage has absorbed (R185). -/
def nextTagOf : Nat → Nat → List Nat → Nat × List Nat
  | 0, k, gone => (k, gone)
  | fuel + 1, k, gone => if gone.contains k then nextTagOf fuel ((k + 1) % 128) (gone.erase k) else (k, gone)

/-- A TAG of a reservation is done with: executed or absorbed (R185). -/
def TgtRsv.tagDone (k : Nat) (t : TgtRsv) : TgtRsv :=
  let g := t.gone ++ [k]
  let p := nextTagOf g.length t.nextTag g
  { t with nextTag := p.1, gone := p.2 }

/-- An edge stage has absorbed a packet: counted, with its event; its TAG is done with (R193, R195, R204). -/
def State.countAbsorbed (n : Nat) (p : Packet) (s : State) : State :=
  (s.modNode n fun x =>
    { x with
      absCnt := satInc x.absCnt
      tgt := if p.cmd.asks then tmod x.tgt none p.rsv fun o => o.map fun t => if t.src = p.src then t.tagDone p.tag else t else x.tgt
      fbNext := if p.cmd = .fallback then (p.tag + 1) % 128 else x.fbNext }).niEvt n 3

/-- Absorb a packet at the edge stage of its node (R193, R195). -/
def State.absorb (n : Nat) (p : Packet) (st : Status) (s : State) : State :=
  (s.countAbsorbed n p).modNode n fun x => { x with resp := x.resp ++ edgeAnswer p st }

/-! ### Through a weir (R174 to R177) -/

/-- A train that leaves the network comes to its node: its units lie in its reservation's receive space (R183, R205). -/
def NodeRec.accept (p : Packet) (x : NodeRec) : NodeRec :=
  match p.cmd with
  | .readResp | .writeResp => { x with rxResp := x.rxResp ++ [p] }
  | .credit => { x with rxCredit := x.rxCredit ++ [p] }
  | .fallback => { x with rxFb := x.rxFb ++ [p] }
  | .reserved => { x with rxReq := x.rxReq ++ [p] }
  | _ =>
    { x with
      rxReq := x.rxReq ++ [p]
      tgt := tmod x.tgt none p.rsv fun o => o.map fun t =>
        if t.src = p.src then { t with credit := t.credit - pktUnits p.words.length } else t }

/-- Deliver a train that leaves the network at a node, or absorb it at the edge stage (R193, R195, R203). -/
def State.deliver (n : Nat) (p : Packet) (s : State) : State :=
  match s.edgeStatus n p with
  | some st => s.absorb n p st
  | none => s.modNode n (NodeRec.accept p)

/-- Is a port an output of the weir that a header may take when productive? -/
def portExists (n p : Nat) (dest : Nat) : Bool :=
  if p = 5 then true
  else if p = 4 then (vLink n).isSome || (352 ≤ dest && nodeWeir dest = n)
  else (meshLink n p).isSome

/-- The port a header takes: the first productive port that is free, else the free mesh port of lowest index, else V
where it joins another weir (R175). -/
def takePort (n : Nat) (t : Train) (busy : List Nat) : Option Nat :=
  let free p := !busy.contains p
  match (t.pkt.rank n).ports.find? fun p => free p && portExists n p t.pkt.dest with
  | some p => some p
  | none =>
    match (List.range 4).find? fun p => free p && (meshLink n p).isSome with
    | some p => some p
    | none => if free 4 ∧ (vLink n).isSome then some 4 else none

/-- AGE after a weir is passed (R176). -/
def ageUp (age n : Nat) : Nat := min 511 (age + n)

/-- The header as it leaves a weir by a port: WPI and AGE (R170, R175, R176). -/
def Packet.leave (pk : Packet) (khz n p : Nat) : Packet :=
  let r := pk.rank n
  { pk with
    wpi := wpiOf pk.wps (if r.ports.contains p then r.left else r.now)
    age := ageUp pk.age (1 + if p = 4 then crossCost khz n else 0) }

/-- A train comes down to a gateway whose edge stage a forced Sill reset has closed: a request is answered PATH_LOST there, and all else
is discarded (18 R446). -/
def State.gateAbsorb (n : Nat) (p : Packet) (s : State) : State :=
  if p.cmd.asks then
    (s.countAbsorbed p.dest p).modLeat fun l =>
      { l with net := l.net ++ (edgeAnswer p .pathLost).map fun q => { pkt := q, weir := n, port := 4 } }
  else s

/-- Send one header out of its weir (R175, R176). -/
def State.hopOne (n : Nat) (t : Train) (busy : List Nat) (s : State) : State × List Nat :=
  match takePort n t busy with
  | none => (s.modLeat fun l => { l with net := l.net ++ [t] }, busy)
  | some p =>
    let pk := t.pkt.leave s.fab.pulseKhz n p
    let s := if p = 5 then s.deliver n pk
      else if p = 4 ∧ (vLink n).isNone then s.deliver pk.dest pk
      else if p = 4 ∧ facesGateway n ∧ s.leat.gateClosed then s.gateAbsorb n pk
      else match linkTo n p with
        | some (m, q) => s.modLeat fun l => { l with net := l.net ++ [{ pkt := pk, weir := m, port := q }] }
        | none => s
    (s, p :: busy)

/-- V of a gateway column whose receiver still holds a train is not free: its sender starts one only when there is room for the whole
(R168). -/
def State.columnFull (s : State) (n : Nat) : Bool :=
  (facesGateway n || decide (nodeDie n = 2)) && match vLink n with
    | some m => s.atPort m 4
    | none => false

/-- WEIR_HOP: the headers that have arrived at a weir are ranked, arbitrated by AGE then arrival port, and each sent
(R175, R176). `held` names the output ports that earlier trains still hold (R174). -/
def execWeirHop (n : Fin 352) (held : BitVec 6) (s : State) : Host.Outcome State Fault Refusal :=
  let here := sortBy (fun t : Train => (511 - t.pkt.age) * 8 + t.port) (s.leat.net.filter fun t => t.weir = n.val)
  let s0 := s.modLeat fun l => { l with net := l.net.filter fun t => t.weir ≠ n.val }
  .next (if s.nodeStill n then s else (here.foldl (fun (a : State × List Nat) t => a.1.hopOne n t a.2)
    (s0, (if s.columnFull n then [4] else []) ++ (List.range 6).filter fun p => held.getLsbD p)).1)

/-! ### At a target (R183, R185) -/

/-- First of two statuses that is not OK (R186). -/
def Status.first (a b : Status) : Status := if a = .ok then b else a

/-- Answer an executed request (R183, R186): a piece returns its units with CREDIT, a last piece with the response,
which carries the first non-OK status of any piece. An isolated target injects nothing (R193). -/
def State.answer (n : Nat) (p : Packet) (st : Status) (words : List MWord) (s : State) : State :=
  let s := s.returnUnits n p.rsv (pktUnits p.words.length)
  let before := match tget (s.nodeAt n).tgt none p.rsv with | some t => t.pieceStatus | none => .ok
  if p.cmd = .writeMore then
    let s := s.modNode n fun x =>
      { x with tgt := tmod x.tgt none p.rsv fun o => o.map fun t => { t with pieceStatus := t.pieceStatus.first st } }
    if (s.nodeAt n).isolated then s else s.modNode n fun x => { x with resp := x.resp ++ [creditOf p] }
  else
    let s := s.modNode n fun x =>
      { x with tgt := tmod x.tgt none p.rsv fun o => o.map fun t => { t with pieceStatus := .ok } }
    if (s.nodeAt n).isolated then s
    else s.modNode n fun x =>
      { x with resp := x.resp ++ [respond p (if p.cmd = .read then st else before.first st) words] }

/-- A request meets its target's domain off after it has been delivered: the edge stage absorbs it all the same (R195). -/
def State.answerOff (n : Nat) (p : Packet) (s : State) : State :=
  ((s.modNode n fun x => { x with absCnt := satInc x.absCnt }).niEvt n 3).answer n p .domainOff []

/-- The packet is the next of its reservation in TAG order (R185). -/
def NodeRec.inOrder (x : NodeRec) (p : Packet) : Bool :=
  match tget x.tgt none p.rsv with
  | some t => t.src = p.src && t.nextTag = p.tag
  | none => false

/-- LEAT_REQUEST_RECEIVE: a target interface takes the first arrival that may be executed (R171, R185). -/
def execLeatRequestReceive (n : Fin 384) (s : State) : Host.Outcome State Fault Refusal :=
  let x := s.nodeAt n
  .next (if s.nodeStill n then s
    else match x.rxReq.find? fun p => p.cmd = .reserved || x.inOrder p with
    | none => s
    | some p =>
      let s := s.modNode n fun x => { x with rxReq := x.rxReq.erase p }
      if p.cmd = .reserved then
        -- BAD_CMD: discarded, counted and logged (R171)
        (((s.modNode n fun x => { x with absCnt := satInc x.absCnt }).log 0x0702 false false (w32 n.val) 0 0).niEvt n 7)
      else
        s.modNode n fun x =>
          { x with
            tgt := tmod x.tgt none p.rsv fun o => o.map (TgtRsv.tagDone p.tag)
            work := x.work ++ [p] })

/-! ### Splice fallback packets (04 R85 to R87) -/

/-- The node that receives a path's packets of a direction (04 R85). -/
def fbReceiver (path dir : Nat) : Nat := if dir = 0 then path + 160 else path

/-- The turn count that a packet's 48-bit field names, at or before the present one. -/
def State.fbTurn (s : State) (a : BitVec 48) : Nat :=
  s.win.turnCount - (s.win.turnCount + 2 ^ 48 - a.toNat) % 2 ^ 48

/-- FALLBACK_PACKET_RECEIVE: the receiving interface of a path stores the values of the oldest packet that has arrived, and returns its
units (R183, R185, 04 R86, R87). -/
def execFallbackPacketReceive (path : Fin 160) (dir : Fin 2) (s : State) : Host.Outcome State Fault Refusal :=
  let n := fbReceiver path dir
  .next (if s.nodeStill n then s
    else match (s.nodeAt n).rxFb.find? fun p => p.tag = (s.nodeAt n).fbNext with
    | none => s
    | some p =>
      let s := s.modNode n fun x => { x with rxFb := x.rxFb.erase p, fbNext := (x.fbNext + 1) % 128 }
      let s := if (s.nodeAt n).isolated then s else s.modNode n fun x => { x with resp := x.resp ++ [creditOf p] }
      s.modSpl fun x => x.storeFallback path dir (s.fbTurn p.addr) (p.words.map (·.data)))

/-- CREDIT_RECEIVE: the source adds the units to the reservation's credit (R183). RSV 0 from its twin is the fallback sender's. -/
def execCreditReceive (n : Fin 384) (s : State) : Host.Outcome State Fault Refusal :=
  .next (if s.nodeStill n then s else match (s.nodeAt n).rxCredit with
    | [] => s
    | p :: t =>
      s.modNode n fun x =>
        if n.val < 320 ∧ p.rsv = 0 ∧ p.src = fbTwin n then { x with rxCredit := t, fbUsed := x.fbUsed - p.len }
        else { x with
          rxCredit := t
          inflight := x.inflight - p.len
          srcs := x.srcs.map fun v => if v.target = p.src then { v with credit := min v.size (v.credit + p.len) } else v
          reqs := x.reqs.map fun r => if r.dest = p.src ∧ r.lastTag.isNone ∧ 0 < r.units
            then { r with units := r.units - p.len } else r })

/-- A response arrives at its source: the units return, the request leaves the interface (R183, R199). Gives the request
with its status. -/
def State.takeResponse (n : Nat) (s : State) : State × Option (Request × Status × List MWord) :=
  let x := s.nodeAt n
  match x.rxResp with
  | [] => (s, none)
  | p :: t =>
    match x.reqs.find? fun r => r.dest = p.src && r.lastTag = some p.tag with
    | none => (s.modNode n fun x => { x with rxResp := t }, none)
    | some r =>
      let s := s.modNode n fun x =>
        { x with
          rxResp := t
          reqs := x.reqs.erase r
          inflight := x.inflight - r.units
          srcs := x.srcs.map fun v => if v.target = r.dest then { v with credit := min v.size (v.credit + r.units) } else v }
      (if p.status = .ok then s else s.niError n p.status r.dest r.cmd, some (r, p.status, p.words))

/-! ### Isolation (R193, R194) -/

/-- Isolate a node's edge stage (R193). -/
def State.isolate (n : Nat) (s : State) : State :=
  match (s.nodeAt n).notice with
  | none => s
  | some (src, tag) =>
    let s := s.modNode n fun x => { x with isolated := true, notice := none, resp := [] }
    (s.log 0x0701 true false (w32 (src + 2 ^ 16 * n)) (w32 tag) 0).niEvt n 2

/-- ISOLATION: the target's edge stage is isolated (R193). -/
def execIsolation (n : Fin 384) (s : State) : Host.Outcome State Fault Refusal :=
  .next (if s.gated then s else s.isolate n)

/-- The next TAG of the reservation that a source holds at a target. -/
def State.sourceTag (s : State) (src tgt : Nat) : Nat :=
  match (s.nodeAt src).srcs.find? fun v => v.target = tgt with
  | some v => v.nextTag
  | none => 0

/-- What a unit behind the interface holds of a node's requests is given up with them (R194): the cistern service, the host window, the
link's endpoint. -/
def State.dropServed (n : Nat) (s : State) : State :=
  if n < 320 then s.modCst fun c => { c with service := c.service.filter fun v => v.pkt.dest ≠ n }
  else if n = nodePcie then s.modMem fun x => { x with host := [] }
  else if isLinkNode n then s.modLink (linkOfNode n) fun x => { x with asked := [] }
  else s

/-- Clear the isolation of a node: it restarts with empty receive space, and every reservation at it has all its credits (R194). Its next
TAG is the source's: what came before is done with (R185). -/
def State.unisolate (n : Nat) (s : State) : State :=
  let s := (s.dropServed n).modNode n fun x =>
    { x with isolated := false, isolClr := false, rxReq := [], work := [], rxFb := [], fbNext := (s.nodeAt (fbTwin n)).fbTag,
             tgt := x.tgt.map fun e => (e.1, e.2.map fun t =>
               { t with credit := rxUnits x.size, pieceStatus := .ok, nextTag := s.sourceTag t.src n, gone := [] }) }
  let s := if n < 320 then s.modNode (fbTwin n) fun x => { x with fbUsed := 0 } else s
  (tkeys s.leat.node).foldl (fun s m =>
    s.modNode m fun x => { x with srcs := x.srcs.map fun v => if v.target = n then { v with credit := v.size } else v }) s

/-- Step 5 clears the isolations asked for (R194). -/
def State.clearIsolations (s : State) : State :=
  (tkeys s.leat.node).foldl (fun s n => if (s.nodeAt n).isolClr then s.unisolate n else s) s

/-- Ask for isolations to be cleared at the next step 5: one node, or all (R194). -/
def State.isolClear (node : Nat) (all : Bool) (s : State) : State :=
  if all then (tkeys s.leat.node).foldl (fun s n =>
      s.modNode n fun x => { x with isolClr := x.isolClr || x.isolated }) s
  else s.modNode node fun x => { x with isolClr := x.isolated }

/-! ### The horizon (R188 to R190) -/

/-- Targets of an offtake's standing reservations (R188). -/
def NodeRec.standingTargets (x : NodeRec) : List Nat := ((x.srcs.filter (·.standing)).map (·.target)).eraseDups

/-- Every target node (R179). -/
def allTargets : List Nat := List.range 329 ++ (List.range 16).map (332 + ·) ++ (List.range 32).map (352 + ·)

/-- A routed pair with its two paths and its own terms (R188). -/
structure Routed where
  src : Nat
  dest : Nat
  req : Path
  resp : Path
  size : BitVec 2

/-- Largest request and response in units, and largest read or write in words, of an interface (R188). -/
def largest (src b : Nat) : Nat × Nat × Nat :=
  if src < 320 then (2, 17, 128)
  else if src = nodePcie then (2, 2, 1)
  else if src = nodeLk then (9, 9, 64)
  else (min 65 b, 65, 512)

/-- Largest write in words (R188). -/
def largestWrite (src : Nat) : Nat :=
  if src < 320 then 8 else if src = nodePcie then 1 else if src = nodeLk then 64 else 512

/-- Service bound of a target for a source (R189). -/
def State.service (s : State) (src dest : Nat) : Nat :=
  if 352 ≤ dest then 96
  else if dest < 320 then 2 * (s.fab.turnLen + (largest src 128).2.2)
  else if dest < 328 then 256
  else if dest = nodePcie then s.leat.svcHost.toNat
  else s.leat.svcLink.toNat

/-- The routed pairs (R188). -/
def State.routedPairs (s : State) : List Routed :=
  let khz := s.fab.pulseKhz
  (tkeys s.leat.node).flatMap fun src =>
    let x := s.nodeAt src
    let dests := if src < 320 then x.standingTargets
      else if 328 ≤ src ∧ src ≤ 347 ∧ x.budget ≠ 0 then allTargets else []
    dests.filterMap fun d =>
      match s.routeOf src d with
      | none => none
      | some wps =>
        match pathOf khz src d wps, pathOf khz d src (respWps wps) with
        | some p, some q => some { src := src, dest := d, req := p, resp := q, size := (s.nodeAt d).size }
        | _, _ => none

/-- The node that sends a path's packets of a direction (04 R85): Tier A's weir upward, Tier B's downward. -/
def fbSender (path dir : Nat) : Nat := fbTwin (fbReceiver path dir)

/-- The waypoints of a fallback packet (04 R85): none where the weir pair's own V joins the Tiers, else those of the sender's route
table; none at all where that has no valid entry. -/
def State.fallbackRoute (s : State) (w dir : Nat) : Option (List (BitVec 10)) :=
  if vLink w = some (w + 160) then some []
  else
    let x := s.nodeAt (fbSender w dir)
    match (List.range 256).find? fun e => rteHas (tget x.rteAct 0 (2 * e)) (fbReceiver w dir) && !x.rteBad.contains e with
    | some e => some (wpList (rteWps (tget x.rteAct 0 (2 * e)) (tget x.rteAct 0 (2 * e + 1))))
    | none => none

/-- The path of a fallback packet from Tier A up or Tier B down at a weir pair (04 R85). -/
def State.fallbackPath (s : State) (w dir : Nat) : Option Path :=
  (s.fallbackRoute w dir).bind (pathOf s.fab.pulseKhz (fbSender w dir) (fbReceiver w dir))

/-- k(w) of every weir: how many paths in force pass through it (R188). -/
def countWeirs (paths : List Path) : Tab Nat :=
  paths.foldl (fun t p => p.weirs.eraseDups.foldl (fun t w => tmod t 0 w (· + 1)) t) []

/-- t(P) (R188). -/
def pathTime (k : Tab Nat) (p : Path) : Nat :=
  p.hops + p.cost + 2 * (p.weirs.eraseDups.foldl (fun a w => a + min (tget k 0 w - 1) 5) 0)

def injTime (k : Tab Nat) (w : Nat) : Nat := 2 * min (tget k 0 w) 5

/-- The bound of a routed pair (R188). -/
def State.bound (s : State) (k : Tab Nat) (r : Routed) : Nat :=
  let b := rxUnits r.size
  let (ureq, uresp, _) := largest r.src b
  let pieces := max 1 (ceilDiv (largestWrite r.src) (8 * (b - 1)))
  injTime k (nodeWeir r.src) + pieces * (pathTime k r.req + (ureq - 1) + s.service r.src r.dest)
    + (pieces - 1) * pathTime k r.resp + injTime k (nodeWeir r.dest) + pathTime k r.resp + (uresp - 1)

/-- The horizon, each interface's largest bound, and each fallback path's own bound (R188, R190, 04 R86). -/
structure Horizon where
  h : Nat
  bounds : Tab Nat
  fallback : List (Nat × Option Nat)

def State.computeHorizon (s : State) : Horizon :=
  let pairs := s.routedPairs
  let fbs := (List.range 160).flatMap fun w => (List.range 2).map fun d => (w, d, s.fallbackPath w d)
  let k := countWeirs (pairs.flatMap (fun r => [r.req, r.resp]) ++ fbs.filterMap (·.2.2))
  let bs := pairs.map fun r => (r.src, s.bound k r)
  let fb := fbs.map fun e => (e.1, e.2.2.map fun p => injTime k (p.weirs.headD 0) + pathTime k p + 4)
  let join (a b : Option Nat) : Option Nat :=
    match a, b with | some x, some y => some (max x y) | _, _ => none
  { h := (bs.map (·.2) ++ fb.filterMap (·.2)).foldl max 0
    bounds := bs.foldl (fun t e => tset t 0 e.1 (max (tget t 0 e.1) e.2)) []
    fallback := (List.range 160).map fun w =>
      (w, join ((fb.find? fun e => e.1 = w).bind (·.2)) ((fb.reverse.find? fun e => e.1 = w).bind (·.2))) }

/-- Wmin (05 R104). -/
def minLength (h : Nat) : Nat := max 4096 (ceilDiv h 2)

/-- Report the horizon of the tables in force: WIN_HORIZON, WIN_MIN_LEN, LEAT_NI_BOUND, and F of each fallback path
(R190, 05 R104, 04 R86). -/
def State.refreshHorizon (s : State) : State :=
  let z := s.computeHorizon
  let s := s.modWin fun w => { w with horizon := BitVec.ofNat 24 z.h, minLen := w32 (minLength z.h) }
  let s := (tkeys s.leat.node).foldl (fun s n => s.modNode n fun x => { x with bound := BitVec.ofNat 24 (tget z.bounds 0 n) }) s
  s.modSpl fun x =>
    { x with pathF := z.fallback.foldl (fun t e =>
        tset t none e.1 (e.2.map fun h => 1 + ceilDiv h (2 * s.fab.turnLen))) [] }

/-! ### Route changes (R190 to R192) -/

/-- A write to any staged copy clears ARM and CHECKED (R191). The ROUTE_ARM that waits has its record from the caller. -/
def LeatState.disarm (l : LeatState) : LeatState := { l with arm := false, checked := false }

/-- Offtake reservation lists come into force: entries removed release, new ones are asked for (R184). The offtakes of a
quadrant that is not in Run acquire theirs when it rejoins (17 R415): they ask for nothing now, so no refusal is reported. R184 does
not say what an entry gets that names a node which is no target: it is granted as any other (DESIGN CHOICE, log entry 154). -/
def State.swapOfftake (n : Nat) (s : State) : State :=
  let want := (s.nodeAt n).otkStg
  let keep := (want.filter fun e => e.2.getLsbD 31).map fun e => field e.2 0 9
  let s := (s.nodeAt n).srcs.foldl (fun s v => if v.standing ∧ !keep.contains v.target then s.releaseRsv n v.target else s) s
  want.foldl (fun s e =>
    let w := e.2 &&& 0x800001FF
    if w.getLsbD 31 ∧ s.domRun (nodeQuad n) then
      let (s, r) := s.grant n (field w 0 9) true
      let code := match r with | none => 0 | some st => st.code
      let s := s.modNode n fun x => { x with otkAct := tset x.otkAct 0 e.1 (w ||| w32 (2 ^ 24 * code)) }
      if code = 0 then s else s.niEvt n 5
    else s.modNode n fun x => { x with otkAct := tset x.otkAct 0 e.1 w })
    (s.modNode n fun x => { x with otkAct := [] })

/-- A staged receive buffer size comes into force where the interface holds no reservation as target, else it waits
(R192). -/
def NodeRec.swapSize (x : NodeRec) (armed : Bool) (held : Nat) : NodeRec :=
  if (armed ∨ x.sizePend) ∧ x.sizeStg ≠ x.size then
    if held = 0 then { x with size := x.sizeStg, sizePend := false } else { x with sizePend := true }
  else { x with sizePend := false }

/-- Entries of a staged table that R182 makes invalid. -/
def NodeRec.badStaged (x : NodeRec) : List Nat :=
  (List.range 256).filter fun e =>
    (tget x.rteStg 0 (2 * e)).getLsbD 31 && rteInvalid (tget x.rteStg 0 (2 * e)) (tget x.rteStg 0 (2 * e + 1))

/-- One interface's staged budgets, limits and routes come into force; an invalid entry is in force with VALID 0 (R182, R191, R205). -/
def NodeRec.swapSets (x : NodeRec) : NodeRec :=
  let bad := x.badStaged
  { x with
    budget := x.budgetStg
    limit := x.limitStg
    rteAct := bad.foldl (fun t e => tmod t 0 (2 * e) (· &&& 0x7FFFFFFF)) x.rteStg
    rteBad := bad }

/-- Each staged copy is refilled from the active one (R191); a size that waits stays in SIZE_STG (R192). -/
def NodeRec.refill (x : NodeRec) : NodeRec :=
  { x with
    budgetStg := x.budget
    limitStg := x.limit
    rteStg := x.rteAct
    otkStg := x.otkAct.map fun e => (e.1, e.2 &&& 0x800001FF)
    sizeStg := if x.sizePend then x.sizeStg else x.size }

/-- The staged set comes into force at every interface (R191): sizes and tables, then reservation lists. R192 does not say whether a size
waits for a reservation that the same swap removes; in this order it does (DESIGN CHOICE, log entry 154). -/
def State.swapAll (s : State) : State :=
  let s := (tkeys s.leat.node).foldl (fun s n =>
    let h := s.heldAt n
    s.modNode n fun x => (x.swapSize true h).swapSets) s
  let s := (tkeys s.leat.node).foldl (fun s n => if n < 320 then s.swapOfftake n else s) s
  (tkeys s.leat.node).foldl (fun s n => s.modNode n NodeRec.refill) s

/-- The swap of step 5 (R191). ARM clears, and CHECKED with it, since it tells of an armed set (DESIGN CHOICE, log entry 154). -/
def State.swapRoutes (s : State) : State :=
  s.swapAll.modLeat fun l => { l with arm := false, checked := false, swapDone := true, swapWait := false, horizonStg := 0 }

/-- Step 5 of the boundary: waiting sizes, the armed set, isolations, and the horizon (R190, R191, R192, R194). -/
def State.routeStep (s : State) : State :=
  let s := s.clearIsolations
  let s := if s.leat.arm ∧ s.leat.checked then s.swapRoutes
    else (tkeys s.leat.node).foldl (fun s n =>
      let h := s.heldAt n
      s.modNode n fun x => x.swapSize false h) s
  s.refreshHorizon

/-- Nothing is in the network and every interface queue is empty (05 R107 step 2): trains, arrivals, work, responses, fallback packets,
and requests that have been admitted or that an offtake has issued. -/
def State.leatEmpty (s : State) : Bool :=
  s.leat.net.isEmpty &&
  s.leat.node.all fun e =>
    let x := e.2
    x.rxReq.isEmpty && x.rxResp.isEmpty && x.rxCredit.isEmpty && x.work.isEmpty && x.resp.isEmpty && x.rxFb.isEmpty &&
    x.fbOut.isEmpty && decide (x.fbUsed = 0) &&
    (if e.1 < 320 then x.reqs.isEmpty else !(x.reqs.any fun r => r.admitted))

/-- The device as the armed set would leave it: step 5 of a boundary with no dynamic reservation held (R184, R190). -/
def State.stagedState (s : State) : State := s.releaseDynamic.swapAll

/-- A reservation of the lists in force was refused (R184, LEAT_OTK_RSV_ACT). -/
def NodeRec.anyRefused (x : NodeRec) : Bool := x.otkAct.any fun e => e.2.getLsbD 31 && decide (field e.2 24 4 ≠ 0)

/-- The checks of an armed set: bad entries and refused reservations (R182, R184, R191). -/
def State.checkStaged (s : State) : State :=
  let z := s.stagedState
  let fail := (tkeys s.leat.node).any fun n => !(s.nodeAt n).badStaged.isEmpty || (z.nodeAt n).anyRefused
  let s := (tkeys s.leat.node).foldl (fun s n =>
    (s.nodeAt n).badStaged.foldl (fun s e => (s.log 0x0703 false false (w32 n) (w32 e) 0).niEvt n 4) s) s
  if fail then s.modLeat fun l => { l with checkFail := true } else s

end Sys2Proof.Machine
end

