-- ==== Sys2Proof/Machine/Ports.lean ====
section
/-! DEFINITION. What the command ports and every command share: replies, completion records, ownership, lease, and the
order of statuses (13_lockkeeper R326 to R340, 14_command_reference R341 to R346). -/
namespace Sys2Proof.Machine

/-! ### Ports -/

def LkState.port (k : LkState) : Port → PortState
  | .pf0 => k.pf0 | .smbus => k.smbus | .jtag => k.jtag | .array => k.array | .pf1 => k.pf1

def State.modPort (p : Port) (f : PortState → PortState) (s : State) : State :=
  s.modLk fun k => match p with
    | .pf0 => { k with pf0 := f k.pf0 }
    | .smbus => { k with smbus := f k.smbus }
    | .jtag => { k with jtag := f k.jtag }
    | .array => { k with array := f k.array }
    | .pf1 => { k with pf1 := f k.pf1 }

/-- The function of a mailbox port. -/
def Port.func? : Port → Option Func
  | .pf0 => some .pf0 | .pf1 => some .pf1 | _ => none

/-! ### Status codes of replies (R344) -/

def stOk := 0x0000
def stAccepted := 0x0001
def stNotOwner := 0x0010
def stOwnedElsewhere := 0x0011
def stBadOpcode := 0x0020
def stBadLength := 0x0021
def stBadParam := 0x0022
def stBusy := 0x0030
def stSignatureFail := 0x0040
def stVersionRejected := 0x0041
def stDomainOff := 0x0050
def stHwFault := 0x0060
def stWindowRunning := 0x0070

/-! ### Replies and records -/

/-- Window count [31:0], as replies and records carry it (R342, R343). -/
def State.wcnt (s : State) : W32 := BitVec.ofNat 32 s.win.cnt.toNat

/-- The words of a reply (R342). -/
def replyWords (s : State) (tag : W32) (status : Nat) (poison hw : Bool) (payload : List W32) : List W32 :=
  (w32 (status + 2 ^ 16 * (3 + payload.length)) ||| bitAt poison 28 ||| bitAt hw 29) :: tag :: s.wcnt :: payload

/-- The words of a completion record: at most 60 payload words (R343, R352). -/
def recordWords (s : State) (o : Origin) (status : Nat) (payload : List W32) : List W32 :=
  let cut := decide (60 < payload.length)
  let p := payload.take 60
  (w32 (status + 2 ^ 16 * (4 + p.length)) ||| bitAt true 30 ||| bitAt cut 31) :: o.tag :: s.wcnt
    :: w32 o.opcode.toNat :: p

/-- The first word of a MGMT message (R330, 11 R280). -/
def mgmtWord (type count : Nat) : W32 := w32 (type + 2 ^ 16 * count)

/-- Put a reply at its port (R327 to R330): the request is no longer held. -/
def State.putReply (p : Port) (link : Nat) (words : List W32) (hw : Bool) (s : State) : State :=
  let s := s.modPort p fun x =>
    { x with held := none, reply := words, replyReady := true, hwReply := hw, replyPos := 0 }
  match p with
  | .pf0 => s.raiseVec .pf0 0
  | .pf1 => s.raiseVec .pf1 0
  | .array => (s.modPort .array fun x => { x with replyReady := false, reply := [] }).modLink link fun x =>
      { x with mgmtQ := x.mgmtQ ++ [.words (mgmtWord 0x11 words.length :: words)] }
  | .smbus => s.modHost fun h => { h with alertArmed := true }
  | .jtag => s

/-- Records that a port holds or will hold (R339): pending on a mailbox, unread elsewhere, and operations running. -/
def PortState.recordLoad (p : Port) (x : PortState) : Nat :=
  (match p with
   | .pf0 | .pf1 => (x.crHead - x.crTail).toNat
   | _ => x.records.length) + x.running

/-- Post a completion record to the port that issued the command (R339). -/
def State.postNow (o : Origin) (status : Nat) (payload : List W32) (s : State) : State :=
  let ws := recordWords s o status payload
  match o.port with
  | .pf0 | .pf1 =>
    let s := s.modPort o.port fun x =>
      let k := x.crHead.toNat % 32
      { x with cr := ((List.range 64).zip (ws ++ List.replicate (64 - ws.length) 0)).foldl
                 (fun t e => tset t 0 (64 * k + e.1) e.2) x.cr
               crHead := x.crHead + 1, running := x.running - 1 }
    match o.port.func? with
    | some f => s.raiseVec f 0
    | none => s
  | .array =>
    (s.modPort .array fun x => { x with running := x.running - 1 }).modLink o.link fun x =>
      { x with mgmtQ := x.mgmtQ ++ [.words (mgmtWord 0x12 ws.length :: ws)] }
  | p =>
    (s.modPort p fun x => { x with records := x.records ++ [ws], running := x.running - 1 }).modHost fun h =>
      { h with alertArmed := h.alertArmed || decide (p = .smbus) }

/-- A record due during a restart is posted after it (R340). -/
def State.postRecord (o : Origin) (status : Nat) (payload : List W32) (s : State) : State :=
  if s.lk.restarting then s.modLk fun k => { k with deferred := k.deferred ++ [(o, status, payload)] }
  else s.postNow o status payload

/-- Post a record if some command waits for it. -/
def State.postRecord? (o : Option Origin) (status : Nat) (payload : List W32) (s : State) : State :=
  match o with
  | some o => s.postRecord o status payload
  | none => s

/-! ### Ownership (R332 to R335) -/

/-- Log a change of owner (code 0x0006): old party, new party, cause (R325, R332). -/
def State.setOwner (new : Nat) (cause : Nat) (s : State) : State :=
  let old := s.lk.owner.toNat
  if old = new then s
  else (s.modLk fun k => { k with owner := BitVec.ofNat 3 new }).log 0x0006 false false
    (w32 (old + 16 * new + 256 * cause)) 0 0

/-- The lease runs for its full length, in ticks of 10 µs (R333). -/
def State.renewLease (s : State) : State :=
  s.modLk fun k => { k with leaseTicks := k.leaseLen.toNat * 100000 }

/-- Lease remaining in seconds, rounded up (R327, R350). -/
def State.leaseSeconds (s : State) : Nat := if s.lk.owner = 0 then 0 else ceilDiv s.lk.leaseTicks 100000

def State.isOwner (s : State) (p : Port) : Bool := p ≠ .pf1 && s.lk.owner.toNat = p.num

/-- The lease reaches 0: the device becomes unowned, holds and pending operations unaffected (R333). -/
def State.expireLease (s : State) : State :=
  if s.lk.owner = 0 then s else (s.setOwner 0 3).modLk fun k => { k with leaseTicks := 0 }

/-! ### Serving a command -/

/-- Who may send a command (R345). -/
inductive Own where
  | anyone | owner | claim
deriving DecidableEq, Repr

/-- What a command's execution comes to. -/
inductive Res where
  /-- OK with its payload -/
  | ok (s : State) (payload : List W32)
  /-- OK with poisoned words in the payload (R362) -/
  | okPoison (s : State) (payload : List W32)
  /-- ACCEPTED: a record follows (R343) -/
  | accept (s : State)
  /-- OK, or ACCEPTED, with an effect that follows the commit of the reply (14 R368, 18 R446, 19 R454) -/
  | okThen (s : State) (next : State → State)
  | acceptThen (s : State) (next : State → State)
  /-- a refusal that changes nothing -/
  | fail (status : Nat)
  /-- a reply other than OK that carries a payload or has changed something: only where the entry says so (R344) -/
  | partly (s : State) (status : Nat) (payload : List W32)
  /-- the reply comes later -/
  | wait (s : State)

/-- Log COMMAND for a command that is not read-only (R336). -/
def State.logCommand (r : Req) (opcode status : Nat) (own : Own) (s : State) : State :=
  if own = .anyone then s
  else s.log 0x0100 false false (w32 (opcode + 2 ^ 16 * r.port.num)) r.tag (w32 status)

/-- Commit a command's reply: the reply, the owner's lease, the log entry (R333, R336, R342). -/
def State.commit (r : Req) (opcode : Nat) (own : Own) (status : Nat) (poison : Bool) (payload : List W32) (s : State) :
    State :=
  let s := s.putReply r.port r.link (replyWords s r.tag status poison false payload) false
  let s := if s.isOwner r.port then s.renewLease else s
  s.logCommand r opcode status own

/-- The hardware responder's answer: BUSY, three words, HW = 1 (R338, R342). -/
def State.hwBusy (p : Port) (link : Nat) (tag : W32) (s : State) : State :=
  s.putReply p link (replyWords s tag stBusy false true []) true

/-- Judge a request up to the opcode's own checks, in the order of R344: the status that refuses it. -/
def State.judgeReq (s : State) (r : Req) (own : Own) (lenOk : Bool) : Option Nat :=
  if r.length < 2 ∨ 1024 < r.length ∨ r.length ≠ r.params.length + 2 then some stBadLength
  else if !lenOk then some stBadLength
  else if own = .owner ∧ !s.isOwner r.port then some stNotOwner
  else if own = .claim ∧ r.port = .pf1 then some stNotOwner
  else if own = .claim ∧ s.lk.owner ≠ 0 ∧ !s.isOwner r.port then some stOwnedElsewhere
  else if r.flags ≠ 0 then some stBadParam
  else none

/-- A request that is no command is answered and neither logged nor a renewal (R336). -/
def State.notCommand (r : Req) (status : Nat) (s : State) : State :=
  s.putReply r.port r.link (replyWords s r.tag status false false []) false

/-- The opcodes served in recovery (15 R385): ID_GET, CLAIM, OWNER_GET, FW_CHUNK, FW_SWITCH. -/
def recoveryOpcodes : List Nat := [0x0000, 0x0100, 0x0104, 0x0B06, 0x0B07]

/-- The Lockkeeper turns to another command: a MEM_READ that has not completed replies BUSY and its data is discarded, a
MEM_WRITE replies ACCEPTED and its record follows (R363). -/
def State.memCut (s : State) : State :=
  s.lk.memOps.foldl (fun s o =>
    if o.accepted ∨ o.mute then s
    else if o.write then
      (((s.modLk fun k => { k with memOps := k.memOps.map fun x => if x.id = o.id then { x with accepted := true } else x }).modPort
        o.req.port fun x => { x with running := x.running + 1 }).commit o.req 0x0805 .owner stAccepted false [])
    else
      (s.modLk fun k => { k with memOps := k.memOps.filter fun x => x.id ≠ o.id }).commit o.req 0x0804 .anyone stBusy false []) s

/-- ACCEPTED, with `s'` the effect and `f` what follows the commit; BUSY with no effect where the port's records are full (R339). -/
def State.accepted (s : State) (r : Req) (opcode : Nat) (own : Own) (s' : State) (f : State → State) : State :=
  if 32 ≤ (s.lk.port r.port).recordLoad r.port then s.commit r opcode own stBusy false []
  else f ((s'.modPort r.port fun x => { x with running := x.running + 1 }).commit r opcode own stAccepted false [])

/-- Serve a command (R326, R335 to R339, R344): `lenOk` says whether LENGTH fits the parameters; `refused` is the payload of a
refusal for ownership, which CLAIM alone has (R350); `body` does the opcode's own checks and effect. -/
def State.serve (r : Req) (opcode : Nat) (own : Own) (lenOk : Bool) (refused : State → List W32)
    (body : State → Res) (s : State) : State :=
  if !s.lk.inService then s.hwBusy r.port r.link r.tag
  else
  let s := s.memCut
  if r.badLength then s.notCommand r stBadLength
  else if s.sec.recovery ∧ !recoveryOpcodes.contains opcode then s.commit r opcode own stHwFault false []
  else match s.judgeReq r own lenOk with
    | some st => s.commit r opcode own st false (if st = stOwnedElsewhere ∨ st = stNotOwner then refused s else [])
    | none =>
      match body s with
      | .ok s' p => s'.commit r opcode own stOk false p
      | .okPoison s' p => s'.commit r opcode own stOk true p
      | .okThen s' f => f (s'.commit r opcode own stOk false [])
      | .accept s' => s.accepted r opcode own s' (fun t => t)
      | .acceptThen s' f => s.accepted r opcode own s' f
      | .fail st => s.commit r opcode own st false []
      | .partly s' st p => s'.commit r opcode own st false p
      | .wait s' => s'

/-- A command whose refusal carries no payload. -/
def State.serveCmd (r : Req) (opcode : Nat) (own : Own) (lenOk : Bool) (body : State → Res) (s : State) : State :=
  s.serve r opcode own lenOk (fun _ => []) body

end Sys2Proof.Machine
end

