-- ==== Sys2Proof/Machine/MemoryOps.lean ====
section
/-! DEFINITION. Stored words, pages, the check ledger and the page path of one memory controller (07_deep_memory). -/
namespace Sys2Proof.Machine

/-- The stored memory's canonical form: keys rising, no zero word listed. -/
def Memory.wf (t : Tab Stored) : Bool := Tab.wf 0 t

/-- Key of stored word `j` of a controller's local page (07 R143). -/
def memKey (m page j : Nat) : Nat := (m * 2 ^ 28 + page) * 240 + j

def State.stored (s : State) (m page j : Nat) : Stored := tget s.mem.words 0 (memKey m page j)

def State.putStored (m page : Nat) (l : List (Nat × Stored)) (s : State) : State :=
  s.modMem fun x => { x with words := tsetAll 0 x.words (l.map fun e => (memKey m page e.1, e.2)) }

/-- Node of a controller's interface, and its power domain (R164, R165, 14 R347). -/
def ctlNode (m : Nat) : Nat := if m < 32 then 352 + m else 320 + (m - 32)
def ctlDomain (m : Nat) : Nat := if m < 32 then 10 else 12 + (m - 32)

/-- Controllers of a memory domain: the whole Reservoir, or one DDR4 channel (R161). -/
def domainCtls (d : Nat) : List Nat := if d = 10 then List.range 32 else [32 + (d - 12)]

/-- A DIMM that the controller supports (R145, R147): RDIMM or LRDIMM of 8 to 128 GiB, 1 or 2 ranks or 4 on an LRDIMM, monolithic or 3DS 2 or 4
high. -/
def Spd.supported (d : Spd) : Bool :=
  decide (8 ≤ d.capGib.toNat ∧ d.capGib.toNat ≤ 128) && (d.type = 1 || d.type = 2) && d.stack ≠ 3 &&
  (decide (d.ranksM1.toNat ≤ 1) || (d.ranksM1 = 3 && d.type = 2))

/-- PRESENT (R145): the Reservoir always; a DDR4 channel with a supported DIMM whose training has not failed. -/
def MemCtl.present (c : MemCtl) (m : Nat) : Bool := decide (m < 32) || (c.spd.isSome && !c.trainFail)

/-- MEM_CH_PAGES (R145, R164). -/
def MemCtl.pages (c : MemCtl) (m : Nat) : Nat :=
  if m < 32 then 368640
  else match c.spd with
    | some d => if c.trainFail then 0 else d.capGib.toNat * 2 ^ 30 / 64 / 10
    | none => 0

/-- Local page and offset of a deep address in regions 0x0 to 0x8, and its controller (R143, R144). -/
def locate (a : BitVec 48) : Nat × Nat × Nat :=
  let x := a.toNat % 2 ^ 44
  let r := a.toNat / 2 ^ 44
  if r = 0 then (x / 224 % 32, x / 224 / 32, x % 224) else (32 + (r - 1), x / 224, x % 224)

/-- A request to regions 0x0 to 0x8 names only words that exist, and a Reservoir request stays in one page (R141, R142). -/
def State.memRange (s : State) (a : BitVec 48) (len : Nat) : Bool :=
  let x := a.toNat % 2 ^ 44
  let (m, _, off) := locate a
  if m < 32 then decide (x + len ≤ 2642411520) && decide (off + len ≤ 224)
  else decide (x + len ≤ 224 * (s.ctlAt m).pages m)

/-- The pages a run of words touches, with the first offset and the count in each. -/
def segments : Nat → Nat → Nat → Nat → List (Nat × Nat × Nat)
  | 0, _, _, _ => []
  | fuel + 1, page, off, len =>
    if len = 0 then []
    else
      let k := min len (224 - off)
      (page, off, k) :: segments fuel (page + 1) 0 (len - k)

def Packet.segments (p : Packet) : List (Nat × Nat × Nat) :=
  let (_, page, off) := locate p.addr
  Machine.segments (p.len / 224 + 2) page off p.len

/-- All 240 stored words of a page, decoded (R150 step 1). -/
def State.pageRead (s : State) (m page : Nat) : List LightRead :=
  (List.range 240).map fun j => lightDecode (s.stored m page j)

def State.correct (m n : Nat) (s : State) : State :=
  s.modCtl m fun c => { c with corrCnt := satAdd c.corrCnt n }

/-- The ledger entry of a page. -/
def MemCtl.entry (c : MemCtl) (page : Nat) : Option Ledger := c.ledger.find? fun e => e.page = page

def MemCtl.dropEntry (page : Nat) (c : MemCtl) : MemCtl :=
  { c with ledger := c.ledger.filter fun e => e.page ≠ page }

/-- The check words of 224 data words (R149). -/
def checkWords (data : List Word18) : List Word18 := wordsOfSyms (pageCheck (data.flatMap wordSyms))

/-- Stored form of a word as the light code decoded it: clean, or with the poison pattern again (R152, R153). -/
def restore (r : LightRead) : Stored := if r.poisoned then lightPoison r.data else lightEncode r.data

/-- The stored words among some that read with a single error, corrected (R148). -/
def singleFixes (base : Nat) (rs : List LightRead) : List (Nat × Stored) :=
  ((List.range rs.length).zip rs).filterMap fun e => if e.2.kind = .single then some (base + e.1, lightEncode e.2.data) else none

/-- An entry of 32 symbols, stored under the light code (R155). -/
def Ledger.ofSyms (page : Nat) (syms : List Nat) : Ledger := { page := page, words := (wordsOfSyms syms).map lightEncode }

def Ledger.reads (e : Ledger) : List LightRead := (List.range 16).map fun k => lightDecode (e.words.getD k 0)

/-- The entry reads as uncorrectable (R155). -/
def Ledger.lost (e : Ledger) : Bool := e.reads.any (·.poisoned)

def Ledger.syms (e : Ledger) : List Nat := e.reads.flatMap fun r => wordSyms r.data

/-- An entry has read as uncorrectable: the page's check words are rebuilt from its data, and any error in the data is fixed in place
(R155). -/
def State.ledgerLost (m page : Nat) (s : State) : State :=
  let s := (s.log 0x0605 true false (w32 m) (w32 page) 0).memEvt m 7
  let ws := (s.pageRead m page).take 224
  let cs := checkWords (ws.map (·.data))
  let fixes := singleFixes 0 ws
  let s := (s.putStored m page (fixes ++ (List.range 16).map fun k => (224 + k, lightEncode (cs.getD k 0)))).correct m fixes.length
  s.modCtl m (·.dropEntry page)

/-- Read the ledger entry of a page: its delta, corrected in the ledger, or none where there is none or it is lost (R155). -/
def State.ledgerRead (m page : Nat) (s : State) : State × Option (List Nat) :=
  match (s.ctlAt m).entry page with
  | none => (s, none)
  | some e =>
    if e.lost then (s.ledgerLost m page, none)
    else
      ((s.correct m (e.reads.filter fun r => r.kind = .single).length).modCtl m fun c =>
        { c with ledger := c.ledger.map fun (x : Ledger) => if x.page = page then .ofSyms page e.syms else x }, some e.syms)

/-- Two runs of symbols, added; the second may be short. -/
def addSyms (a b : List Nat) : List Nat := List.zipWith (· ^^^ ·) a (b ++ List.replicate (a.length - b.length) 0)

/-- Start the page path of a page (R150): one at a time. -/
def State.startPath (m page : Nat) (why : PathWhy) (s : State) : State :=
  s.modCtl m fun c => if c.path.isSome then c else { c with path := some (page, why) }

/-- Requester code of MEM_LAST_ADDR by source node (R164). -/
def requesterOf (src : Nat) : Nat :=
  if src < 320 then 0
  else if src = nodeFlumeRead ∨ src = nodeFlumeWrite then 1
  else if src = nodeLk then 3
  else if src = nodePcie then 4
  else 5

/-- Requester codes of the controllers' own readers (R164). -/
def reqCapture := 6
def reqPatrol := 7

/-- Poisoned words are delivered to a requester, by their deep addresses in order: each counted, the first of a window logged, the latest
recorded (R156, R157). -/
def State.poisonDelivered (m req : Nat) (at_ : List Nat) (s : State) : State :=
  match at_ with
  | [] => s
  | a :: _ =>
    let first := !(s.ctlAt m).poisonLogged
    let s := s.modCtl m fun c =>
      { c with poisonCnt := satAdd c.poisonCnt at_.length, lastAddr := BitVec.ofNat 48 (at_.getLastD a), lastReq := BitVec.ofNat 4 req,
               poisonLogged := true }
    let s := if first then s.log 0x0603 false false (w32 m) (loWord a) (hiWord a) else s
    s.memEvt m 2

/-- Deep address of data word 0 of a controller's local page (R143, R144). -/
def pageAddr (m page : Nat) : Nat := if m < 32 then 224 * (32 * page + m) else 2 ^ 44 * (m - 31) + 224 * page

/-- Deep addresses of the data words of a page whose reading meets a test. -/
def pageWhere (m page : Nat) (test : LightRead → Bool) (ws : List LightRead) : List Nat :=
  ((List.range 224).filter fun j => test (ws.getD j ⟨.clean, 0⟩)).map (pageAddr m page + ·)

/-- The page path ends (R150, R157): rewritten corrected, or with poison. What the patrol meets so is counted as its own (R156). -/
def State.endPath (m page : Nat) (s : State) : State :=
  let patrol := match (s.ctlAt m).path with | some (_, why) => decide (why = PathWhy.patrol) | none => false
  let (s, delta) := s.ledgerRead m page
  let ws := s.pageRead m page
  let dsyms := (ws.take 224).flatMap fun r => wordSyms r.data
  let csyms := addSyms ((ws.drop 224).flatMap fun r => wordSyms r.data) (delta.getD [])
  let erased := ((List.range 240).filter fun j => (ws.getD j ⟨.clean, 0⟩).kind = .bad).flatMap fun j => [2 * j, 2 * j + 1]
  let s := (s.correct m (singleFixes 0 ws).length).modCtl m fun c => { c.dropEntry page with path := none }
  match pageDecode (dsyms ++ csyms) erased with
  | some fixed =>
    let words := wordsOfSyms fixed
    let out := (List.range 240).map fun j =>
      let d := words.getD j 0
      (j, if (ws.getD j ⟨.clean, 0⟩).kind = .poison then lightPoison d else lightEncode d)
    let poisoned := ((ws.take 224).filter fun r => r.kind = .poison).length
    let s := (s.putStored m page out).modCtl m fun c => { c with fixCnt := satInc c.fixCnt }
    (s.log 0x0601 false false (w32 m) (w32 page) (w32 poisoned)).memEvt m 0
  | none =>
    let cs := checkWords ((ws.take 224).map (·.data))
    let out := ((List.range 224).map fun j => (j, restore (ws.getD j ⟨.clean, 0⟩))) ++
      (List.range 16).map fun k => (224 + k, lightEncode (cs.getD k 0))
    let poisoned := ((ws.take 224).filter (·.poisoned)).length
    let s := (s.putStored m page out).modCtl m fun c => { c with failCnt := satInc c.failCnt }
    let s := (s.log 0x0602 true false (w32 m) (w32 page) (w32 poisoned)).memEvt m 1
    if patrol then s.poisonDelivered m reqPatrol (pageWhere m page (fun r => r.kind = Light.bad) ws) else s

/-- A page path that runs comes to its end. -/
def State.endRunning (m : Nat) (s : State) : State :=
  match (s.ctlAt m).path with
  | some (p, _) => s.endPath m p
  | none => s

/-- Flush one ledger entry (R153): into burst 9, or by the page path. -/
def State.flushEntry (m : Nat) (e : Ledger) (early : Bool) (s : State) : State :=
  let s := if early then (s.modCtl m fun c => { c with early := satInc c.early }).memEvt m 3 else s
  match s.ledgerRead m e.page with
  | (s, none) => s
  | (s, some delta) =>
    let ws := (List.range 24).map fun i => lightDecode (s.stored m e.page (216 + i))
    if (ws.any fun r => r.kind = .bad) ∨ ((ws.drop 8).any fun r => r.kind = .poison) then s.startPath m e.page .flush
    else
      let s := s.correct m (singleFixes 0 ws).length
      let ds := wordsOfSyms delta
      let out := ((List.range 8).map fun i => (216 + i, restore (ws.getD i ⟨.clean, 0⟩))) ++
        (List.range 16).map fun k => (224 + k, lightEncode ((ws.getD (8 + k) ⟨.clean, 0⟩).data ^^^ ds.getD k 0))
      (s.putStored m e.page out).modCtl m (·.dropEntry e.page)

/-- Flush every entry of a controller, page paths included (R153). -/
def State.flushAll (m : Nat) (s : State) : State :=
  (s.ctlAt m).ledger.foldl (fun s e => (s.flushEntry m e false).endRunning m) (s.endRunning m)

/-- Every controller flushes every entry (R154, R155: entries of a controller that timed out are rebuilt). -/
def State.flushLedgers (s : State) : State :=
  (tkeys s.mem.ctl).foldl (fun s m => s.flushAll m) s

/-- Read a run of words of a page: each decoded, singles written back (R148). -/
def State.readRun (m page off n : Nat) (s : State) : State × List LightRead :=
  let rs := (List.range n).map fun i => lightDecode (s.stored m page (off + i))
  let fixes := singleFixes off rs
  ((s.putStored m page fixes).correct m fixes.length, rs)

/-- The first page of the segments that holds a word the light code cannot read (R150). -/
def State.badPage (s : State) (m : Nat) (segs : List (Nat × Nat × Nat)) : Option Nat :=
  (segs.find? fun g => (List.range g.2.2).any fun i => (lightDecode (s.stored m g.1 (g.2.1 + i))).kind = .bad).map (·.1)

/-- The words of the bursts that hold a run of a page (R152 step 1): first stored word and count; the bursts of 24 words.
Burst 9 holds data words 216 to 223 beside the check words, which a partial write does not touch. -/
def burstRun (off n : Nat) : Nat × Nat :=
  let a := off / 24 * 24
  let b := min 224 (((off + n - 1) / 24 + 1) * 24)
  (a, b - a)

/-- Write a run of words of one page (R152): a full page with its check words, or a partial write with its delta. -/
def State.writeRun (m page off : Nat) (new : List Word18) (s : State) : State :=
  if off = 0 ∧ new.length = 224 then
    let cs := checkWords new
    (s.putStored m page (((List.range 224).zip (new.map lightEncode)) ++
      (List.range 16).map fun k => (224 + k, lightEncode (cs.getD k 0)))).modCtl m (·.dropEntry page)
  else
    let (a, k) := burstRun off new.length
    let (s, rs) := s.readRun m page a k
    let oldAt (j : Nat) : Word18 := (rs.getD (j - a) ⟨.clean, 0⟩).data
    let diff := (List.range 224).map fun j =>
      if off ≤ j ∧ j < off + new.length then oldAt j ^^^ new.getD (j - off) 0 else 0
    let delta := pageCheck (diff.flatMap wordSyms)
    let (s, was) := s.ledgerRead m page
    let s := s.putStored m page ((List.range new.length).map fun i => (off + i, lightEncode (new.getD i 0)))
    s.modCtl m fun c =>
      let c : MemCtl := match was with
        | some d => { c with ledger := c.ledger.map fun (x : Ledger) => if x.page = page then .ofSyms page (addSyms delta d) else x }
        | none => { c with ledger := c.ledger ++ [.ofSyms page delta] }
      { c with peakNow := if c.peakNow.toNat < c.ledger.length then BitVec.ofNat 13 c.ledger.length else c.peakNow }

/-- A partial write of the page needs a new entry while the ledger is at its limit (R153). -/
def State.needsRoom (s : State) (m page off n : Nat) : Bool :=
  let c := s.ctlAt m
  !(off = 0 && n = 224) && (c.entry page).isNone && decide (c.limit.toNat ≤ c.ledger.length)

/-- The limit flush of the oldest entry (R153 step 1). -/
def State.flushOldest (m : Nat) (s : State) : State :=
  match (s.ctlAt m).ledger with
  | [] => s
  | e :: _ => (s.flushEntry m e true).modCtl m fun c => { c with draining := true }

/-- Start of the page path for a write's preliminary read: the bursts that hold the run (R152 step 1). -/
def burstSegments (segs : List (Nat × Nat × Nat)) : List (Nat × Nat × Nat) :=
  segs.map fun g => if g.2.1 = 0 ∧ g.2.2 = 224 then (g.1, 0, 0) else (g.1, burstRun g.2.1 g.2.2)

/-- A write of the request needs room in the ledger (R153). -/
def State.anyRoom (s : State) (m : Nat) (p : Packet) : Bool :=
  p.cmd ≠ .read && p.segments.any fun g => s.needsRoom m g.1 g.2.1 g.2.2

/-- What a request reads: its words, or what a partial write reads first (R150, R152). -/
def Packet.readSegs (p : Packet) : List (Nat × Nat × Nat) := if p.cmd = .read then p.segments else burstSegments p.segments

/-- The request may be served now: its controller runs, is not filling, is trained, no page path holds one of its pages, and while one runs
it needs none of its own (R150, R158, R160, R161). -/
def State.servable (s : State) (m : Nat) (p : Packet) : Bool :=
  let c := s.ctlAt m
  s.ctlClocked m && c.pstate = .run && !c.filling && (decide (m < 32) || c.ready) &&
  match c.path with
  | some (page, _) => !(p.segments.any fun g => g.1 = page) && (s.badPage m p.readSegs).isNone && !s.anyRoom m p
  | none => true

/-- The first request of a queue that may be served and meets no page of one that waits before it: requests to a page are served in
arrival order (R158). -/
def pickWork (ok : Packet → Bool) : List Nat → List Packet → Option Packet
  | _, [] => none
  | held, p :: t =>
    let pages := p.segments.map (·.1)
    if ok p && !(pages.any held.contains) then some p else pickWork ok (held ++ pages) t

/-- The request that a controller serves next (R158). -/
def State.nextWork (s : State) (m : Nat) : Option Packet := pickWork (s.servable m) [] (s.nodeAt (ctlNode m)).work

/-- Leave the queue and answer. -/
def State.finishWork (m : Nat) (p : Packet) (st : Status) (ws : List MWord) (s : State) : State :=
  ((s.modCtl m fun c => { c with flushed := false }).modNode (ctlNode m) fun x => { x with work := x.work.erase p }).answer (ctlNode m) p st ws

/-- Deep addresses of the poisoned words of a run. -/
def poisonAt (a : Nat) (ws : List MWord) : List Nat :=
  (((List.range ws.length).zip ws).filter fun (e : Nat × MWord) => e.2.poison).map fun e => a + e.1

/-- Serve a read: the words as decoded, with their poison marks (R148, R156). -/
def State.serveRead (m : Nat) (p : Packet) (s : State) : State :=
  match s.badPage m p.segments with
  | some page => s.startPath m page .read
  | none =>
    let (s, ws) := p.segments.foldl (fun (a : State × List MWord) g =>
      let (s, rs) := a.1.readRun m g.1 g.2.1 g.2.2
      (s, a.2 ++ rs.map fun r => { data := r.data, poison := r.poisoned })) (s, [])
    let bad := poisonAt p.addr.toNat ws
    (s.poisonDelivered m (requesterOf p.src) bad).finishWork m p (if bad.isEmpty then .ok else .poison) ws

/-- Flush the oldest entries until a partial write finds room, or a flush needs the page path (R153 step 1). -/
def State.makeRoom (m page off n : Nat) : Nat → State → State
  | 0, s => s
  | fuel + 1, s =>
    if s.needsRoom m page off n ∧ (s.ctlAt m).path.isNone then State.makeRoom m page off n fuel (s.flushOldest m) else s

/-- One page's part of a write, once there is room in the ledger for it: what is left of the words, and whether the write waits for a
flush's page path (R152, R153). -/
def State.writeSeg (m : Nat) (g : Nat × Nat × Nat) (a : State × List MWord × Bool) : State × List MWord × Bool :=
  let (s, ws, waits) := a
  if waits then a
  else
    let s := s.makeRoom m g.1 g.2.1 g.2.2 ((s.ctlAt m).ledger.length + 1)
    if (s.ctlAt m).path.isSome && s.needsRoom m g.1 g.2.1 g.2.2 then (s, ws, true)
    else (s.writeRun m g.1 g.2.1 ((ws.take g.2.2).map (·.data)), ws.drop g.2.2, false)

/-- Serve a write: every page in turn (R152, R153). One that has to wait for a page path is begun anew after it. -/
def State.serveWrite (m : Nat) (p : Packet) (s : State) : State :=
  match s.badPage m (burstSegments p.segments) with
  | some page => s.startPath m page .write
  | none =>
    let (s, _, waits) := p.segments.foldl (fun a g => State.writeSeg m g a) (s, p.words, false)
    if waits then s else s.finishWork m p .ok []

/-- Serve the next request of a controller (R158). -/
def State.serveOne (m : Nat) (s : State) : State :=
  match s.nextWork m with
  | none => s
  | some p =>
    if !s.memRange p.addr p.len then s.finishWork m p .badAddress []
    else if p.cmd = .read then s.serveRead m p
    else s.serveWrite m p

/-- Serve what waits, in arrival order (R150, R158). -/
def State.serveAll (m : Nat) (s : State) : State :=
  (s.nodeAt (ctlNode m)).work.foldl (fun s _ => s.serveOne m) s

/-- A request reaches a domain that is not in Run: it waits in the front end and wakes the domain (R161). -/
def State.wakeMem (m : Nat) (s : State) : State :=
  let c := s.ctlAt m
  if c.pstate = .run ∨ c.pstate = .waking then s
  else (domainCtls (ctlDomain m)).foldl (fun s k =>
    s.modCtl k fun c => { c with wokenFrom := some c.pstate, pstate := .waking }) (s.setDom (ctlDomain m) .waking)

/-! ### Sluices of controllers (16 R407, 17 R415) -/

/-- The DDR PLL of channels 4k to 4k + 3 stops when their four sluices are in Deep sleep, and relocks when the first reopens
(R407). -/
def State.ddrPllFollow (k : Nat) (s : State) : State :=
  let all := (List.range 4).all fun i => (s.slcAt (4 * k + i)).st = 2
  if all then s.modClk fun c => { c with lock := c.lock &&& ~~~(1#25 <<< (5 + k)) } else s

/-- Set the state of a sluice in force (R407). -/
def State.slcSet (n : Nat) (st : BitVec 2) (s : State) : State :=
  let wasDeep := decide (n < 8) && (List.range 4).all fun i => (s.slcAt (4 * (n / 4) + i)).st = 2
  let s := s.modSlc n fun x => { x with st := st, closing := false }
  if 8 ≤ n then s
  else if wasDeep ∧ st = 0 ∧ s.clk.inUse.isSome then s.modClk fun c => { c with lock := c.lock ||| (1#25 <<< (5 + n / 4)) }
  else s.ddrPllFollow (n / 4)

/-- The memory domain reaches Run, its sluice with it (R160, R161, 17 R415). -/
def State.memRun (d : Nat) (s : State) : State :=
  (domainCtls d).foldl (fun s k =>
    s.modCtl k fun c => { c with pstate := .run })
    (((s.setDom d .run).modSlc (ctlSluice ((domainCtls d).headD 0)) fun x => { x with req := 0 }).slcSet
      (ctlSluice ((domainCtls d).headD 0)) 0)

/-- A controller keeps contents, VALID, DIMM data and training; a fill in progress is abandoned (R442, R443). A ledger that was not
flushed waits to be rebuilt. -/
def MemCtl.warm (c : MemCtl) : MemCtl :=
  { valid := c.valid
    pass := c.pass
    spd := c.spd
    rate := c.rate
    ready := c.ready
    trainDone := c.trainDone
    trainFail := c.trainFail
    failLane := c.failLane
    failRank := c.failRank
    ledger := c.ledger
    rebuild := c.rebuild }

/-- A fill of a controller ends: every page is an all-zero codeword, and VALID is set (R160). -/
def State.filled (m : Nat) (s : State) : State :=
  let s := s.modMem fun x => { x with words := tdrop (fun i => i / (240 * 2 ^ 28) = m) x.words }
  (s.modCtl m fun c => { c with filling := false, valid := true, ledger := [], path := none, draining := false }).memEvt m 5

/-- A controller that is reset on its own, its ledger flushed: registers at reset values; its power state, a fill and the front end go on
(18 R444, R445; the fill is the model's, DESIGN CHOICE log entry 51). -/
def MemCtl.reset (c : MemCtl) : MemCtl :=
  { c.warm with pstate := c.pstate, wokenFrom := c.wokenFrom, filling := c.filling }

/-- A controller is reset after its ledger flush (18 R442, R444 to R446). -/
def State.ctlReset (m : Nat) (s : State) : State := (s.flushAll m).modCtl m MemCtl.reset

/-- A controller in Off: its registers and state are lost, and at their reset values when it wakes; the DIMM's description and training
stay (17 R414; that they read so from the entry on is the model's, DESIGN CHOICE log entry 160). -/
def MemCtl.lost (c : MemCtl) : MemCtl :=
  { pstate := .off
    pass := c.pass
    spd := c.spd
    rate := c.rate
    ready := c.ready
    trainDone := c.trainDone
    trainFail := c.trainFail
    failLane := c.failLane
    failRank := c.failRank }

/-- A memory domain leaves Run, its ledgers flushed first, its sluice with it; in Off its contents are lost (R153,
R160, 17 R414, R415). -/
def State.memLeave (d : Nat) (st : PState) (s : State) : State :=
  (domainCtls d).foldl (fun s k =>
    let s := s.flushAll k
    let s := if st = .off then s.modMem fun x => { x with words := tdrop (fun i => i / (240 * 2 ^ 28) = k) x.words } else s
    s.modCtl k fun c => if st = .off then c.lost else { c with pstate := st, wokenFrom := none }) (s.setDom d st)
  |>.slcSet (ctlSluice ((domainCtls d).headD 0)) (if st = .run then 0 else if st = .sleep then 1 else 2)

/-- The rates of the channels of one DDR PLL: the lowest of the header's and of every present channel's (R147). -/
def State.setRates (pll : Nat) (s : State) : State :=
  let ks := (List.range 4).map fun i => 32 + 4 * pll + i
  let rates := ks.filterMap fun k => if (s.ctlAt k).present k then (s.ctlAt k).spd.map (·.rate.toNat) else none
  let r := rates.foldl min s.mem.imgRate.toNat
  ks.foldl (fun s k => s.modCtl k fun c => { c with rate := BitVec.ofNat 2 r }) s

/-- A new window: the first poisoned delivery is logged again, PEAK is reported (R157, R164). -/
def MemState.newWindow (x : MemState) : MemState :=
  { x with ctl := x.ctl.foldl (fun t e => tset t {} e.1
      { e.2 with poisonLogged := false, peak := e.2.peakNow, peakNow := BitVec.ofNat 13 e.2.ledger.length }) x.ctl }

end Sys2Proof.Machine
end

