-- ==== Sys2Proof/Machine/Cistern.lean ====
section
/-! DEFINITION. Cisterns: configuration, rows, service accesses, patrol scrub (06_cisterns). The accesses of the fabric's
ports are gathered by PULSE and applied here at the end of the pulse. -/
namespace Sys2Proof.Machine

/-! ### Places -/

/-- The plot of a cistern, and the node whose interface serves the plot (R134). -/
def cstPlot (i : Nat) : Nat := i / 8
def plotNode (plot : Nat) : Nat := 160 * (plot / 2560) + 16 * (plot % 40 / 4) + plot / 40 % 64 / 4

/-- Bits [26:11] and row of a cistern location word (R134, 13 R325). -/
def cstLoc (i row : Nat) : Nat :=
  let plot := cstPlot i
  row + 2 ^ 11 * (i % 8) + 2 ^ 14 * (plot % 40) + 2 ^ 20 * (plot / 40 % 64) + 2 ^ 26 * (plot / 2560)

def rowKey (i row : Nat) : Nat := i * 2048 + row

def State.cstRow (s : State) (i row : Nat) : Stored := tget s.cst.rows 0 (rowKey i row)

def State.putRow (i row : Nat) (w : Stored) (s : State) : State :=
  s.modCst fun c => { c with rows := tset c.rows 0 (rowKey i row) w }

/-! ### Plots that execute no pulses -/

def Rect.has (r : Rect) (plot : Nat) : Bool :=
  r.tierB = decide (2560 ≤ plot) && decide (r.x0 ≤ plot / 40 % 64) && decide (plot / 40 % 64 ≤ r.x1)
    && decide (r.y0 ≤ plot % 40) && decide (plot % 40 ≤ r.y1)

/-- The levee whose region holds the plot (10 R251). -/
def FabricState.leveeOf (f : FabricState) (plot : Nat) : Option Levee :=
  f.levees.find? fun l => l.rects.any fun r => r.has plot

/-- Pair number of a plot (State/Splice.lean). -/
def plotPair (plot : Nat) : Nat := 64 * (plot % 40) + plot / 40 % 64

def State.frozenPlot (s : State) (plot : Nat) : Bool := (s.spl.pairAt (plotPair plot)).frozen

/-- The plot stands behind a levee or is frozen (04 R88, 10 R251). -/
def State.leveed (s : State) (plot : Nat) : Bool := (s.fab.leveeOf plot).isSome || s.frozenPlot plot

/-! ### Configuration (R122, R123) -/

def State.cstCfg (s : State) (i : Nat) : Nat := (tget s.cst.cfg 0 i).toNat

def cstRatio (cfg : Nat) : Nat := cfg % 4
def cstOpen (cfg : Nat) : Bool := cfg.testBit 2
def cstInit (cfg : Nat) : Bool := cfg.testBit 3

/-- Depth of a ratio in port addresses (R122, R128). -/
def cstDepth (ratio : Nat) : Nat :=
  match ratio with
  | 0 => 2048 | 1 => 4096 | 2 => 1024 | _ => 512

/-- ACTIVE and BANK of a port in a strand (R123). -/
def cstActive (cfg : Nat) (portB : Bool) (s : Nat) : Bool := cfg.testBit (16 + 16 * s + if portB then 8 else 0)
def cstBank (cfg : Nat) (portB : Bool) (s : Nat) : Nat := cfg >>> (17 + 16 * s + if portB then 8 else 0) % 8

/-- Port B is inactive in the coming strand (R135). -/
def State.cstSlotFree (s : State) (i : Nat) : Bool := !cstActive (s.cstCfg i) true s.win.strand

/-- Port B is active in every strand of the turn (R135). -/
def State.cstNeverFree (s : State) (i : Nat) : Bool :=
  (List.range s.fab.turnLen).all fun t => cstActive (s.cstCfg i) true t

/-- Pulses are executed now: neither stopped, stalled nor waiting for a slot (R135). -/
def State.pulsing (s : State) : Bool :=
  s.win.st = .running && s.win.stall.isNone && !s.win.slotWait && s.fab.clockStop.isEmpty

/-- The cistern serves in any pulse period: no pulse executes in its plot (R135, 10 R251). -/
def State.cstIdle (s : State) (i : Nat) : Bool := !s.pulsing || s.leveed (cstPlot i)

/-! ### Reads and their consequences (R130 to R133) -/

/-- Count the uncorrectable rows of one access, `rows` of them, and log the first access of a cistern in a window (R132). -/
def State.cstBad (i row req rows : Nat) (s : State) : State :=
  let t := s.stamp
  let first := !s.cst.logged.contains i
  let s := s.modCst fun c =>
    { c with uncorrCnt := satAdd c.uncorrCnt rows, lastCistern := i, lastRow := row, lastReq := req, lastStamp := t,
             logged := if first then i :: c.logged else c.logged }
  if first then s.logAt t 0x0501 false false (w32 (cstLoc i row)) (w32 req) 0 else s

/-- Count corrected rows (R131). -/
def State.cstCorrected (n : Nat) (s : State) : State := s.modCst fun c => { c with corrCnt := satAdd c.corrCnt n }

/-- Read one row with nothing else in its pulse period: corrected in place, counted, logged (R130 to R132). -/
def State.cstRead (i row req : Nat) (s : State) : State × LightRead :=
  let r := lightDecode (s.cstRow i row)
  let s := match r.kind with
    | .single => (s.putRow i row (lightEncode r.data)).cstCorrected 1
    | .poison | .bad => s.cstBad i row req 1
    | .clean => s
  (s, r)

/-- The word a row holds after the writes of one pulse, given as bits and mask (R133). -/
def mergeRow (old : Stored) (data mask : Word18) : Stored :=
  if mask = BitVec.allOnes 18 then lightEncode data
  else
    let r := lightDecode old
    let d := (r.data &&& ~~~mask) ||| (data &&& mask)
    if r.poisoned then lightPoison d else lightEncode d

/-- The plot that a frame address names (10 R235). -/
def framePlot (a : Nat) : Nat := plotIx (a / 2 % 2) (a / 4 % 64) (a / 256 % 64)

/-! ### Service accesses (R134, R135) -/

/-- Linear place of a word of a plot: cistern of the plot and row (R134). -/
def svcPlace (p : Packet) (k : Nat) : Nat × Nat :=
  let lin := p.addr.toNat % 2 ^ 14 + k
  (cisternPlot p.addr * 8 + lin / 2048, lin % 2048)

/-- The checks of a request to region 0xC before any row is touched: reserved bits, plot y, one plot (R134). -/
def svcAddressOk (p : Packet) : Bool :=
  let x := p.addr.toNat % 2 ^ 44
  decide (x / 2 ^ 27 = 0) && decide (x / 2 ^ 14 % 64 ≤ 39) && decide (x % 2 ^ 14 + p.len ≤ 2 ^ 14)

/-- The cisterns a request touches. -/
def svcCisterns (p : Packet) : List Nat :=
  if p.len = 0 then []
  else
    let a := (svcPlace p 0).1
    (List.range ((svcPlace p (p.len - 1)).1 + 1 - a)).map (a + ·)

/-- A request that arrives while the window runs is rejected as closed (R135). -/
def State.svcClosed (s : State) (p : Packet) : Bool :=
  (svcCisterns p).any fun i => !s.cstIdle i && (s.cstNeverFree i || (p.cmd ≠ .read && !cstOpen (s.cstCfg i)))

/-- A self-test of kind 0 or 1 runs on the plot (19 R457). -/
def State.bistPlot (s : State) (plot : Nat) : Bool :=
  match s.bist.run with
  | some r => decide (r.kind ≤ 1) && framePlot r.inst = plot
  | none => false

/-- CISTERN_SERVICE_REQUEST: the weir interface takes its first waiting request and judges it (R134, R135). -/
def execCisternServiceRequest (n : Fin 320) (s : State) : Host.Outcome State Fault Refusal :=
  .next (if s.gated then s else match (s.nodeAt n).work with
    | [] => s
    | p :: t =>
      let s := s.modNode n fun x => { x with work := t }
      -- a quadrant that is not in Run (08 R195, R197, 17 R426)
      if s.targetOff n p.addr then s.answerOff n p
      else if !svcAddressOk p then s.answer n p .badAddress []
      else if s.bistPlot ((svcPlace p 0).1 / 8) then s.answer n p .cisternClosed []
      else if s.svcClosed p then s.answer n p .cisternClosed []
      else if p.len = 0 then s.answer n p .ok []
      else s.modCst fun c => { c with service := c.service ++ [{ node := n, pkt := p }] })

/-- The oldest service request whose next row lies in the cistern (R135). -/
def CisternState.nextService (c : CisternState) (i : Nat) : Option Service :=
  c.service.find? fun v => (svcPlace v.pkt v.done).1 = i

/-- The row access may take place now: the pulse period qualifies (R135). -/
def State.svcQualifies (s : State) (i : Nat) (write : Bool) : Bool :=
  s.cstIdle i ||
  (s.cstSlotFree i && (tget s.cst.slot none i).isNone && (!write || cstOpen (s.cstCfg i)))

/-- A service request has had all its rows: it is answered, with the poison status where a row was poisoned (R132). -/
def State.svcDone (v : Service) (s : State) : State :=
  if v.done < v.pkt.len then s.modCst fun c => { c with service := c.service.map fun x => if x.pkt = v.pkt then v else x }
  else
    (s.modCst fun c => { c with service := c.service.filter fun x => x.pkt ≠ v.pkt }).answer v.node v.pkt
      (if v.got.any (·.poison) then .poison else .ok) v.got

/-- CISTERN_SERVICE_ROW: one row of the oldest request for a cistern (R129, R135). While pulses execute, the access takes
port B's place in the coming pulse, whose end brings its write and write-back. -/
def execCisternServiceRow (i : Fin 40960) (s : State) : Host.Outcome State Fault Refusal :=
  .next (if s.gated then s else match s.cst.nextService i with
    | none => s
    | some v =>
      let row := (svcPlace v.pkt v.done).2
      let write := v.pkt.cmd ≠ .read
      let word := (v.pkt.words.getD v.done {}).data
      if !s.svcQualifies i write then s
      else if s.cstIdle i then
        if write then (s.putRow i row (lightEncode word)).svcDone { v with done := v.done + 1 }
        else
          let (s, r) := s.cstRead i row 2
          s.svcDone { v with done := v.done + 1, got := v.got ++ [{ data := r.data, poison := r.poisoned }] }
      else
        let r := lightDecode (s.cstRow i row)
        let s := s.modCst fun c => { c with slot := tset c.slot none i (some { row := row, write := if write then some word else none }) }
        s.svcDone { v with done := v.done + 1,
                           got := if write then v.got else v.got ++ [{ data := r.data, poison := r.poisoned }] })

/-! ### Patrol scrub (R136) -/

/-- The patrol passes a row of a cistern; a pass is complete when every cistern has been read whole (R136, R140). -/
def CisternState.patrolled (c : CisternState) (i : Nat) : CisternState :=
  let p := tget c.pos 0 i + 1
  if p < 2048 then { c with pos := tset c.pos 0 i p }
  else
    let l := if c.passed.contains i then c.passed else i :: c.passed
    if l.length = 40960 then { c with pos := tset c.pos 0 i 0, passed := [], scrubPass := satInc c.scrubPass }
    else { c with pos := tset c.pos 0 i 0, passed := l }

/-- CISTERN_PATROL_READ: the patrol reads the cistern's next row in a slot of a service read (R135, R136). -/
def execCisternPatrolRead (i : Fin 40960) (s : State) : Host.Outcome State Fault Refusal :=
  .next (
    let row := tget s.cst.pos 0 i
    if !s.svcQualifies i false ∨ s.gated then s
    else if s.cstIdle i then ((s.cstRead i row 3).1).modCst fun c => c.patrolled i
    else s.modCst fun c => ({ c with slot := tset c.slot none i (some { row := row, scrub := true }) }).patrolled i)

/-- CISTERN_SCRUB_OVERRUN: a period ends before every row of the cistern has been read: logged, and the patrol goes on (R136). That the
period has ended so is what the row says; the passes that CST_SCRUB_PASS counts go by the rows read (DESIGN CHOICE, log entry
155). -/
def execCisternScrubOverrun (i : Fin 40960) (s : State) : Host.Outcome State Fault Refusal :=
  .next (s.log 0x0502 false false (w32 (cstLoc i 0)) 0 0)

/-! ### The end of a pulse (R129, R131, R133) -/

/-- A read or write of one row by port A (0) or port B (1) in a pulse. -/
structure PortAcc where
  cistern : Nat
  row : Nat
  req : Nat
  /-- data and mask of a write; none for a read -/
  write : Option (Word18 × Word18)
deriving DecidableEq, Repr

/-- Combine two writes of one row: the first keeps its bits (R129). -/
def overWrite (a b : Word18 × Word18) : Word18 × Word18 :=
  ((a.1 &&& a.2) ||| (b.1 &&& b.2 &&& ~~~a.2), a.2 ||| b.2)

/-- All accesses of a pulse to one cistern, in the order port A, port B, service, scrub: each access as the row list it
reads, and the writes (R129 to R133). -/
def State.cstPulseOne (i : Nat) (accs : List PortAcc) (s : State) : State :=
  let reads := accs.filter fun a => a.write.isNone
  let rows := (reads.map (·.row)).eraseDups
  let kinds := rows.map fun r => (r, lightDecode (s.cstRow i r))
  let writes := accs.filterMap fun a => a.write.map fun w => (a.row, w)
  let wrows := (writes.map (·.1)).eraseDups
  -- counts and the log: each requester's access in order, which counts each bad row that it finds (R131, R132)
  let bad := (kinds.filter fun k => k.2.poisoned).map (·.1)
  let s := s.cstCorrected (kinds.filter fun k => k.2.kind = .single).length
  let s := [0, 1, 2, 3].foldl (fun (s : State) req =>
    let mine := ((reads.filter fun x => x.req = req && bad.contains x.row).map (·.row)).eraseDups
    match sortBy id mine with
    | [] => s
    | lo :: _ => s.cstBad i lo req mine.length) s
  let olds := wrows.map fun r =>
    (r, mergeRow (s.cstRow i r) |> fun m =>
      let w := (writes.filter fun x => x.1 = r).map (·.2)
      let t := w.foldl overWrite (0, 0)
      m t.1 t.2)
  let fixes := (kinds.filter fun k => k.2.kind = .single && !wrows.contains k.1).map fun k => (k.1, lightEncode k.2.data)
  (olds ++ fixes).foldl (fun s e => s.putRow i e.1 e.2) s

/-- The slot accesses as accesses of the pulse. -/
def SlotAcc.acc (i : Nat) (a : SlotAcc) : PortAcc :=
  { cistern := i, row := a.row, req := if a.scrub then 3 else 2, write := a.write.map fun w => (w, BitVec.allOnes 18) }

/-- End of the pulse in every cistern accessed; `accs` are the fabric's accesses, port A before port B in each cistern. -/
def State.cstPulseEnd (accs : List PortAcc) (s : State) : State :=
  let slots := s.cst.slot.filterMap fun e => e.2.map fun a => a.acc e.1
  let all := accs ++ slots
  let s := s.modCst fun c => { c with slot := [] }
  (all.map (·.cistern)).eraseDups.foldl (fun s i => s.cstPulseOne i (all.filter fun a => a.cistern = i)) s

/-- A new window: the first bad access of each cistern is logged again (R132). -/
def CisternState.newWindow (c : CisternState) : CisternState := { c with logged := [] }

end Sys2Proof.Machine
end

