-- ==== Sys2Proof/Machine/HostPath.lean ====
section
/-! DEFINITION. The path to host memory: PCIe requests and the host window (07_deep_memory R162, 12_host_ports R298). -/
namespace Sys2Proof.Machine

/-- Cut a run of bytes at 4 KiB boundaries and at a maximum size (09 R214). -/
def hostCuts (mx : Nat) : Nat → Nat → Nat → List (Nat × Nat)
  | 0, _, _ => []
  | fuel + 1, addr, len =>
    if len = 0 then []
    else
      let k := min len (min (max mx 1) (4096 - addr % 4096))
      (addr, k) :: hostCuts mx fuel (addr + k) (len - k)

/-- Send posted writes (09 R214). -/
def State.hostPut (addr : Nat) (bytes : List Byte) (s : State) : State :=
  (hostCuts s.host.pf0.mps (bytes.length + 1) addr bytes.length).foldl (fun s c =>
    s.emit (.hostBytes (c.1 % 2 ^ 64) ((bytes.drop (c.1 - addr)).take c.2))) s

/-- Send one read request. -/
def State.hostGet (ask : HostAsk) (addr off len : Nat) (s : State) : State :=
  let id := s.host.nextRead
  (s.modHost fun h => { h with nextRead := id + 1, reads := h.reads ++ [{ id := id, ask := ask, off := off, len := len }] }).emit
    (.hostRead id (addr % 2 ^ 64) len)

/-- Send the read requests of a run of bytes. -/
def State.hostGetAll (ask : HostAsk) (addr len : Nat) (s : State) : State :=
  (hostCuts s.host.pf0.mrrs (len + 1) addr len).foldl (fun s c => s.hostGet ask c.1 (c.1 - addr) c.2) s

/-- Number of bytes in chunks. -/
def chunkBytes (l : List (Nat × List (Byte × Bool))) : Nat := l.foldl (fun a c => a + c.2.length) 0

/-- One byte of a read, where a chunk has brought it. -/
def chunkByte (l : List (Nat × List (Byte × Bool))) (j : Nat) : Option (Byte × Bool) :=
  (l.find? fun e => e.1 ≤ j && j < e.1 + e.2.length).bind fun e => e.2[j - e.1]?

/-- Word k of 32-bit containers: as its bytes came, or 0 and poisoned where one has not come (07 R162). -/
def chunkWord (l : List (Nat × List (Byte × Bool))) (k : Nat) : MWord :=
  match chunkByte l (4 * k), chunkByte l (4 * k + 1), chunkByte l (4 * k + 2), chunkByte l (4 * k + 3) with
  | some a, some b, some c, some d =>
    { data := BitVec.ofNat 18 (bytesWord a.1.toNat b.1.toNat c.1.toNat d.1.toNat).toNat, poison := a.2 || b.2 || c.2 || d.2 }
  | _, _, _, _ => { data := 0, poison := true }

/-- The bytes of chunks in rising offset. -/
def chunkJoin (l : List (Nat × List (Byte × Bool))) : List (Byte × Bool) := (sortBy (·.1) l).flatMap (·.2)

/-- Words of 32-bit containers: bits [17:0], poisoned when any byte is marked (R162). -/
def containerWords (fuel : Nat) (l : List (Byte × Bool)) : List MWord :=
  match fuel, l with
  | fuel + 1, a :: b :: c :: d :: t =>
    { data := BitVec.ofNat 18 (bytesWord a.1.toNat b.1.toNat c.1.toNat d.1.toNat).toNat,
      poison := a.2 || b.2 || c.2 || d.2 } :: containerWords fuel t
  | _, _ => []

/-- Bytes of 32-bit containers (R162). -/
def containerBytes (l : List Word18) : List Byte :=
  l.flatMap fun w => (wordBytes (BitVec.ofNat 32 w.toNat)).map (BitVec.ofNat 8)

/-! ### Region 0xF (R162) -/

/-- The word of region 0xF that a packet names. -/
def hostWord (p : Packet) : Nat := p.addr.toNat % 2 ^ 44

def Packet.sameAsk (p : Packet) : HostAsk := .window p.src p.tag p.rsv

/-- Answer from the endpoint's interface. -/
def State.hostAnswer (p : Packet) (st : Status) (ws : List MWord) (s : State) : State := s.answer nodePcie p st ws

/-- A host-window read has all it will have: answer it (R162). -/
def State.hostReqDone (h : HostReq) (s : State) : State :=
  let all := (List.range h.pkt.len).map (chunkWord h.got)
  (s.modMem fun x => { x with host := x.host.erase h }).hostAnswer h.pkt (if all.any (·.poison) then .poison else .ok) all

/-- Replace a host-window read; complete it when nothing of it is outstanding. -/
def State.hostReqPut (h h' : HostReq) (s : State) : State :=
  let s := s.modMem fun x => { x with host := x.host.map fun y => if y = h then h' else y }
  if (h'.stop ∨ 4 * h'.pkt.len ≤ h'.sent) ∧ h'.sent ≤ chunkBytes h'.got then s.hostReqDone h' else s

/-- Bytes of a host-window read arrive. -/
def State.windowBytes (ask : HostAsk) (off : Nat) (bytes : List (Byte × Bool)) (s : State) : State :=
  match s.mem.host.find? fun h => h.pkt.sameAsk = ask with
  | some h => s.hostReqPut h { h with got := h.got ++ [(off, bytes)] }
  | none => s

/-- Send the next PCIe request of a host-window read. -/
def State.hostReqSend (h : HostReq) (s : State) : State :=
  if s.hostOpen then
    let a := s.mem.hwBase.toNat + 4 * hostWord h.pkt
    match hostCuts s.host.pf0.mrrs 1 (a + h.sent) (4 * h.pkt.len - h.sent) with
    | (addr, k) :: _ =>
      (s.modMem fun x => { x with host := x.host.map fun y => if y = h then { h with sent := h.sent + k } else y }).hostGet
        h.pkt.sameAsk addr h.sent k
    | [] => s
  else s.hostReqPut h { h with stop := true }

/-- HOST_WINDOW_REQUEST: the endpoint turns the next Leat request, or the next part of one, into a PCIe request (R162). -/
def execHostWindowRequest (s : State) : Host.Outcome State Fault Refusal :=
  .next (if s.nodeStill nodePcie then s else match s.mem.host.find? fun h => !h.stop && h.sent < 4 * h.pkt.len with
    | some h => s.hostReqSend h
    | none =>
      match (s.nodeAt nodePcie).work with
      | [] => s
      | p :: t =>
        let s := s.modNode nodePcie fun x => { x with work := t }
        if !s.hostOpen then s.answerOff nodePcie p
        else if s.mem.hwSize.toNat < hostWord p + p.len then s.hostAnswer p .badAddress []
        else if p.cmd = .read then
          if p.len = 0 then s.hostAnswer p .ok []
          else
            let h : HostReq := { pkt := p }
            (s.modMem fun x => { x with host := x.host ++ [h] }).hostReqSend h
        else
          (s.hostPut (s.mem.hwBase.toNat + 4 * hostWord p) (containerBytes (p.words.map (·.data)))).hostAnswer p .ok [])

/-- The endpoint is reset: host-window reads complete, with "domain off" when every request had been sent, else with poison
(R162, 12 R297). -/
def State.windowReset (s : State) : State :=
  s.mem.host.foldl (fun s h =>
    if h.sent < 4 * h.pkt.len then s.hostReqDone h
    else (s.modMem fun x => { x with host := x.host.erase h }).hostAnswer h.pkt .domainOff []) s

end Sys2Proof.Machine
end

