-- ==== Sys2Proof/Machine/FlumeDma.lean ====
section
/-! DEFINITION. Flume: descriptors, bursts, arbitration, completion, errors (09_flume_dma). -/
namespace Sys2Proof.Machine

/-! ### Descriptor fields (R210) -/

def FDesc.word (d : FDesc) (i : Nat) : W32 := d.raw.getD i 0
def FDesc.bit (d : FDesc) (i : Nat) : Bool := (d.word 0).getLsbD i
/-- SRC_KIND, DST_KIND: 0 deep, 1 host, 2 remote, 3 reserved. -/
def FDesc.srcKind (d : FDesc) : Nat := field (d.word 0) 1 2
def FDesc.dstKind (d : FDesc) : Nat := field (d.word 0) 3 2
def FDesc.packed (d : FDesc) : Bool := d.bit 5
def FDesc.circ (d : FDesc) : Bool := d.bit 6
/-- The circular side is the destination. -/
def FDesc.circDst (d : FDesc) : Bool := d.bit 7
def FDesc.wrap (d : FDesc) : Nat := field (d.word 0) 8 5
def FDesc.start (d : FDesc) : Nat := field (d.word 0) 13 2
def FDesc.evtFab (d : FDesc) : Bool := d.bit 15
def FDesc.evtTrig (d : FDesc) : Bool := d.bit 16
def FDesc.trigCh (d : FDesc) : Nat := field (d.word 0) 17 5
def FDesc.src (d : FDesc) : Nat := (d.word 1).toNat + 2 ^ 32 * (d.word 2).toNat
def FDesc.dst (d : FDesc) : Nat := (d.word 3).toNat + 2 ^ 32 * (d.word 4).toNat
def FDesc.len (d : FDesc) : Nat := (d.word 5).toNat
def FDesc.circStart (d : FDesc) : Nat := field (d.word 7) 0 31
/-- Endless: circular with LEN 0 (R215). -/
def FDesc.endless (d : FDesc) : Bool := d.circ && d.len = 0
/-- Endpoint node and device of the remote side (R212). -/
def FDesc.epNode (d : FDesc) (dst : Bool) : Nat := nodeLink (field (d.word 6) (if dst then 16 else 0) 4)
def FDesc.epDev (d : FDesc) (dst : Bool) : BitVec 5 := BitVec.ofNat 5 (field (d.word 6) (if dst then 20 else 4) 5)

/-- Kind, base and circularity of a side. -/
def FDesc.kind (d : FDesc) (dst : Bool) : Nat := if dst then d.dstKind else d.srcKind
def FDesc.base (d : FDesc) (dst : Bool) : Nat := if dst then d.dst else d.src
def FDesc.circOn (d : FDesc) (dst : Bool) : Bool := d.circ && d.circDst = dst

/-- Reserved bits that must be 0 (R210). -/
def FDesc.reservedClear (d : FDesc) : Bool :=
  field (d.word 0) 22 10 = 0 && (d.word 6 &&& 0xFE00FE00#32) = 0 && !(d.word 7).getLsbD 31 &&
  (List.range 4).all (fun i => d.word (8 + i) = 0) && field (d.word 12) 9 23 = 0 &&
  (d.srcKind = 1 || field (d.word 2) 16 16 = 0) && (d.dstKind = 1 || field (d.word 4) 16 16 = 0)

/-- The checks before any word is moved (R211). -/
def FDesc.good (d : FDesc) : Bool :=
  let side (dst : Bool) : Bool :=
    (d.kind dst ≠ 1 || d.packed || d.base dst % 4 = 0) &&
    (!d.circOn dst || d.kind dst = 1 || d.base dst % 2 ^ d.wrap = 0)
  d.bit 0 && d.srcKind ≠ 3 && d.dstKind ≠ 3 && d.start ≠ 3 && d.reservedClear &&
  !(d.srcKind = 1 && d.dstKind = 1) && !(d.srcKind = 2 && d.dstKind = 2) &&
  (!d.circ || (4 ≤ d.wrap && d.circStart < 2 ^ d.wrap)) && side false && side true

/-- Word range of a deep side: its whole buffer when circular (R216). -/
def FDesc.range (d : FDesc) (dst : Bool) : Nat × Nat :=
  (d.base dst, if d.circOn dst then d.base dst + 2 ^ d.wrap else d.base dst + d.len)

/-- Both sides deep, and a word in common (R216). -/
def FDesc.overlaps (d : FDesc) : Bool :=
  let a := d.range false
  let b := d.range true
  d.srcKind = 0 && d.dstKind = 0 && max a.1 b.1 < min a.2 b.2

/-! ### Bursts (R214, R215) -/

/-- Index on a side of transfer index i (R215). -/
def FDesc.index (d : FDesc) (dst : Bool) (i : Nat) : Nat :=
  if d.circOn dst then (d.circStart + i) % 2 ^ d.wrap else i

/-- The next burst to read: first index and length; none when all have been taken (R214 to R216). -/
def FDesc.nextBurst (d : FDesc) : Option (Nat × Nat) :=
  if d.desc then
    if d.cursor = 0 then none
    else let a := (d.cursor - 1) / 512 * 512; some (a, d.cursor - a)
  else if d.endless ∨ d.cursor < d.len then
    let k := if d.circ then min 512 (2 ^ d.wrap - (d.circStart + d.cursor) % 2 ^ d.wrap) else 512
    some (d.cursor, if d.endless then k else min k (d.len - d.cursor))
  else none

/-- Cut a run of deep words at page boundaries of the Reservoir and at plot boundaries of cisterns (R214). -/
def deepCuts : Nat → Nat → Nat → List (Nat × Nat)
  | 0, _, _ => []
  | fuel + 1, a, len =>
    if len = 0 then []
    else
      let x := a % 2 ^ 44
      let r := a / 2 ^ 44
      let room := if r = 0 then 224 - x % 224 else if r = 0xC then 2 ^ 14 - x % 2 ^ 14 else len
      let k := min len room
      (a, k) :: deepCuts fuel (a + k) (len - k)

/-- Byte run of words [i, i + n) of a host side: first byte and count (R213). -/
def FDesc.hostRun (d : FDesc) (i n : Nat) : Nat × Nat :=
  if d.packed then (18 * i / 8, (18 * (i + n) + 7) / 8 - 18 * i / 8) else (4 * i, 4 * n)

/-- The bits of bytes, as a number, least significant byte first. -/
def bytesNat (l : List Byte) : Nat := l.foldr (fun b a => b.toNat + 256 * a) 0

/-- Words of a host run from its bytes (R213, R162). -/
def FDesc.hostWords (d : FDesc) (i n : Nat) (bytes : List (Byte × Bool)) : List MWord :=
  if d.packed then
    let lead := 18 * i % 8
    (List.range n).map fun k =>
      let lo := (lead + 18 * k) / 8
      let hi := (lead + 18 * k + 17) / 8
      let bs := (bytes.drop lo).take (hi - lo + 1)
      { data := BitVec.ofNat 18 (bytesNat (bs.map (·.1)) >>> ((lead + 18 * k) % 8)), poison := bs.any (·.2) }
  else containerWords (n + 1) bytes

/-- Bytes of a host run (R213). A burst that begins inside a byte writes that byte's low bits as `low`: the spec says no host
byte is written by two bursts, and states no value where CIRC_START makes one so. -/
def FDesc.hostBytes (d : FDesc) (i : Nat) (ws : List Word18) (low : Nat) : List Byte :=
  if d.packed then
    let lead := 18 * i % 8
    let v := ws.foldr (fun w a => w.toNat + 2 ^ 18 * a) 0 * 2 ^ lead + low % 2 ^ lead
    (List.range (d.hostRun i ws.length).2).map fun k => BitVec.ofNat 8 (v >>> (8 * k))
  else containerBytes ws

/-- Slots a channel holds (R208). -/
def FChan.slots (x : FChan) : Nat := (x.bursts.filter fun b => !b.written).length

/-- Shared slots in use (R227). -/
def FlumeState.shared (f : FlumeState) : Nat := f.chan.foldl (fun a e => a + (e.2.slots - 2)) 0
def FlumeState.used (f : FlumeState) : Nat := f.chan.foldl (fun a e => a + e.2.slots) 0

/-- A channel can take a slot (R208). -/
def State.flmSlotFree (s : State) (c : Nat) : Bool := (s.flmAt c).slots < 2 || s.flm.shared < 160

/-- A burst has failed (R222). -/
def FChan.failing (x : FChan) : Bool := x.bursts.any fun b => b.status ≠ .ok

/-- Eligible for the read engine (R217, R218). -/
def State.flmReadable (s : State) (c : Nat) : Bool :=
  let x := s.flmAt c
  match x.desc with
  | none => false
  | some d =>
    d.started && d.done.isNone && !d.aborting && !x.failing && d.nextBurst.isSome && s.flmSlotFree c &&
    (!d.overlap || x.bursts.isEmpty)

/-- The burst that the write engine would take: the next in processing order, complete in its slot (R217). -/
def FChan.nextWrite (x : FChan) : Option FBurst :=
  match x.bursts.find? fun b => !b.granted || b.status ≠ .ok with
  | some b => if b.status = .ok ∧ b.need = 0 then some b else none
  | none => none

/-- The first channel at or after a pointer that meets a test (R217). -/
def roundRobin (ptr : Nat) (p : Nat → Bool) : Option Nat := ((List.range 32).map fun i => (ptr + i) % 32).find? p

/-- Flume issues traffic from strand 0 of turn 0 to the beginning of step 2 (R218), while its sluice is open (16 R407). -/
def State.flmOpen (s : State) : Bool := s.win.st = .running && s.slcOpen 9

/-! ### Progress of a descriptor -/

def FChan.setBurst (x : FChan) (first : Nat) (f : FBurst → FBurst) : FChan :=
  { x with bursts := x.bursts.map fun b => if b.first = first then f b else b }

/-- The CRC of A followed by B, from the CRC of A, the CRC of B and B's bytes (R221). -/
def crcJoin (a b n : Nat) : Nat := (Nat.repeat (fun c => crcByteR 0x82F63B78 c 0) n a) ^^^ b

/-- Bytes of the CRC (R221). -/
def FBurst.bytesCrc (b : FBurst) : List Nat :=
  (List.range b.len).flatMap fun k => wordBytes (BitVec.ofNat 32 (tget b.words {} k).data.toNat)

/-- A burst at the head of the order has been written (R219, R221, R226). -/
def FChan.countBurst (x : FChan) (d : FDesc) (b : FBurst) : FChan × FDesc :=
  let w := d.written + b.len
  let c := crc32c b.bytesCrc
  let crc := if d.desc then crcJoin c x.crc.toNat (4 * d.written) else crcJoin x.crc.toNat c (4 * b.len)
  ({ x with done := w32 w, crc := w32 crc }, { d with written := w })

/-- Take the written bursts at the head, and say what the descriptor comes to (R219, R222, R223). An abort that is there before the last
burst is written ends it with ABORTED. -/
def settleBursts : Nat → FChan → FDesc → FChan × FDesc
  | 0, x, d => (x, d)
  | fuel + 1, x, d =>
    match x.bursts with
    | [] =>
      if d.done.isSome ∨ !d.started then (x, d)
      else if d.aborting then (x, { d with done := some 0x10 })
      else if d.nextBurst.isNone then (x, { d with done := some 0 })
      else (x, d)
    | b :: t =>
      if b.status ≠ .ok then
        if x.bursts.all fun q => q.need = 0 && q.wleft = 0 then
          ({ x with bursts := [] }, { d with done := some b.status.code })
        else (x, d)
      else if b.written then
        let (x, d) := ({ x with bursts := t } : FChan).countBurst d b
        settleBursts fuel x d
      else (x, d)

def FChan.settleFlm (x : FChan) : FChan :=
  match x.desc with
  | none => x
  | some d =>
    let (x, d) := settleBursts (x.bursts.length + 1) x d
    { x with desc := some d }

/-- A part of a burst's reading is complete (R214, R222). -/
def State.flumeReadDone (c first off n : Nat) (st : Status) (ws : List MWord) (s : State) : State :=
  s.modFlmCh c fun x => (x.setBurst first fun b =>
    { b with need := b.need - n, status := b.status.first st,
             words := if st = .ok then tsetAll {} b.words (((List.range ws.length).map (off + ·)).zip ws) else b.words }).settleFlm

/-- A part of a burst's writing is complete (R219, R222). -/
def State.flumeWriteDone (c first n : Nat) (st : Status) (s : State) : State :=
  s.modFlmCh c fun x => (x.setBurst first fun b =>
    { b with wleft := b.wleft - n, status := b.status.first st, written := b.wleft ≤ n && b.status.first st = .ok }).settleFlm

/-- Bytes of a host source arrive; when all are there the words are judged (R212). -/
def State.flumeBytes (c first off : Nat) (bytes : List (Byte × Bool)) (s : State) : State :=
  s.modFlmCh c fun x =>
    match x.desc with
    | none => x
    | some d => (x.setBurst first fun b =>
        let b := { b with need := b.need - bytes.length, bytes := b.bytes ++ [(off, bytes)] }
        if b.need ≠ 0 then b
        else
          let ws := d.hostWords (d.index false b.first) b.len (chunkJoin b.bytes)
          { b with bytes := [], status := b.status.first (if ws.any (·.poison) then .poison else .ok),
                   words := tsetAll {} b.words ((List.range ws.length).zip ws) }).settleFlm

/-- A request of an engine ends at its source (R212, R222). -/
def State.finishFlume (r : Request) (st : Status) (s : State) : State :=
  match r.asker with
  | .flumeRead c b i => s.flumeReadDone c b i r.len st []
  | .flumeWrite c b _ => s.flumeWriteDone c b r.len st
  | _ => s

/-- Units of a request on the reservation that its target grants (08 R183, R186). -/
def State.flmUnits (s : State) (r : Request) : Nat := r.allUnits (rxUnits (s.nodeAt r.dest).size)

/-- Issue one Leat request of an engine, or complete it at once with the status of the source's checks (R212). It was admitted with its
burst (R218, 08 R187). -/
def State.flmIssue (node : Nat) (r : Request) (remote : Bool) (s : State) : State × Status :=
  let go (r : Request) : State × Status :=
    ((s.enqueue node { r with admitted := true }).modNode node fun x => { x with used := satAdd x.used (s.flmUnits r) }, .ok)
  if remote then
    if (s.routeOf node r.dest).isNone then (s.niError node .noRoute r.dest r.cmd, .noRoute) else go r
  else match s.sourceCheck node r.addr with
    | .error st => (s.niError node st ((destOf r.addr).getD 0) r.cmd, st)
    | .ok d => go { r with dest := d }

/-- The READs of a burst (R214). -/
def FDesc.reads (d : FDesc) (c first n : Nat) : List Request :=
  let a := d.src + d.index false first
  (deepCuts (n + 1) a n).map fun p =>
    { asker := .flumeRead c first (p.1 - a), dest := if d.srcKind = 2 then d.epNode false else (destOf (BitVec.ofNat 48 p.1)).getD 0,
      cmd := .read, addr := BitVec.ofNat 48 p.1, len := p.2, remote := d.epDev false }

/-- The WRITEs of a burst (R214). -/
def FDesc.writes (d : FDesc) (c : Nat) (b : FBurst) : List Request :=
  let a := d.dst + d.index true b.first
  let ws := (List.range b.len).map fun k => tget b.words {} k
  (deepCuts (b.len + 1) a b.len).map fun p =>
    { asker := .flumeWrite c b.first (p.1 - a), dest := if d.dstKind = 2 then d.epNode true else (destOf (BitVec.ofNat 48 p.1)).getD 0,
      cmd := .write, addr := BitVec.ofNat 48 p.1, len := p.2, words := (ws.drop (p.1 - a)).take p.2, remote := d.epDev true }

/-- The engine's budget covers every request of a burst: a burst is admitted whole (R218, 05 R107, 08 R187). -/
def State.flmCovers (s : State) (node : Nat) (rs : List Request) : Bool :=
  (s.nodeAt node).covers (rs.foldl (fun a r => a + s.flmUnits r) 0)

/-- The read engine's budget covers the channel's next burst. -/
def State.flmReadCovered (s : State) (c : Nat) : Bool :=
  match (s.flmAt c).desc with
  | some d => match d.nextBurst with
    | some (a, n) => d.srcKind = 1 || s.flmCovers nodeFlumeRead (d.reads c a n)
    | none => true
  | none => true

/-- The write engine's budget covers the channel's next burst. -/
def State.flmWriteCovered (s : State) (c : Nat) : Bool :=
  match (s.flmAt c).desc, (s.flmAt c).nextWrite with
  | some d, some b => d.dstKind = 1 || s.flmCovers nodeFlumeWrite (d.writes c b)
  | _, _ => true

/-- Start a burst's reads (R214). -/
def State.flmReadBurst (c : Nat) (d : FDesc) (first n : Nat) (s : State) : State :=
  if d.srcKind = 1 then
    let run := d.hostRun (d.index false first) n
    let s := s.modFlmCh c fun x => { x with bursts := x.bursts ++ [{ first := first, len := n, need := run.2 }] }
    if s.hostOpen then s.hostGetAll (.flume c first) (d.src + run.1) run.2
    else s.modFlmCh c fun x => (x.setBurst first fun b => { b with need := 0, status := .domainOff }).settleFlm
  else
    let s := s.modFlmCh c fun x => { x with bursts := x.bursts ++ [{ first := first, len := n, need := n }] }
    (d.reads c first n).foldl (fun s r =>
      let (s, st) := s.flmIssue nodeFlumeRead r (decide (d.srcKind = 2))
      if st = .ok then s else s.finishFlume r st) s

/-- READ_ARBITER_GRANT: the read arbiter grants the first eligible channel at or after its pointer (R217). -/
def execReadArbiterGrant (s : State) : Host.Outcome State Fault Refusal :=
  .next (if !s.flmOpen ∨ s.nodeStill nodeFlumeRead then s
    else match roundRobin s.flm.rdPtr.toNat fun c => s.flmReadable c && s.flmReadCovered c with
    | none => s
    | some c =>
      let s := s.modFlm fun f => { f with rdPtr := BitVec.ofNat 5 (c + 1) }
      match (s.flmAt c).desc with
      | none => s
      | some d =>
        match d.nextBurst with
        | none => s
        | some (a, n) =>
          let d' := { d with cursor := if d.desc then a else a + n }
          (s.modFlmCh c fun x => { x with desc := some d' }).flmReadBurst c d' a n)

/-- Start a burst's writes (R214). -/
def State.flmWriteBurst (c : Nat) (d : FDesc) (b : FBurst) (s : State) : State :=
  let s := s.modFlmCh c fun x => x.setBurst b.first fun b => { b with granted := true, wleft := b.len }
  if d.dstKind = 1 then
    let i := d.index true b.first
    let ws := (List.range b.len).map fun k => tget b.words {} k
    if s.hostOpen then
      ((s.hostPut (d.dst + (d.hostRun i b.len).1)
        (d.hostBytes i (ws.map (·.data)) (Config.freeWord18 s.fresh 0).toNat)).freshen).flumeWriteDone c b.first b.len .ok
    else s.flumeWriteDone c b.first b.len .domainOff
  else
    (d.writes c b).foldl (fun s r =>
      let (s, st) := s.flmIssue nodeFlumeWrite r (decide (d.dstKind = 2))
      if st = .ok then s else s.finishFlume r st) s

/-- WRITE_ARBITER_GRANT: the write arbiter grants the first channel whose next burst is complete in its slot (R217). -/
def execWriteArbiterGrant (s : State) : Host.Outcome State Fault Refusal :=
  .next (if !s.flmOpen ∨ s.nodeStill nodeFlumeWrite then s
    else match roundRobin s.flm.wrPtr.toNat fun c =>
        (s.flmAt c).desc.isSome && (s.flmAt c).nextWrite.isSome && s.flmWriteCovered c with
    | none => s
    | some c =>
      let s := s.modFlm fun f => { f with wrPtr := BitVec.ofNat 5 (c + 1) }
      match (s.flmAt c).desc, (s.flmAt c).nextWrite with
      | some d, some b => s.flmWriteBurst c d b
      | _, _ => s)

/-! ### Fetching (R209, R218) -/

/-- HEAD and TAIL modulo the ring size (R209). -/
def FChan.mask (x : FChan) (v : Nat) : Nat := v % 2 ^ x.size.toNat

/-- DESCRIPTOR_FETCH: a running channel with HEAD different from TAIL sends the fetch (R209), a host request, while Flume may issue them
(R218). -/
def execDescriptorFetch (c : Fin 32) (s : State) : Host.Outcome State Fault Refusal :=
  let x := s.flmAt c
  .next (if x.run ∧ !x.halted ∧ x.head ≠ x.tail ∧ x.desc.isNone ∧ !x.fetching ∧ s.flmOpen ∧ s.hostOpen ∧ !s.nodeStill nodeFlumeRead then
      (s.modFlmCh c fun x => { x with fetching := true }).emit
        (.hostRead (2 ^ 32 + c.val) ((x.ring.toNat + 64 * x.head.toNat) % 2 ^ 64) 64)
    else s)

/-- RING_ERR: the channel halts and HEAD stays (R209). -/
def State.ringErr (c : Nat) (s : State) : State :=
  (s.modFlmCh c fun x => { x with halted := true, fetching := false }).flmEvt c 4

/-- Begin a descriptor: the first burst may be read (R218). -/
def FChan.startDesc (x : FChan) : FChan :=
  match x.desc with
  | some d => ({ x with desc := some { d with started := true } }).settleFlm
  | none => x

/-- DESCRIPTOR_ARRIVAL: the fetched entry is judged (R209, R211, R216, R218). `good` is 0 where the host completed with UR,
CA or EP. -/
def execDescriptorArrival (c : Fin 32) (words : List W32) (good : Bool) (s : State) : Host.Outcome State Fault Refusal :=
  let x := s.flmAt c
  .next (if !x.fetching then s
    else
      let s := s.modFlmCh c fun x => { x with fetching := false }
      let raw := (words ++ List.replicate (16 - words.length) 0).take 16
      let d : FDesc := { raw := raw }
      if !good ∨ !d.bit 0 then s.ringErr c
      else
        let d := if !d.good then { d with done := some 0x11 }
          else if d.overlaps ∧ d.circ then { d with done := some 0x12 }
          else
            -- only a linear move that overlaps runs in descending order (R216)
            let down := d.overlaps && decide (d.src < d.dst)
            ({ d with overlap := d.overlaps, desc := down, cursor := if down then d.len else 0 } : FDesc)
        s.modFlmCh c fun x =>
          let x := { x with desc := some d, done := 0, crc := 0 }
          if d.done.isNone ∧ d.start = 0 ∧ s.flmOpen then x.startDesc else x)

/-- Strand 0 of turn 0 of a window: what waits for it starts, and a trigger is consumed (R218, R220). -/
def State.flumeWindowStart (s : State) : State :=
  (tkeys s.flm.chan).foldl (fun s c => s.modFlmCh c fun x =>
    match x.desc with
    | some d =>
      if d.started ∨ d.done.isSome then x
      else if d.start = 2 then (if x.trigPend then { x with trigPend := false }.startDesc else x)
      else x.startDesc
    | none => x) s

/-! ### Completion (R219, R220, R222, R223) -/

/-- A trigger reaches a channel (R220). -/
def State.flmTrigger (c : Nat) (s : State) : State :=
  if (s.flmAt c).trigPend then s.modFlm fun f => { f with trigLost := satInc f.trigLost }
  else s.modFlmCh c fun x => { x with trigPend := true }

/-- RESIDUE (R210, R222). -/
def FDesc.residue (d : FDesc) : W32 :=
  if d.endless then (if d.written < 2 ^ 32 then w32 d.written else BitVec.allOnes 32) else w32 (d.len - d.written)

/-- The write-back of a descriptor with a status (R219). Its posted writes are sent while the path to the host is open. -/
def State.flmWriteback (c st : Nat) (d : FDesc) (s : State) : State :=
  let x := s.flmAt c
  let a := (x.ring.toNat + 64 * x.head.toNat) % 2 ^ 64
  let s := if s.hostOpen then
      (s.emit (.hostWrite (a + 48) [w32 st ||| bitAt d.desc 8, d.residue, x.crc, s.wcnt])).emit
        (.hostWrite a [d.word 0 &&& 0xFFFFFFFE#32])
    else s
  s.modFlmCh c fun x =>
    { x with desc := none, bursts := [], cnt := x.cnt + 1, head := BitVec.ofNat 12 (x.mask (x.head.toNat + 1)),
             lastStatus := BitVec.ofNat 8 st }

/-- DESCRIPTOR_WRITEBACK (R219 to R223). -/
def execDescriptorWriteback (c : Fin 32) (s : State) : Host.Outcome State Fault Refusal :=
  .next (if s.nodeStill nodeFlumeWrite then s else match (s.flmAt c).desc with
    | none => s
    | some d =>
      match d.done with
      | none => s
      | some st =>
        let s := s.flmWriteback c st d
        if st = 0 then
          let s := if d.evtFab then s.modFlmCh c fun x => { x with evtPend := true } else s
          let s := if d.evtTrig then s.flmTrigger d.trigCh else s
          -- an abort that met the last burst's completion halts the channel now (R225)
          if d.aborting then (s.modFlmCh c fun x => { x with halted := true }).flmEvt c 2 else s
        else if st = 0x10 then (s.modFlmCh c fun x => { x with halted := true }).flmEvt c 2
        else if st = 0x11 ∨ st = 0x12 then
          (if d.aborting then (s.modFlmCh c fun x => { x with halted := true }).flmEvt c 2 else s)
        else
          let s := (s.modFlmCh c fun x => { x with halted := true }).flmEvt c 1
          if d.aborting then s.flmEvt c 2 else s)

/-- Abort a channel (R223, R225). -/
def State.flmAbort (c : Nat) (s : State) : State :=
  match (s.flmAt c).desc with
  | none => (s.modFlmCh c fun x => { x with halted := true, fetching := false }).flmEvt c 2
  | some d =>
    s.modFlmCh c fun x =>
      if d.done.isSome then { x with desc := some { d with aborting := true } }
      else if !d.started then { x with desc := some { d with aborting := true, done := some 0x10 } }
      else ({ x with desc := some { d with aborting := true } }).settleFlm

/-- A write of FLM_CH_CTL (R225, R226). -/
def State.flmCtl (c : Nat) (run abort : Bool) (s : State) : State :=
  let s := s.modFlmCh c fun x => { x with run := run, halted := x.halted && !run }
  if abort then s.flmAbort c else s

/-- A write of TAIL (R209, R226). -/
def State.flmTail (c v : Nat) (s : State) : State :=
  s.modFlmCh c fun x => { x with tail := BitVec.ofNat 12 (x.mask v) }

/-- STATE of FLM_CH_STATUS (R226). -/
def State.flmStateCode (s : State) (c : Nat) : Nat :=
  let x := s.flmAt c
  if x.halted then 5
  else match x.desc with
    | none => if x.fetching then 1 else 0
    | some d =>
      if d.started ∨ d.done.isSome then (if s.flmOpen then 1 else 4)
      else if d.start = 2 ∧ !x.trigPend then 3 else 2

/-- The ring registers may be written (R226). -/
def State.flmRingFree (s : State) (c : Nat) : Bool := s.flmStateCode c = 0 || s.flmStateCode c = 5

/-- A write of RING_LO: the address, and HEAD becomes 0 (R226). -/
def State.flmRingLo (c : Nat) (v : W32) (s : State) : State :=
  if s.flmRingFree c then
    s.modFlmCh c fun x =>
      { x with ring := (x.ring &&& 0xFFFFFFFF00000000#64) ||| BitVec.ofNat 64 (v.toNat / 64 * 64), head := 0 }
  else s

def State.flmRingHi (c : Nat) (v : W32) (s : State) : State :=
  if s.flmRingFree c then
    s.modFlmCh c fun x => { x with ring := (x.ring &&& 0x00000000FFFFFFFF#64) ||| (BitVec.ofNat 64 v.toNat <<< 32) }
  else s

def State.flmSize (c v : Nat) (s : State) : State :=
  if 1 ≤ v ∧ v ≤ 12 then s.modFlmCh c fun x => { x with size := BitVec.ofNat 4 v } else s

/-- Host requests of Flume end with DOMAIN_OFF: the endpoint is reset (12 R297). -/
def State.flumeHostReset (s : State) : State :=
  (tkeys s.flm.chan).foldl (fun s c =>
    let s := if (s.flmAt c).fetching then s.ringErr c else s
    s.modFlmCh c fun x =>
      match x.desc with
      | some d =>
        if d.srcKind = 1 then
          ({ x with bursts := x.bursts.map fun (b : FBurst) =>
              if b.need ≠ 0 then { b with need := 0, bytes := [], status := b.status.first .domainOff } else b }).settleFlm
        else x
      | none => x) s

/-- A forced Sill reset: each running descriptor is written back with PATH_LOST and the channel halts; gives how many
(18 R446). -/
def State.flumeForced (s : State) : State × Nat :=
  (tkeys s.flm.chan).foldl (fun (a : State × Nat) c =>
    match (a.1.flmAt c).desc with
    | some d =>
      if d.started ∧ d.done.isNone then
        ((((a.1.modFlmCh c fun x => { x with bursts := [] }).flmWriteback c Status.pathLost.code d).modFlmCh c
          fun x => { x with halted := true }).flmEvt c 1, a.2 + 1)
      else a
    | none => a) (s, 0)

/-- The fabric event inputs at strand 0 of a turn (R220). -/
def FlumeState.turnStart (f : FlumeState) : FlumeState :=
  { f with chan := f.chan.foldl (fun t e => tset t {} e.1 { e.2 with evtNow := e.2.evtPend, evtPend := false }) f.chan }

/-! ### The other memory rows that PCI Express brings -/

/-- No slot holds data and no request is outstanding, a write-back that is due among them (16 R408). -/
def FlumeState.idle (f : FlumeState) : Bool := f.chan.all fun e =>
  e.2.bursts.isEmpty && !e.2.fetching && (match e.2.desc with | some d => d.done.isNone | none => true)

end Sys2Proof.Machine
end

