-- ==== Sys2Proof/Machine/DeepMemory.lean ====
section
/-! DEFINITION. The rows of the memory controllers and of BAR4 (07_deep_memory). -/
namespace Sys2Proof.Machine

/-- MEMORY_REQUEST: the controller takes its oldest request that may be served; a domain that is not in Run is woken
(R158, R161). -/
def execMemoryRequest (m : Fin 40) (s : State) : Host.Outcome State Fault Refusal :=
  .next (if (s.nodeAt (ctlNode m)).work.isEmpty ∨ s.gated then s
    else if (s.ctlAt m).pstate = .run then s.serveOne m
    else (s.wakeMem m).memEvt m 6)

/-- PAGE_PATH_COMPLETE (R150, R151, R155, R157). -/
def execPagePathComplete (m : Fin 40) (s : State) : Host.Outcome State Fault Refusal :=
  .next (match (s.ctlAt m).path with
    | none => s
    | some (page, _) => if s.gated then s else (s.endPath m page).serveAll m)

/-- The flush of the limit rule goes on until three quarters of the limit (R153). -/
def MemCtl.drainOver (c : MemCtl) : Bool := decide (c.ledger.length ≤ 3 * c.limit.toNat / 4)

/-- LEDGER_ENTRY_FLUSH: one entry, at step 4 of the boundary or under the limit rule, there at most one between two requests (R153). -/
def execLedgerEntryFlush (m : Fin 40) (s : State) : Host.Outcome State Fault Refusal :=
  let c := s.ctlAt m
  .next (match c.ledger with
    | [] => s.modCtl m fun c => { c with draining := false }
    | e :: _ =>
      if c.path.isSome then s
      else if s.win.st = .boundary ∧ s.win.step = 4 then s.flushEntry m e false
      else if c.draining then
        if c.drainOver then s.modCtl m fun c => { c with draining := false }
        else if c.flushed ∧ (s.nextWork m).isSome then s
        else (s.flushEntry m e true).modCtl m fun c => { c with draining := c.draining && !c.drainOver, flushed := true }
      else s)

/-- The patrol runs: enabled, contents valid, domain in Run, no boundary work, and nothing else to do (R158, R159). -/
def State.patrolRuns (s : State) (m : Nat) : Bool :=
  let c := s.ctlAt m
  s.ctlClocked m && c.patrolEn && c.valid && c.pstate = .run && !c.filling && c.path.isNone && (s.nodeAt (ctlNode m)).work.isEmpty &&
  !(s.win.st = .boundary && 2 ≤ s.win.step && s.win.step ≤ 6)

/-- The page's codeword with its ledger delta has a nonzero syndrome (R149, R159). -/
def pageSyndrome (ws : List LightRead) (delta : List Nat) : Bool :=
  pageCheck ((ws.take 224).flatMap fun r => wordSyms r.data)
    ≠ addSyms ((ws.drop 224).flatMap fun r => wordSyms r.data) delta

/-- Advance the patrol (R159, R164). -/
def MemCtl.patrolled (c : MemCtl) (m : Nat) : MemCtl :=
  if c.pos.toNat + 1 < c.pages m then { c with pos := c.pos + 1 }
  else { c with pos := 0, pass := satInc c.pass }

/-- PATROL_SCRUB: the patrol reads one page; a poisoned word is counted and logged (R156, R159). -/
def execPatrolScrub (m : Fin 40) (s : State) : Host.Outcome State Fault Refusal :=
  .next (if !s.patrolRuns m then s
    else
      let page := (s.ctlAt m).pos.toNat
      let (s, delta) := s.ledgerRead m page
      let ws := s.pageRead m page
      let fixes := singleFixes 0 ws
      let s := (s.putStored m page fixes).correct m fixes.length
      let s := s.poisonDelivered m reqPatrol (pageWhere m page (fun r => r.kind = Light.poison) ws)
      let s := if (ws.any fun r => r.kind = .bad) || pageSyndrome ws (delta.getD []) then s.startPath m page .patrol else s
      s.modCtl m fun c => c.patrolled m)

/-- SCRUB_OVERRUN: the period ends before the last page is read (R159). -/
def execScrubOverrun (m : Fin 40) (s : State) : Host.Outcome State Fault Refusal :=
  let c := s.ctlAt m
  .next (if c.patrolEn ∧ c.valid then (s.log 0x0604 false false (w32 m) (w32 c.pos.toNat) 0).memEvt m 4 else s)

/-- Start a fill of a controller (R160). -/
def State.startFill (m : Nat) (s : State) : State := s.modCtl m fun c => { c with filling := true }

/-- A fill that a MEM_FILL waits for is done: its record follows the last (14 R362). -/
def State.fillCounted (m : Nat) (s : State) : State :=
  s.mem.fills.foldl (fun s f =>
    if f.left.contains m then
      let f' := { f with left := f.left.erase m }
      if f'.left.isEmpty then
        (s.modMem fun x => { x with fills := x.fills.erase f }).postRecord f.origin stOk [f.mask]
      else s.modMem fun x => { x with fills := x.fills.map fun y => if y = f then f' else y }
    else s) s

/-- FILL_DONE: every page is an all-zero codeword, VALID is set, and waiting requests are served (R160). -/
def execFillDone (m : Fin 40) (s : State) : Host.Outcome State Fault Refusal :=
  .next (if !(s.ctlAt m).filling ∨ (32 ≤ m.val ∧ !(s.ctlAt m).ready) then s
    else
      ((s.filled m).fillCounted m).serveAll m)

/-- The memory domains in the order of the rows' operand: the Reservoir, then the DDR4 channels (14 R347). -/
def memDomain (d : Nat) : Nat := if d = 0 then 10 else 11 + d

/-- MEMORY_IDLE_RETURN: 1 ms without a request, the domain returns to its earlier state (17 R417). -/
def execMemoryIdleReturn (d : Fin 9) (s : State) : Host.Outcome State Fault Refusal :=
  let dom := memDomain d
  let ks := domainCtls dom
  .next (match (ks.filterMap fun k => (s.ctlAt k).wokenFrom).head? with
    | none => s
    | some st =>
      if ks.all fun k => (s.ctlAt k).pstate = .run && (s.nodeAt (ctlNode k)).work.isEmpty && (s.nodeAt (ctlNode k)).rxReq.isEmpty
      then s.memLeave dom st else s)

/-- CA_PARITY_ERROR: the command is retried once; if the retry fails too, the fault is logged (R147). -/
def execCaParityError (ch : Fin 8) (retryOk : Bool) (s : State) : Host.Outcome State Fault Refusal :=
  .next (if retryOk then s else s.log 0x0606 true false (w32 ch) 0 0)

/-- DDR_TRAINING_COMPLETE: SPD reading and training of a channel end; waiting requests are served (R145, R147). `spd` is none
where the slot is empty or the DIMM unsupported; `fail` names the failing byte lane and rank. -/
def execDdrTrainingComplete (ch : Fin 8) (spd : Option Spd) (fail : Option (BitVec 4 × BitVec 2)) (s : State) :
    Host.Outcome State Fault Refusal :=
  let m := 32 + ch.val
  let spd := spd.filter Spd.supported
  let s := s.modCtl m fun c =>
    { c with spd := spd, ready := true, filling := c.filling && spd.isSome && fail.isNone, trainDone := spd.isSome && fail.isNone, trainFail := spd.isSome && fail.isSome,
             failLane := (fail.map (·.1)).getD 0, failRank := (fail.map (·.2)).getD 0 }
  .next ((s.setRates (ch / 4)).serveAll m)

/-! ### BAR4 (R163, 12 R293, R294) -/

/-- The deep word at a BAR4 offset (R163). -/
def State.bar4Word (s : State) (off : Nat) : BitVec 48 := s.mem.b4Base + BitVec.ofNat 48 (off / 4)

/-- BAR4 decodes: the link is up, Memory Space Enable is 1, and the function is not in D3hot (R297). -/
def State.bar4Open (s : State) : Bool := s.host.linkUp && s.host.pf0.mse && !s.host.pf0.d3hot

/-- A BAR4 read completes (R156, R163): a status other than OK and POISON is a CA, which AER records (18 R447). -/
def State.bar4ReadDone (st : Status) (ws : List MWord) (s : State) : State :=
  if st = .ok ∨ st = .poison then
    let w := ws.headD {}
    s.emit (.bar4Read (BitVec.ofNat 32 w.data.toNat) w.poison false)
  else (s.modHost fun h => { h with aerErrors := h.aerErrors + 1 }).emit (.bar4Read 0 false true)

/-- BAR4_READ: a host read of one deep word through the Leat (R163). -/
def execBar4Read (off : Nat) (s : State) : Host.Outcome State Fault Refusal :=
  let a := s.bar4Word off
  .next (if !s.bar4Open then s
    else if s.rst.forced.isSome then s.bar4ReadDone .pathLost []
    else match s.sourceCheck nodePcie a with
      | .error st => (s.niError nodePcie st ((destOf a).getD 0) .read).bar4ReadDone st []
      | .ok d => s.enqueue nodePcie { asker := .bar4Read, dest := d, cmd := .read, addr := a, len := 1 })

/-- BAR4_WRITE: a host write of one deep word, dropped without ownership or without bytes 0 to 2 (R163, R294). -/
def execBar4Write (off : Nat) (be : BitVec 4) (data : W32) (s : State) : Host.Outcome State Fault Refusal :=
  let a := s.bar4Word off
  .next (if !s.bar4Open then s
    else if s.lk.owner ≠ 1 then
      s.modHost fun h => { h with csrErr := h.csrErr ||| 2, dropCnt := satInc h.dropCnt }
    else if be &&& 7 ≠ 7 then s.modMem fun x => { x with b4Drop := satInc x.b4Drop }
    else if s.rst.forced.isSome then s.niError nodePcie .pathLost ((destOf a).getD 0) .write
    else match s.sourceCheck nodePcie a with
      | .error st => s.niError nodePcie st ((destOf a).getD 0) .write
      | .ok d => s.enqueue nodePcie
          { asker := .bar4Write, dest := d, cmd := .write, addr := a, len := 1,
            words := [{ data := BitVec.ofNat 18 data.toNat }] })

end Sys2Proof.Machine
end

