-- ==== Sys2Proof/Machine/Halves.lean ====
section
/-! DEFINITION. Lane directions: link entries, failing halves, the group spare, and what the receivers observe
(11_lanes_gwynior R259 to R281). -/
namespace Sys2Proof.Machine

/-! ### Link entries (R281) -/

def LinkRec.group (x : LinkRec) : Nat := field x.cfg0 0 4
def LinkRec.first (x : LinkRec) : Nat := field x.cfg0 4 3
def LinkRec.width (x : LinkRec) : Nat := 2 ^ field x.cfg0 7 2
def LinkRec.neighDev (x : LinkRec) : Nat := field x.cfg0 9 5
def LinkRec.neighLink (x : LinkRec) : Nat := field x.cfg0 14 4
def LinkRec.plesio (x : LinkRec) : Bool := x.cfg0.getLsbD 18
def LinkRec.valid (x : LinkRec) : Bool := x.cfg0.getLsbD 31
def LinkRec.slotOutBits (x : LinkRec) : Nat := field x.cfg1 0 16
def LinkRec.slotInBits (x : LinkRec) : Nat := field x.cfg1 16 16
def LinkRec.isUp (x : LinkRec) : Bool := x.st = .up

/-- The links that are up. -/
def State.upLinks (s : State) : List Nat := (List.range 16).filter fun i => (s.linkAt i).isUp

/-! ### Link down (R278) -/

/-- A link goes down: it is logged, and training goes on (R278). -/
def State.linkDown (i : Nat) (s : State) : State :=
  if (s.linkAt i).st = .up ∨ (s.linkAt i).st = .training then
    let x := s.linkAt i
    let lanes := (List.range 9).foldl (fun b l => if x.first ≤ l ∧ l < x.first + x.width then b ||| (1#9 <<< l) else b) 0#9
    ((((s.modLink i fun x => { x with st := .down }).modGroup x.group fun g =>
      { g with lock := g.lock &&& ~~~lanes, align := tdrop (fun k => lanes.getLsbD k) g.align }).log
      0x0A05 true false (w32 i) 0 0)).linkEvt i 4
  else s

/-! ### Halves of a group -/

def GroupRec.half (g : GroupRec) (tx : Bool) : HalfRec := if tx then g.tx else g.rx

def State.modHalf (g : Nat) (tx : Bool) (f : HalfRec → HalfRec) (s : State) : State :=
  s.modGroup g fun x => if tx then { x with tx := f x.tx } else { x with rx := f x.rx }

/-- The link that a data lane of a group carries (R271, R281). -/
def State.linkOfLane (s : State) (g l : Nat) : Option Nat :=
  (List.range 16).find? fun i =>
    let x := s.linkAt i
    x.valid && x.group = g && decide (x.first ≤ l) && decide (l < x.first + x.width)

/-- P0 of the lane events (13 R325 code 0x0A01). -/
def laneP0 (link g l : Nat) (tx spare : Bool) : W32 :=
  w32 (link + 2 ^ 4 * g + 2 ^ 8 * l) ||| bitAt tx 12 ||| bitAt spare 13

/-- Set a link event where the lane carries a link. -/
def State.laneEvt (link : Option Nat) (k : Nat) (s : State) : State :=
  match link with
  | some i => s.linkEvt i k
  | none => s

/-- A lane direction has no spare: it goes on with replays, and the device holds at the next boundary (R277). -/
def State.laneNoSpare (g l : Nat) (tx : Bool) (s : State) : State :=
  let i := s.linkOfLane g l
  ((s.log 0x0A04 true true (laneP0 (i.getD 0) g l tx false) 0 0).laneEvt i 3).modLnk fun x => { x with holdDue := true }

/-- A shadow carries a lane direction: it is logged (R276 item 4). -/
def State.laneShadowed (g l : Nat) (tx : Bool) (s : State) : State :=
  let i := s.linkOfLane g l
  (s.log 0x0A02 false false (laneP0 (i.getD 0) g l tx true) 0 0).laneEvt i 1

/-- Declare a lane direction failing (R268, R276, R277). A lane that carries no link asks for no shadow. A spare that shadows
another lane is taken as assigned, which it will be (DEDUCED, log entry 157). -/
def State.laneFail (g l : Nat) (tx : Bool) (s : State) : State :=
  let h := (s.groupAt g).half tx
  if h.failing.getLsbD l then s
  else
    let s := s.modHalf g tx fun h => { h with failing := h.failing ||| (1#9 <<< l) }
    if l = 8 then
      let i := s.linkOfLane g h.lane
      let s := s.log 0x0A01 false false (laneP0 (if h.spare = .free then 0 else i.getD 0) g 8 tx true) 0 0
      match h.spare with
      | .shadowing | .assigned =>
        ((s.modHalf g tx fun h => { h with spare := .unusable, taken := false }).laneEvt i 0).laneNoSpare g h.lane tx
      | _ => s.modHalf g tx fun h => { h with spare := .unusable }
    else
      let i := s.linkOfLane g l
      let s := (s.log 0x0A01 false false (laneP0 (i.getD 0) g l tx false) 0 0).laneEvt i 0
      match i with
      | none => s
      | some i =>
        -- every receive direction that fails is reported to the far end
        let s := if tx then s else s.modLink i fun x => { x with shadowReq := x.shadowReq ++ [BitVec.ofNat 3 l], ctrlDue := true }
        if h.spare = .free then
          let s := s.modHalf g tx fun h => { h with spare := .shadowing, lane := l, taken := false }
          if tx then s.laneShadowed g l true else s
        else s.laneNoSpare g l tx

/-! ### What a receiver observes (R268) -/

/-- The lane whose data a physical lane of a receive half carries. -/
def HalfRec.carries (h : HalfRec) (l : Nat) : Nat := if l = 8 then h.lane else l

/-- Invalid blocks on a receive lane: counted for its link and for the lane in the window; the fourth one declares it failing (R268,
R291). A link carries them where the lane is one of its lanes, or the spare that carries one. -/
def State.laneBad (g l n : Nat) (s : State) : State :=
  if n = 0 then s
  else
    let h := (s.groupAt g).rx
    let s := if l = 8 ∧ h.spare = .free then s else match s.linkOfLane g (h.carries l) with
      | some i => s.modLink i fun x => { x with hdrCnt := satAdd x.hdrCnt n }
      | none => s
    let s := s.modGroup g fun x => { x with bad := tset x.bad 0 l (tget x.bad 0 l + n) }
    if 4 ≤ tget (s.groupAt g).bad 0 l then s.laneFail g l false else s

/-- A lane loses its lock: with the last lane of a link that has one, the link goes down (R268, R278). -/
def State.laneUnlock (g l : Nat) (s : State) : State :=
  let s := s.modGroup g fun x => { x with lock := x.lock &&& ~~~(1#9 <<< l) }
  let h := (s.groupAt g).rx
  match s.linkOfLane g (h.carries l) with
  | some i =>
    let x := s.linkAt i
    let lit := (List.range 9).any fun k => (s.groupAt g).lock.getLsbD k &&
      (if k = 8 then (decide (h.spare = .shadowing) || decide (h.spare = .assigned)) && decide (x.first ≤ h.lane) && decide (h.lane < x.first + x.width)
       else decide (x.first ≤ k) && decide (k < x.first + x.width))
    if lit then s else s.linkDown i
  | none => s

/-- A receive half is judged: loss of phase lock or of block lock, the fourth invalid block of the window, an eye below LNK_EYE_MIN for
1 ms (R268). While the group changes its PLL a loss of lock is not counted (R262). -/
def State.laneHear (g : Nat) (o : LaneObs) (s : State) : State :=
  let l := o.lane.val
  let s := s.modGroup g fun x => { x with eye := tset x.eye 0 l o.eye }
  if (s.groupAt g).pll = 3 then s
  else
    let s := s.laneBad g l o.bad
    let lost := o.unlock || decide (16 ≤ o.run)
    let s := if lost || decide (o.eyeTop < s.lnk.eyeMin) then s.laneFail g l false else s
    if lost then s.laneUnlock g l else s

/-- What one block time shows of a lane direction (R268). -/
def State.laneJudge (g : Nat) (tx : Bool) (o : LaneObs) (s : State) : State :=
  if tx then (if o.driver then s.laneFail g o.lane true else s) else s.laneHear g o

end Sys2Proof.Machine
end

