-- ==== Sys2Proof/Machine/Frames.lean ====
section
/-! DEFINITION. Frames of a link: layout, CRC, acceptance, replay, choice of the next frame (11_lanes_gwynior R272 to R275,
R286). -/
namespace Sys2Proof.Machine

/-! ### START payload (R272) -/

/-- The slot bits of a strand, in ascending order (R282, R283). -/
def slotBits (turnLen total strand : Nat) : List Nat :=
  (List.range total).filter fun b => b / 72 % turnLen = strand


def startField (w : BitVec 64) (lo k : Nat) : Nat := w.toNat >>> lo % 2 ^ k

def frameKind (w : BitVec 64) : Nat := startField w 8 4
def frameLen (w : BitVec 64) : Nat := startField w 12 5 + 1
def frameSeq (w : BitVec 64) : BitVec 12 := BitVec.ofNat 12 (startField w 17 12)
def frameAck (w : BitVec 64) : BitVec 12 := BitVec.ofNat 12 (startField w 29 12)
def frameNak (w : BitVec 64) : Bool := w.getLsbD 41

def kindSlot := 0
def kindCtrl := 1
def kindTxn := 2
def kindMgmt := 3

/-- The START payload of a frame; `extra` holds the bits of its kind. -/
def mkStart (kind len : Nat) (seq ack : BitVec 12) (nak : Bool) (extra : Nat) : BitVec 64 :=
  BitVec.ofNat 64 (0x78 + 2 ^ 8 * kind + 2 ^ 12 * (len - 1) + 2 ^ 17 * seq.toNat + 2 ^ 29 * ack.toNat
    + 2 ^ 41 * (if nak then 1 else 0) + extra)

/-- The frame CRC: bytes 1 to 7 of the START payload, then the data blocks (R272). -/
def frameCrc (start : BitVec 64) (data : List (BitVec 64)) : W32 :=
  let bytes (w : BitVec 64) := (List.range 8).map fun i => startField w (8 * i) 8
  w32 (crc32 ((bytes start).drop 1 ++ data.flatMap bytes))

/-- The frame with the acknowledgement it carries when it is sent (R272). -/
def Frame.stamp (f : Frame) (ack : BitVec 12) (nak : Bool) : Frame :=
  let extra := startField f.start 42 22 * 2 ^ 42
  { f with start := mkStart (frameKind f.start) (frameLen f.start) (frameSeq f.start) ack nak extra }

/-! ### Replay (R274) -/

/-- Resend every unacknowledged frame, or declare the link down after four resends without progress (R274). -/
def State.resendAll (i : Nat) (s : State) : State :=
  let x := s.linkAt i
  if x.replay.isEmpty ∨ x.resend = x.replay.length then s   -- a replay from ACK + 1 is already to begin (R290)
  else if 4 ≤ x.tries then (s.modLink i fun x => { x with tries := 0, resend := 0 }).linkDown i
  else s.modLink i fun x => { x with tries := x.tries + 1, resend := x.replay.length }

/-- Free the frames that an ACK covers (R274). -/
def LinkRec.acked (x : LinkRec) (ack : BitVec 12) : LinkRec :=
  match x.replay with
  | [] => x
  | f :: _ =>
    let n := (ack - frameSeq f.start + 1).toNat
    if 0 < n ∧ n ≤ x.replay.length then
      { x with replay := x.replay.drop n, resend := min x.resend (x.replay.length - n), tries := 0 }
    else x

/-- Judge a received frame: accepted exactly once and in order (R273). -/
def State.acceptFrame (i : Nat) (f : RxFrame) (s : State) : State × Bool :=
  let x := s.linkAt i
  let intact := f.bad.isEmpty && frameKind f.start ≤ 3 && f.data.length = frameLen f.start && f.crc = frameCrc f.start f.data
  let ahead := (frameSeq f.start - x.rxSeq).toNat
  let s := f.bad.foldl (fun (s : State) l => s.laneBad x.group l 1) s
  if !x.isUp then (s, false)
  else if intact && ahead = 1 then
    let s := s.modLink i fun x => { (x.acked (frameAck f.start)) with rxSeq := frameSeq f.start }
    (if frameNak f.start then s.resendAll i else s, true)
  else if intact && (ahead = 0 || 2048 ≤ ahead) then (s, false)   -- already accepted
  else (s.modLink i fun x => { x with crcCnt := satInc x.crcCnt, nak := true }, false)

/-! ### CTRL frames (R286) -/

/-- The latest turn begun; all ones before any. -/
def State.turnBegun (s : State) : W32 := if s.win.strand = 0 then w32 s.win.turnCount - 1 else w32 s.win.turnCount

/-- What was last sent on a link for a due point. -/
def LinkRec.sentFor (x : LinkRec) (d : Due) : W32 × W32 :=
  match x.sentMasks.find? fun m => m.1 = d.turn && m.2.1 = d.strand with
  | some m => m.2.2
  | none => (0, 0)

/-- The entries pending on a link: notices, then resumes, of each due point whose union has grown (R286). -/
def State.ctrlEntries (s : State) (i : Nat) : List (Due × Bool × W32) :=
  let x := s.linkAt i
  s.win.notices.flatMap fun n =>
    let (a, b) := x.sentFor n.due
    (if n.notice = a then [] else [(n.due, false, n.notice)]) ++ (if n.resume = b then [] else [(n.due, true, n.resume)])

def entryBlock (e : Due × Bool × W32) : BitVec 64 :=
  BitVec.ofNat 64 (e.1.turn % 2 ^ 24 + 2 ^ 24 * e.1.strand + 2 ^ 27 * (if e.2.1 then 1 else 0) + 2 ^ 32 * e.2.2.toNat)

/-- Record what has been sent of an entry. -/
def LinkRec.sentEntry (x : LinkRec) (e : Due × Bool × W32) : LinkRec :=
  let (a, b) := x.sentFor e.1
  { x with sentMasks := (e.1.turn, e.1.strand, if e.2.1 then (a, e.2.2) else (e.2.2, b)) ::
      x.sentMasks.filter fun m => !(m.1 = e.1.turn && m.2.1 = e.1.strand) }

/-- No Flume-origin request is still on its way to a link: DRAIN = 1 may tell the neighbour so (R289). -/
def State.drainClear (s : State) (i : Nat) : Bool :=
  let n := nodeLink i
  let flume (p : Packet) : Bool := p.dest = n && (p.src = nodeFlumeRead || p.src = nodeFlumeWrite)
  !((s.linkAt i).txnQ.any fun q => q.origin = 0 && !q.resp)
  && !((s.nodeAt n).work.any flume) && !((s.nodeAt n).rxReq.any flume) && !(s.leat.net.any fun t => flume t.pkt)
  && !([nodeFlumeRead, nodeFlumeWrite].any fun k => (s.nodeAt k).reqs.any fun r => r.dest = n && r.lastTag.isNone)

def State.ctrlBlock0 (s : State) : BitVec 64 :=
  BitVec.ofNat 64 (s.turnBegun.toNat + 2 ^ 32 * (s.win.cnt.toNat % 2 ^ 16) + 2 ^ 48 * s.lnk.mcnt.toNat)

/-- The data blocks of a CTRL frame with some entries; a further frame repeats block 0 and carries CREDIT 0 (R286). -/
def State.ctrlBlocks (s : State) (i : Nat) (es : List (Due × Bool × W32)) : List (BitVec 64) :=
  let x := s.linkAt i
  match x.ctrlRun with
  | some b0 => b0 :: BitVec.ofNat 64 (2 ^ 24 * es.length) :: es.map entryBlock
  | none =>
    let b1 := min x.creditOut 0xFFFF + 2 ^ 16 * (if x.drainOut && s.drainClear i then 1 else 0)
      + (match x.shadowReq with | l :: _ => 2 ^ 17 * l.toNat + 2 ^ 20 | [] => 0) + 2 ^ 24 * es.length
    s.ctrlBlock0 :: BitVec.ofNat 64 b1 :: es.map entryBlock

/-! ### Packets in units (08 R169, R170) -/

/-- The header unit of a packet (08 R170). -/
def Packet.header (p : Packet) : BitVec 144 :=
  let wp (i : Nat) : Nat := match p.wps[i]? with | some w => w.toNat | none => 0x1FF
  BitVec.ofNat 144 (p.dest + 2 ^ 9 * p.src + 2 ^ 18 * wp 0 + 2 ^ 28 * wp 1 + 2 ^ 38 * wp 2 + 2 ^ 48 * min p.wpi 3
    + 2 ^ 50 * p.cmd.code + 2 ^ 53 * p.tag + 2 ^ 60 * p.len + 2 ^ 70 * p.rsv + 2 ^ 78 * min p.age 511
    + 2 ^ 87 * p.addr.toNat + 2 ^ 135 * p.remote.toNat + 2 ^ 140 * p.status.code)

/-- Data units: 8 words each (08 R169). -/
def dataUnits (ws : List MWord) : List (BitVec 144) :=
  (List.range (ceilDiv ws.length 8)).map fun u =>
    BitVec.ofNat 144 ((List.range 8).foldl (fun a k => a + 2 ^ (18 * k) * (ws.getD (8 * u + k) {}).data.toNat) 0)

def Packet.units (p : Packet) : List (BitVec 144) := p.header :: dataUnits p.words

def uField (u : BitVec 144) (lo k : Nat) : Nat := u.toNat >>> lo % 2 ^ k

def cmdOfCode : Nat → Cmd
  | 0 => .read | 1 => .write | 2 => .writeMore | 3 => .readResp | 4 => .writeResp | 5 => .credit | 6 => .fallback
  | _ => .reserved

/-- A status code; the reserved ones are not sent (08 R173). -/
def statusOfCode : Nat → Status
  | 0 => .ok | 1 => .poison | 2 => .badAddress | 3 => .cisternClosed | 4 => .targetIsolated | 5 => .domainOff
  | 6 => .pathLost | 7 => .noRoute | 8 => .noReservation | 9 => .overBudget | 10 => .overrun | 11 => .refused
  | _ => .powerPending

/-- The packet that units spell (08 R169, R170). The units carry no poison mark of a word: with status POISON every word is
marked. -/
def packetOf (units : List (BitVec 144)) : Packet :=
  let h := units.headD 0
  let st := statusOfCode (uField h 140 4)
  let len := uField h 60 10
  let cmd := cmdOfCode (uField h 50 3)
  let words := units.tail.flatMap fun u => (List.range 8).map fun k =>
    ({ data := BitVec.ofNat 18 (uField u (18 * k) 18), poison := decide (st = .poison) } : MWord)
  { dest := uField h 0 9, src := uField h 9 9,
    wps := (List.range 3).map fun i => BitVec.ofNat 10 (uField h (18 + 10 * i) 10),
    wpi := uField h 48 2, cmd := cmd, tag := uField h 53 7, len := len, rsv := uField h 70 8, age := uField h 78 9,
    addr := BitVec.ofNat 48 (uField h 87 48), remote := BitVec.ofNat 5 (uField h 135 5), status := st,
    words := if cmd = .credit then [] else words.take len }

/-- Units packed into data blocks: unit k at bits [144k + 143 : 144k] (R287). -/
def packUnits (us : List (BitVec 144)) : List (BitVec 64) :=
  let n := us.foldr (fun u a => u.toNat + 2 ^ 144 * a) 0
  (List.range (ceilDiv (144 * us.length) 64)).map fun i => BitVec.ofNat 64 (n >>> (64 * i))

def unpackUnits (bs : List (BitVec 64)) : List (BitVec 144) :=
  let n := bs.foldr (fun b a => b.toNat + 2 ^ 64 * a) 0
  (List.range (64 * bs.length / 144)).map fun k => BitVec.ofNat 144 (n >>> (144 * k))

/-- Words of a MGMT message in data blocks, two to a block. -/
def packWords (ws : List W32) : List (BitVec 64) :=
  (List.range (ceilDiv ws.length 2)).map fun i =>
    BitVec.ofNat 64 ((ws.getD (2 * i) 0).toNat + 2 ^ 32 * (ws.getD (2 * i + 1) 0).toNat)

def unpackWords (bs : List (BitVec 64)) : List W32 :=
  bs.flatMap fun b => [BitVec.ofNat 32 b.toNat, BitVec.ofNat 32 (b.toNat >>> 32)]

/-- Slot bits packed from data bit 0 (R283). -/
def packSlot (count bits : Nat) : List (BitVec 64) :=
  (List.range (max 1 (ceilDiv count 64))).map fun i => BitVec.ofNat 64 (bits >>> (64 * i))

/-! ### Sending (R274, R275) -/

/-- What a frame puts on its link. -/
def Frame.output (f : Frame) (i : Nat) : Output :=
  match f.bare with
  | some .go => .linkGo i f.start
  | some (.slotOut b) => .linkSlotOut i f.start b
  | _ => .linkFrame i f.start f.data (frameCrc f.start f.data)

/-- Send a new frame: into the replay buffer, and out (R274). -/
def State.sendFrame (i kind : Nat) (data : List (BitVec 64)) (extra : Nat) (bare : Option Mgmt) (s : State) : State :=
  let x := s.linkAt i
  let f : Frame := { start := mkStart kind data.length x.txSeq x.rxSeq x.nak extra, data := data, bare := bare }
  (s.modLink i fun x => { x with txSeq := x.txSeq + 1, nak := false, replay := x.replay ++ [f] }).emit (f.output i)

/-- Resend the next frame of the replay. -/
def State.sendReplay (i : Nat) (s : State) : State :=
  let x := s.linkAt i
  match x.replay[x.replay.length - x.resend]? with
  | none => s.modLink i fun x => { x with resend := 0 }
  | some f =>
    let f := f.stamp x.rxSeq x.nak
    (s.modLink i fun x => { x with resend := x.resend - 1, nak := false, replayCnt := satInc x.replayCnt }).emit (f.output i)

/-- Send a CTRL frame with at most 30 of the entries pending; more go in further frames at once (R286). -/
def State.sendCtrl (i : Nat) (s : State) : State :=
  let all := s.ctrlEntries i
  let es := all.take 30
  let data := s.ctrlBlocks i es
  let keep := !s.drainClear i
  let more := if 30 < all.length then data.head? else none
  (s.sendFrame i kindCtrl data 0 none).modLink i fun x =>
    let first := x.ctrlRun.isNone
    let x := es.foldl LinkRec.sentEntry x
    if first then
      { x with ctrlRun := more, ctrlDue := false, creditOut := x.creditOut - min x.creditOut 0xFFFF, drainOut := x.drainOut && keep,
               shadowReq := x.shadowReq.drop 1 }
    else { x with ctrlRun := more }

/-- PART of a TXN frame that carries units [a, a + n) of u (R272). -/
def txnPart (a n u : Nat) : Nat :=
  if a = 0 ∧ n = u then 0 else if a = 0 then 1 else if a + n = u then 3 else 2

/-- Send the next part of the oldest TXN packet whose units the credit covers (R287, R288). -/
def State.sendTxn (i : Nat) (p : TxnPkt) (s : State) : State :=
  let us := p.pkt.units
  let n := min 14 (us.length - p.sent)
  let extra := 2 ^ 42 * txnPart p.sent n us.length + 2 ^ 44 * p.origin + 2 ^ 46 * (if p.resp then 1 else 0)
  (s.sendFrame i kindTxn (packUnits ((us.drop p.sent).take n)) extra none).modLink i fun x =>
    { x with credit := if p.sent = 0 then x.credit - us.length else x.credit,
             txnQ := if p.sent + n = us.length then x.txnQ.drop 1
                     else match x.txnQ with | q :: t => { q with sent := p.sent + n } :: t | [] => [] }

/-- The CTRL frame is due: its moment has come, or an entry is pending (R275). -/
def State.ctrlPending (s : State) (i : Nat) : Bool :=
  let x := s.linkAt i
  x.ctrlDue || x.ctrlRun.isSome || (x.drainOut && s.drainClear i) || !x.shadowReq.isEmpty || !(s.ctrlEntries i).isEmpty

/-- A CTRL frame is due on every link that is up (R275). -/
def State.ctrlAll (s : State) : State := s.upLinks.foldl (fun s i => s.modLink i fun x => { x with ctrlDue := true }) s

/-! ### ALIGN and IDLE blocks (R264, R265, R267, R276) -/

/-- The payload of an ALIGN block: on the spare, its fields name the data lane it carries (R264, R276). -/
def State.alignBlock (s : State) (i lane : Nat) (spare : Bool) : BitVec 64 :=
  let x := s.linkAt i
  BitVec.ofNat 64 (0x4B + 2 ^ 8 * (lane - x.first) + (if spare then 2 ^ 11 + 2 ^ 12 * lane + 2 ^ 15 else 0)
    + 2 ^ 16 * s.lnk.devNum.toNat + 2 ^ 21 * i + 2 ^ 25 * x.group + 2 ^ 32 * x.marker.toNat)

/-- Lanes of a link as sent: physical lane, the data lane it stands for. The transmitter no longer drives a lane that failed for good; the
spare is one of them while it carries a lane of the link (R276, R277). -/
def State.sentLanes (s : State) (i : Nat) : List (Nat × Nat) :=
  let x := s.linkAt i
  let h := (s.groupAt x.group).tx
  ((List.range x.width).filterMap fun j => if h.failed.getLsbD (x.first + j) then none else some (x.first + j, x.first + j)) ++
  (if (h.spare = .shadowing ∨ h.spare = .assigned) ∧ x.first ≤ h.lane ∧ h.lane < x.first + x.width then [(8, h.lane)] else [])

/-- The ALIGN blocks of a link: in one block time on all of its lanes, with one marker count (R265). -/
def State.sendAlign (i : Nat) (s : State) : State :=
  let t := (s.sentLanes i).foldl (fun (t : State) e =>
    t.emit (.laneAlign (s.linkAt i).group e.1 (s.alignBlock i e.2 (e.1 = 8)))) s
  t.modLink i fun x => { x with marker := x.marker + 1 }

/-- What falls between two frames: ALIGN blocks, and in plesiochronous mode an IDLE column (R265, R267). A link that trains sends them
too (R270). -/
def State.sendFill (i : Nat) (o : SendObs) (s : State) : State :=
  if !(s.linkAt i).valid ∨ !s.domRun (20 + (s.linkAt i).group) then s
  else
    let s := if o.align then s.sendAlign i else s
    if o.idle ∧ (s.linkAt i).plesio then s.emit (.linkIdle i) else s

/-- The next frame in the order replay, CTRL, SLOT, MGMT, TXN; with nothing to send, the CTRL frame that 256 idle block times bring
(R274, R275). -/
def State.sendNext (i : Nat) (s : State) : State :=
  let x := s.linkAt i
  if !x.isUp then s
  else if 0 < x.resend then s.sendReplay i
  else if 256 ≤ x.replay.length then s
  else if s.ctrlPending i then s.sendCtrl i
  else match x.slotQ with
  | v :: t =>
    (s.modLink i fun x => { x with slotQ := t }).sendFrame i kindSlot
      (packSlot (slotBits s.fab.turnLen x.slotOutBits v.strand).length v.bits)
      (2 ^ 42 * (v.turn % 2 ^ 16) + 2 ^ 58 * v.strand) none
  | [] =>
    match x.mgmtQ with
    | .words ws :: t =>
      -- a message longer than one frame goes on in the next (R272)
      (s.modLink i fun x => { x with mgmtQ := if 64 < ws.length then .words (ws.drop 64) :: t else t }).sendFrame i kindMgmt
        (packWords (ws.take 64)) 0 none
    | m :: t => (s.modLink i fun x => { x with mgmtQ := t }).sendFrame i kindMgmt [0] 0 (some m)
    | [] =>
      match x.txnQ with
      | p :: _ => if 0 < p.sent ∨ p.pkt.units.length ≤ x.credit then s.sendTxn i p else s.sendCtrl i
      | [] => s.sendCtrl i

/-- FRAME_SEND: a frame boundary of a link; ALIGN blocks and IDLE columns that are due go first (R265, R267, R275). -/
def execFrameSend (i : Fin 16) (o : SendObs) (s : State) : Host.Outcome State Fault Refusal := .next ((s.sendFill i o).sendNext i)

end Sys2Proof.Machine
end

