-- ==== Sys2Proof/Machine/Lanes.lean ====
section
/-! DEFINITION. Lanes: failing lane directions, spares, PLLs of the groups, training, link up and down
(11_lanes_gwynior R259 to R278). -/
namespace Sys2Proof.Machine

/-! ### Failing lane directions (R268, R276, R277) -/

/-- LANE_DIRECTION_FAILING: what the lane directions of one half of a group show in one block time. Lower lanes come first, so the lower
of two that fail together takes the spare (R268, R276, R277, R290). -/
def execLaneDirectionFailing (g : Fin 16) (tx : Bool) (os : List LaneObs) (s : State) : Host.Outcome State Fault Refusal :=
  .next ((sortBy (fun (o : LaneObs) => o.lane.val) os).foldl (fun (s : State) o => s.laneJudge g tx o) s)

/-- Step 6c: every shadow becomes permanent; one declared later stays in shadow until the following boundary (R277). -/
def State.laneSwapHalf (g : Nat) (tx : Bool) (s : State) : State :=
  let h := (s.groupAt g).half tx
  if h.spare = .shadowing ∧ (tx ∨ h.taken) then
    let i := s.linkOfLane g h.lane
    ((s.modHalf g tx fun h => { h with spare := .assigned, failed := h.failed ||| (1#9 <<< h.lane) }).log
      0x0A03 false false (laneP0 (i.getD 0) g h.lane tx true) 0 0).laneEvt i 2
  else s

def State.laneSwapAll (s : State) : State :=
  (List.range 16).foldl (fun s g => (s.laneSwapHalf g false).laneSwapHalf g true) s

/-- ALIGN_BLOCK_RECEIVE: a control block that is neither IDLE nor part of a frame. The lane holds block lock; its fields name the partner
and the lane's place in the link; on the spare, the receiver takes the copy of the lane it names. Any other type is an invalid
block (R264, R268, R270, R276). -/
def execAlignBlockReceive (g : Fin 16) (l : Fin 9) (payload : BitVec 64) (s : State) : Host.Outcome State Fault Refusal :=
  .next (let type := startField payload 0 8
    if type = 0x1E ∨ type = 0x78 ∨ type = 0x87 then s
    else if type ≠ 0x4B then s.laneBad g l 1
    else
      let s := s.modGroup g fun x => { x with lock := x.lock ||| (1#9 <<< l.val), align := tset x.align none l (some payload) }
      let h := (s.groupAt g).rx
      if l.val = 8 then
        if payload.getLsbD 15 ∧ h.spare = .shadowing ∧ !h.taken ∧ h.lane = startField payload 12 3 then
          (s.modHalf g false fun h => { h with taken := true }).laneShadowed g h.lane false
        else s
      else match s.linkOfLane g l with
        | some i => s.modLink i fun x =>
            { x with partnerDev := BitVec.ofNat 5 (startField payload 16 5),
                     partnerLink := BitVec.ofNat 4 (startField payload 21 4) }
        | none => s)

/-- IDLE_COLUMN_ADJUST: an IDLE column is received with `fill` blocks in the elastic buffer: deleted above 12, repeated below 4
(R267). -/
def execIdleColumnAdjust (i : Fin 16) (fill : Nat) (s : State) : Host.Outcome State Fault Refusal :=
  let x := s.linkAt i
  .next (if x.isUp ∧ x.plesio ∧ (12 < fill ∨ fill < 4) then s.modLink i fun x => { x with fillCnt := satInc x.fillCnt } else s)

/-! ### Group PLLs (R262) -/

/-- The standby PLLs that are locked and serve no group (R262, 16 R403): lock bits 23 and 24. -/
def State.freeStandbys (s : State) : List Nat :=
  (List.range 2).filter fun k =>
    s.clk.lock.getLsbD (23 + k) && !((List.range 16).any fun g => (s.groupAt g).pll.toNat = 1 + k)

/-- Groups that a free standby PLL is about to take over. -/
def State.seekers (s : State) : Nat := ((List.range 16).filter fun g => (s.groupAt g).sought).length

/-- The links of a group. -/
def State.groupLinks (s : State) (g : Nat) : List Nat :=
  (List.range 16).filter fun i => (s.linkAt i).valid && (s.linkAt i).group = g

/-- A group loses its transmit PLL: its lanes lose block lock, not counted against them; with no standby free for it its links go
down (R262). -/
def State.groupUnlock (g : Nat) (s : State) : State :=
  let found := decide (s.seekers < s.freeStandbys.length)
  let s := s.modGroup g fun x => { x with pll := 3, lock := 0, sought := found }
  if found then s else (s.groupLinks g).foldl (fun s i => s.linkDown i) s

/-- The PLL that a group runs from, by its number in CLK_LOCK: its own, or a standby (R262, 16 R401). -/
def GroupRec.pllNo (x : GroupRec) (g : Nat) : Nat := if x.pll = 0 then 7 + g else 22 + x.pll.toNat

/-- LANE_PLL_UNLOCK: the PLL that the group runs from loses lock (R262, 16 R403). -/
def execLanePllUnlock (g : Fin 16) (s : State) : Host.Outcome State Fault Refusal :=
  let x := s.groupAt g
  .next (if x.pll = 3 then s
    else (((s.modClk fun c => { c with lock := c.lock &&& ~~~(1#25 <<< x.pllNo g) }).log 0x0C05 true false
        (w32 (x.pllNo g)) 0 0).clkEvt 4).groupUnlock g)

/-- STANDBY_PLL_TAKEOVER (R262). -/
def execStandbyPllTakeover (g : Fin 16) (s : State) : Host.Outcome State Fault Refusal :=
  .next (match s.freeStandbys.head? with
    | some k =>
      if (s.groupAt g).sought then
        (s.modGroup g fun x => { x with pll := BitVec.ofNat 2 (1 + k), sought := false }).log 0x0A06 false false (w32 g) 0 0
      else s
    | none => s)

/-! ### Training and link state (R270, R278) -/

/-- The device is released, so links train (R270, 10 R241). -/
def State.released (s : State) : Bool := s.img.st = .released || s.img.st = .applying

/-- A link trains: what its lanes brought before is forgotten (R270). -/
def State.train (i : Nat) (s : State) : State :=
  let x := s.linkAt i
  if x.en ∧ x.valid ∧ s.domRun (20 + x.group) then
    (s.modLink i fun x => { x with st := .training }).modGroup x.group fun g =>
      { g with align := tdrop (fun l => decide (x.first ≤ l) && decide (l < x.first + x.width)) g.align }
  else s

/-- Training starts at release (R270). -/
def State.trainAll (s : State) : State :=
  (List.range 16).foldl (fun s i => if (s.linkAt i).st = .disabled then s.train i else s) s

/-- Write EN (R291). -/
def State.linkEn (i : Nat) (en : Bool) (s : State) : State :=
  if en then
    let s := s.modLink i fun x => { x with en := true }
    if (s.linkAt i).st = .disabled ∧ s.released then s.train i else s
  else s.modLink i fun x => { x with en := false, st := .disabled, active := false }

/-- Write RETRAIN (R270). -/
def State.linkRetrain (i : Nat) (s : State) : State :=
  if (s.linkAt i).st = .disabled then s else s.train i

/-- Word 65 + 9g + l of the lane board table (R281). -/
def State.laneEntry (s : State) (g l : Nat) : W32 := tget s.lnk.lanes 0 (9 * g + l)

/-- The peaking code with the highest eye figure of codes 0 to 36, the lowest on a tie (R269). -/
def bestPeak (eyes : List Byte) : Nat :=
  (List.range (min 37 eyes.length)).foldl (fun b c => if (eyes.getD b 0).toNat < (eyes.getD c 0).toNat then c else b) 0

/-- The lanes of a link hold block lock, each with its peaking code: of its entry in fixed mode, else the best of training (R269,
R270). `eyes` holds a lane's eye figure at each code. -/
def State.setLanes (g : Nat) (eyes : List (Nat × List Byte)) (s : State) : State :=
  eyes.foldl (fun s e =>
    let pk := if s.lnk.fixedEq then field (s.laneEntry g e.1) 0 6 else bestPeak e.2
    s.modGroup g fun x =>
      { x with eye := tset x.eye 0 e.1 (e.2.getD pk 0), peak := tset x.peak 0 e.1 (BitVec.ofNat 6 pk), lock := x.lock ||| (1#9 <<< e.1) }) s

/-- Tolerance between the ends in ppm, by CLK_MODE (R266). -/
def LinkRec.tolerance (x : LinkRec) : Nat := if x.plesio then 200 else 5

/-- The last ALIGN block that stands for data lane l: that of the spare where it carries the lane (R264, R276). -/
def GroupRec.alignOf (x : GroupRec) (l : Nat) : Option (BitVec 64) :=
  if x.rx.lane = l ∧ (x.rx.spare = .assigned ∨ (x.rx.spare = .shadowing ∧ x.rx.taken)) then tget x.align none 8 else tget x.align none l

/-- Every lane of the link has brought an ALIGN block since training began. -/
def State.aligned (s : State) (i : Nat) : Bool :=
  let x := s.linkAt i
  (List.range x.width).all fun j => ((s.groupAt x.group).alignOf (x.first + j)).isSome

/-- The ALIGN fields name the expected neighbour, link and lane order (R270 item 4): the sender's device and link number, and the lane
index of each lane. -/
def State.partnerOk (s : State) (i : Nat) : Bool :=
  let x := s.linkAt i
  (List.range x.width).all fun j => match (s.groupAt x.group).alignOf (x.first + j) with
    | some p => startField p 16 5 = x.neighDev && startField p 21 4 = x.neighLink && startField p 8 3 = j
    | none => false

/-- LINK_UP: training completes, or its checks fail (R266, R269, R270, R278). Coming up, the device reports its SLOT_OUT in MGMT
(R280). -/
def execLinkUp (i : Fin 16) (o : LinkObs) (s : State) : Host.Outcome State Fault Refusal :=
  let x := s.linkAt i
  .next (if !(x.en && x.valid && (x.st = .training || x.st = .down) && s.domRun (20 + x.group) && (s.groupAt x.group).pll ≠ 3)
      then s
    else
      let s := s.setLanes x.group o.eyes
      if x.tolerance < o.ppm then s.linkEvt i 8
      else if !s.aligned i then s
      else
        let s := s.modLink i fun x => { x with skew := BitVec.ofNat 6 (min o.skew 63) }
        if 32 < o.skew then s.linkEvt i 6
        else if !s.partnerOk i then s.linkEvt i 7
        else
          let s := (s.modLink i fun x =>
            { x with st := .up, active := true, nbSlotOut := o.slotOut, resend := x.replay.length, tries := 0, ctrlDue := true,
                     mgmtQ := x.mgmtQ ++ [.slotOut (BitVec.ofNat 16 x.slotOutBits)] }).linkEvt i 5
          match o.ident with
          | some d =>
            if s.lnk.array = .joined ∧ d ≠ s.lnk.ident then
              (s.log 0x0A0A true false (w32 i) (w32 s.lnk.startDev.toNat) 0).linkEvt i 9
            else s
          | none => s)

/-- LINK_DOWN: every lane of the link loses block lock (R278). -/
def execLinkDown (i : Fin 16) (s : State) : Host.Outcome State Fault Refusal := .next (s.linkDown i)

/-- REPLAY_TIMEOUT (R274). -/
def execReplayTimeout (i : Fin 16) (s : State) : Host.Outcome State Fault Refusal :=
  .next (if (s.linkAt i).isUp then s.resendAll i else s)

/-! ### Slots (R282 to R284) -/

/-- SLOT bits that a link brings in a strand (R283). -/
def State.slotDue (s : State) (i strand : Nat) : Bool :=
  (s.linkAt i).valid && !(slotBits s.fab.turnLen (s.linkAt i).slotInBits strand).isEmpty

/-- The slot frame of a strand of turn `turn` has been accepted on a link (R284). -/
def LinkRec.slotHere (x : LinkRec) (turn strand : Nat) : Bool :=
  x.slotIn.any fun v => v.turn = turn && v.strand = strand

/-- The next turn and strand whose SLOT frame a link expects (R283, R284). -/
def State.nextSlot (s : State) (i : Nat) : Nat × Nat :=
  let x := s.linkAt i
  let t := s.fab.turnLen
  match (List.range t).find? fun k => s.slotDue i ((x.slotStrand + 1 + k) % t) with
  | some k => ((if x.slotStrand + 1 + k < t then x.slotTurn else x.slotTurn + 1), (x.slotStrand + 1 + k) % t)
  | none => (x.slotTurn + 1, 0)

/-- The first strand with slot bits, where a link's SLOT frames begin. -/
def State.firstSlot (s : State) (i : Nat) : Nat :=
  ((List.range s.fab.turnLen).find? fun k => s.slotDue i k).getD 0

/-- The coming pulse has every slot it needs: turn 0 of a run takes no slot of an earlier turn (R118 of 05, R283, R284). -/
def State.slotsReady (s : State) : Bool :=
  s.lnk.array ≠ .joined || s.win.turnCount = 0 ||
  (List.range 16).all fun i =>
    !s.slotDue i s.win.strand || (s.linkAt i).slotHere (s.win.turnCount - 1) s.win.strand

/-- Slot bits unpacked from data blocks. -/
def blocksNat (bs : List (BitVec 64)) : Nat := bs.foldr (fun b a => b.toNat + 2 ^ 64 * a) 0

/-- SLOT_FRAME_RECEIVE (R273, R284). -/
def execSlotFrameReceive (i : Fin 16) (f : RxFrame) (s : State) : Host.Outcome State Fault Refusal :=
  let (s, ok) := s.acceptFrame i f
  .next (if !ok ∨ frameKind f.start ≠ kindSlot then s
    else
      let x := s.linkAt i
      if startField f.start 42 16 = x.slotTurn % 2 ^ 16 ∧ startField f.start 58 3 = x.slotStrand then
        let (t, k) := s.nextSlot i
        let n := (slotBits s.fab.turnLen x.slotInBits x.slotStrand).length
        let s := s.modLink i fun x =>
          { x with slotIn := x.slotIn ++ [{ turn := x.slotTurn, strand := x.slotStrand, bits := blocksNat f.data % 2 ^ n }],
                   slotTurn := t, slotStrand := k }
        if s.slotsReady then s.modWin fun w => { w with slotWait := false } else s
      else
        ((s.log 0x0A08 true true (w32 i) (w32 x.slotTurn) 0).linkEvt i 10).modLnk fun l => { l with seqDue := true })

/-- Reservation of the slot receive of all links for a new turn count (R283). -/
def State.slotRestart (s : State) : State :=
  (List.range 16).foldl (fun s i =>
    if (s.linkAt i).valid then
      let k := s.firstSlot i
      s.modLink i fun x => { x with slotIn := [], slotQ := [], slotTurn := 0, slotStrand := k, nbSeen := false, nbTurn := 0 }
    else s) s

end Sys2Proof.Machine
end

