-- ==== Sys2Proof/Machine/Gwynior.lean ====
section
/-! DEFINITION. What links carry: control slots, transactions, the start exchange (11_lanes_gwynior R279, R280, R286 to
R289; 05_window_timing R101, R114, R116). -/
namespace Sys2Proof.Machine

/-- The device belongs to an array (05 R113, R114). -/
def State.inArray (s : State) : Bool := s.lnk.array = .joined

/-- This device is the count master (05 R101). -/
def State.countMaster (s : State) : Bool := s.lnk.startDev = s.lnk.devNum

/-! ### CTRL frames (R286) -/

/-- The own count differs from the count master's: logged, and FAULT at the next boundary (05 R101). -/
def State.compareCount (s : State) : State :=
  if s.lnk.mcnt.toNat = s.win.cnt.toNat % 2 ^ 16 then s
  else (((s.log 0x0206 true true (w32 s.lnk.mcnt.toNat) (w32 (s.win.cnt.toNat % 2 ^ 16)) 0).winEvt 6).modWin fun w =>
    { w with faultDue := true })

/-- MCNT arrives: it is relayed, and compared with the own count, at once while a window of the device has started, else at
its edge pulse (05 R101). -/
def State.takeMcnt (m : BitVec 16) (s : State) : State :=
  let ahead := (m - s.lnk.mcnt).toNat
  if !s.inArray ∨ s.countMaster ∨ ahead = 0 ∨ 2 ^ 15 ≤ ahead then s
  else
    let s := s.modLnk fun x => { x with mcnt := m }
    let s := s.ctrlAll
    if s.windowRunning then s.compareCount else s.modLnk fun x => { x with mcntNew := true }

/-- The due turn that 24 bits name, nearest the present turn count (R286). -/
def State.dueTurn (s : State) (low : Nat) : Nat :=
  let c := s.win.turnCount
  let d := (low + 2 ^ 24 - c % 2 ^ 24) % 2 ^ 24
  if d < 2 ^ 23 then c + d else c + d - 2 ^ 24

/-- Merge a notice or resume into the union of its due point (05 R114, R116). A point that has passed is dropped. -/
def State.mergeNotice (d : Due) (resume : Bool) (mask : W32) (s : State) : State :=
  if d.turn < s.win.turnCount ∨ (d.turn = s.win.turnCount ∧ d.strand < s.win.strand) then s
  else s.modWin fun w =>
    let ns := if w.notices.any fun n => n.due = d then w.notices else w.notices ++ [{ due := d, notice := 0 }]
    { w with notices := ns.map fun n => if n.due = d then
        (if resume then { n with resume := n.resume ||| mask } else { n with notice := n.notice ||| mask }) else n }

/-- One entry block of a CTRL frame. -/
def State.takeEntry (b : BitVec 64) (s : State) : State :=
  s.mergeNotice ⟨s.dueTurn (startField b 0 24), startField b 24 3⟩ (b.getLsbD 27) (BitVec.ofNat 32 (startField b 32 32))

/-- CTRL_FRAME_RECEIVE (R273, R276, R286, R288, R289). -/
def execCtrlFrameReceive (i : Fin 16) (f : RxFrame) (s : State) : Host.Outcome State Fault Refusal :=
  let (s, ok) := s.acceptFrame i f
  .next (if !ok ∨ frameKind f.start ≠ kindCtrl then s
    else match f.data with
    | b0 :: b1 :: es =>
      let s := s.modLink i fun x =>
        { x with nbTurn := BitVec.ofNat 32 (startField b0 0 32), nbSeen := true,
                 nbWcnt := BitVec.ofNat 16 (startField b0 32 16),
                 credit := min 4096 (x.credit + startField b1 0 16), drained := x.drained || b1.getLsbD 16 }
      let s := s.takeMcnt (BitVec.ofNat 16 (startField b0 48 16))
      let s := if b1.getLsbD 20 then s.laneFail (s.linkAt i).group (startField b1 17 3) true else s
      (es.take (startField b1 24 8)).foldl (fun s b => s.takeEntry b) s
    | _ => s)

/-! ### Transactions (R287 to R289) -/

/-- ORIGIN of a packet at a Gwynior endpoint (R272): by its source node. -/
def originOf (p : Packet) : Nat := if p.src = nodePcie then 1 else if p.src = nodeLk then 2 else 0

/-- GWYNIOR_ENDPOINT_REQUEST: the endpoint takes its next Leat packet for the link (R287). -/
def execGwyniorEndpointRequest (i : Fin 16) (s : State) : Host.Outcome State Fault Refusal :=
  let n := nodeLink i
  .next (if s.nodeStill n then s else match (s.nodeAt n).work with
    | [] => s
    | p :: t =>
      (s.modNode n fun x => { x with work := t }).modLink i fun x =>
        { x with txnQ := x.txnQ ++ [{ pkt := p, origin := originOf p, resp := false }], asked := x.asked ++ [p] })

/-- Send a response back over a link (R287). -/
def State.linkRespond (i : Nat) (r : LinkReq) (st : Status) (ws : List MWord) (s : State) : State :=
  let q := if r.pkt.cmd = .writeMore then { creditOf r.pkt with status := st } else respond r.pkt st ws
  s.modLink i fun x => { x with txnQ := x.txnQ ++ [{ pkt := q, origin := r.origin, resp := true }] }

/-- The region of a transaction's address may be reached (R287). -/
def linkRegionOk (p : Packet) : Bool := let r := p.addr.toNat / 2 ^ 44; decide (r ≤ 8) || r = 0xC

/-- Serve a request from a link as a source on the own Leat (R287). The link's credit returns as the Leat accepts it, or with the answer
of one that fails here (R288). -/
def State.linkServe (i : Nat) (r : LinkReq) (s : State) : State :=
  let p := r.pkt
  if p.remote ≠ s.lnk.devNum ∨ !linkRegionOk p then (s.linkCredit i p.units.length).linkRespond i r .badAddress []
  else match s.sourceCheck (nodeLink i) p.addr with
    | .error st =>
      ((s.niError (nodeLink i) st ((destOf p.addr).getD 0) p.cmd).linkCredit i p.units.length).linkRespond i r st []
    | .ok d =>
      (s.modLink i fun x => { x with serving := x.serving ++ [r] }).enqueue (nodeLink i)
        { asker := .gwynior i p.tag p.src, dest := d, cmd := if p.cmd = .read then .read else .write, addr := p.addr,
          len := p.len, words := p.words, origin := r.origin, early := r.early, linkUnits := p.units.length }

/-- The own Leat completes a request of a link: its response returns (R287). -/
def State.linkServed (i tag src : Nat) (st : Status) (ws : List MWord) (s : State) : State :=
  match (s.linkAt i).serving.find? fun r => r.pkt.tag = tag && r.pkt.src = src with
  | none => s
  | some r => (s.modLink i fun x => { x with serving := x.serving.erase r }).linkRespond i r st ws

/-- A whole packet has arrived on a link (R287, R289). -/
def State.txnArrive (i : Nat) (p : Packet) (origin : Nat) (resp : Bool) (s : State) : State :=
  if resp then
    let s := s.linkCredit i p.units.length
    match (s.linkAt i).asked.find? fun q => q.src = p.dest && q.tag = p.tag && q.rsv = p.rsv with
    | none => s
    | some q => (s.modLink i fun x => { x with asked := x.asked.erase q }).answer (nodeLink i) q p.status p.words
  else if origin = 0 ∧ (s.linkAt i).drained then
    s.modLink i fun x => { x with waiting := x.waiting ++ [{ pkt := p, origin := origin, early := false }] }
  else s.linkServe i { pkt := p, origin := origin, early := !(s.linkAt i).drained }

/-- TXN_FRAME_RECEIVE (R272, R287). -/
def execTxnFrameReceive (i : Fin 16) (f : RxFrame) (s : State) : Host.Outcome State Fault Refusal :=
  let (s, ok) := s.acceptFrame i f
  .next (if !ok ∨ frameKind f.start ≠ kindTxn then s
    else
      let us := unpackUnits f.data
      let part := startField f.start 42 2
      let us := if part = 0 ∨ part = 1 then us else (s.linkAt i).txnIn ++ us
      if part = 1 ∨ part = 2 then s.modLink i fun x => { x with txnIn := us }
      else (s.modLink i fun x => { x with txnIn := [] }).txnArrive i (packetOf us) (startField f.start 44 2) (f.start.getLsbD 46))

/-- The next window starts on a link: DRAIN is forgotten, so what is being served was received before the next one, and Flume-origin
requests that waited are served (R289). -/
def State.linkWindowStart (i : Nat) (s : State) : State :=
  let w := (s.linkAt i).waiting
  let s := s.modLink i fun x =>
    { x with waiting := [], drained := false, serving := x.serving.map fun r => { r with early := true } }
  let s := s.modNode (nodeLink i) fun x => { x with reqs := x.reqs.map fun r => { r with early := true } }
  w.foldl (fun s r => s.linkServe i { r with early := true }) s

/-- The next window starts (R289). -/
def State.linksWindowStart (s : State) : State :=
  (List.range 16).foldl (fun s i => if (s.linkAt i).drained then s.linkWindowStart i else s) s

/-- Step 2 of the boundary begins: DRAIN goes on every link (R289). -/
def State.sendDrains (s : State) : State :=
  s.upLinks.foldl (fun s i => s.modLink i fun x => { x with drainOut := true }) s

/-- Every link that is up has brought DRAIN, and every request received before it has been answered (R289). -/
def State.linksDrained (s : State) : Bool :=
  s.upLinks.all fun i =>
    let x := s.linkAt i
    x.drained && !x.drainOut && !(x.serving.any (·.early)) && x.asked.isEmpty && x.txnQ.isEmpty

/-! ### MGMT messages -/

/-- A MGMT frame: its words, once the message it belongs to is whole (R280, 13 R330). -/
def State.mgmtTake (i : Nat) (f : RxFrame) (s : State) : State × Option (List W32) :=
  let (s, ok) := s.acceptFrame i f
  if !ok ∨ frameKind f.start ≠ kindMgmt then (s, none)
  else
    let ws := (s.linkAt i).mgmtIn ++ unpackWords f.data
    let n := 1 + field (ws.headD 0) 16 16
    if n ≤ ws.length then (s.modLink i fun x => { x with mgmtIn := [] }, some (ws.take n))
    else (s.modLink i fun x => { x with mgmtIn := ws }, none)

def mgmtType (ws : List W32) : Nat := field (ws.headD 0) 0 8

/-- Word 0 of a start message with its hop count (R280). -/
def startWord (type hop count : Nat) : W32 := w32 (type + 2 ^ 8 * (hop % 256) + 2 ^ 16 * count)

/-- Put a message on every link that is up but one. -/
def State.flood (m : Mgmt) (but : Option Nat) (s : State) : State :=
  s.upLinks.foldl (fun s i => if some i = but then s else s.modLink i fun x => { x with mgmtQ := x.mgmtQ ++ [m] }) s

/-- The neighbours over links that are up (R280). -/
def State.neighbours (s : State) : W32 := s.upLinks.foldl (fun m i => m ||| (1#32 <<< (s.linkAt i).neighDev)) 0

/-- LNK_ARRAY (R291). -/
def State.arrayWord (s : State) : W32 :=
  let x := s.lnk
  w32 (x.array.code + 2 ^ 3 * x.size.toNat + 2 ^ 9 * x.startDev.toNat + 2 ^ 14 * x.diameter.toNat + 2 ^ 19 * x.reason.toNat)

/-- START of this device (R280). -/
def State.startWords (s : State) : List W32 :=
  [startWord 1 0 8, w32 s.lnk.devNum.toNat, s.lnk.ident, BitVec.ofNat 32 s.lnk.startCnt.toNat,
   w32 (s.lnk.startCnt.toNat / 2 ^ 32), w32 s.fab.pulseKhz, w32 (s.fab.turnLen + 16 * s.win.lead.toNat), s.win.turnsM1,
   w32 s.lnk.size.toNat]

/-- The slot sizes of every link that is up agree with what the neighbour reported (R280). -/
def State.slotSizesOk (s : State) : Bool := s.upLinks.all fun i => (s.linkAt i).slotInBits = (s.linkAt i).nbSlotOut.toNat

/-- The reason why this device does not join, 0 where it does (R280). -/
def State.joinReason (s : State) (ws : List W32) : Nat :=
  let w (k : Nat) := ws.getD k 0
  if field (w 6) 0 4 ≠ s.fab.turnLen then 1
  else if (w 5).toNat ≠ s.fab.pulseKhz then 2
  else if field (w 6) 4 5 ≠ s.win.lead.toNat then 3
  else if w 7 ≠ s.win.turnsM1 then 4
  else if !s.slotSizesOk then 5
  else if 8 < field (w 8) 0 6 ∧ !s.lnk.fixedEq then 6
  else if (w 1).toNat = s.lnk.devNum.toNat then 7
  else 0

/-- The array start command of this device ends without GO (R280). -/
def State.arrayIncomplete (reason : Nat) (s : State) : State :=
  match s.lnk.startOrigin with
  | none => s
  | some o =>
    let joined := s.lnk.acks.foldl (fun m a => if a.reason = 0 then m ||| (1#32 <<< a.dev) else m) (1#32 <<< s.lnk.devNum.toNat)
    let n := s.lnk.acks.length
    let s := (s.modLnk fun x => { x with array := .incomplete, reason := BitVec.ofNat 4 reason, startOrigin := none }).log
      0x0A07 true false (w32 reason) (w32 n) 0
    s.postRecord o stBadParam [s.arrayWord, joined]

/-- Take a START as this device's own exchange: check it, forward it, answer it (R279, R280). A device that joins waits with
the not-released hold for GO (05 R101). -/
def State.takeStart (i : Nat) (ws : List W32) (s : State) : State :=
  let w (k : Nat) := ws.getD k 0
  let r := s.joinReason ws
  let s := s.modLnk fun x =>
    { x with ident := w 2, startDev := BitVec.ofNat 5 (w 1).toNat, startLink := some i,
             startCnt := BitVec.ofNat 48 ((w 3).toNat + 2 ^ 32 * field (w 4) 0 16), size := BitVec.ofNat 6 (w 8).toNat,
             reason := BitVec.ofNat 4 r, gone := false, diameter := 0, acks := [],
             array := if r = 0 then .exchanging else .notPart }
  let s := s.clearCause 0
  -- a device that takes no part ignores WIN, an edge that waits included (05 R103)
  let s := if r = 0 then (s.modWin fun w => { w with awaitCount := true }).setHold holdNotReleased
    else s.modWin fun w => { w with edgePending := false, edgeAccepted := false }
  let s := s.flood (.words (startWord 1 (field (w 0) 8 8 + 1) 8 :: ws.drop 1)) (some i)
  let ack := [startWord 2 0 8, w32 s.lnk.devNum.toNat, s.lnk.ident, w32 r, 0, s.neighbours, 0, 0, 0]
  s.modLink i fun x => { x with mgmtQ := x.mgmtQ ++ [.words ack] }

/-- START_RECEIVE (R278, R279, R280, R290). -/
def execStartReceive (i : Fin 16) (f : RxFrame) (s : State) : Host.Outcome State Fault Refusal :=
  let (s, m) := s.mgmtTake i f
  .next (match m with
    | none => s
    | some ws =>
      let dev := (ws.getD 1 0).toNat
      if mgmtType ws ≠ 1 then s
      else if ws.getD 2 0 = s.lnk.ident ∧ s.lnk.array ≠ .alone then s
      else if s.lnk.array = .joined ∧ s.windowRunning then
        (s.log 0x0A0A true false (w32 i) (w32 dev) 0).linkEvt i 9
      else if s.lnk.array = .exchanging then
        if dev < s.lnk.startDev.toNat then
          ((s.arrayIncomplete 0).log 0x0A09 false false (w32 ((s.lnk.startLink).getD 0)) (w32 s.lnk.startDev.toNat) 0).takeStart i ws
        else s.log 0x0A09 false false (w32 i) (w32 dev) 0
      else s.takeStart i ws)

/-- Hops from device `a` to each device of a set of neighbour lists, by rounds. -/
def spread (nb : Nat → W32) : Nat → W32 → W32
  | 0, m => m
  | k + 1, m => spread nb k ((List.range 32).foldl (fun a d => if m.getLsbD d then a ||| nb d else a) m)

/-- The array's diameter in hops from the neighbour lists; none where a device cannot be reached (R279). -/
def diameterOf (devs : List Nat) (nb : Nat → W32) : Option Nat :=
  (List.range 32).find? fun k => devs.all fun a => devs.all fun b => (spread nb k (1#32 <<< a)).getLsbD b

/-- Release of a joined device: the window count is loaded, and the not-released hold ends once the own release is complete
(R279, 05 R101). -/
def State.go (s : State) : State :=
  let s := s.modLnk fun x => { x with array := .joined, gone := true, mcnt := BitVec.ofNat 16 x.startCnt.toNat, mcntNew := false }
  let s := s.modWin fun w => { w with cnt := s.lnk.startCnt, awaitCount := false }
  if s.img.st = .released then s.lengthCheck.clearHold holdNotReleased else s

/-- The answers are all in: GO, or the array is incomplete (R279, R280). -/
def State.startDecide (s : State) : State :=
  match s.lnk.startOrigin with
  | none => s
  | some o =>
    let acks := s.lnk.acks
    if acks.length + 1 < s.lnk.size.toNat then s
    else
      let devs := s.lnk.devNum.toNat :: acks.map (·.dev)
      let own := if 8 < s.lnk.size.toNat ∧ !s.lnk.fixedEq then 6 else if !s.slotSizesOk then 5 else 0
      let dup := if devs.eraseDups.length < devs.length then 7 else 0
      match (own :: dup :: acks.map (·.reason)).find? (· ≠ 0) with
      | some r => s.arrayIncomplete r
      | none =>
        let nb (d : Nat) : W32 := if d = s.lnk.devNum.toNat then s.neighbours
          else match acks.find? fun a => a.dev = d with | some a => a.neighbours | none => 0
        match diameterOf devs nb with
        | none => s.arrayIncomplete 3
        | some k =>
          let s := s.modLnk fun x => { x with diameter := BitVec.ofNat 5 k }
          if s.win.lead.toNat < k then s.arrayIncomplete 3
          else
            let s := ((s.modLnk fun x => { x with startOrigin := none, reason := 0 }).flood .go none).go
            s.postRecord o stOk [s.arrayWord, devs.foldl (fun m d => m ||| (1#32 <<< d)) 0]

/-- START_ACK_RECEIVE: forwarded toward the start device, or collected there (R279). -/
def execStartAckReceive (i : Fin 16) (f : RxFrame) (s : State) : Host.Outcome State Fault Refusal :=
  let (s, m) := s.mgmtTake i f
  .next (match m with
    | none => s
    | some ws =>
      if mgmtType ws ≠ 2 ∨ ws.getD 2 0 ≠ s.lnk.ident then s
      else if s.lnk.startOrigin.isSome then
        (s.modLnk fun x => { x with acks := x.acks ++
          [{ dev := field (ws.getD 1 0) 0 5, reason := field (ws.getD 3 0) 0 4, neighbours := ws.getD 5 0 }] }).startDecide
      else match s.lnk.startLink with
        | some k => s.modLink k fun x =>
            { x with mgmtQ := x.mgmtQ ++ [.words (startWord 2 (field (ws.getD 0 0) 8 8 + 1) 8 :: ws.drop 1)] }
        | none => s)

/-- GO_RECEIVE (R279). -/
def execGoReceive (i : Fin 16) (f : RxFrame) (s : State) : Host.Outcome State Fault Refusal :=
  let (s, ok) := s.acceptFrame i f
  .next (if ok ∧ frameKind f.start = kindMgmt ∧ s.lnk.array = .exchanging ∧ !s.lnk.gone ∧ s.lnk.startLink.isSome
    then (s.flood .go (some i.val)).go else s)

/-- ARRAY_START_TIMEOUT: 100 ms have passed at the start device (R279, R280). -/
def execArrayStartTimeout (s : State) : Host.Outcome State Fault Refusal :=
  .next (if s.lnk.array = .exchanging then
    s.arrayIncomplete ((s.lnk.acks.find? fun a => a.reason ≠ 0).map (·.reason) |>.getD 0) else s)

/-- ARRAY_START (R279, 14 R356): START goes out with a start identity that the spec leaves open. -/
def State.arrayStart (o : Origin) (size : Nat) (s : State) : State :=
  let s := s.modLnk fun x =>
    { x with array := .exchanging, size := BitVec.ofNat 6 size, startDev := x.devNum, startLink := none, startCnt := s.win.cnt,
             ident := Config.freeWord s.fresh 0, gone := false, diameter := 0, reason := 0, acks := [], startOrigin := some o }
  let s := (s.freshen.clearCause 0).setHold holdNotReleased
  let s := s.modWin fun w => { w with awaitCount := true }
  s.flood (.words s.startWords) none

end Sys2Proof.Machine
end

