-- ==== Sys2Proof/Machine/ClockOps.lean ====
section
/-! DEFINITION. What several families share of clocks: clock stops, pins in the safe state, sluices
(16_clocks R398 to R400, R407 to R410). -/
namespace Sys2Proof.Machine

/-! ### Clock stops (R398) -/

/-- Reasons of a clock stop: reference lost, a Tier's clock couplers, thermal stop, forced Sill reset, warm reset, hard trip;
10 + p for PLL p. -/
def stopRef := 0
def stopCoupler (tier : Nat) := 2 + tier
def stopThermal := 4
def stopForced := 5
def stopWarm := 6
def stopTrip := 7
def stopPll (p : Nat) := 10 + p

/-- Take a clock stop now. -/
def State.takeStop (r : Nat) (s : State) : State :=
  let first := s.fab.clockStop.isEmpty
  let s := s.modFab fun f => { f with clockStop := if f.clockStop.contains r then f.clockStop else f.clockStop ++ [r] }
  if first then s.modClk fun c => { c with stops := satInc c.stops } else s

/-- Ask for a clock stop: at the next turn end while the fabric runs, else at once (R398). -/
def State.clockStop (r : Nat) (s : State) : State :=
  if s.win.st = .running ∧ s.fab.clockStop.isEmpty then
    s.modFab fun f => { f with stopReq := if f.stopReq.contains r then f.stopReq else f.stopReq ++ [r] }
  else s.takeStop r

/-- A reason of a clock stop ends. -/
def State.endStop (r : Nat) (s : State) : State :=
  s.modFab fun f => { f with clockStop := f.clockStop.filter (· ≠ r), stopReq := f.stopReq.filter (· ≠ r) }

/-- Turn end: the stops asked for are taken (R398). -/
def State.takeStops (s : State) : State :=
  s.fab.stopReq.foldl (fun s r => s.takeStop r) (s.modFab fun f => { f with stopReq := [] })

/-! ### Pins (R399, 12 R310) -/

/-- The user pins are held at high impedance with weak pull-down (R399, 17 R435, 10 R240). -/
def State.pinsFloat (s : State) : Bool := s.clk.safe || s.thm.stopped || s.thm.shdn || !s.fab.outFree

/-- Show the pins of every bank as they now stand. -/
def State.showPins (s : State) : State :=
  (List.range 20).foldl (fun s b =>
    let v := tget s.io.value 0 b
    let e := tget s.io.enable 0 b
    if v = 0 ∧ e = 0 then s else s.emit (if s.pinsFloat then .pins b 0 0 else .pins b v e)) s

/-- Every link that is up goes down (R399). -/
def State.dropLinks (s : State) : State := s.upLinks.foldl (fun s i => s.linkDown i) s

/-- Ask a multiplexer to switch (R406): a switch caused by a loss goes before one written by a command that still waits. -/
def State.muxSwitch (m : MuxSwitch) (s : State) : State :=
  s.modClk fun c => { c with sw := match c.sw with
    | [] => [m]
    | q :: t => if m.loss then q :: t.takeWhile (·.loss) ++ [m] ++ t.dropWhile (·.loss) else c.sw ++ [m] }

/-- Enter the behaviour of the safe state: pins, links, PLL outputs, Lockkeeper clock (R399). -/
def State.safeItems (s : State) : State :=
  let s := (s.dropLinks).modClk fun c => { c with lock := 0, relock := 0, holdover := false, fosc := 0 }
  let s := (List.range 16).foldl (fun s g => s.modGroup g fun x => { x with pll := 3, lock := 0, sought := false }) s
  let s := if s.clk.lkFosc then s else s.muxSwitch { mux := 2, target := 1, loss := true }
  s.showPins

/-- Entry to thermal stop, which ends the orderly stop: the behaviour of the safe state, POWER, and the log entry, whose P1 says
whether a clock stop cut the window (17 R433, R436). -/
def State.thermalStop (cut : Bool) (s : State) : State :=
  let s := (s.modThm fun t => { t with stopping := false, stopped := true }).modPwr fun p => { p with dev := .thermal }
  let s := (s.takeStop stopThermal).safeItems.setHold holdPower
  (s.log 0x0D0A true true (w32 s.thm.stopT.toNat) (bitAt cut 0) (bitAt s.thm.stopCaptured 0)).thmEvt 4

/-! ### Sluices (R407 to R410) -/

/-- Controllers behind a sluice. -/
def slcCtls (n : Nat) : List Nat := if n < 8 then [32 + n] else if n = 8 then List.range 32 else []

/-- The port of a block reports idle (R408). The ledger is flushed as the sluice closes. -/
def State.slcIdle (s : State) (n : Nat) : Bool :=
  (slcCtls n).all (fun m => (s.ctlAt m).path.isNone && !(s.ctlAt m).filling && (s.nodeAt (ctlNode m)).work.isEmpty)
  && (n ≠ 9 || s.flm.idle) && (n ≠ 10 || s.bist.run.isNone)

/-- Ask for a sluice state (R408): Run at once, a close waits for idle. -/
def State.slcRequest (n : Nat) (st : BitVec 2) (s : State) : State :=
  if st = 0 then (s.modSlc n fun x => { x with req := 0 }).slcSet n 0
  else if (s.slcAt n).st = st then s.modSlc n fun x => { x with req := st, closing := false }
  else s.modSlc n fun x => { x with req := st, closing := true }

/-- Answer the SLUICE_SET that waits (14 R359). -/
def State.slcAnswer (n : Nat) (status : Nat) (s : State) : State :=
  match (s.slcAt n).waiter with
  | none => s
  | some r =>
    (s.modSlc n fun x => { x with waiter := none }).commit r 0x0502 .owner status false
      (if status = stOk then [w32 (s.slcAt n).st.toNat] else [])

/-- Close a sluice whose port reports idle (R408). -/
def State.slcClose (n : Nat) (s : State) : State :=
  let x := s.slcAt n
  if x.closing ∧ s.slcIdle n then
    (((slcCtls n).foldl (fun s m => s.flushAll m) s).slcSet n x.req).slcAnswer n stOk
  else s

/-- A close has not seen idle within 1,024 cycles (R408). -/
def State.slcFail (n : Nat) (s : State) : State :=
  let x := s.slcAt n
  if x.closing then
    (((s.modSlc n fun y => { y with closing := false, fail := true }).log 0x0C08 false false (w32 n) (w32 x.req.toNat) 0).clkEvt
      7).slcAnswer n stBusy
  else s

/-- Work has reached a closed block (R409). -/
def State.slcWork (s : State) (n : Nat) : Bool :=
  if n ≤ 8 then (slcCtls n).any fun m =>
    let x := s.nodeAt (ctlNode m)
    !x.work.isEmpty || !x.rxReq.isEmpty
  else if n = 9 then
    s.flm.chan.any fun e => (e.2.run && !e.2.halted && e.2.mask e.2.head.toNat ≠ e.2.mask e.2.tail.toNat) || e.2.trigPend
      || e.2.desc.isSome
  else s.bist.run.isSome

end Sys2Proof.Machine
end

