-- ==== Sys2Proof/Machine/Clocks.lean ====
section
/-! DEFINITION. References, PLLs, multiplexers, sluices, clock couplers (16_clocks, 01_stack R23). -/
namespace Sys2Proof.Machine

def RefIn.code : RefIn → Nat
  | .a => 0 | .b => 1

def ClockState.valid (c : ClockState) : RefIn → Bool
  | .a => c.validA | .b => c.validB

def RefIn.other : RefIn → RefIn
  | .a => .b | .b => .a

/-- SELECT allows a reference (R396). -/
def refAllowed (select : BitVec 2) (r : RefIn) : Bool :=
  select = 0 || (select = 1 && r = .a) || (select = 2 && r = .b)

/-- The reference that SELECT gives when none is in use (R396). -/
def ClockState.choose (c : ClockState) (select : BitVec 2) : Option RefIn :=
  [RefIn.a, .b].find? fun r => refAllowed select r && c.valid r

/-- Every PLL keeps its lock indication and has to relock (R397). -/
def ClockState.hold (c : ClockState) : ClockState := { c with holdover := true, relock := c.lock }

/-- Switch the reference multiplexer (R404). -/
def State.refSwitch (r : RefIn) (loss : Bool) (s : State) : State := s.muxSwitch { mux := 0, target := r.code, loss := loss }

/-- The reference in use is lost and no other is allowed: holdover and a clock stop, and a failover under way ends (R399). -/
def State.refNone (q : RefIn) (s : State) : State :=
  ((((s.modClk fun c =>
    { c.hold with inUse := none, fosc := 0, failingOver := false, sw := c.sw.filter fun m => m.mux ≠ 0 }).log 0x0C01 true false
      (w32 q.code) 0 0).clkEvt 0).clockStop stopRef)

/-- A lost input is the one in use, or the one that a failover was taking (R396, R399). -/
def State.refLost (r : RefIn) (s : State) : State :=
  match s.clk.inUse with
  | none => s
  | some q =>
    if s.clk.valid q then s
    else if q = r ∧ s.clk.select = 0 ∧ s.clk.valid r.other then
      (s.modClk fun c => { c.hold with failingOver := true }).refSwitch r.other true
    else s.refNone q

/-- REF_LOST: the monitor declares an input lost (R395, R396, R397, R399). The loss of phase lock of the lane that feeds REFB is such a
loss (R394). -/
def execRefLost (r : RefIn) (s : State) : Host.Outcome State Fault Refusal :=
  .next ((s.modClk fun c => match r with | .a => { c with validA := false } | .b => { c with validB := false }).refLost r)

/-- The REFB input shows a clock: its pins are in use, or the lane that feeds it holds phase lock (R393, R394). -/
def State.refPresent (s : State) : RefIn → Bool
  | .a => decide (s.clk.modeA ≠ 0)
  | .b => if s.clk.refbSrc then (s.groupAt s.clk.recGroup.toNat).lock.getLsbD s.clk.recLane.toNat else decide (s.clk.modeB ≠ 0)

/-- REF_QUALIFIED: an input becomes valid; with no reference in use, the one that SELECT allows is selected (R395, R396, R400). -/
def execRefQualified (r : RefIn) (s : State) : Host.Outcome State Fault Refusal :=
  .next (if !s.refPresent r then s
    else
      let s := s.modClk fun c => match r with
        | .a => { c with validA := true, driftLogged := false }
        | .b => { c with validB := true, driftLogged := false }
      if s.clk.inUse.isNone ∧ !(s.clk.sw.any fun m => m.mux = 0) then
        match s.clk.choose s.clk.select with
        | some q => s.refSwitch q true
        | none => s
      else s)

/-- REF_COMPARE: both valid references are compared over a second (R395). -/
def execRefCompare (ppm : Nat) (s : State) : Host.Outcome State Fault Refusal :=
  .next (if s.clk.validA ∧ s.clk.validB ∧ 200 < ppm ∧ !s.clk.driftLogged then
      ((s.modClk fun c => { c with driftLogged := true }).log 0x0C09 true false (w32 ppm) 0 0).clkEvt 8
    else s)

/-- A write of SELECT (R396). -/
def State.selectRef (v : BitVec 2) (s : State) : State :=
  if v = 3 then s
  else match s.clk.inUse with
    | none =>
      let s := s.modClk fun c => { c with select := v }
      match s.clk.choose v with
      | some q => if s.clk.sw.any (fun m => m.mux = 0) then s else s.refSwitch q false
      | none => s
    | some r =>
      if refAllowed v r then s.modClk fun c => { c with select := v }
      else if s.clk.valid r.other then (s.modClk fun c => { c.hold with select := v }).refSwitch r.other false
      else s.clkEvt 9

/-- The switch of a multiplexer that is in progress (R406). -/
def ClockState.current (c : ClockState) (m : Nat) : Option MuxSwitch := c.sw.find? fun x => x.mux = m

/-- The PLLs fed by the reference multiplexer or the couplers relock (R397, R400). -/
def State.refTaken (r : RefIn) (s : State) : State := s.modClk fun c => { c with inUse := some r, resuming := c.safe }

/-- MUX_SWITCH_COMPLETE (R404). The lane group and Tier multiplexers switch with their own rows. -/
def execMuxSwitchComplete (m : Fin 6) (s : State) : Host.Outcome State Fault Refusal :=
  .next (match s.clk.current m with
    | none => s
    | some x =>
      let s := s.modClk fun c => { c with sw := c.sw.erase x }
      if x.mux = 0 then s.refTaken (if x.target = 0 then .a else .b)
      else if x.mux = 2 then s.modClk fun c => { c with lkFosc := decide (x.target = 1) }
      else s)

/-- A switch of the multiplexer is in progress: for the lane groups and the Tiers, the change-over of R262 and R23. -/
def State.switching (s : State) (m : Nat) : Bool :=
  (s.clk.current m).isSome
  || (m = 3 && (List.range 16).any fun g => (s.groupAt g).sought)
  || (m = 4 && decide (s.vert.switchA ≠ 0)) || (m = 5 && s.vert.switchB)

/-- MUX_FORCED (R405). -/
def execMuxForced (m : Fin 6) (s : State) : Host.Outcome State Fault Refusal :=
  .next (if s.switching m then (s.log 0x0C06 false false (w32 m) 0 0).clkEvt 5 else s)

/-- MUX_ABANDONED: the multiplexer stays on the old clock (R404); a failover that is abandoned leaves no reference (R399). -/
def execMuxAbandoned (m : Fin 6) (s : State) : Host.Outcome State Fault Refusal :=
  .next (if s.switching m then
      let s := s.modClk fun c => { c with sw := match c.current m with | some x => c.sw.erase x | none => c.sw }
      let s := if m = 3 then (List.range 16).foldl (fun s g => s.modGroup g fun x => { x with sought := false }) s else s
      let s := s.modVert fun v =>
        { v with switchA := if m = 4 then 0 else v.switchA, switchB := v.switchB && m ≠ 5 }
      let s := (s.log 0x0C07 true false (w32 m) 0 0).clkEvt 6
      match s.clk.inUse with
      | some q => if m = 0 ∧ !s.clk.valid q then s.refNone q else s
      | none => s
    else s)

/-- SAFE_ENTERED: 1 ms of holdover has passed with no reference (R399). -/
def execSafeEntered (s : State) : Host.Outcome State Fault Refusal :=
  .next (if s.clk.holdover ∧ s.clk.inUse.isNone ∧ !s.clk.safe then
      (((s.modClk fun c => { c with safe := true, safeMs := 0 }).safeItems.log 0x0C03 true true 0 0 0).clkEvt 2)
    else s)

/-- The Sill core and Tier PLLs are locked (R241 of 10, R400). -/
def State.coreLocked (s : State) : Bool := s.clk.lock &&& 0x1F = 0x1F && s.clk.relock &&& 0x1F = 0

/-- Leave the behaviour of the safe state (R400). -/
def State.safeEnd (s : State) : State :=
  let s := if s.clk.lkFosc then s.muxSwitch { mux := 2, target := 0 } else s
  s.showPins

/-- REF_RESTORED (R400). -/
def execRefRestored (s : State) : Host.Outcome State Fault Refusal :=
  .next (match s.clk.inUse with
    | some r =>
      if s.clk.safe ∧ s.clk.resuming ∧ s.coreLocked then
        let ms := s.clk.safeMs
        let s := (s.modClk fun c => { c with safe := false, resuming := false }).safeEnd
        ((s.log 0x0C04 true false (w32 r.code) ms 0).clkEvt 3).endStop stopRef
      else s
    | none => s)

/-! ### PLLs (R401 to R403) -/

/-- Requests to the channels of a DDR PLL are served again (R403). -/
def State.ddrServe (k : Nat) (s : State) : State :=
  (List.range 4).foldl (fun s i => if s.gated then s else s.serveAll (32 + 4 * k + i)) s

/-- A PLL achieves lock (R397, R401, R403). -/
def State.pllLock (p : Nat) (s : State) : State :=
  if s.clk.inUse.isNone then s
    else
      let s := s.modClk fun c => { c with lock := c.lock ||| (1#25 <<< p), relock := c.relock &&& ~~~(1#25 <<< p) }
      let s :=
        if s.clk.holdover ∧ s.clk.relock = 0 then
          let f := s.clk.failingOver
          let s := s.modClk fun c => { c with holdover := false, failingOver := false }
          match f, s.clk.inUse with
          | true, some r =>
            ((s.modClk fun c => { c with failovers := satInc c.failovers }).log 0x0C02 true false (w32 r.code) 0 0).clkEvt 1
          | _, _ => s
        else s
      let s := s.endStop (stopPll p)
      if p = 0 then
        if s.clk.lkFosc ∧ (s.clk.current 2).isNone then s.muxSwitch { mux := 2, target := 0 } else s
      else if p = 5 ∨ p = 6 then s.ddrServe (p - 5)
      else if 7 ≤ p ∧ p < 23 then
        s.modGroup (p - 7) fun x => if x.pll = 3 then { x with pll := 0, sought := false } else x
      else s

/-- PLL_LOCK (R397, R401, R403). -/
def execPllLock (p : Fin 25) (s : State) : Host.Outcome State Fault Refusal := .next (s.pllLock p)

/-- A Tier PLL whose clock couplers have all failed is in holdover and keeps its lock indication: 1 and 2 of Tier A, 3 and 4 of Tier B,
whose reference Tier A relays (01 R23, 16 R397). -/
def VerticalState.held (v : VerticalState) (p : Nat) : Bool :=
  (v.holdA && decide (1 ≤ p) && decide (p ≤ 4)) || (v.holdB && decide (3 ≤ p) && decide (p ≤ 4))

/-- PLL_UNLOCK: a PLL loses lock with a valid reference (R403). -/
def execPllUnlock (p : Fin 25) (s : State) : Host.Outcome State Fault Refusal :=
  .next (if !s.clk.lock.getLsbD p ∨ s.clk.inUse.isNone ∨ s.clk.holdover ∨ s.vert.held p then s
    else
      let s := s.modClk fun c => { c with lock := c.lock &&& ~~~(1#25 <<< p.val), fosc := if p.val = 0 then 0 else c.fosc }
      let s := (s.log 0x0C05 true false (w32 p) 0 0).clkEvt 4
      if p.val = 0 then (s.muxSwitch { mux := 2, target := 1, loss := true }).clockStop (stopPll 0)
      else if p.val < 5 then s.clockStop (stopPll p)
      else if p.val < 7 then s
      else if p.val < 23 then
        if (s.groupAt (p.val - 7)).pll = 0 then s.groupUnlock (p.val - 7) else s
      else match (List.range 16).find? fun g => (s.groupAt g).pll.toNat = p.val - 22 with
        | some g => s.groupUnlock g
        | none => s)

/-! ### Sluices -/

/-- SLUICE_CLOSE (R408). -/
def execSluiceClose (n : Fin 56) (s : State) : Host.Outcome State Fault Refusal := .next (s.slcClose n)

/-- SLUICE_FAIL (R408). -/
def execSluiceFail (n : Fin 56) (s : State) : Host.Outcome State Fault Refusal := .next (s.slcFail n)

/-- SLUICE_REOPEN (R409). A sluice that a power state holds stays with its domain. -/
def execSluiceReopen (n : Fin 56) (s : State) : Host.Outcome State Fault Refusal :=
  .next (if n.val ≤ 10 ∧ !s.slcOpen n ∧ s.slcWork n ∧ ((slcCtls n).all fun m => (s.ctlAt m).pstate = .run) then
      let s := (s.modSlc n fun x => { x with reopen := satInc x.reopen }).slcSet n 0
      (slcCtls n).foldl (fun s m => s.serveAll m) s
    else s)

/-! ### Clock couplers (01 R23) -/

/-- CLOCK_COUPLER_FAIL: couplers 0 to 3 lead to Tier A, 4 and 5 from Tier A to Tier B (01 R23). -/
def execClockCouplerFail (k : Fin 6) (s : State) : Host.Outcome State Fault Refusal :=
  let toA := decide (k.val < 4)
  let i := if toA then k.val else k.val - 4
  let l := if toA then s.vert.sillA else s.vert.ab
  let old := l.getD i .failed
  let s := s.modVert fun v => if toA then { v with sillA := v.sillA.set i .failed } else { v with ab := v.ab.set i .failed }
  .next (match old with
    | .failed => s
    | .standby => s.log 0x0C0A false false (if toA then 0 else 1) (w32 i) 0
    | .active => s.modVert fun v => if toA then { v with switchA := v.switchA + 1 } else { v with switchB := true })

/-- Every coupler of a crossing has failed: the PLLs behind it enter holdover, and the fabric takes a clock stop that lasts until the
owner resets the die (01 R23). -/
def State.couplersLost (tierB : Bool) (s : State) : State :=
  (s.modVert fun v => if tierB then { v with holdB := true } else { v with holdA := true }).clockStop
    (stopCoupler (if tierB then 1 else 0))

/-- CLOCK_COUPLER_SWITCH: a standby takes over for an active coupler that failed; with none left at the crossing the fabric takes a
clock stop (01 R23). The spec numbers no coupler: that 0 and 1 of Tier A's four and 0 of Tier B's two are active at reset, and
that the lowest-numbered standby takes over for either, is the model's (DESIGN CHOICE, log entry 150). -/
def execClockCouplerSwitch (tierB : Bool) (s : State) : Host.Outcome State Fault Refusal :=
  let l := if tierB then s.vert.ab else s.vert.sillA
  let t := if tierB then 1 else 0
  .next (if !(if tierB then s.vert.switchB else decide (s.vert.switchA ≠ 0)) then s
    else
      let s := s.modVert fun v => if tierB then { v with switchB := false } else { v with switchA := v.switchA - 1 }
      match l.findIdx? (· = .standby) with
      | some i =>
        (s.modVert fun v => if tierB then { v with ab := v.ab.set i .active } else { v with sillA := v.sillA.set i .active }).log
          0x0C0A false false (w32 t) (w32 i) 0
      | none => if l.any (· = .active) then s else s.couplersLost tierB)

end Sys2Proof.Machine
end

