-- ==== Sys2Proof/Machine/Crypto.lean ====
section
/-! DEFINITION. The algorithms of 15_security: SHA-256 and RSASSA-PSS (R373), AES-256 in GCM and in key wrap (R379, R380).
Byte strings are lists of numbers below 256. The algorithms are those of FIPS 180-4, FIPS 197, SP 800-38D, RFC 8017 and
RFC 3394, which the spec names. -/
namespace Sys2Proof.Machine

/-! ### Byte strings -/

def beWord (l : List Nat) : Nat := l.foldl (fun a b => 256 * a + b) 0

/-- `n` as `k` bytes, most significant first. -/
def beBytes (k n : Nat) : List Nat := (List.range k).map fun i => n >>> (8 * (k - 1 - i)) % 256

/-- Split into runs of `k`. -/
def chunks {α : Type} (k : Nat) : Nat → List α → List (List α)
  | 0, _ => []
  | fuel + 1, l => if l.isEmpty then [] else l.take k :: chunks k fuel (l.drop k)

/-! ### SHA-256

FIPS 180-4 in recurrences: the eight working variables are the last four values of a sequence A and of a sequence E, and the
constants are what they are defined as, bits of square and cube roots of primes. -/

/-- The first 32 fractional bits of the k-th root of p, for roots below 16. -/
def rootBits (k p : Nat) : Nat :=
  ((List.range 36).reverse.foldl (fun r i => if (r + 2 ^ i) ^ k ≤ p * 2 ^ (32 * k) then r + 2 ^ i else r) 0) % 2 ^ 32

/-- The first 64 primes. -/
def shaPrimes : List Nat := ((List.range 312).drop 2).filter fun n => (List.range 18).all fun d => d < 2 || n ≤ d || n % d ≠ 0

/-- Rotations of a word to the right, summed without carry. -/
def rotations (rs : List Nat) (x : W32) : W32 := rs.foldl (fun a r => a ^^^ x.rotateRight r) 0

/-- The next word of the message schedule: it depends on the words 16, 15, 7 and 2 places before it. -/
def nextWord (ws : List W32) : W32 :=
  let back (k : Nat) := ws.getD (ws.length - k) 0
  let mix (r q h : Nat) (x : W32) := rotations [r, q] x ^^^ x >>> h
  back 16 + back 7 + mix 7 18 3 (back 15) + mix 17 19 10 (back 2)

/-- One round: the next member of A and of E, newest first, from the sum of the round's constant and word. -/
def nextPair (s : List W32 × List W32) (sum : W32) : List W32 × List W32 :=
  let a (k : Nat) := s.1.getD (k - 1) 0
  let e (k : Nat) := s.2.getD (k - 1) 0
  let pick := e 3 ^^^ (e 1 &&& (e 2 ^^^ e 3))
  let most := (a 1 &&& (a 2 ||| a 3)) ||| (a 2 &&& a 3)
  let x := rotations [6, 11, 25] (e 1) + pick + e 4 + sum
  ((x + most + rotations [2, 13, 22] (a 1)) :: s.1.take 3, (a 4 + x) :: s.2.take 3)

/-- The chaining value after a block of 64 bytes. -/
def compress (h : List W32) (block : List Nat) : List W32 :=
  let ws := (List.range 48).foldl (fun ws _ => ws ++ [nextWord ws]) ((chunks 4 16 block).map fun b => w32 (beWord b))
  let sums := List.zipWith (fun p w => w32 (rootBits 3 p) + w) shaPrimes ws
  let s := sums.foldl nextPair (h.take 4, h.drop 4)
  List.zipWith (· + ·) h (s.1 ++ s.2)

/-- SHA-256 of a byte string: a 1 bit, zeros, and the length in bits fill it up to whole blocks. -/
def sha256 (msg : List Nat) : List Nat :=
  let zeros := (119 - msg.length % 64) % 64
  let full := msg ++ [128] ++ List.replicate zeros 0 ++ beBytes 8 (8 * msg.length)
  let last := (chunks 64 (full.length / 64) full).foldl compress ((shaPrimes.take 8).map fun p => w32 (rootBits 2 p))
  last.flatMap fun w => beBytes 4 w.toNat

/-! ### RSASSA-PSS with SHA-256, MGF1 with SHA-256, a 32-byte salt and trailer 0xBC (R373) -/

/-- b^e mod n by squaring over the `k` low bits of e. -/
def powMod (n : Nat) : Nat → Nat → Nat → Nat
  | 0, _, _ => 1 % n
  | k + 1, b, e => (if e % 2 = 1 then b else 1) * powMod n k (b * b % n) (e / 2) % n

def mgf1 (seed : List Nat) (len : Nat) : List Nat :=
  ((List.range (len / 32 + 1)).flatMap fun i => sha256 (seed ++ beBytes 4 i)).take len

def xorBytes (a b : List Nat) : List Nat := List.zipWith (· ^^^ ·) a b

/-- Verify a signature over a digest under a modulus (R373). -/
def pssVerify (n : Nat) (sig digest : List Nat) : Bool :=
  let s := beWord sig
  if n ≤ s ∨ sig.length ≠ 384 then false
  else
    let em := beBytes 384 (powMod n 17 s 65537)
    let masked := em.take 351
    let h := (em.drop 351).take 32
    let db := xorBytes masked (mgf1 h 351)
    let db := (db.headD 0 % 128) :: db.tail
    let salt := db.drop 319
    (em.getD 383 0 = 0xBC) && decide (masked.headD 0 < 128) && db.take 318 = List.replicate 318 0 && db.getD 318 0 = 1 &&
    sha256 (List.replicate 8 0 ++ digest ++ salt) = h

/-- Sign a digest with a private exponent and a salt (R373). -/
def pssSign (n d : Nat) (digest salt : List Nat) : List Nat :=
  let h := sha256 (List.replicate 8 0 ++ digest ++ salt)
  let db := List.replicate 318 0 ++ [1] ++ salt
  let masked := xorBytes db (mgf1 h 351)
  let em := (masked.headD 0 % 128 :: masked.tail) ++ h ++ [0xBC]
  beBytes 384 (powMod n 3072 (beWord em % n) d)

/-! ### AES-256 (R379, R380) -/

def aesDouble (a : Nat) : Nat := if a < 128 then 2 * a else (2 * a) ^^^ 0x11B

def aesMulBits : Nat → Nat → Nat → Nat
  | 0, _, _ => 0
  | n + 1, a, b => (if b % 2 = 1 then a else 0) ^^^ aesMulBits n (aesDouble a) (b / 2)

def aesMul (a b : Nat) : Nat := aesMulBits 8 a b

/-- The power 254: the inverse of a nonzero element, 0 for 0. -/
def aesInv (a : Nat) : Nat :=
  ((List.range 7).foldl (fun (p : Nat × Nat) _ => let s := aesMul p.1 p.1; (s, aesMul p.2 s)) (a, 1)).2

def rotl8 (x n : Nat) : Nat := (x <<< n ||| x >>> (8 - n)) % 256

def aesSub (a : Nat) : Nat :=
  let b := aesInv a
  b ^^^ rotl8 b 1 ^^^ rotl8 b 2 ^^^ rotl8 b 3 ^^^ rotl8 b 4 ^^^ 0x63

def aesInvSub (a : Nat) : Nat := aesInv (rotl8 a 1 ^^^ rotl8 a 3 ^^^ rotl8 a 6 ^^^ 0x05)

/-- The key schedule: words of 4 bytes, newest first. -/
def aesExpand : Nat → Nat → Nat → List (List Nat) → List (List Nat)
  | 0, _, _, w => w
  | n + 1, i, rcon, w =>
    let prev := w.headD []
    let t :=
      if i % 8 = 0 then
        match prev.map aesSub with
        | [a, b, c, d] => [b ^^^ rcon, c, d, a]
        | l => l
      else if i % 8 = 4 then prev.map aesSub
      else prev
    aesExpand n (i + 1) (if i % 8 = 0 then aesDouble rcon else rcon) (xorBytes (w.getD 7 []) t :: w)

/-- The 15 round keys of a 32-byte key. -/
def aesKeys (key : List Nat) : List (List Nat) :=
  (chunks 4 15 ((aesExpand 52 8 1 (chunks 4 8 key).reverse).reverse)).map (·.flatten)

def shiftRows (s : List Nat) : List Nat := (List.range 16).map fun i => s.getD ((5 * i) % 16) 0
def invShiftRows (s : List Nat) : List Nat := (List.range 16).map fun i => s.getD ((13 * i) % 16) 0

def mixWith (m : List Nat) (s : List Nat) : List Nat :=
  (chunks 4 4 s).flatMap fun c =>
    (List.range 4).map fun r => (List.range 4).foldl (fun a k => a ^^^ aesMul (m.getD ((k + 4 - r) % 4) 0) (c.getD k 0)) 0

def aesEncrypt (keys : List (List Nat)) (block : List Nat) : List Nat :=
  let s := xorBytes block (keys.headD [])
  let s := ((keys.drop 1).take 13).foldl (fun s k => xorBytes (mixWith [2, 3, 1, 1] (shiftRows (s.map aesSub))) k) s
  xorBytes (shiftRows (s.map aesSub)) (keys.getD 14 [])

def aesDecrypt (keys : List (List Nat)) (block : List Nat) : List Nat :=
  let s := (invShiftRows (xorBytes block (keys.getD 14 []))).map aesInvSub
  let s := ((keys.drop 1).take 13).reverse.foldl (fun s k =>
    (invShiftRows (mixWith [14, 11, 13, 9] (xorBytes s k))).map aesInvSub) s
  xorBytes s (keys.headD [])

/-- RFC 3394 unwrap of a 32-byte key; none where the initial value does not match (R379). -/
def keyUnwrap (kek wrapped : List Nat) : Option (List Nat) :=
  let ks := aesKeys kek
  let r0 := chunks 8 4 (wrapped.drop 8)
  let (a, r) := (List.range 24).foldl (fun (p : List Nat × List (List Nat)) i =>
    let t := 24 - i
    let k := (t - 1) % 4
    let b := aesDecrypt ks (xorBytes p.1 (beBytes 8 t) ++ p.2.getD k [])
    (b.take 8, p.2.set k (b.drop 8))) (wrapped.take 8, r0)
  if a = List.replicate 8 0xA6 then some r.flatten else none

/-- Keystream block of GCM for the counter of data block `i` (R380). -/
def gcmStream (keys : List (List Nat)) (iv : List Nat) (i : Nat) : List Nat := aesEncrypt keys (iv ++ beBytes 4 (i + 2))

/-- Product in GF(2^128) of GCM. -/
def ghashMul : Nat → Nat → Nat → Nat → Nat
  | 0, _, _, z => z
  | n + 1, x, v, z =>
    ghashMul n x (if v % 2 = 1 then v / 2 ^^^ (0xE1 <<< 120) else v / 2) (if x.testBit n then z ^^^ v else z)

def pad16 (l : List Nat) : List Nat := l ++ List.replicate ((16 - l.length % 16) % 16) 0

/-- The tag of GCM over additional data and ciphertext. -/
def gcmTag (keys : List (List Nat)) (iv aad cipher : List Nat) : List Nat :=
  let h := beWord (aesEncrypt keys (List.replicate 16 0))
  let data := pad16 aad ++ pad16 cipher ++ beBytes 8 (8 * aad.length) ++ beBytes 8 (8 * cipher.length)
  let y := (chunks 16 (data.length / 16 + 1) data).foldl (fun y b => ghashMul 128 (y ^^^ beWord b) h 0) 0
  xorBytes (beBytes 16 y) (aesEncrypt keys (iv ++ beBytes 4 1))

end Sys2Proof.Machine
end

