-- ==== Sys2Proof/Machine/Images.lean ====
section
/-! DEFINITION. Image containers: header, sections, digests, signature, encryption, frames, and the checks of R237
(10_configuration R232 to R237, 15_security R379, R380, 11 R281, 12 R311, R312). -/
namespace Sys2Proof.Machine

/-! ### Bytes of an image -/

/-- An image as stored: a bank's base image or a patch (R228, R248). -/
structure Img where
  bytes : Tab (Option Byte)
  len : Nat
  /-- round keys of the image key where ENC is 1 and the key unwraps (15 R380) -/
  keys : Option (List (List Nat)) := none

/-- Every byte of a run has been written since the bank was erased (14 R354). -/
def Img.has (m : Img) (off n : Nat) : Bool := (List.range n).all fun i => (tget m.bytes none (off + i)).isSome

/-- One byte; an erased cell reads as the hardware has it. -/
def Img.byte (m : Img) (off : Nat) : Nat := ((tget m.bytes none off).getD (Config.erasedByte off)).toNat

def Img.run (m : Img) (off n : Nat) : List Nat := (List.range n).map fun i => m.byte (off + i)

/-- A little-endian 32-bit word at a byte offset. -/
def Img.w (m : Img) (off : Nat) : W32 := bytesWord (m.byte off) (m.byte (off + 1)) (m.byte (off + 2)) (m.byte (off + 3))

/-- Header word i (R233). -/
def Img.hw (m : Img) (i : Nat) : W32 := m.w (4 * i)

def Img.partly (m : Img) : Bool := (m.hw 1).getLsbD 8
def Img.enc (m : Img) : Bool := (m.hw 1).getLsbD 9
def Img.version (m : Img) : W32 := m.hw 2
def Img.baseVersion (m : Img) : W32 := m.hw 3
def Img.pulseKhz (m : Img) : Nat := (m.hw 4).toNat
def Img.turnLen (m : Img) : Nat := field (m.hw 5) 0 4
def Img.nrect (m : Img) : Nat := field (m.hw 10) 0 3
def Img.join (m : Img) : Bool := (m.hw 10).getLsbD 4
def Img.nsect (m : Img) : Nat := field (m.hw 17) 0 8
def Img.ndigest (m : Img) : Nat := field (m.hw 17) 8 8

/-- The rectangles of a partial image (R233). -/
def Img.rects (m : Img) : List Rect :=
  (List.range (min m.nrect 4)).map fun i =>
    let w := m.hw (11 + i)
    { tierB := w.getLsbD 0, x0 := field w 1 6, y0 := field w 7 6, x1 := field w 13 6, y1 := field w 19 6 }

/-- Plots of a rectangle in frame order (R235). -/
def Rect.plots (r : Rect) : List Nat :=
  (List.range (r.x1 + 1 - r.x0)).flatMap fun i => (List.range (r.y1 + 1 - r.y0)).map fun j =>
    plotIx (if r.tierB then 1 else 0) (r.x0 + i) (r.y0 + j)

/-- Plots whose frames an image holds, in frame order (R235). -/
def Img.plots (m : Img) : List Nat := if m.partly then m.rects.flatMap (·.plots) else List.range 5120

/-! ### Sections (R232, R234) -/

structure Sect where
  type : Nat
  off : Nat
  len : Nat
  first : Nat
deriving DecidableEq, Repr

def segBytes := 33554432
def segPlain := 33554416

def Img.sectAt (m : Img) (i : Nat) : Sect :=
  let o := 512 + 16 * i
  { type := field (m.w o) 0 8, off := (m.w (o + 4)).toNat, len := (m.w (o + 8)).toNat, first := field (m.w (o + 12)) 0 8 }

def Img.sects (m : Img) : List Sect := (List.range (min m.nsect 16)).map m.sectAt

def Img.sect (m : Img) (type : Nat) : Option Sect := m.sects.find? fun x => x.type = type

/-- Segments of a section (R232). -/
def Sect.segs (x : Sect) : Nat := ceilDiv x.len segBytes

/-- Bytes of the stored segment i. -/
def Sect.segLen (x : Sect) (i : Nat) : Nat := min segBytes (x.len - i * segBytes)

/-- Plaintext length of a section (15 R380). -/
def Img.plainLen (m : Img) (x : Sect) : Nat := if m.enc then x.len - 16 * x.segs else x.len

/-- IV of the segment whose digest is entry d (15 R380). -/
def Img.iv (m : Img) (d : Nat) : List Nat := m.run (4864 + 388) 8 ++ beBytes 4 d

/-- One plaintext byte of a section (15 R380). -/
def Img.plain (m : Img) (x : Sect) (p : Nat) : Nat :=
  if m.enc then
    let i := p / segPlain
    let o := p % segPlain
    let c := m.byte (x.off + i * segBytes + o)
    match m.keys with
    | some ks => c ^^^ (gcmStream ks (m.iv (x.first + i)) (o / 16)).getD (o % 16) 0
    | none => c
  else m.byte (x.off + p)

def Img.plainRun (m : Img) (x : Sect) (p n : Nat) : List Nat := (List.range n).map fun i => m.plain x (p + i)

/-- Bytes as a number, least significant first. -/
def leNat (l : List Nat) : Nat := l.foldr (fun b a => b + 256 * a) 0

/-- Word i of a section's plaintext. -/
def Img.sw (m : Img) (x : Sect) (i : Nat) : W32 := BitVec.ofNat 32 (leNat (m.plainRun x (4 * i) 4))

/-! ### Frames (R235) -/

def plotFrameBytes := 340
def hankFrameBytes := 2564
def plotBytes := plotFrameBytes + 256 * hankFrameBytes

/-- Frame number plot·257 + j: j = 0 the plot frame, j = 1 + 16·hy + hx a hank frame. -/
def frameOf (plot j : Nat) : Nat := plot * 257 + j

/-- Frame address of a frame number (R235). -/
def frameAddr (f : Nat) : W32 :=
  let plot := f / 257
  let j := f % 257
  let place := 2 * (plot / 2560) + 4 * (plot / 40 % 64) + 256 * (plot % 40)
  if j = 0 then w32 (1 + place) else w32 (place + 2 ^ 14 * ((j - 1) % 16) + 2 ^ 18 * ((j - 1) / 16))

/-- Content bytes of a frame. -/
def frameLen0 (j : Nat) : Nat := if j = 0 then 336 else 2560

/-- Place of frame j of the r-th plot in a frames section. -/
def framePos (r j : Nat) : Nat := r * plotBytes + if j = 0 then 0 else plotFrameBytes + (j - 1) * hankFrameBytes

/-- Frame CRC over the frame address and the content (R235). -/
def frameCrc32 (f : Nat) (content : List Nat) : Nat := crc32c (wordBytes (frameAddr f) ++ content)

/-- Content and stored CRC of frame j of the r-th plot of an image. -/
def Img.frame (m : Img) (x : Sect) (r j : Nat) : List Nat × Nat :=
  let o := framePos r j
  let n := frameLen0 j
  (m.plainRun x o n, leNat (m.plainRun x (o + n) 4))

/-- Cistern record c of a plot frame (R123). -/
def cisternRecord (content : List Nat) (c : Nat) : BitVec 144 := BitVec.ofNat 144 (leNat ((content.drop (192 + 18 * c)).take 18))

/-- Cisterns with INIT = 1 of an image, in frame order: cistern index. -/
def Img.initCisterns (m : Img) (x : Sect) : List Nat :=
  ((List.range m.plots.length).zip m.plots).flatMap fun e =>
    let content := (m.frame x e.1 0).1
    ((List.range 8).filter fun c => (cisternRecord content c).getLsbD 3).map fun c => e.2 * 8 + c

/-- Row r of the k-th initialised cistern (R236, 09 R213). -/
def Img.cisternWord (m : Img) (x : Sect) (k r : Nat) : Word18 :=
  let bit := 18 * r
  BitVec.ofNat 18 (leNat (m.plainRun x (4608 * k + bit / 8) 4) >>> (bit % 8))

/-! ### Row 1: container (R232 to R234) -/

/-- Reserved bits of header words 1, 5, 7, 8, 9, 10 and 17, and the words that must be 0; words 6 to 9 of a partial image are ignored
(R233). -/
def Img.reservedClear (m : Img) : Bool :=
  (m.hw 1 &&& 0x0000FC00#32) = 0 && (m.hw 5 &&& 0xFFF00000#32) = 0 && (m.hw 10 &&& 0xFFFFFFE8#32) = 0 &&
  (m.partly || ((m.hw 7 &&& 0xFFFFF0C0#32) = 0 && (m.hw 8 &&& 0xFFFF0000#32) = 0 && (m.hw 9 &&& 0xFFFCFE00#32) = 0)) &&
  (m.hw 17 &&& 0xFFFF0000#32) = 0 && ((List.range 110).all fun i => m.hw (18 + i) = 0) &&
  ((List.range 4).all fun i => (m.hw (11 + i) &&& 0xFE000000#32) = 0) &&
  (m.partly || (m.hw 3 = 0 && (List.range 5).all fun i => m.hw (10 + i) = 0))

/-- Reserved fields of the signature block (15 R379). -/
def Img.sigReservedClear (m : Img) : Bool :=
  (m.w 4864 &&& 0xFFFFFFFC#32) = 0 && ((m.run (4864 + 436) 76).all (· = 0)) &&
  (m.enc || (m.run (4864 + 388) 48).all (· = 0))

/-- Types that a kind of image may and must hold (R234). -/
def typesOk (part : Bool) (ts : List Nat) : Bool :=
  (if part then ts.all (fun t => t = 1 || t = 2 || t = 3) && ts.contains 1 && ts.contains 3
   else ts.all (fun t => 1 ≤ t && t ≤ 6) && ts.contains 1 && ts.contains 3 && ts.contains 4 && ts.contains 5) &&
  ts.eraseDups.length = ts.length

/-- The section table, NSECT and NDIGEST agree with the sections (R232, R234, R237). -/
def Img.tableOk (m : Img) : Bool :=
  let xs := m.sects
  decide (m.nsect ≤ 16) && decide (m.ndigest ≤ 128) && typesOk m.partly (xs.map (·.type)) &&
  ((List.range (16 - m.nsect)).all fun i => (m.run (512 + 16 * (m.nsect + i)) 16).all (· = 0)) &&
  (xs.all fun x => decide (5376 ≤ x.off) && x.off % 64 = 0 && decide (x.off + x.len ≤ (m.hw 16).toNat)
      && decide (x.first + x.segs ≤ m.ndigest)) &&
  (xs.foldl (fun a x => a + x.segs) 0) = m.ndigest

/-! ### Row 2 (R237) -/

/-- Grade maximum in kHz, which row 2 holds an image to (00 R1, R2). -/
def State.gradeMax (s : State) : Nat := if s.sec.fuses.grade = 1 then 700000 else if s.sec.fuses.grade = 2 then 800000 else 0

def orderOk (o : Nat) : Bool :=
  let l := [o % 4, o / 4 % 4, o / 16 % 4]
  l.contains 1 && l.contains 2 && l.contains 3

def Img.row2 (m : Img) (max : Nat) : Bool :=
  decide (m.pulseKhz ≤ max) && decide (1 ≤ m.turnLen) && decide (m.turnLen ≤ 8) && (m.partly || orderOk (field (m.hw 7) 0 6))

/-! ### Rows 3 to 5: signature, digests, frame CRCs (R237, 15 R379, R380) -/

def SecState.slot (x : SecState) (i : Nat) : KeySlot :=
  match i with
  | 0 => x.slot0 | 1 => x.slot1 | 2 => x.slot2 | _ => x.slot3

/-- Owner key slot that signed (15 R379). -/
def Img.keySlot (m : Img) : Nat := field (m.w 4864) 0 2

/-- Key hash of a modulus (15 R373), byte i in bits [8i + 7 : 8i]. -/
def keyHash (n : Nat) : BitVec 256 := BitVec.ofNat 256 (leNat (sha256 (beBytes 384 n)))

/-- Row 3: the signature verifies under an owner key slot that is in use. -/
def Img.row3 (m : Img) (x : SecState) : Bool :=
  let k := x.slot m.keySlot
  decide (k.st = 1) && m.has 768 4608 && pssVerify k.key (m.run 4868 384) (sha256 (m.run 0 4864))

/-- The image with its key unwrapped under the device key (15 R379, R380). -/
def Img.unwrapped (m : Img) (x : SecState) : Img :=
  if m.enc then
    let kek := (List.range 32).map fun i => x.fuses.devKey.toNat >>> (8 * i) % 256
    { m with keys := if x.fuses.dkOk then (keyUnwrap kek (m.run (4864 + 396) 40)).map aesKeys else none }
  else m

/-- One stored segment matches its digest, and its tag where encrypted. -/
def Img.segOk (m : Img) (x : Sect) (i : Nat) : Bool :=
  let o := x.off + i * segBytes
  let n := x.segLen i
  let d := x.first + i
  let bs := m.run o n
  m.has o n && decide (sha256 bs = m.run (768 + 32 * d) 32) &&
  (!m.enc || match m.keys with
    | some ks =>
      decide (16 ≤ n) &&
      decide (gcmTag ks (m.iv d) (wordBytes m.version ++ [x.type, 0, 0, 0]) (bs.take (n - 16)) = bs.drop (n - 16))
    | none => false)

/-- Row 4. -/
def Img.row4 (m : Img) : Bool := m.sects.all fun x => (List.range x.segs).all fun i => m.segOk x i

/-- Row 5: every frame CRC and IMAGE_CRC. -/
def Img.row5 (m : Img) : Bool :=
  match m.sect 1 with
  | none => false
  | some x =>
    (((List.range m.plots.length).zip m.plots).all fun e => (List.range 257).all fun j =>
      let f := m.frame x e.1 j
      frameCrc32 (frameOf e.2 j) f.1 = f.2) &&
    crc32c (m.plainRun x 0 (m.plainLen x)) = (m.hw 15).toNat

/-! ### Row 1 as a whole (R237) -/

/-- Sections whose length the image itself fixes: frames, slack table, cistern contents (R235, R236). How many cisterns an encrypted
image initialises is known from its plaintext alone, so where a digest, a tag or the key fails row 4 tells it (15 R380; DEDUCED, log
entry 156). -/
def Img.lengthsOk (m : Img) : Bool :=
  let n := m.plots.length
  match m.sect 1, m.sect 3 with
  | some f, some k =>
    m.plainLen f = n * plotBytes && m.plainLen k = (if m.partly then n else 2560) &&
    ((m.enc && !m.row4) ||
     let c := (m.initCisterns f).length
     match m.sect 2 with
     | some x => m.plainLen x = 4608 * c
     | none => c = 0)
  | _, _ => false

/-- Row 1 (R237). -/
def Img.row1 (m : Img) (kind : Option Bool) : Bool :=
  decide (5376 ≤ m.len) && m.has 0 768 && m.hw 0 = 0x454C2080#32 && field (m.hw 1) 0 8 = 1 && field (m.hw 1) 16 16 = 0x2080 &&
  (m.hw 16).toNat = m.len && (match kind with | some k => m.partly = k | none => true) &&
  m.reservedClear && m.tableOk && m.sigReservedClear && m.lengthsOk

/-! ### Row 9: rectangles (R237) -/

def Img.row9 (m : Img) : Bool :=
  !m.partly ||
  (decide (1 ≤ m.nrect) && decide (m.nrect ≤ 4) &&
   (m.rects.all fun r => decide (r.x0 ≤ r.x1) && decide (r.x1 ≤ 63) && decide (r.y0 ≤ r.y1) && decide (r.y1 ≤ 39)) &&
   (let ps := m.rects.flatMap (·.plots); ps.eraseDups.length = ps.length))

/-! ### Row 11: section contents (R234, 11 R281, 12 R311, R312) -/

/-- Bits that a word of a node's block may hold: its register's own field, none where the node lacks the register (R234,
08 R204, R205). -/
def leatMask (node i : Nat) : W32 :=
  if i = 0 then 3
  else if 352 ≤ node then 0
  else if i = 1 ∨ i = 3 then 0xFFFFFF
  else if i = 2 then 0xFFF
  else if i ≤ 68 then (if 320 ≤ node then 0 else if i = 4 then 0xFF else 0x800001FF)
  else if (i - 69) % 2 = 0 then 0x8FFFFFFF else 0xFFFFF

def Img.leatOk (m : Img) (x : Sect) : Bool :=
  m.plainLen x = 892420 && m.sw x 0 = 1 &&
  (List.range 384).all fun n => (List.range 581).all fun i => (m.sw x (1 + 581 * n + i) &&& ~~~leatMask n i) = 0

/-- Valid link i of a lane board table: its two words. -/
def Img.tableLink (m : Img) (x : Sect) (i : Nat) : W32 × W32 := (m.sw x (1 + 4 * i), m.sw x (2 + 4 * i))

/-- Lanes of a link word: group and lanes. -/
def linkLanes (w : W32) : List (Nat × Nat) :=
  (List.range (2 ^ field w 7 2)).map fun k => (field w 0 4, field w 4 3 + k)

def Img.lanesOk (m : Img) (x : Sect) (turnLen : Nat) : Bool :=
  let ls := (List.range 16).map fun i => m.tableLink x i
  let valid := ls.filter fun e => e.1.getLsbD 31
  let used := valid.flatMap fun e => linkLanes e.1
  m.plainLen x = 836 && (m.sw x 0 &&& ~~~0x001F011F#32) = 0 &&
  (ls.all fun e => (e.1 &&& ~~~0x801FFFFF#32) = 0) &&
  ((List.range 16).all fun i => m.sw x (3 + 4 * i) = 0 && m.sw x (4 + 4 * i) = 0) &&
  ((List.range 144).all fun i => let w := m.sw x (65 + i); (w &&& ~~~0xFFFFF#32) = 0 && decide (field w 0 6 ≤ 36)) &&
  (valid.all fun e => field e.1 4 3 % 2 ^ field e.1 7 2 = 0 && decide (field e.1 4 3 + 2 ^ field e.1 7 2 ≤ 8)
    && decide (field e.2 0 16 ≤ 72 * 2 ^ field e.1 7 2 * turnLen) && decide (field e.2 16 16 ≤ 72 * 2 ^ field e.1 7 2 * turnLen)
    && valid.all fun q => field q.1 0 4 ≠ field e.1 0 4 || field q.1 19 2 = field e.1 19 2) &&
  used.eraseDups.length = used.length && valid.length = field (m.sw x 0) 16 5

/-- The rules for one pin of a bank (12 R311, R312). -/
def pinOk (bank : W32) (turnLen p : Nat) (w mate : W32) : Bool :=
  let dir := field w 0 2
  let std := field w 2 2
  let free := bank.getLsbD 0
  let lvdsBank := bank.getLsbD 7
  (w &&& ~~~0x3FFF#32) = 0 && decide (std ≤ 1) &&
  (std = 0 || (field mate 2 2 = 1 && field mate 0 2 = dir && field w 4 2 = 0 && field bank 1 2 = 2 &&
    (p % 2 = 0 || (w &&& 0x3FC0#32) = 0))) &&
  (free || decide (field w 10 3 < turnLen)) &&
  (field bank 1 2 ≠ 3 || dir = 0) &&
  (!free || (if lvdsBank then (p ≠ 0 && p ≠ 1 || (dir = 1 && std = 1)) && (p ≠ 2 && p ≠ 3 || (dir = 2 && std = 1))
             else (p ≠ 0 || dir = 1) && (p ≠ 1 || dir = 2)))

def Img.ioOk (m : Img) (x : Sect) (turnLen : Nat) : Bool :=
  m.plainLen x = 3924 && m.sw x 0 = 1 &&
  (List.range 20).all fun b =>
    let bank := m.sw x (1 + b)
    (bank &&& ~~~0xFFFF#32) = 0 &&
    decide (field bank 4 3 < turnLen) &&
    (!bank.getLsbD 0 || bank.getLsbD 7 || !bank.getLsbD 3 || decide (3 ≤ field bank 8 8)) &&
    (List.range 48).all fun p =>
      pinOk bank turnLen p (m.sw x (21 + 48 * b + p)) (m.sw x (21 + 48 * b + (if p % 2 = 0 then p + 1 else p - 1)))

def Img.row11 (m : Img) : Bool :=
  (match m.sect 4 with | some x => m.leatOk x | none => true) &&
  (match m.sect 6 with | some x => m.lanesOk x m.turnLen | none => true) &&
  (match m.sect 5 with | some x => m.ioOk x m.turnLen | none => true)

/-! ### Banks, roles, running configuration (R229, R243, R248) -/

def ImgState.bank (x : ImgState) (i : Nat) : Bank :=
  match i with
  | 0 => x.bank0 | 1 => x.bank1 | _ => x.bank2

def State.modBank (i : Nat) (f : Bank → Bank) (s : State) : State :=
  s.modImg fun x => match i with
    | 0 => { x with bank0 := f x.bank0 }
    | 1 => { x with bank1 := f x.bank1 }
    | _ => { x with bank2 := f x.bank2 }

/-- Bank of a role: 0 Active, 1 Previous, 2 Staged. -/
def ImgState.roleBank (x : ImgState) (r : Nat) : Nat := if r = 0 then x.act else if r = 1 then x.prev else x.stg

def Bank.base (b : Bank) : Img := { bytes := b.bytes, len := b.len }
def Patch.img (p : Patch) : Img := { bytes := p.bytes, len := p.len }

/-- Applied patches, in order. -/
def Bank.applied (b : Bank) : List Img := (b.patches.filter (·.applied)).map (·.img)

/-- VERSION of an image, 0 where none has been written. -/
def Img.ver (m : Img) : W32 := if m.has 8 4 then m.version else 0

/-- Effective version of a bank (R237). -/
def Bank.effVersion (b : Bank) : W32 := ((b.applied.getLast?).getD b.base).ver

/-- Base image and applied patches, with their keys unwrapped (15 R381). -/
def State.configOf (s : State) (bank : Nat) : List Img :=
  let b := s.img.bank bank
  (b.base :: b.applied).map fun m => m.unwrapped s.sec

/-- The bank whose configuration runs: Active's, or Previous' after a fallback (R238). -/
def State.runBank (s : State) : Nat := s.img.roleBank (if s.img.bootRole = 1 then 1 else 0)

/-- Frame number `f` of a configuration: content and CRC, from the last image that holds its plot (R248). -/
def configFrame (ms : List Img) (f : Nat) : Option (List Nat × Nat) :=
  (ms.reverse.find? fun m => m.plots.contains (f / 257)).bind fun m =>
    (m.sect 1).bind fun x => (m.plots.findIdx? (· = f / 257)).map fun r => m.frame x r (f % 257)

/-! ### The checks of R237 -/

/-- Free bytes of a bank's patch area, whose bank holds 3,840 MiB (R228, R248). -/
def bankBytes := 3840 * 2 ^ 20
def Bank.freeBytes (b : Bank) : Nat := bankBytes - (b.len + b.patches.foldl (fun a p => a + p.len) 0)

/-- Row 10: the patch area has room (R248). -/
def Bank.room (b : Bank) (n : Nat) : Bool := decide (n ≤ b.freeBytes) && decide (b.patches.length < 64)

/-- One row of R237. `kind` is the KIND wanted. -/
def State.imgRow (s : State) (m : Img) (kind : Option Bool) (row : Nat) : Bool :=
  let act := s.img.bank s.img.act
  match row with
  | 1 => m.row1 kind
  | 2 => m.row2 s.gradeMax
  | 3 => m.row3 s.sec
  | 4 => m.row4
  | 5 => m.row5
  | 6 => m.partly || (decide (act.effVersion.toNat < m.version.toNat) &&
      decide ((s.img.bank s.img.prev).effVersion.toNat < m.version.toNat))
  | 7 => !m.partly || (m.baseVersion = act.base.ver && decide (act.effVersion.toNat < m.version.toNat))
  | 8 => !m.partly || (m.turnLen = act.base.turnLen && m.pulseKhz = act.base.pulseKhz)
  | 9 => m.row9
  | 10 => !m.partly || act.room m.len
  | _ => m.row11

/-- The first failing row among `rows`, 0 for none. -/
def State.imgCheck (s : State) (m : Img) (kind : Option Bool) (rows : List Nat) : Nat :=
  let m := m.unwrapped s.sec
  (rows.find? fun r => !s.imgRow m kind r).getD 0

/-- Status of a failing row (R237). -/
def rowStatus (r : Nat) : Nat :=
  if r = 0 then stOk else if r = 3 ∨ r = 4 ∨ r = 5 then stSignatureFail else if r = 6 ∨ r = 7 then stVersionRejected
  else if r = 10 then stBusy else stBadParam

/-- Rows checked at write staged. -/
def rowsStaged : List Nat := [1, 2, 3, 4, 5, 9, 11]
/-- Rows checked at start-up, at a load, at verify: all but the version and patch-area rules. -/
def rowsStart : List Nat := [1, 2, 3, 4, 5, 8, 9, 11]

/-- The whole configuration of a bank passes: its base image of KIND 0 and its applied patches (R238, R239). Gives the first
failing row. -/
def State.bankCheck (s : State) (bank : Nat) : Nat :=
  let b := s.img.bank bank
  let r := s.imgCheck b.base (some false) rowsStart
  if r ≠ 0 then r
  else ((b.applied.map fun m => s.imgCheck m (some true) [1, 2, 3, 4, 5, 9]).find? (· ≠ 0)).getD 0

/-- A check of an image's signature, a digest or a tag fails: it is logged and counted (15 R391, code 0x0E06). -/
def State.sigFail (bank row : Nat) (s : State) : State :=
  if row = 3 ∨ row = 4 then
    ((s.modSec fun x => { x with failCnt := satInc x.failCnt }).log 0x0E06 true false (w32 bank) (w32 row)
      (w32 (s.img.bank bank).base.keySlot)).secEvt 4
  else s

end Sys2Proof.Machine
end

