-- ==== Sys2Proof/Machine/ConfigLoad.lean ====
section
/-! DEFINITION. Loading a configuration, release, partial apply, levees, roles (10_configuration R238 to R252). -/
namespace Sys2Proof.Machine

/-! ### Registers that several commands report (R258) -/

def OpKind.code : OpKind → Nat
  | .full => 1 | .partialCommit => 2 | .rollback => 3 | .join => 4

def CfgSt.code : CfgSt → Nat
  | .noImage => 0 | .checking => 1 | .loading => 2 | .releasing => 3 | .released => 4 | .applying => 5

/-- CFG_STATUS (R258). -/
def State.cfgStatus (s : State) : W32 :=
  let x := s.img
  w32 (x.st.code + 8 * x.bootRole.toNat + 2 ^ 11 * ((x.pend.map (·.kind.code)).getD 0)) |||
  bitAt x.activeBad 5 ||| bitAt x.prevBad 6 ||| bitAt s.fab.outFree 7 ||| bitAt s.fab.weFree 8 ||| bitAt s.fab.srFree 9 |||
  bitAt x.stepWait 10 ||| bitAt ((x.pend.map (·.atStart)).getD false) 14 ||| bitAt x.verify.isSome 15

/-- CFG_LEVEE (R258). -/
def State.cfgLevee (s : State) : W32 :=
  let n := s.fab.levees.foldl (fun a l => a + l.rects.length) 0
  let f := (s.spl.pair.filter fun e => e.2.frozen).length
  w32 (min n 7 + 16 * (f % 4096)) ||| bitAt (s.fab.levees.any (·.awaitJoin)) 3

/-- CFG_SLOTS (R258). -/
def State.cfgSlots (s : State) : W32 :=
  let x := s.img
  let a := x.bank x.act
  w32 (x.act + 4 * x.prev + 16 * x.stg + 2 ^ 8 * a.applied.length + 2 ^ 16 * (a.freeBytes / 2 ^ 20)) |||
  bitAt x.stgValid 6 ||| bitAt (x.stgValid && (x.bank x.stg).base.partly) 7

/-- CFG_ACT_VER (R258). -/
def State.actVer (s : State) : W32 := (s.img.bank s.img.act).effVersion

/-! ### Writing frames, contents and settings (R239) -/

/-- Write a hank frame's latches (R235, 03 R52). -/
def FabricState.putHank (plot j : Nat) (content : List Nat) (f : FabricState) : FabricState :=
  { f with latch := tsetAll 0 f.latch ((List.range 128).map fun i =>
      let knot := (plot * 256 + (j - 1)) * 16 + i % 16
      (knot * 8 + i / 16, BitVec.ofNat 160 (leNat ((content.drop (20 * i)).take 20)))) }

/-- Write one frame into the latches or into the plot's pattern table and cistern records (R235). -/
def State.putFrame (fr : Nat) (content : List Nat) (s : State) : State :=
  let plot := fr / 257
  let j := fr % 257
  if j = 0 then
    (s.modFab fun f => { f with pat := tsetAll 0 f.pat ((List.range 16).map fun e =>
        (plot * 16 + e, BitVec.ofNat 96 (leNat ((content.drop (12 * e)).take 12)))) }).modCst
      fun c => { c with cfg := tsetAll 0 c.cfg ((List.range 8).map fun i => (plot * 8 + i, cisternRecord content i)) }
  else s.modFab fun f => f.putHank plot j content

/-- Content of a frame as the latches hold it. -/
def State.frameNow (s : State) (fr : Nat) : List Nat :=
  let plot := fr / 257
  let j := fr % 257
  let bytes (n v : Nat) : List Nat := (List.range n).map fun i => v >>> (8 * i) % 256
  if j = 0 then
    ((List.range 16).flatMap fun e => bytes 12 (tget s.fab.pat 0 (plot * 16 + e)).toNat) ++
      (List.range 8).flatMap fun c => bytes 18 (tget s.cst.cfg 0 (plot * 8 + c)).toNat
  else (List.range 128).flatMap fun i =>
    bytes 20 (tget s.fab.latch 0 (((plot * 256 + (j - 1)) * 16 + i % 16) * 8 + i / 16)).toNat

/-- Zero every row of a cistern, then load the words given (06 R138). -/
def State.loadRows (c : Nat) (words : Option (Nat → Word18)) (s : State) : State :=
  s.modCst fun x =>
    let rows := tdrop (fun k => k / 2048 = c) x.rows
    { x with rows := match words with
      | some w => tsetAll 0 rows ((List.range 2048).map fun r => (rowKey c r, lightEncode (w r)))
      | none => rows }

/-- How a load treats the contents of a cistern with INIT = 0 (06 R138, R246). -/
inductive Zeroing where
  | zero | keep
deriving DecidableEq, Repr

/-- Contents of the cisterns of the plots of an image (06 R138). -/
def State.loadContents (m : Img) (z : Zeroing) (plots : List Nat) (s : State) : State :=
  match m.sect 1 with
  | none => s
  | some x =>
    let inits := m.initCisterns x
    (plots.flatMap fun p => (List.range 8).map fun c => p * 8 + c).foldl (fun s c =>
      match m.sect 2, inits.findIdx? (· = c) with
      | some y, some k => s.loadRows c (some (m.cisternWord y k))
      | _, _ => if z = .zero then s.loadRows c none else s) s

/-- Plots of a list that an image holds, each with its place in the image (R235). -/
def Img.places (m : Img) (plots : List Nat) : List (Nat × Nat) :=
  ((List.range m.plots.length).zip m.plots).filter fun e => plots.contains e.2

/-- Frames of plots, and their words in the CRC store (R239, R249, R253). -/
def State.loadFrames (m : Img) (x : Sect) (plots : List Nat) (s : State) : State :=
  (m.places plots).foldl (fun s e => (List.range 257).foldl (fun s j =>
    let f := m.frame x e.1 j
    (s.putFrame (frameOf e.2 j) f.1).modImg fun q =>
      { q with crc := tset q.crc none (frameOf e.2 j) (some (w32 f.2)),
               reported := q.reported.filter (· ≠ frameOf e.2 j),
               fixes := q.fixes.filter fun r => r.frame ≠ frameOf e.2 j }) s) s

/-- Slack bytes of the plot pairs of plots: a full image holds one for each pair, a partial image one for each of its plots (R236). -/
def SpliceState.loadSlack (m : Img) (plots : List Nat) (q : SpliceState) : SpliceState :=
  match m.sect 3 with
  | some k =>
    let slack : List (Nat × Nat) := if m.partly then (m.places plots).map fun (e : Nat × Nat) => (plotPair e.2, m.plain k e.1)
      else ((plots.map plotPair).eraseDups).map fun p => (p, m.plain k p)
    slack.foldl (fun (q : SpliceState) (e : Nat × Nat) => q.putPair e.1 { q.pairAt e.1 with slack := BitVec.ofNat 8 e.2 }) q
  | none => q

/-- Frames, contents, slack bytes and the CRC store of the plots of an image (R239, R249, R253). -/
def State.loadPlots (m : Img) (z : Zeroing) (plots : List Nat) (s : State) : State :=
  match m.sect 1 with
  | none => s
  | some x => ((s.loadFrames m x plots).modSpl (·.loadSlack m plots)).loadContents m z plots

/-- Reset values of QA and QB of the strand latches of plots (03 R59). A flip-flop's state is listed where it is 1. -/
def FabricState.resetFlops (sel : Nat → Bool) (f : FabricState) : FabricState :=
  let plotOf (k : Nat) := k / 8 / 16 / 256
  let fresh (b : Nat) : List (Nat × Bool) := 
    (f.latch.filter fun e => sel (plotOf e.1) && e.2.getLsbD b).map (fun e => (e.1, true))
  { f with
           qa := tsetAll false (tdrop (fun k => sel (plotOf k)) f.qa) (fresh 126)
           qb := tsetAll false (tdrop (fun k => sel (plotOf k)) f.qb) (fresh 134)
           pendA := tdrop (fun k => sel (plotOf k)) f.pendA
           pendB := tdrop (fun k => sel (plotOf k)) f.pendB
           ferryOut := tdrop (fun k => sel (plotOf (8 * k))) f.ferryOut
           ferryHalf := tdrop (fun k => sel (plotOf (8 * k))) f.ferryHalf }

/-- Values held for levees of plots whose image has executed no turn: none (R251). -/
def FabricState.forgetLast (sel : Nat → Bool) (f : FabricState) : FabricState :=
  { f with last := tdrop (fun k => sel (k / 8 / 96 / 256)) f.last
           lastCarry := tdrop (fun k => sel (k / 8 / 256)) f.lastCarry }

/-- The block of a node in the Leat settings section: every staged and active copy (R234, R239). -/
def State.loadNode (m : Img) (x : Sect) (n : Nat) (s : State) : State :=
  let w (i : Nat) : W32 := m.sw x (1 + 581 * n + i)
  let otk := tsetAll 0 [] ((List.range 64).map fun e => (e, w (5 + e)))
  let rte := tsetAll 0 [] ((List.range 512).map fun e => (e, w (69 + e)))
  let bad := (List.range 256).filter fun e => (tget rte 0 (2 * e)).getLsbD 31 && rteInvalid (tget rte 0 (2 * e)) (tget rte 0 (2 * e + 1))
  let act := bad.foldl (fun t e => tmod t 0 (2 * e) (· &&& 0x7FFFFFFF)) rte
  let lim : BitVec 12 := BitVec.ofNat 12 (max 1 (field (w 2) 0 12))
  let s := s.modNode n fun r => NodeRec.fbClear
    { r with
      sizeStg := BitVec.ofNat 2 (field (w 0) 0 2), size := BitVec.ofNat 2 (field (w 0) 0 2), sizePend := false
      budgetStg := BitVec.ofNat 24 (field (w 1) 0 24), budget := BitVec.ofNat 24 (field (w 1) 0 24)
      limitStg := lim, limit := lim
      timeout := BitVec.ofNat 24 (max 1 (field (w 3) 0 24))
      strandEn := BitVec.ofNat 8 (field (w 4) 0 8), otkStg := otk, otkAct := otk, rteStg := act, rteAct := act, rteBad := bad }
  bad.foldl (fun s e => (s.log 0x0703 false false (w32 n) (w32 e) 0).niEvt n 4) s

/-- The Leat settings of an image come into force: standing reservations go, and isolations are to be cleared at the next step 5
(R239, R245, 08 R184, R194). -/
def State.loadLeat (m : Img) (s : State) : State :=
  match m.sect 4 with
  | none => s
  | some x =>
    let s := (List.range 320).foldl (fun s n =>
      (s.nodeAt n).srcs.foldl (fun s v => s.releaseRsv n v.target) s) s
    let s := (List.range 384).foldl (fun s n => s.loadNode m x n) s
    (s.isolClear 0 true).modLeat fun l =>
      { l with arm := false, checked := false, checkFail := false, swapWait := false, horizonStg := 0, fbHeld := false }

/-- Responses held or awaited under the old image are discarded (R245). -/
def State.dropReleaseBuffers (s : State) : State :=
  (tkeys s.leat.node).foldl (fun s n =>
    if n < 320 then s.modNode n fun x =>
      { x with reads := [], unit := 0, wq := [], wqDue := [], wrLogged := false,
               discard := x.discard ++ (x.reads.filter fun r => r.data.isNone && !r.failed).map (·.seq) ++ x.wq }
    else s) s

/-- I/O and landing settings (12 R311). -/
def State.loadIo (m : Img) (s : State) : State :=
  match m.sect 5 with
  | none => s
  | some x => s.modIo fun io =>
      { io with bankCfg := tsetAll 0 [] ((List.range 20).map fun b => (b, m.sw x (1 + b)))
                pinCfg := tsetAll 0 [] ((List.range 960).map fun p => (p, m.sw x (21 + p)))
                dead := [], back := [], samples := [], takenVal := [], takenEn := [], frames := [], frView := [], sampled := [],
                inF := [], outF := [] }

/-- The lane board table (11 R281). A link whose two words change is trained anew at release. -/
def State.loadLanes (m : Img) (s : State) : State :=
  let x? := m.sect 6
  let word (i : Nat) : W32 := match x? with | some x => m.sw x i | none => 0
  let s := s.modLnk fun l =>
    { l with devNum := BitVec.ofNat 5 (field (word 0) 0 5), nlink := BitVec.ofNat 5 (field (word 0) 16 5),
             fixedEq := (word 0).getLsbD 8, table := x?.isSome,
             lanes := tsetAll 0 [] ((List.range 144).map fun i => (i, word (65 + i))) }
  (List.range 16).foldl (fun s i =>
    let c0 := word (1 + 4 * i)
    let c1 := word (2 + 4 * i)
    s.modLink i fun r =>
      let r := { r with en := c0.getLsbD 31 }
      if r.cfg0 = c0 ∧ r.cfg1 = c1 then r else { r with cfg0 := c0, cfg1 := c1, st := .disabled, active := false }) s

/-- Window, memory and start settings of the header but WIN_LEN, which the beginning of the load sets (R233, 05 R106). -/
def State.loadHeader (m : Img) (s : State) : State :=
  let s := s.modWin fun w => { w with kIn := BitVec.ofNat 8 (field (m.hw 5) 4 8), kOut := BitVec.ofNat 8 (field (m.hw 5) 12 8) }
  let s := s.modFab fun f => { f with turnLen := m.turnLen, pulseKhz := m.pulseKhz }
  -- the channels of each DDR PLL follow the header's rate (07 R147)
  let s := ((s.modMem fun x => { x with imgRate := BitVec.ofNat 2 (field (m.hw 9) 16 2) }).setRates 0).setRates 1
  s.modImg fun x =>
    { x with order := BitVec.ofNat 6 (field (m.hw 7) 0 6), manual := BitVec.ofNat 3 (field (m.hw 7) 8 3),
             fillWait := (m.hw 7).getLsbD 11, gapUs := BitVec.ofNat 16 (field (m.hw 8) 0 16),
             fillMask := BitVec.ofNat 9 (field (m.hw 9) 0 9) }

/-- A full image in a device of an array: without a lane board table it runs alone; with another L or pulse rate it takes no part, and an
edge that waits is ignored (R245, 03 R50, 11 R281, 05 R103). -/
def State.leaveArray (l khz : Nat) (table : Bool) (s : State) : State :=
  let out (a : ArraySt) (reason : Nat) : State :=
    (s.modLnk fun x => { x with array := a, reason := BitVec.ofNat 4 reason }).modWin fun w =>
      { w with edgePending := false, edgeAccepted := false }
  if s.lnk.array ≠ .joined then s
  else if !table then out .alone 0
  else if s.fab.turnLen ≠ l then out .notPart 1
  else if s.fab.pulseKhz ≠ khz then out .notPart 2
  else s

/-- CLK_PULSE_NOW for a reduction in percent (16 R402, 17 R432): kHz, rounded down, never below 1,000. -/
def reducedRate (khz reduction : Nat) : Nat := max 1000 (khz * (100 - reduction) / 100)

/-- The configuration measurement (15 R387), byte i in bits [8i + 7 : 8i]. -/
def measureOf (ms : List Img) : BitVec 256 :=
  match ms with
  | [] => 0
  | b :: ps =>
    let m := ps.foldl (fun m p => sha256 (m ++ sha256 (p.run 0 4864))) (sha256 (b.run 0 4864))
    BitVec.ofNat 256 (leNat m)

/-- Every strand latch, pattern table and cistern record is 0 (R238). -/
def State.clearConfig (s : State) : State :=
  let s := s.modFab fun f => ({ f with latch := [], pat := [], levees := [] }.resetFlops fun _ => true).forgetLast fun _ => true
  (s.modCst fun c => { c with cfg := [] }).modImg fun x => { x with crc := [], fixes := [], reported := [] }

/-- A full load takes effect (R239, R245): the base image, then each applied patch. -/
def State.loadConfig (ms : List Img) (s : State) : State :=
  match ms with
  | [] => s
  | base :: patches =>
    let s := s.clearConfig
    let s := (s.leaveArray base.turnLen base.pulseKhz (base.sect 6).isSome).loadHeader base
    let s := s.loadPlots base .zero base.plots
    let s := patches.foldl (fun s p => s.loadPlots p .keep p.plots) s
    let s := ((s.loadLeat base).loadIo base).loadLanes base
    let s := s.modFab fun f => f.resetFlops fun _ => true
    let s := (s.modWin fun w => { w with turnCount := 0, turn := 0, strand := 0, notices := [], raised := [] }).slotRestart
    let s := s.modSpl fun x => { x with store := [], driven := [] }
    let ver := ((patches.getLast?).getD base).version
    let s := s.refreshHorizon
    let s := s.reviewSplices (fun _ => true) s.inArray ver
    s.modImg fun x => { x with runVersion := ver, measure := measureOf ms }

/-! ### Beginning and ending a full load (R238 to R246) -/

/-- The state before release (R240). -/
def State.beforeRelease (s : State) : State :=
  let s := s.modFab fun f => { f with srFree := false, weFree := false, outFree := false }
  let s := s.modFab fun f => f.resetFlops fun _ => true
  let s := s.showPins
  let s := s.modIo fun io =>
    { io with value := [], enable := [], back := [], frames := [], samples := [], takenVal := [], takenEn := [], frView := [] }
  s.modImg fun x => { x with steps := 0, go := false, stepWait := false }

/-- The pulse rate in force becomes an image's: the Tier PLLs lose their lock and relock to it (16 R402). -/
def State.setPulse (khz : Nat) (s : State) : State :=
  let r := reducedRate khz s.thm.reduction.toNat
  if s.clk.pulseNow = r then s
  else s.modClk fun c => { c with pulseNow := r, lock := c.lock &&& ~~~(0x1E : BitVec 25) }

/-- A full load begins: its header has been read, so the Tier PLLs take its rate (R239, R240, R245, 16 R402). -/
def State.beginLoad (why : LoadWhy) (bank : Nat) (origin : Option Origin) (fell : Bool) (s : State) : State :=
  let s := (s.setHold holdNotReleased).beforeRelease
  let s := if why = .start then s else s.setHold holdReconfig
  let m := (s.img.bank bank).base
  -- a WIN_LEN write made after this moment stands (05 R106)
  let s := (s.setPulse m.pulseKhz).dropReleaseBuffers.modWin fun w => { w with turnsM1Reg := m.hw 6, turnsM1 := m.hw 6 }
  -- a repair of a frame that is loaded is dropped (R257)
  (s.modLeat fun l => { l with admission := false }).modImg fun x =>
    { x with st := .loading, load := some { why := why, bank := bank, origin := origin, fell := fell }, app := none, fixes := [] }

/-- The fills that the header of the chosen image asks for at start-up begin (R233, 07 R160). -/
def State.startFills (s : State) : State :=
  (List.range 9).foldl (fun s d =>
    if s.img.fillMask.getLsbD d then
      if d = 8 then (List.range 32).foldl (fun s m => s.startFill m) s
      else if (s.ctlAt (32 + d)).ready && !(s.ctlAt (32 + d)).present (32 + d) then s
      else s.startFill (32 + d)
    else s) s

/-- The fills that release waits for are complete; an absent channel names none (R241). -/
def State.fillsDone (s : State) : Bool :=
  (List.range 9).all fun d =>
    !s.img.fillMask.getLsbD d ||
    (if d = 8 then (List.range 32).all fun m => !(s.ctlAt m).filling else !(s.ctlAt (32 + d)).filling)

/-- Clear or set a bank's checked mark (14 R355). -/
def State.setMark (bank : Nat) (good : Bool) (s : State) : State :=
  s.modBank bank fun b =>
    { b with mark := if good then some (BitVec.ofNat 2 b.base.keySlot, keyHash (s.sec.slot b.base.keySlot).key) else none }

/-- No image can run: the device stays not released, its pins as before release (R238). -/
def State.bootNone (row : Nat) (s : State) : State :=
  let s := ((s.setHold holdNotReleased).beforeRelease.log 0x0902 true true (w32 row) 0 0).cfgEvt 1
  let s := s.clearConfig
  let s := s.modLeat fun l => { l with admission := true }
  (s.modImg fun x => { x with prevBad := true, st := .noImage, bootRole := 3, load := none, runVersion := 0, measure := 0 }).reconfigEnd

/-- Start loading the image of a role at start-up: the header's fills begin with it (R238, R239). -/
def State.startRole (role : Nat) (s : State) : State :=
  let bank := s.img.roleBank role
  let s := s.beginLoad .start bank none false
  let m := (s.img.bank bank).base
  let s := s.modImg fun x => { x with bootRole := BitVec.ofNat 2 role, fillMask := BitVec.ofNat 9 (field (m.hw 9) 0 9) }
  s.startFills

/-- Previous is tried after Active has failed (R238). -/
def State.tryPrevious (s : State) : State :=
  let bank := s.img.prev
  let row := s.bankCheck bank
  if row = 0 then s.startRole 1
  else ((s.sigFail bank row).setMark bank false).bootNone row

/-- Active fails: fall back (R238). -/
def State.activeFails (row : Nat) (s : State) : State :=
  let bank := s.img.act
  let s := ((s.sigFail bank row).setMark bank false).modImg fun x => { x with activeBad := true }
  ((s.log 0x0901 true false (w32 row) 0 0).cfgEvt 0).tryPrevious

/-- Try the image of Active (R238). -/
def State.tryActive (s : State) : State :=
  let row := s.bankCheck s.img.act
  if row = 0 then s.startRole 0 else s.activeFails row

/-- A role change is one write of the role table (R229, R243). After BOOT_NONE nothing runs, and the roles turn as the table has it. -/
def ImgState.rotate (x : ImgState) (l : Load) : ImgState :=
  match l.why with
  | .commit =>
    if l.fell then
      -- after a fallback: Staged becomes Active, the running image stays Previous, the failed bank becomes Staged
      { x with act := x.stg, stg := x.act, stgValid := false, activeBad := false, bootRole := 0 }
    else { x with act := x.stg, prev := x.act, stg := x.prev, stgValid := false, activeBad := false, prevBad := false, bootRole := 0 }
  | .rollback => { x with act := x.prev, prev := x.act, bootRole := 0 }
  | _ => x

/-- c0 and c1 of a COMMIT or ROLLBACK record (14 R353). -/
def State.commitPayload (s : State) : List W32 := [s.cfgStatus, s.actVer]

/-- A full load is complete (R239, R243, R245). -/
def State.loadDone (l : Load) (s : State) : State :=
  let s := s.loadConfig (s.configOf l.bank)
  let s := s.setMark l.bank true
  let s := s.modImg fun x => { x.rotate l with load := none, st := .releasing, steps := 0 }
  let s := if s.img.bootRole = 3 then s.modImg fun x => { x with bootRole := 0 } else s
  let s := s.modLeat fun q => { q with admission := true }
  let s := s.reconfigEnd
  match l.why with
  | .commit | .rollback => (s.cfgEvt 2).postRecord? l.origin stOk s.commitPayload
  | .reload => s.postRecord? l.origin stSignatureFail s.commitPayload
  | .start => s

/-- A full load fails (R238, R239, R246): at start the next role is tried, else the image that was running is reloaded, and if
that fails too, start-up goes on from the fallback. -/
def State.loadFails (l : Load) (row : Nat) (s : State) : State :=
  match l.why with
  | .start =>
    let s := s.modImg fun x => { x with load := none }
    if s.img.bootRole = 1 then ((s.sigFail l.bank row).setMark l.bank false).bootNone row else s.activeFails row
  | .commit | .rollback =>
    let s := (s.sigFail l.bank row).setMark l.bank false
    let s := (s.log 0x0903 true false (s.img.bank l.bank).effVersion 0 0).cfgEvt 3
    if s.img.bootRole = 3 then
      -- nothing was running
      ((s.postRecord? l.origin stSignatureFail s.commitPayload).modImg fun x => { x with load := none, activeBad := false }).tryActive
    else s.beginLoad .reload s.runBank l.origin false
  | .reload =>
    let s := s.postRecord? l.origin stSignatureFail s.commitPayload
    let s := s.modImg fun x => { x with load := none }
    if s.img.bootRole = 1 then ((s.sigFail l.bank row).setMark l.bank false).bootNone row else s.activeFails row

/-! ### Pending operations (R243, R244) -/

/-- A load or release is in progress (R244). -/
def ImgState.busyLoading (x : ImgState) : Bool := x.load.isSome || x.st = .releasing || x.app.isSome

/-- A pending operation reads the Staged bank (R244). -/
def ImgState.stagedBusy (x : ImgState) : Bool :=
  match x.pend with
  | some p => p.kind = OpKind.full || (p.kind = OpKind.partialCommit && !p.copied)
  | none => false

/-- A pending operation applies at once: held, or not released with no load or release in progress (R244). -/
def State.opAtOnce (s : State) : Bool :=
  s.win.st = .held || (s.win.st = .notReleased && !s.img.busyLoading)

/-! ### Partial apply, levees, join (R246, R249, R251, R252) -/

/-- The last patch of Active that is not applied: the pending copy (R248). -/
def Bank.pendingPatch (b : Bank) : Option Patch := b.patches.find? fun p => !p.applied

def Rect.meets (a b : Rect) : Bool :=
  a.tierB = b.tierB && max a.x0 b.x0 ≤ min a.x1 b.x1 && max a.y0 b.y0 ≤ min a.y1 b.y1

def inRects (rs : List Rect) (plot : Nat) : Bool := rs.any fun r => r.has plot

/-- Values that the region's border presents: those of the last turn it executed (R251). -/
def FabricState.borderOf (f : FabricState) (rs : List Rect) : Tab Bool × Tab Bool :=
  (f.last.filter fun e => inRects rs (e.1 / 8 / 96 / 256), f.lastCarry.filter fun e => inRects rs (e.1 / 8 / 256))

/-- A levee rises around rectangles; it takes in every region awaiting join that shares a plot with them (R249, R257). -/
def FabricState.raise (rs : List Rect) (version : W32) (f : FabricState) : FabricState :=
  let touch (l : Levee) : Bool := l.awaitJoin && l.rects.any fun a => rs.any fun b => a.meets b
  let old := f.levees.filter touch
  let b := f.borderOf rs
  let inOld (k : Nat) : Bool := old.any fun l => inRects l.rects k
  let fresh (t : Tab Bool) (d : Nat) : List (Nat × Bool) := t.filter fun e => !inOld (e.1 / d)
  { f with levees := f.levees.filter (fun l => !touch l) ++
      [{ rects := (old.flatMap (·.rects) ++ rs).eraseDups, version := version,
         borders := tsetAll false (old.foldl (fun t l => tsetAll false t l.borders) []) (fresh b.1 (8 * 96 * 256)),
         carries := tsetAll false (old.foldl (fun t l => tsetAll false t l.carries) []) (fresh b.2 (8 * 256)) }] }

/-- A levee falls: the region runs from the next window, its ferry latches at 0 (R249, R252). -/
def FabricState.fall (l : Levee) (f : FabricState) : FabricState :=
  { f with levees := f.levees.erase l,
           ferryOut := tdrop (fun k => inRects l.rects (k / 16 / 256)) f.ferryOut
           ferryHalf := tdrop (fun k => inRects l.rects (k / 16 / 256)) f.ferryHalf }

/-- Both plots of a pair lie in rectangles that apply together (04 R89). -/
def pairCovered (rs : List Rect) (p : Nat) : Bool :=
  inRects rs (plotIx 0 (pairPx p) (pairPy p)) && inRects rs (plotIx 1 (pairPx p) (pairPy p))

/-- A plot pair is touched by rectangles. -/
def pairTouched (rs : List Rect) (p : Nat) : Bool :=
  inRects rs (plotIx 0 (pairPx p) (pairPy p)) || inRects rs (plotIx 1 (pairPx p) (pairPy p))

/-- Splice channels of the rectangles are re-evaluated (04 R84, R87, R89): channels of every touched pair; a frozen pair is
released only when both plots are covered. -/
def State.reviewRects (rs : List Rect) (ver : W32) (s : State) : State :=
  s.reviewSplices (fun p => if (s.spl.pairAt p).frozen then pairCovered rs p else pairTouched rs p) s.inArray ver

/-- A partial apply begins at step 6d, or at once (R249). -/
def State.beginApply (origin : Option Origin) (s : State) : State :=
  match (s.img.bank s.img.act).pendingPatch with
  | none => s
  | some p =>
    let m := p.img
    let awaits := s.fab.levees.any fun l => l.awaitJoin && l.rects.any fun a => m.rects.any fun b => a.meets b
    let s := (s.setHold holdReconfig).modFab fun f => f.raise m.rects m.version
    -- a repair of a frame that is applied is dropped (R257)
    s.modImg fun x =>
      { x with st := .applying, app := some { origin := origin, rects := m.rects, join := m.join, awaits := awaits },
               fixes := x.fixes.filter fun r => !inRects m.rects (r.frame / 257) }

/-- The levee that holds the rectangles of an apply. -/
def FabricState.applyLevee (f : FabricState) (rs : List Rect) : Option Levee :=
  f.levees.find? fun l => rs.all fun r => l.rects.contains r

/-- The end of an apply: its levee falls or awaits the join, RECONFIG clears (R249). -/
def State.endApply (a : Apply) (join : Bool) (s : State) : State :=
  let s := match s.fab.applyLevee a.rects with
    | some l =>
      if join then s.modFab fun f => { f with levees := f.levees.map fun y => if y = l then { y with awaitJoin := true } else y }
      else s.modFab fun f => f.fall l
    | none => s
  (s.modImg fun x => { x with app := none, st := .released }).reconfigEnd

/-- One write of the role table marks a patch applied (R248), and Staged becomes empty where it still holds that image (R243). -/
def State.patchApplied (b : Nat) (p : Patch) (s : State) : State :=
  let s := s.modBank b fun x => { x with patches := x.patches.map fun y => if y = p then { y with applied := true } else y }
  s.modImg fun x => { x with stgValid := x.stgValid && !decide ((x.bank x.stg).bytes = p.bytes) }

/-- A partial apply is complete (R248, R249). -/
def State.applyDone (a : Apply) (s : State) : State :=
  let b := s.img.act
  match (s.img.bank b).pendingPatch with
  | none => s
  | some p =>
    let m := p.img.unwrapped s.sec
    let s := s.loadPlots m .keep m.plots
    let s := s.modFab fun f => (f.resetFlops fun q => inRects a.rects q).forgetLast fun q => inRects a.rects q
    let s := s.patchApplied b p
    let s := (s.reviewRects a.rects m.version).setMark b true
    let s := s.modImg fun x => { x with runVersion := m.version, measure := measureOf (s.configOf b) }
    ((s.endApply a a.join).cfgEvt 2).postRecord? a.origin stOk s.commitPayload

/-- Write a plot's frames again from a configuration, contents by R138 under it with zero where INIT is 0 (R246). -/
def State.reloadPlot (ms : List Img) (z : Zeroing) (plot : Nat) (s : State) : State :=
  match ms.reverse.find? fun m => m.plots.contains plot with
  | some m => match m.sect 1 with
    | some x => (s.loadFrames m x [plot]).loadContents m z [plot]
    | none => s
  | none => s

/-- Write plots again from a configuration; the slack bytes of their pairs are those of the images laid over one another (R246, R248). -/
def State.reloadPlots (ms : List Img) (z : Zeroing) (plots : List Nat) (s : State) : State :=
  let s := plots.foldl (fun s p => s.reloadPlot ms z p) s
  let both := plots.flatMap fun p => [p % 2560, 2560 + p % 2560]
  s.modSpl fun q => ms.foldl (fun (q : SpliceState) m => q.loadSlack m both) q

/-- A partial apply fails: the rectangles are to be reloaded from the running configuration (R246). -/
def State.applyFails (a : Apply) (s : State) : State :=
  let b := s.img.act
  let ver := (((s.img.bank b).pendingPatch).map fun p => p.img.version).getD 0
  let s := (s.log 0x0903 true false ver 0 0).cfgEvt 3
  let s := s.modBank b fun x => { x with patches := x.patches.filter (·.applied) }
  (s.setMark b false).modImg fun x => { x with app := some { a with reload := true } }

/-- The reload of a failed apply is complete (R246). A region that awaited join before the apply goes on awaiting it. -/
def State.applyReloaded (a : Apply) (s : State) : State :=
  let ms := s.configOf s.img.act
  let s := s.reloadPlots ms .zero (a.rects.flatMap (·.plots))
  let s := s.modFab fun f => f.resetFlops fun q => inRects a.rects q
  let s := s.reviewRects a.rects s.img.runVersion
  (s.endApply a a.awaits).postRecord? a.origin stSignatureFail s.commitPayload

/-- A join applies: every levee that awaits it falls (R252). -/
def State.joinNow (origin : Option Origin) (s : State) : State :=
  let s := (s.fab.levees.filter (·.awaitJoin)).foldl (fun s l => s.modFab fun f => f.fall l) s
  (s.cfgEvt 2).postRecord? origin stOk [s.cfgLevee]

/-! ### Applying a pending operation (R244) -/

/-- The full load of a pending commit or rollback begins. -/
def State.applyFull (p : PendOp) (s : State) : State :=
  let s := s.modImg fun x => { x with pend := none }
  if p.kind = .rollback then s.beginLoad .rollback s.img.prev p.origin false else s.beginLoad .commit s.img.stg p.origin p.fell

/-- Apply a pending operation outside a boundary; not while a load or an apply is in progress (R244). -/
def State.applyPend (s : State) : State :=
  match s.img.pend with
  | none => s
  | some p =>
    if p.atStart ∨ !s.opAtOnce ∨ s.img.busyLoading then s
    else match p.kind with
      | .full | .rollback => s.applyFull p
      | .partialCommit =>
        if p.copied then (s.modImg fun x => { x with pend := none }).beginApply p.origin else s
      | .join => (s.modImg fun x => { x with pend := none }).joinNow p.origin

/-- An operation timed for the next start applies before the selection (R238, R244): a full commit or rollback loads its bank,
a partial commit is marked applied. Tells whether a load has begun. -/
def State.startPend (s : State) : State × Bool :=
  match s.img.pend with
  | none => (s, false)
  | some p =>
    if !p.atStart then ((s.modImg fun x => { x with pend := none }), false)
    else
      let s := s.modImg fun x => { x with pend := none, bootRole := 3 }
      match p.kind with
      | .full | .rollback =>
        let bank := if p.kind = .rollback then s.img.prev else s.img.stg
        let why : LoadWhy := if p.kind = .rollback then .rollback else .commit
        let row := s.bankCheck bank
        if row = 0 then
          let s := s.beginLoad why bank p.origin p.fell
          let s := s.modImg fun x =>
            { x with fillMask := BitVec.ofNat 9 (field ((x.bank bank).base.hw 9) 0 9) }
          (s.startFills, true)
        else
          let s := (s.sigFail bank row).setMark bank false
          let s := (s.log 0x0903 true false (s.img.bank bank).effVersion 0 0).cfgEvt 3
          (s.postRecord? p.origin stSignatureFail s.commitPayload, false)
      | .partialCommit =>
        let b := s.img.act
        match (s.img.bank b).pendingPatch with
        | none => (s, false)
        | some q =>
          let row := s.imgCheck q.img (some true) [1, 2, 3, 4, 5, 9]
          if row = 0 then
            (((s.patchApplied b q).cfgEvt 2).postRecord? p.origin stOk s.commitPayload, false)
          else
            let s := s.modBank b fun x => { x with patches := x.patches.filter (·.applied) }
            let s := (s.log 0x0903 true false q.img.version 0 0).cfgEvt 3
            (s.postRecord? p.origin stSignatureFail s.commitPayload, false)
      | .join => (s, false)

/-- Image selection of start-up (R238): the repair map is restored, a pending operation applies, then Active is tried. A
pending partial commit for the next start whose copy is not complete makes the start wait. -/
def State.selectImage (s : State) : State :=
  let waits := match s.img.pend with
    | some p => p.atStart && decide (p.kind = OpKind.partialCommit) && !p.copied
    | none => false
  if waits then s.modImg fun x => { x with st := .checking }
  else
    let s := s.modImg fun x => { x with st := .checking, prevBad := false }
    let s := (s.modRst fun r => { r with st := .none }).modLeat fun l => { l with admission := true }
    -- a pending copy found at start is discarded unless its commit was timed for this start (R248)
    let s := match s.img.pend with
      | some p => if p.atStart ∧ p.kind = OpKind.partialCommit then s else s.modBank s.img.act fun x => { x with patches := x.patches.filter (·.applied) }
      | none => s.modBank s.img.act fun x => { x with patches := x.patches.filter (·.applied) }
    let (s, began) := s.startPend
    if began then s else (s.modImg fun x => { x with activeBad := false }).tryActive

/-- Log the cause of the reset, once for each start (18 R448). -/
def State.logCause (s : State) : State :=
  if s.rst.causeLogged then s
  else (s.log 0x1001 true false (w32 s.rst.cause.code) s.rst.cntBefore 0).modRst fun r => { r with causeLogged := true }

/-- At the start after a trip: THERM_TRIP is logged and TRIP is set (R435). -/
def State.tripReport (s : State) : State :=
  if s.thm.tripped = 0 then s
  else
    let d := s.thm.tripped
    ((s.modThm fun t => { t with trip := true, tripped := 0 }).log 0x0D0B true true (w32 d.toNat) 0 0).thmEvt 5

/-- Start-up goes on when RESET_N is high, the rails are good and the Lockkeeper is in service (R238, 18 R443, 20 R465). -/
def State.startUp (s : State) : State :=
  if s.rst.st = .starting ∧ !s.rst.resetN ∧ s.pwr.railsGood ∧ s.lk.inService ∧ !s.sec.recovery ∧ !s.thm.shdn then s.logCause.tripReport.selectImage
  else s

/-! ### Release (R241) -/

/-- The step named by place i of ORDER: 1 OUT, 2 WE, 3 SR. -/
def ImgState.stepAt (x : ImgState) (i : Nat) : Nat := x.order.toNat >>> (2 * i) % 4

/-- Release may begin or go on (R241). -/
def State.mayRelease (s : State) : Bool :=
  s.img.st = .releasing && s.coreLocked && (!s.img.fillWait || s.fillsDone)

/-- Declared VCCIO of a bank in mV; none for an unused bank (12 R311). -/
def vccioMv (bank : W32) : Option Nat :=
  match field bank 1 2 with
  | 0 => some 1200 | 1 => some 1500 | 2 => some 1800 | _ => none

/-- The bank's supply lies within 10% of its declared value (12 R310). -/
def vccioOk (bank : W32) (mv : Nat) : Bool :=
  match vccioMv bank with
  | some v => decide (9 * v ≤ 10 * mv) && decide (10 * mv ≤ 11 * v)
  | none => true

def State.bankCfg (s : State) (b : Nat) : W32 := tget s.io.bankCfg 0 b
def State.pinCfg (s : State) (b p : Nat) : W32 := tget s.io.pinCfg 0 (48 * b + p)
def State.bankFree (s : State) (b : Nat) : Bool := (s.bankCfg b).getLsbD 0
def State.bankUsed (s : State) (b : Nat) : Bool := field (s.bankCfg b) 1 2 ≠ 3

/-- The pin is driven by its word and not by its pair's even pin's (12 R311). -/
def ownPin (w : W32) (p : Nat) : Bool := field w 2 2 = 0 || p % 2 = 0

/-- Output values and enables that a bank drives from step OUT (R241, 12 R309): DIR 10 drives INIT; a free-running output
drives its idle value. -/
def State.initPins (s : State) (b : Nat) : BitVec 48 × BitVec 48 :=
  (List.range 48).foldl (fun (a : BitVec 48 × BitVec 48) p =>
    let w := s.pinCfg b p
    if field w 0 2 = 2 ∧ ownPin w p then
      (if w.getLsbD 9 then a.1 ||| (1#48 <<< p) else a.1, a.2 ||| (1#48 <<< p))
    else a) (0, 0)

/-- A bank starts or resumes with its outputs at INIT (R241, 12 R310). -/
def State.bankStart (b : Nat) (s : State) : State :=
  let (v, e) := s.initPins b
  let s := s.modIo fun io =>
    { io with value := tset io.value 0 b v, enable := tset io.enable 0 b e, dead := io.dead.filter (· ≠ b) }
  if e = 0 then s else s.emit (if s.pinsFloat then .pins b 0 0 else .pins b v e)

/-- The supply check of a bank (12 R310): what `start` does, or it stays as before release. -/
def State.supplyCheck (start : State → State) (b mv : Nat) (s : State) : State :=
  if !s.bankUsed b then s
  else if vccioOk (s.bankCfg b) mv ∧ s.domRun (37 + b) then start s
  else
    let s := s.log 0x0B01 true false (w32 b) (w32 mv) 0
    s.modIo fun io => { io with dead := if io.dead.contains b then io.dead else b :: io.dead,
                                value := tset io.value 0 b 0, enable := tset io.enable 0 b 0 }

/-- Release step OUT at a bank (12 R310, R241). -/
def State.bankSupply (b mv : Nat) (s : State) : State := s.supplyCheck (fun s => s.bankStart b) b mv

/-- A bank whose domain is in Run again, or was reset, releases at the next turn end (12 R310, 18 R445). The model checks its supply
as it returns (DEDUCED, log entry 83). -/
def State.bankReturn (b mv : Nat) (s : State) : State :=
  s.supplyCheck (fun s => s.modIo fun io => { io with back := if io.back.contains b then io.back else io.back ++ [b] }) b mv

/-- Standing reservations are acquired at release: those of the splice fallback senders, which need no list, and the offtakes' (08 R184,
04 R85). -/
def State.acquireStanding (s : State) : State :=
  let s := s.modLeat fun l => { l with fbHeld := true }
  (tkeys s.leat.node).foldl (fun s n => if n < 320 ∧ s.domRun (nodeQuad n) then
    let stg := (s.nodeAt n).otkStg
    let s := s.modNode n fun x => { x with otkStg := tmapListed 0 (fun _ w => w &&& 0x800001FF#32) x.otkAct }
    (s.swapOfftake n).modNode n fun x => { x with otkStg := stg }
    else s) s

/-- The last of the three steps is done (R241). -/
def State.releaseDone (s : State) : State :=
  let s := (s.modImg fun x => { x with st := .released, go := false, stepWait := false }).acquireStanding
  let s := s.trainAll
  -- the length check is made before the first window (05 R105)
  if s.win.awaitCount then s else s.lengthCheck.clearHold holdNotReleased

/-- One release step acts (R241). `vccio` holds the millivolts measured for each bank. -/
def State.releaseStep (vccio : List Nat) (s : State) : State :=
  let k := s.img.stepAt s.img.steps
  let s := if k = 1 then
      (List.range 20).foldl (fun s b => s.bankSupply b (vccio.getD b 0)) (s.modFab fun f => { f with outFree := true })
    else if k = 2 then s.modFab fun f => { f with weFree := true }
    else s.modFab fun f => { f with srFree := true }
  let s := s.modImg fun x => { x with steps := x.steps + 1, go := false, stepWait := false }
  if s.img.steps = 3 then s.releaseDone else s

/-- GO: the step that waits is released (R241, R258). -/
def State.releaseGo (s : State) : State :=
  if s.img.stepWait then s.modImg fun x => { x with go := true, stepWait := false } else s

end Sys2Proof.Machine
end

