-- ==== Sys2Proof/Machine/Completion.lean ====
section
/-! DEFINITION. What becomes of a request when it completes at its source, reservations by request, response timeouts, route
commits, and the length check (08_leat_network R183, R184, R191, R193, R199; 14 R363; 05 R105, R106). -/
namespace Sys2Proof.Machine

/-! ### MEM_READ and MEM_WRITE (14 R363) -/

/-- Reply status of a Leat completion status (14 R363). -/
def Status.reply : Status → Nat
  | .ok | .poison => stOk
  | .badAddress => stBadParam
  | .cisternClosed => stWindowRunning
  | .domainOff => stDomainOff
  | _ => stHwFault

/-- Pack up to 32 flags into a mask word, bit j for flag j. -/
def maskWord (l : List Bool) : W32 := w32 ((l.zip (List.range 32)).foldl (fun a e => if e.1 then a + 2 ^ e.2 else a) 0)

def maskWords : Nat → List Bool → List W32
  | 0, _ => []
  | n + 1, l => maskWord (l.take 32) :: maskWords n (l.drop 32)

/-- The command ends with a reply, or a MEM_WRITE that has replied ACCEPTED with its record (14 R362, R363). -/
def State.memFinish (o : MemOp) (st : Nat) (s : State) : State :=
  let s := s.modLk fun k => { k with memOps := k.memOps.filter fun x => x.id ≠ o.id }
  if o.mute then s
  else if o.write then
    if o.accepted then s.postRecord (o.req.origin 0x0805) st [w32 o.done]
    else s.commit o.req 0x0805 .owner st false [w32 o.done]
  else if st = stOk then
    s.commit o.req 0x0804 .anyone st (o.got.any (·.poison))
      (w32 o.count :: o.got.map (fun w => w32 w.data.toNat) ++ maskWords (ceilDiv o.count 32) (o.got.map (·.poison)))
  else s.commit o.req 0x0804 .anyone st false []

/-- Words of the next packet: at most 64, and within one Reservoir page (14 R363). -/
def MemOp.next (o : MemOp) : Nat :=
  let a := o.addr + o.done
  let n := min 64 (o.count - o.done)
  if a / 2 ^ 44 = 0 then min n (224 - a % 2 ^ 44 % 224) else n

/-- Send the next packet of the command through node 329 (14 R363). -/
def State.memSend (o : MemOp) (s : State) : State :=
  let a : BitVec 48 := BitVec.ofNat 48 (o.addr + o.done)
  match s.sourceCheck nodeLk a with
  | .error st => (s.niError nodeLk st ((destOf a).getD 0) (if o.write then .write else .read)).memFinish o st.reply
  | .ok d =>
    s.enqueue nodeLk
      { asker := if o.write then .lkWrite o.id else .lkRead o.id, dest := d, cmd := if o.write then .write else .read,
        addr := a, len := o.next,
        words := (((o.words.drop o.done).take o.next).map fun w => { data := w }) }

/-- A packet of the command has completed: the next goes, or the command ends (14 R363). -/
def State.memPacketDone (id n : Nat) (st : Status) (ws : List MWord) (s : State) : State :=
  match s.lk.memOps.find? fun o => o.id = id with
  | none => s
  | some o =>
    if st = .ok ∨ st = .poison then
      let o' := { o with done := o.done + n, got := o.got ++ ws }
      let s := s.modLk fun k => { k with memOps := k.memOps.map fun x => if x.id = id then o' else x }
      if o'.done < o'.count then s.memSend o' else s.memFinish o' stOk
    else s.memFinish o st.reply

/-! ### Completion at the source (R183, R199, R202) -/

/-- An offtake's read completes: its words wait in the release buffer, unless they are to be discarded (R202, 05 R109). -/
def NodeRec.readDone (seq : Nat) (st : Status) (ws : List MWord) (x : NodeRec) : NodeRec :=
  if x.discard.contains seq then { x with discard := x.discard.filter (· ≠ seq) }
  else { x with reads := x.reads.map fun r => if r.seq = seq then { r with data := some (st, ws) } else r }

/-- An offtake's write completes: its queue entry is free, and the first failing write of the window is logged (R199,
R201). -/
def State.otkWriteDone (n seq : Nat) (st : Status) (s : State) : State :=
  let s := s.modNode n fun x => { x with wq := x.wq.filter (· ≠ seq) }
  if st = .ok ∨ (s.nodeAt n).wrLogged then s
  else (s.log 0x0704 false false (w32 n) (w32 st.code) 0).modNode n fun x => { x with wrLogged := true }

/-- A request completes at interface `n`. -/
def State.finish (n : Nat) (r : Request) (st : Status) (ws : List MWord) (s : State) : State :=
  match r.asker with
  | .offtakeRead seq => s.modNode n (NodeRec.readDone seq st ws)
  | .offtakeWrite seq => s.otkWriteDone n seq st
  | .flumeRead c b i => s.flumeReadDone c b i r.len st ws
  | .flumeWrite c b _ => s.flumeWriteDone c b r.len st
  | .bar4Read => s.bar4ReadDone st ws
  | .bar4Write => s
  | .lkRead op => s.memPacketDone op r.len st ws
  | .lkWrite op => s.memPacketDone op r.len st ws
  -- one that ends before it has been sent whole brings its units back as well (11 R288)
  | .gwynior i tag src => (if r.lastTag.isNone then s.linkCredit i r.linkUnits else s).linkServed i tag src st ws

/-- LEAT_RESPONSE_RECEIVE: the source takes the oldest response that has arrived (R183). -/
def execLeatResponseReceive (n : Fin 384) (s : State) : Host.Outcome State Fault Refusal :=
  .next (if s.nodeStill n then s
    else match s.takeResponse n with
      | (s, none) => s
      | (s, some (r, st, ws)) => s.finish n r st ws)

/-- Complete a request at its source with an error, without a response. -/
def State.failRequest (n : Nat) (r : Request) (st : Status) (s : State) : State :=
  ((s.modNode n fun x => { x with reqs := x.reqs.erase r, inflight := x.inflight - r.units }).niError n st r.dest
    r.cmd).finish n r st []

/-- RESPONSE_TIMEOUT: no response within LEAT_NI_TIMEOUT of the last piece (R193). -/
def execResponseTimeout (src tgt : Fin 384) (tag : Fin 128) (s : State) : Host.Outcome State Fault Refusal :=
  .next (if s.gated then s
    else match (s.nodeAt src).reqs.find? fun r => decide (r.dest = tgt.val) && decide (r.lastTag = some tag.val) with
      | none => s
      | some r =>
        let s := (s.failRequest src r .targetIsolated).modNode src fun x => { x with tmoCnt := satInc x.tmoCnt }
        let s := s.niEvt src 1
        if (s.nodeAt tgt).isolated then s else s.modNode tgt fun x => { x with notice := some (src.val, tag.val) })

/-! ### Dynamic reservations (R184, R196) -/

/-- The first request of a Sill interface that waits for a reservation at a target. -/
def State.wantsRsv (s : State) (src tgt : Nat) : Option Request :=
  let x := s.nodeAt src
  if src < 320 ∨ x.srcs.any (fun v => v.target = tgt) then none
  else x.reqs.find? fun r => r.dest = tgt && !r.begun

/-- Ask for a dynamic reservation (R184): granted, refused and to be retried, or the request completes DOMAIN_OFF. -/
def State.askRsv (src tgt : Nat) (s : State) : State :=
  match s.wantsRsv src tgt with
  | none => s
  | some r =>
    match s.grant src tgt false with
    | (s, none) => s
    | (s, some .powerPending) => (s.niEvt src 5).failRequest src r .domainOff
    | (s, some _) =>
      (s.niEvt src 5).modNode src fun x => { x with retry := if x.retry.contains tgt then x.retry else x.retry ++ [tgt] }

/-- RESERVATION_REQUEST (R184). -/
def execReservationRequest (src tgt : Fin 384) (s : State) : Host.Outcome State Fault Refusal :=
  .next (if s.gated ∨ (s.nodeAt src).retry.contains tgt.val then s else s.askRsv src tgt)

/-- RESERVATION_RETRY: 1 µs after a refusal (R184). -/
def execReservationRetry (src tgt : Fin 384) (s : State) : Host.Outcome State Fault Refusal :=
  .next (if s.gated ∨ !(s.nodeAt src).retry.contains tgt.val then s
    else (s.modNode src fun x => { x with retry := x.retry.filter (· ≠ tgt.val) }).askRsv src tgt)

/-! ### Settings that take effect at once (05 R106) -/

/-- The device stands held or not released, where settings take effect at once (05 R106). -/
def State.atOnce (s : State) : Bool := s.win.shown = .held || s.win.shown = .notReleased

/-- While held, the length check is repeated after a change (05 R106). -/
def State.recheck (s : State) : State := if s.win.st = .held then s.lengthCheck else s

/-! ### Route commits (R190, R191) -/

/-- A staged copy has been written: ARM and CHECKED clear, and a ROUTE_ARM that waits ends with BUSY (R191, 14 R365). -/
def State.stagedWrite (s : State) : State :=
  if s.leat.arm then
    let o := s.leat.armOrigin
    (s.modLeat fun l => { l.disarm with armOrigin := none, horizonStg := 0, swapWait := false }).postRecord? o stBusy []
  else s

/-- ARM is set: the checks of the staged set begin (R191). -/
def State.armCommit (o : Option Origin) (s : State) : State :=
  s.modLeat fun l => { l with arm := true, checked := false, checkFail := false, horizonStg := 0, armOrigin := o }

/-- A commit with ARM and CHECKED both 1 while the device is held or not released: at once if the Leat is empty, else when it
is (05 R106). -/
def State.commitHeld (s : State) : State :=
  if s.leat.arm ∧ s.leat.checked ∧ s.atOnce then
    let s := s.modLeat fun l => { l with admission := false, swapWait := true }
    if s.leatEmpty then (((s.releaseDynamic).routeStep).modLeat fun l => { l with admission := true }).recheck else s
  else s

/-- LEAT_COMMIT (R206). -/
def State.commitWord (s : State) : W32 :=
  bitAt s.leat.arm 0 ||| bitAt s.leat.checked 1 ||| bitAt s.leat.checkFail 2 ||| bitAt s.leat.swapDone 3

/-- ROUTE_CHECK_COMPLETE: the checks and the staged horizon are done; CHECKED sets (R182, R184, R190, R191). -/
def execRouteCheckComplete (s : State) : Host.Outcome State Fault Refusal :=
  .next (if s.leat.arm ∧ !s.leat.checked then
      let s := s.checkStaged
      let h := s.stagedState.computeHorizon.h
      let o := s.leat.armOrigin
      let s := s.modLeat fun l => { l with checked := true, horizonStg := BitVec.ofNat 24 h, armOrigin := none }
      (s.postRecord? o stOk [s.commitWord, w32 s.leat.horizonStg.toNat]).commitHeld
    else s)

/-- A write of LEAT_SVC_HOST or LEAT_SVC_LINK (R189, 05 R106). -/
def State.svcWrite (link : Bool) (v : BitVec 24) (s : State) : State :=
  let s := s.modLeat fun l => if link then { l with svcLink := v } else { l with svcHost := v }
  let s := if s.leat.arm then s.modLeat fun l => { l with checked := false, horizonStg := 0 } else s
  if s.atOnce then s.refreshHorizon.recheck else s

end Sys2Proof.Machine
end

