-- ==== Sys2Proof/Machine/HostBus.lean ====
section
/-! DEFINITION. The PCI Express endpoint: completions of host reads, staging from host memory, resets of the endpoint and of
its functions (12_host_ports R296 to R298, 07_deep_memory R162, 14_command_reference R354). -/
namespace Sys2Proof.Machine

/-! ### Staging from host memory (14 R354) -/

/-- The Staged bank and its number. -/
def State.writeStaged (off : Nat) (bytes : List Byte) (s : State) : State :=
  s.modBank s.img.stg fun b =>
    { b with bytes := tsetAll none b.bytes (((List.range bytes.length).map (off + ·)).zip (bytes.map some)) }

/-- The transfer ends without an image (14 R354). -/
def State.stageAbort (status : Nat) (s : State) : State :=
  match s.img.staging with
  | none => s
  | some st =>
    ((s.modImg fun x => { x with staging := none }).modHost fun h =>
      { h with reads := h.reads.filter fun r => r.ask ≠ .stage }).postRecord st.origin status []

/-- Send the next read request of the transfer, or begin the readback when every byte has arrived (14 R354). -/
def State.stageNext (s : State) : State :=
  match s.img.staging with
  | none => s
  | some st =>
    if st.len ≤ st.asked then s.modImg fun x => { x with staging := none, readback := some st.origin }
    else if !s.hostOpen then s.stageAbort stDomainOff
    else match hostCuts s.host.pf0.mrrs 1 (st.addr + st.asked) (st.len - st.asked) with
      | (addr, k) :: _ =>
        (s.modImg fun x => { x with staging := some { st with asked := st.asked + k } }).hostGet .stage addr st.asked k
      | [] => s

/-- Bytes of a read request of the transfer arrive: EP, UR or CA ends it (14 R354). -/
def State.stageBytes (off : Nat) (bytes : List (Byte × Bool)) (s : State) : State :=
  if bytes.any (·.2) then s.stageAbort stDomainOff else (s.writeStaged off (bytes.map (·.1))).stageNext

/-! ### What configuration space reports (12 R292, R293) -/

/-- Vendor ID and subsystem vendor ID, and class code, of both functions. -/
def vendorId : Nat := 0x1E4D
def classCode : Nat := 0x120000

/-- Device ID and subsystem ID. -/
def Func.deviceId : Func → Nat
  | .pf0 => 0x2080 | .pf1 => 0x2081

/-- Size in bytes of the region at BAR0, BAR2 and BAR4; 0: not implemented. Only BAR4 is prefetchable. -/
def Func.barBytes : Func → Fin 3 → Nat
  | _, 0 => 64 * 2 ^ 20
  | _, 1 => 64 * 2 ^ 10
  | .pf0, 2 => 16 * 2 ^ 30
  | .pf1, 2 => 0

/-- Revision ID: the silicon revision (13 R316). -/
def State.revisionId (s : State) : Nat := s.sec.fuses.rev.toNat

/-! ### Completions (07 R162, 12 R298) -/

/-- All bytes of a read request have arrived. -/
def State.hostDeliver (r : HostRead) (bytes : List (Byte × Bool)) (s : State) : State :=
  let s := s.modHost fun h => { h with reads := h.reads.filter fun x => x.id ≠ r.id }
  match r.ask with
  | .window _ _ _ => s.windowBytes r.ask r.off bytes
  | .flume ch first => s.flumeBytes ch first r.off bytes
  | .stage => s.stageBytes r.off bytes

/-- The rest of a read request ends in error: its bytes are marked (07 R162). -/
def State.hostError (r : HostRead) (s : State) : State :=
  s.hostDeliver r (r.got ++ List.replicate (r.len - r.got.length) (0, true))

/-- HOST_COMPLETION: a completion of a read request arrives, with data, or with UR or CA (07 R162). -/
def execHostCompletion (id : Nat) (st : CplStatus) (ep : Bool) (bytes : List Byte) (s : State) :
    Host.Outcome State Fault Refusal :=
  .next (match s.host.reads.find? fun r => r.id = id with
    | none => s
    | some r =>
      match st with
      | .sc =>
        let got := (r.got ++ bytes.map fun b => (b, ep)).take r.len
        if r.len ≤ got.length then s.hostDeliver r got
        else s.modHost fun h => { h with reads := h.reads.map fun x => if x.id = id then { x with got := got } else x }
      | _ => (s.modHost fun h => { h with aerErrors := h.aerErrors + 1 }).hostError r)

/-- COMPLETION_TIMEOUT: treated as CA, and recorded (12 R298). -/
def execCompletionTimeout (id : Nat) (s : State) : Host.Outcome State Fault Refusal :=
  .next (match s.host.reads.find? fun r => r.id = id with
    | none => s
    | some r => (s.modHost fun h => { h with aerTimeouts := h.aerTimeouts + 1 }).hostError r)

/-! ### Resets of the endpoint (12 R297) -/

/-- The endpoint and its configuration space are reset: the link goes down, host requests complete DOMAIN_OFF, and BAR4
requests in flight receive no completion (12 R297, 18 R447). -/
def State.endpointReset (s : State) : State :=
  let s := s.modHost fun h =>
    { h with pf0 := {}, pf1 := {}, linkUp := false, speed := 0, width := 0,
             reads := h.reads.filter fun r => r.ask = .stage }
  let s := s.modNode nodePcie fun x =>
    { x with reqs := x.reqs.map fun r => if r.asker = .bar4Read then { r with asker := .bar4Write } else r }
  ((s.windowReset).flumeHostReset).stageAbort stDomainOff

/-- PCIE_RESET: PERST_N, hot reset or link disable (12 R297, 18 R448). -/
def execPcieReset (k : PcieReset) (s : State) : Host.Outcome State Fault Refusal :=
  let code := match k with | .perst => 0 | .hot => 1 | .linkDisable => 2
  .next ((s.endpointReset.modHost fun h => { h with perst := h.perst || decide (k = .perst) }).log 0x1005 false false (w32 code)
    0 0)

/-- A function's mailbox is emptied and the replies its commands have yet to commit are discarded (12 R297, R313, 13 R339). -/
def State.mailboxReset (p : Port) (s : State) : State :=
  let s := s.modPort p fun x => { running := x.running }
  let s := s.modLk fun k => { k with memOps := k.memOps.map fun o => if o.req.port = p ∧ !o.accepted then { o with mute := true } else o }
  let drop (_ : Nat) (x : Sluice) : Sluice :=
    match x.waiter with
    | some r => if r.port = p then { x with waiter := none } else x
    | none => x
  s.modClk fun c => { c with slc := tmapListed {} drop c.slc }

/-- FUNCTION_LEVEL_RESET (12 R297). -/
def execFunctionLevelReset (f : Func) (s : State) : Host.Outcome State Fault Refusal :=
  .next (((s.modFunc f fun _ => {}).mailboxReset f.port).log 0x1005 false false (match f with | .pf0 => 3 | .pf1 => 4) 0 0)

/-- D3HOT_ENTRY (12 R297). -/
def execD3hotEntry (f : Func) (s : State) : Host.Outcome State Fault Refusal :=
  .next (s.modFunc f fun x => { x with d3hot := true })

/-- Number of vectors of a function (12 R293). -/
def Func.vectors : Func → Nat
  | .pf0 => 32 | .pf1 => 2

/-- Pending vectors that may now send their message do so (12 R296). -/
def State.sendPending (f : Func) (s : State) : State :=
  (List.range f.vectors).foldl (fun (s : State) v =>
    if (s.host.func f).pba.getLsbD v ∧ s.msixOpen f v then
      (s.modFunc f fun x => { x with pba := x.pba &&& ~~~(1#32 <<< v) }).emit (.msix f v)
    else s) s

/-- PCIE_LINK_UP: training ends with the speed and width negotiated, and the host has written the configuration space
(12 R292, R297, R314); pending messages that may now go are sent (R296). -/
def execPcieLinkUp (speed : BitVec 3) (width : BitVec 4) (c0 c1 : PcieCfg) (s : State) : Host.Outcome State Fault Refusal :=
  .next (if s.host.perst ∨ !s.domRun 36 then s
    else
      let set (c : PcieCfg) (x : FuncState) : FuncState :=
        { x with bme := c.bme, mse := c.mse, msixEn := c.msixEn, mrrs := c.mrrs, mps := c.mps }
      ((s.modHost fun h =>
        { h with linkUp := true, speed := speed, width := width, pf0 := set c0 h.pf0, pf1 := set c1 h.pf1 }).sendPending .pf0).sendPending
          .pf1)

/-- MSIX_UNMASK: the host unmasks a vector, or enables MSI-X (12 R296). -/
def execMsixUnmask (f : Func) (v : Option (Fin 32)) (s : State) : Host.Outcome State Fault Refusal :=
  .next ((match v with
    | none => s.modFunc f fun x => { x with msixEn := true }
    | some i => s.modFunc f fun x => { x with msixMask := x.msixMask &&& ~~~(1#32 <<< i.val) }).sendPending f)

end Sys2Proof.Machine
end

