-- ==== Sys2Proof/Machine/DomainOps.lean ====
section
/-! DEFINITION. Power domains: which states each supports, what leaving Run and returning to it do to the blocks of the
domain (17_power_thermal R413 to R419, 08_leat_network R196, R202, 12_host_ports R310). -/
namespace Sys2Proof.Machine

/-- The kinds of domain (14 R347). -/
def isQuad (d : Nat) : Bool := decide (2 ≤ d) && decide (d ≤ 9)
def isMemDom (d : Nat) : Bool := d = 10 || (decide (12 ≤ d) && decide (d ≤ 19))
def isLaneDom (d : Nat) : Bool := decide (20 ≤ d) && decide (d ≤ 35)
def isBankDom (d : Nat) : Bool := decide (37 ≤ d) && decide (d ≤ 56)

/-- States by their numbers, 0 Run to 3 Off (14 R358). -/
def pstateOf : Nat → PState
  | 0 => .run | 1 => .sleep | 2 => .deep | _ => .off

/-- The DOMAIN_SET column of R413. -/
def domSupports (d : Nat) (st : PState) : Bool :=
  match st with
  | .run => decide (1 ≤ d) && decide (d ≤ 56)
  | .sleep => isQuad d || isMemDom d || d = 11
  | .deep => isQuad d || isMemDom d
  | .off => isQuad d || isMemDom d || decide (20 ≤ d) && decide (d ≤ 56)
  | .waking => false

/-- A DDR4 channel without a DIMM is held in Off (R413). -/
def State.domAbsent (s : State) (d : Nat) : Bool :=
  decide (12 ≤ d) && decide (d ≤ 19) && !(s.ctlAt (32 + (d - 12))).present (32 + (d - 12))

/-- State of a domain as PWR_STATUS and PWR_DOM report it (14 R358): 4 changing, 7 reserved. -/
def State.domCode (s : State) (d : Nat) : Nat :=
  if 57 ≤ d then 7 else if s.domAbsent d then 3 else (s.domSt d).code

def State.modDom (d : Nat) (f : DomRec → DomRec) (s : State) : State :=
  s.modPwr fun p => { p with dom := tmod p.dom {} d f }
def State.domAt (s : State) (d : Nat) : DomRec := tget s.pwr.dom {} d

/-- Leat targets of a domain (08 R196): the memory domains are exempt. -/
def State.domTargets (s : State) (d : Nat) : List Nat :=
  if isQuad d then (List.range 320).filter fun n => nodeQuad n = d
  else if isLaneDom d then ((List.range 16).filter fun i => (s.linkAt i).valid && (s.linkAt i).group = d - 20).map nodeLink
  else if d = 36 then [nodePcie]
  else []

/-- A target of the domain holds a reservation of a source outside the domains that change together (08 R196, R415). -/
def State.domBlocked (s : State) (together : List Nat) (d : Nat) : Bool :=
  (s.domTargets d).any fun n => (s.nodeAt n).tgt.any fun e =>
    match e.2 with
    | some t => !(decide (t.src < 320) && together.contains (nodeQuad t.src))
    | none => false

def State.setPend (d : Nat) (v : Bool) (s : State) : State :=
  (s.domTargets d).foldl (fun s n => s.modNode n fun x => { x with pwrPend := v }) s

/-! ### Offtakes that stop (08 R202) -/

/-- An offtake whose host plot stops discards what it holds and what arrives later for reads issued before (08 R202). -/
def NodeRec.dropReads (x : NodeRec) : NodeRec :=
  { x with
    reads := []
    unit := 0
    discard := x.discard ++ (x.reads.filter fun r => r.data.isNone && !r.failed).map (·.seq) }

/-- Release the standing reservations of the offtakes of a quadrant and what their release buffers hold (R415, 08 R202). -/
def State.quadOfftakes (d : Nat) (s : State) : State :=
  (tkeys s.leat.node).foldl (fun s n =>
    if n < 320 ∧ nodeQuad n = d then
      let s := (s.nodeAt n).srcs.foldl (fun s v => if v.standing then s.releaseRsv n v.target else s) s
      s.modNode n NodeRec.dropReads
    else s) s

/-- The offtakes whose host plot executes no pulses at a boundary discard their reads (08 R202). -/
def State.dropStopped (s : State) : State :=
  (tkeys s.leat.node).foldl (fun s n =>
    if n < 320 ∧ !(s.nodeAt n).reads.isEmpty ∧ (s.leveed (hostPlot n) ∨ !s.domRun (nodeQuad n)) then
      s.modNode n NodeRec.dropReads
    else s) s

/-! ### Retention banks (R418, R419) -/

/-- Bank of a plot: 0 to 63 on Tier A, 64 to 127 on Tier B (R418). -/
def retBank (plot : Nat) : Nat := 64 * (plot / 2560) + 8 * (plot % 40 / 5) + plot / 40 % 64 / 8

/-- Banks of a quadrant in rising order (R419). -/
def quadBanks (d : Nat) : List Nat :=
  (List.range 128).filter fun b =>
    decide (b / 64 = (d - 2) / 4) && decide (plotQuadrant (8 * (b % 8)) (5 * (b % 64 / 8)) = (d - 2) % 4)

def keyPlot (k : Nat) : Nat := k / 8 / 16 / 256

/-- The retention banks of a quadrant take its committed state (R419). -/
def State.retSave (d : Nat) (s : State) : State :=
  let sel (k : Nat) : Bool := plotDomain (keyPlot k) = d
  let a := s.fab.qa.filter fun e => sel e.1
  let b := s.fab.qb.filter fun e => sel e.1
  s.modPwr fun p =>
    { p with
      retA := tsetAll false (tdrop sel p.retA) a
      retB := tsetAll false (tdrop sel p.retB) b }

/-- The retention banks of a quadrant return their state; the plots of a bank that fails take the reset values (R419). -/
def State.retRestore (d : Nat) (failing : List Nat) (s : State) : State :=
  let sel (k : Nat) : Bool := plotDomain (keyPlot k) = d
  let good (k : Nat) : Bool := sel k && !failing.contains (retBank (keyPlot k))
  let a := s.pwr.retA.filter fun e => good e.1
  let b := s.pwr.retB.filter fun e => good e.1
  let s := s.modFab fun f => f.resetFlops fun p => plotDomain p = d
  s.modFab fun f =>
    { f with
      qa := tsetAll false (tdrop good f.qa) a
      qb := tsetAll false (tdrop good f.qb) b }

/-! ### Reload of a quadrant (R414, R423) -/

def domPlots (d : Nat) : List Nat := (List.range 5120).filter fun p => plotDomain p = d

/-- Strand latches, pattern tables and cistern records of plots are loaded again from the running configuration (18 R442). -/
def State.reloadFrames (plots : List Nat) (s : State) : State :=
  let ms := s.configOf s.runBank
  plots.foldl (fun s p => (List.range 257).foldl (fun s j =>
    match configFrame ms (frameOf p j) with
    | some c => s.putFrame (frameOf p j) c.1
    | none => s) s) s

/-- What a quadrant that returns to Run has lost is restored, by the lowest state it has been in (R414, R416, R423). -/
def State.quadRestore (d : Nat) (failing : List Nat) (s : State) : State :=
  let ferry (f : FabricState) : FabricState :=
    { f with
      ferryOut := tdrop (fun k => plotDomain (k / 16 / 256) = d) f.ferryOut
      ferryHalf := tdrop (fun k => plotDomain (k / 16 / 256) = d) f.ferryHalf }
  let s := match (s.domAt d).deepest with
    | .off =>
      let ms := s.configOf s.runBank
      let s := s.reloadPlots ms .zero (domPlots d)
      s.modFab fun f => f.resetFlops fun p => plotDomain p = d
    | .deep => (s.reloadFrames (domPlots d)).retRestore d failing
    | _ => s
  s.modFab ferry

/-- RET_FAIL: the banks that failed at this wake are reported (R419). -/
def State.retReport (failing : List Nat) (s : State) : State :=
  let mask (t : Nat) : BitVec 64 := failing.foldl (fun (m : BitVec 64) b => if b / 64 = t then m ||| (1#64 <<< (b % 64)) else m) 0
  let s := s.modPwr fun p => { p with retFailA := mask 0, retFailB := mask 1 }
  let one (t : Nat) (s : State) : State :=
    if mask t = 0 then s
    else (s.log 0x0D04 true false (w32 t) (loWord (mask t).toNat) (hiWord (mask t).toNat)).pwrEvt 2
  one 1 (one 0 s)

/-! ### Hold reason POWER (05 R102) -/

/-- POWER clears when no reset, domain change, sleep or stop needs it. -/
def State.powerSettle (s : State) : State :=
  if s.pwr.changed.isEmpty ∧ s.rst.dieRun.isEmpty ∧ s.rst.domRun.isEmpty ∧ s.pwr.dev = .run ∧ !s.thm.stopped ∧
      s.win.hold.getLsbD holdPower
  then s.clearHold holdPower else s

/-! ### I/O banks (12 R310) -/

/-- A bank returns to the state before release: its pins float, its output frames are discarded (12 R310, 10 R240). -/
def State.bankDown (b : Nat) (s : State) : State :=
  let was := tget s.io.enable 0 b ≠ 0
  let s := s.modIo fun io =>
    { io with
      dead := if io.dead.contains b then io.dead else b :: io.dead
      back := io.back.filter (· ≠ b)
      value := tset io.value 0 b 0
      enable := tset io.enable 0 b 0
      frames := io.frames.filter fun f => f.bank ≠ b }
  if was then s.emit (.pins b 0 0) else s

/-- The FIFOs of a bank, block state that its Off loses (R414). -/
def IoState.dropFifos (b : Nat) (io : IoState) : IoState :=
  { io with
    inF := tset io.inF [] b []
    outF := tset io.outF [] b []
    frView := tset io.frView {} b {}
    sampled := tset io.sampled none b none }

/-! ### A domain leaves Run, or goes lower (R415) -/

/-- The change begins at step 6h: the domain reads as changing, and POWER is set (R415, 05 R102). What a lane group, the endpoint or a
bank holds is lost (R414). -/
def State.domBegin (q : DomReq) (s : State) : State :=
  let d := q.dom
  let cur := s.domSt d
  let s := if isQuad d then
      let s := s.quadOfftakes d
      if q.st = .deep ∧ (cur = .run ∨ cur = .sleep) then s.retSave d else s
    else if isLaneDom d then
      (List.range 16).foldl (fun s i => if (s.linkAt i).valid ∧ (s.linkAt i).group = d - 20 then s.linkDown i else s)
        (s.modGroup (d - 20) fun _ => {})
    else if d = 36 then s.endpointReset
    else if isBankDom d then (s.bankDown (d - 37)).modIo fun io => io.dropFifos (d - 37)
    else s
  let s := s.setDom d .waking
  (s.modPwr fun p => { p with changed := p.changed ++ [q] }).setHold holdPower

def PState.lower (a b : PState) : PState := if a.code % 4 < b.code % 4 then b else a

/-- The change ends with the state commanded, or with BUSY where the memory's sluice does not close (R415). -/
def State.domEnd (q : DomReq) (s : State) : State :=
  let d := q.dom
  let s := s.modPwr fun p => { p with changed := p.changed.filter fun x => x.dom ≠ d }
  let s := s.setPend d false
  if isMemDom d ∧ !s.slcIdle (ctlSluice ((domainCtls d).headD 0)) then
    ((((s.memRun d).log 0x0D05 true false 2 0 0).pwrEvt 3).postRecord? q.origin stBusy []).powerSettle
  else
    let s := if isMemDom d then s.memLeave d q.st else s.setDom d q.st
    let s := s.modDom d fun x => { x with deepest := x.deepest.lower q.st }
    (((s.log 0x0D03 false false (w32 d) (w32 q.st.code) 0).pwrEvt 4).postRecord? q.origin stOk [w32 q.st.code]).powerSettle

/-- A request for a state other than Run is judged at a boundary (R415, 08 R196): it applies, or waits up to 16. -/
def State.domJudge (together : List Nat) (counted : Bool) (q : DomReq) (s : State) : State :=
  if s.domBlocked together q.dom then
    let q' := { q with waited := if counted then q.waited + 1 else q.waited }
    if 16 ≤ q'.waited then
      let s := s.modPwr fun p => { p with reqs := p.reqs.filter fun x => x.dom ≠ q.dom }
      let s := (s.domTargets q.dom).foldl (fun s n =>
        if (s.nodeAt n).held = 0 then s
        else (s.log 0x0705 false false (w32 n) (w32 Status.powerPending.code) 0).niEvt n 6) (s.setPend q.dom false)
      (((s.log 0x0D05 true false 1 0 0).pwrEvt 3).postRecord? q.origin stBusy [])
    else s.modPwr fun p => { p with reqs := p.reqs.map fun x => if x.dom = q.dom then q' else x }
  else (s.modPwr fun p => { p with reqs := p.reqs.filter fun x => x.dom ≠ q.dom }).domBegin q

/-- Domain changes of step 6h, or at once while held (R415). -/
def State.domStep (counted : Bool) (s : State) : State :=
  let together := s.pwr.reqs.map (·.dom)
  s.pwr.reqs.foldl (fun s q => s.domJudge together counted q) s

/-! ### A domain returns to Run (R415, R416, R423) -/

/-- The return begins at once: the domain reads as changing. -/
def State.domWake (d : Nat) (o : Option Origin) (s : State) : State :=
  let s := if isMemDom d then s.wakeMem (if d = 10 then 0 else 32 + (d - 12))
    else (s.modDom d fun x => { x with deepest := x.deepest.lower x.st }).setDom d .waking
  s.modDom d fun x => { x with waking := o }

/-- The domain is in Run again: its record follows (R415, R419). -/
def State.domUp (d : Nat) (extra : List W32) (s : State) : State :=
  let o := (s.domAt d).waking
  let s := (s.setDom d .run).modDom d fun x => { x with waking := none, deepest := .run }
  ((s.log 0x0D03 false false (w32 d) 0 0).pwrEvt 4).postRecord? o stOk (0 :: extra)

/-- A memory domain reaches Run: its held requests are served (07 R161). Commanded, it stays in Run (R415). -/
def State.memUp (d : Nat) (s : State) : State :=
  let s := (domainCtls d).foldl (fun s k => s.serveAll k) (s.memRun d)
  if (s.domAt d).waking.isSome then
    ((domainCtls d).foldl (fun s k => s.modCtl k fun c => { c with wokenFrom := none }) s).domUp d []
  else s

/-- A quadrant returns: it rejoins at the next window start (R416, R419, R423). -/
def State.quadUp (d : Nat) (failing : List Nat) (s : State) : State :=
  let failing := if (s.domAt d).deepest = .deep then failing.filter (quadBanks d).contains else []
  let s := s.quadRestore d failing
  let bits := w32 (((quadBanks d).zip (List.range 16)).foldl (fun a e => if failing.contains e.1 then a + 2 ^ e.2 else a) 0)
  let s := s.modPwr fun p => { p with rejoin := if p.rejoin.contains d then p.rejoin else p.rejoin ++ [d] }
  ((s.retReport failing).domUp d [bits]).acquireStanding

end Sys2Proof.Machine
end

