-- ==== Sys2Proof/Machine/Fabric.lean ====
section
/-! DEFINITION. The combinational fabric of one pulse: knots, carry, sources, wires, splices, plot feeds, cistern reads
(02_knots_hanks_plots, 03_strands_turns, 06_cisterns R125 to R128, 10_configuration R251).

A signal is worked out on demand. `none` stands for an undefined value: a signal on a combinational loop, or one that depends
on it (02 R36), or the two signals of a splice whose refresh differs from its keeper (04 R77). -/
namespace Sys2Proof.Machine

/-- A signal that one pulse works out: OUT, HALF and carry out of a knot, and driver n of a hank. -/
inductive Sig where
  | out (knot : Nat)
  | half (knot : Nat)
  | cout (knot : Nat)
  | drv (hank n : Nat)
deriving DecidableEq, Repr

/-! ### Places (R40) -/

def hankX (h : Nat) : Nat := 16 * (h / 256 / 40 % 64) + h % 16
def hankY (h : Nat) : Nat := 16 * (h / 256 % 40) + h / 16 % 16
def hankTier (h : Nat) : Nat := h / 256 / 2560
def hankAt (tier x y : Nat) : Nat := hankIx (plotIx tier (x / 16) (y / 16)) (x % 16) (y % 16)

/-- The hank where a wire of reach r that travels in direction d and ends at hank h starts; none outside the Tier (R40,
R41). -/
def wireStart (h d r : Nat) : Option Nat :=
  let x := hankX h
  let y := hankY h
  let t := hankTier h
  match d with
  | 0 => if r ≤ y then some (hankAt t x (y - r)) else none
  | 1 => if r ≤ x then some (hankAt t (x - r) y) else none
  | 2 => if y + r < 640 then some (hankAt t x (y + r)) else none
  | _ => if x + r < 1024 then some (hankAt t (x + r) y) else none

/-! ### Knots (R28 to R33) -/

/-- Output mode (R28). -/
def kMode (w : BitVec 160) : Nat := w.toNat >>> 112 % 256
def kFunction (w : BitVec 160) : Nat := kMode w % 4
def kCarryIn (w : BitVec 160) : Nat := kMode w / 4 % 4

/-- The knot computes: active, and not function code 11 (R28, R29). -/
def kActive (w : BitVec 160) : Bool := (kMode w).testBit 6 && kFunction w ≠ 3

/-- Source number of input b, A to F (R35). -/
def kSelect (w : BitVec 160) (b : Nat) : Nat := w.toNat >>> (64 + 8 * b) % 256

/-- Arithmetic mode: p0, g0, p1, g1 at j, and what follows from them and the carry in (R30). -/
def kArith (w : BitVec 160) (what : Nat) (j : Nat) (cin : Bool) : Bool :=
  let p0 := w.getLsbD j
  let p1 := w.getLsbD (32 + j)
  let c1 := if p0 then cin else w.getLsbD (16 + j)
  if what = 0 then p1 ^^ c1 else if what = 1 then p0 ^^ cin else if p1 then c1 else w.getLsbD (48 + j)

/-- OUT (0), HALF (1) or carry out (2) of a knot as a function of its inputs: bits 0 to 5 of the index are A to F; in
arithmetic mode bit 4 is the carry in (R28 to R31). -/
def kFn (w : BitVec 160) (what i : Nat) : Bool :=
  if !kActive w then false
  else match kFunction w with
    | 0 => if what = 0 then w.getLsbD (i % 64) else if what = 1 then w.getLsbD (i % 32) else false
    | 1 => if what = 0 then w.getLsbD (32 + 16 * (i / 32 % 2) + i % 16) else if what = 1 then w.getLsbD (i % 32) else false
    | _ => kArith w what (i % 16) (i.testBit 4)

/-- The output depends on input b: some values of the other inputs make it differ (R36). -/
def kDepends (w : BitVec 160) (what b : Nat) : Bool :=
  (List.range 64).any fun i => !i.testBit b && (kFn w what i ^^ kFn w what (i + 2 ^ b))

/-! ### Flip-flops, pattern entries (R32, R33, 03 R56, R59, R61, R62) -/

/-- A flip-flop is in use in a strand (R32): b is 120 for QA, 128 for QB. -/
def kInUse (w : BitVec 160) (b : Nat) : Bool := w.getLsbD (b + 7)

/-- QA[s] (b = 120) or QB[s] (b = 128) of a knot (03 R56, R58, R59). -/
def State.flop (s : State) (knot strand b : Nat) : Bool :=
  let w := s.fab.latchAt knot strand
  if s.fab.turnLen ≤ strand then false
  else if !s.fab.srFree || !kInUse w b then w.getLsbD (b + 6)
  else tget (if b = 120 then s.fab.qa else s.fab.qb) false (knot * 8 + strand)

/-- Value of entry e of a plot in this turn, by the plot's own table (03 R62 to R64). -/
def State.patternValue (s : State) (plot e : Nat) : Bool :=
  let w := tget s.fab.pat 0 (plot * 16 + e)
  let f (lo k : Nat) : Nat := w.toNat >>> lo % 2 ^ k
  match f 76 2 with
  | 0 => w.getLsbD ((s.win.turnCount + f 70 6) % (f 64 6 + 1))
  | 1 => true
  | 2 => false
  | _ => s.flop (hankIx plot (f 78 4) (f 82 4) * 16 + f 86 4) (f 90 3) (if w.getLsbD 93 then 128 else 120)

/-! ### Plots that run, and the borders of those that do not (10 R251, 04 R88, 17 R416) -/

/-- The plot executes pulses. -/
def State.plotRuns (s : State) (plot : Nat) : Bool :=
  !s.leveed plot && s.domRun (plotDomain plot) && !s.pwr.rejoin.contains (plotDomain plot)

/-- What a driver of a plot that executes no pulses presents outside (10 R251). -/
def State.borderWire (s : State) (hank n strand : Nat) : Bool :=
  let k := (hank * 96 + n) * 8 + strand
  match s.fab.leveeOf (hank / 256) with
  | some l => tget l.borders false k
  | none => tget s.fab.last false k

def State.borderCarry (s : State) (hank strand : Nat) : Bool :=
  let k := hank * 8 + strand
  match s.fab.leveeOf (hank / 256) with
  | some l => tget l.carries false k
  | none => tget s.fab.lastCarry false k

/-- The value on a driver's wire. -/
def State.wire (s : State) (ev : Sig → Option Bool) (hank n : Nat) : Option Bool :=
  if s.plotRuns (hank / 256) then ev (.drv hank n) else some (s.borderWire hank n s.win.strand)

/-- Carry in of a knot from the chain (R31). -/
def State.carryChain (s : State) (ev : Sig → Option Bool) (knot : Nat) : Option Bool :=
  let h := knot / 16
  if knot % 16 ≠ 0 then ev (.cout (knot - 1))
  else if h / 16 % 16 ≠ 0 then ev (.cout ((h - 16) * 16 + 15))
  else if h / 256 % 40 = 0 then some false
  else
    let h' := hankIx (h / 256 - 1) (h % 16) 15
    if s.plotRuns (h' / 256) then ev (.cout (h' * 16 + 15)) else some (s.borderCarry h' s.win.strand)

/-! ### Cistern ports (06 R125 to R128) -/

/-- A number on driver taps, least significant first; none where one of them is undefined. -/
def tapsNat : List (Option Bool) → Option Nat
  | [] => some 0
  | some b :: t => (tapsNat t).map fun n => (if b then 1 else 0) + 2 * n
  | none :: _ => none

/-- Hank q of a cistern, q = 0 to 3: (7, 2c), (7, 2c + 1), (8, 2c), (8, 2c + 1) (02 R44). -/
def cstHank (i q : Nat) : Nat := hankIx (cstPlot i) (7 + q / 2) (2 * (i % 8) + q % 2)

/-- A tap of a port's first or second hank. -/
def State.cstTap (s : State) (ev : Sig → Option Bool) (i : Nat) (portB second : Bool) (n : Nat) : Option Bool :=
  s.wire ev (cstHank i ((if portB then 2 else 0) + if second then 1 else 0)) n

/-- What a port does in the pulse (R128). -/
inductive PortAct where
  | idle | read | write
deriving DecidableEq, Repr

/-- The act of a port, from its EN and WE taps. 02 R36 names the step from the address taps to the read data and says nothing of
these two: the model takes them for steps as well, so a path through EN or WE back to its knot is a loop (DESIGN CHOICE, log entry
151). -/
def State.portAct (s : State) (ev : Sig → Option Bool) (i : Nat) (portB : Bool) : Option PortAct :=
  let cfg := s.cstCfg i
  if !cstActive cfg portB s.win.strand then some .idle
  else match s.cstTap ev i portB false 12 with
    | none => none
    | some false => some .idle
    | some true =>
      if cstRatio cfg < 2 then (s.cstTap ev i portB false 13).map fun w => if w then .write else .read
      else if portB then some .read
      else (s.cstTap ev i portB false 13).map fun w => if w then .write else .idle

/-- Address bits of a ratio (R122). -/
def cstAddrBits (ratio : Nat) : Nat :=
  match ratio with
  | 0 => 11 | 1 => 12 | 2 => 10 | _ => 9

/-- a_eff of a tapped address (R128). -/
def cstEff (cfg : Nat) (portB : Bool) (strand a : Nat) : Nat :=
  let d := cstDepth (cstRatio cfg)
  (a + cstBank cfg portB strand * (d / 8)) % d

/-- Rows of a port address, in order (R122). -/
def cstRows (ratio a : Nat) : List Nat :=
  match ratio with
  | 0 => [a]
  | 1 => [a / 2]
  | 2 => [2 * a, 2 * a + 1]
  | _ => [4 * a, 4 * a + 1, 4 * a + 2, 4 * a + 3]

/-- The effective address at a port's taps. -/
def State.portAddr (s : State) (ev : Sig → Option Bool) (i : Nat) (portB : Bool) : Option Nat :=
  let cfg := s.cstCfg i
  (tapsNat ((List.range (cstAddrBits (cstRatio cfg))).map fun n => s.cstTap ev i portB false n)).map
    (cstEff cfg portB s.win.strand)

/-- What a read of a port delivers: its address and its rows as decoded; `some none` where it does not read (R127, R130). -/
def State.portRead (s : State) (ev : Sig → Option Bool) (i : Nat) (portB : Bool) : Option (Option (Nat × List LightRead)) :=
  match s.portAct ev i portB with
  | none => none
  | some .read =>
    (s.portAddr ev i portB).map fun a => some (a, (cstRows (cstRatio (s.cstCfg i)) a).map fun r => lightDecode (s.cstRow i r))
  | some _ => some none

/-- Bit f of what a port's read puts on one hank (R126). -/
def portFeed (ratio q f : Nat) (a : Nat) (rs : List LightRead) : Bool :=
  let row (k : Nat) : Word18 := (rs.getD k ⟨.clean, 0⟩).data
  let poison := rs.any (·.poisoned)
  match ratio with
  | 0 => if q % 2 = 0 then (row 0).getLsbD f else decide (f = 0) && poison
  | 1 => if q % 2 = 0 then decide (f < 9) && (row 0).getLsbD (f + 9 * (a % 2)) else decide (f = 0) && poison
  | 2 => if q = 0 then decide (f = 0) && poison else if q = 1 then false else (row (q - 2)).getLsbD f
  | _ => (row q).getLsbD f

/-- The feed is named for the ratio: every other delivers 0 (R126). -/
def feedNamed (ratio q f : Nat) : Bool :=
  match ratio with
  | 0 => q % 2 = 0 || decide (f = 0)
  | 1 => (q % 2 = 0 && decide (f < 9)) || (q % 2 = 1 && decide (f = 0))
  | 2 => (q = 0 && decide (f = 0)) || decide (2 ≤ q)
  | _ => true

/-- Plot feed f of hank q of a cistern (R126). -/
def State.cstFeed (s : State) (ev : Sig → Option Bool) (i q f : Nat) : Option Bool :=
  let ratio := cstRatio (s.cstCfg i)
  let portB := decide (2 ≤ ratio) || decide (2 ≤ q)
  if !feedNamed ratio q f then some false
  else match s.portRead ev i portB with
  | none => none
  | some none => some false
  | some (some (a, rs)) => some (portFeed ratio q f a rs)

/-! ### Offtakes (08 R200) -/

/-- The plot is the host plot of its weir's offtake (02 R45). -/
def isHostPlot (plot : Nat) : Bool := plot / 40 % 4 = 1 && plot % 40 % 4 = 1

/-- Number of the coming pulse: turn count times L, and the strand. -/
def State.pulseNo (s : State) : Nat := s.win.turnCount * s.fab.turnLen + s.win.strand

/-- Reads that an offtake holds. R201 bounds them by 64; one that failed at issue is presented as well (R199) and is not counted among
them (DESIGN CHOICE, log entry 154). -/
def NodeRec.readsHeld (x : NodeRec) : Nat := (x.reads.filter fun r => !r.failed).length

/-- Reads of an offtake in the order in which they are presented, with the pulse at which each begins (08 R200). -/
def NodeRec.schedule (x : NodeRec) (now : Nat) : List (OtkRead × Nat) :=
  ((sortBy (fun r => r.due) x.reads).foldl (fun (a : List (OtkRead × Nat) × Nat) r =>
    let b := max r.due a.2
    (a.1 ++ [(r, b)], b + r.units)) ([], now - x.unit)).1

/-- The read that the coming pulse presents (08 R200). -/
def NodeRec.presenting (x : NodeRec) (now : Nat) : Option OtkRead :=
  match x.schedule now with
  | (r, b) :: _ => if b ≤ now then some r else none
  | [] => none

/-- Bit f of row hy of hank column 0 for unit u of a read (08 R199, R200). -/
def OtkRead.feed (r : OtkRead) (u hy f : Nat) : Bool :=
  match r.data with
  | none => false
  | some (st, ws) =>
    let good := decide (st = .ok) || decide (st = .poison)
    let unit := (ws.drop (8 * u)).take 8
    if hy < 8 then good && (unit.getD hy {}).data.getLsbD f
    else if hy ≠ 8 then false
    else if f = 0 then true
    else if f = 1 then !good || unit.any (·.poison)
    else if f < 6 then st.code.testBit (f - 2)
    else if f < 10 then u.testBit (f - 6)
    else decide (f = 10) && decide (u + 1 = r.units)

/-- Feed of an offtake (08 R200, R202). -/
def State.otkFeed (s : State) (plot hy f : Nat) : Bool :=
  let x := s.nodeAt (plotNode plot)
  match x.presenting s.pulseNo with
  | some r => r.feed x.unit hy f
  | none => false

/-! ### Lane slots (11 R282, R283) -/

/-- Slot bit of lane 4h + m of a group at wire w of hank row hy, in this strand: the link and the bit's number (11 R282). -/
def State.slotBit (s : State) (g h hy wire : Nat) : Option (Nat × Nat) :=
  let lane := 4 * h + hy / 4
  match s.linkOfLane g lane with
  | none => none
  | some i =>
    let q := 18 * (hy % 4) + wire
    some (i, 72 * ((lane - (s.linkAt i).first) * s.fab.turnLen + s.win.strand) + q)

/-- Feed of a lane slot landing: the neighbour's value of the same strand of the turn before (11 R283); 0 while the lane group is
powered down (02 R46, 17 R417). -/
def State.slotFeed (s : State) (g h hy f : Nat) : Bool :=
  if !s.domRun (20 + g) then false
  else match s.slotBit g h hy f with
  | none => false
  | some (i, b) =>
    let x := s.linkAt i
    let bs := slotBits s.fab.turnLen x.slotInBits s.win.strand
    match bs.findIdx? (· = b), x.slotIn.find? fun v => v.turn + 1 = s.win.turnCount && v.strand = s.win.strand with
    | some k, some v => v.bits.testBit k
    | _, _ => false

/-! ### User I/O (12 R306, R307, R309) -/

/-- Landing plot of a bank (12 R306). -/
def bankPlot (b : Nat) : Nat := if b < 10 then plotIx 0 (6 * b + 3) 2 else plotIx 0 (6 * (b - 10) + 3) 37

/-- The bank whose landing a plot is. -/
def plotBank (plot : Nat) : Option Nat := (List.range 20).find? fun b => bankPlot b = plot

/-- The bank exchanges signals with the fabric: used, released, its supply good (12 R310, 10 R240). -/
def State.bankLive (s : State) (b : Nat) : Bool := s.bankUsed b && s.fab.outFree && !s.io.dead.contains b

/-- K_in in use (05 R115). -/
def State.inEff (s : State) : Nat :=
  if s.inArray then max s.win.kIn.toNat (s.win.lead.toNat + 1) else s.win.kIn.toNat

/-- Data bits of an entry of a free-running bank (12 R308). -/
def frBits (bank : W32) : Nat := if bank.getLsbD 7 then 176 else 184

/-- Feed of a bank's landing (12 R307, R309). A free-running bank presents in the whole turn what its FIFOs held as it began (03 R65,
R69). -/
def State.bankFeed (s : State) (b hy f : Nat) : Bool :=
  if !s.bankLive b then false
  else if s.bankFree b then
    let v := tget s.io.frView {} b
    if f < 12 then decide (12 * hy + f < frBits (s.bankCfg b)) && v.entry.testBit (12 * hy + f)
    else if hy = 0 ∧ f = 12 then v.valid
    else if hy = 0 ∧ f = 13 then v.full
    else false
  else if 3 ≤ f then false
  else
    let p := 3 * hy + f
    let w := s.pinCfg b p
    if (field w 0 2 = 1 ∨ field w 0 2 = 3) ∧ ownPin w p then
      match (tget s.io.samples [] b).find? fun v => v.turn + s.inEff = s.win.turnCount with
      | some v => v.pins.getLsbD p
      | none => false
    else false

/-- A Flume channel's fabric event input: feed 17 of hank (15, c mod 16) of the landing plot of bank c div 16 (12 R306). -/
def State.eventFeed (s : State) (b hy : Nat) : Bool := decide (b < 2) && (s.flmAt (16 * b + hy)).evtNow

/-- Feed of hank column 15 of a Tier A plot (02 R45). -/
def State.landFeed (s : State) (plot hy f : Nat) : Bool :=
  match plotBank plot with
  | some b => if f = 17 then s.eventFeed b hy else s.bankFeed b hy f
  | none =>
    let px := plot / 40 % 64
    let py := plot % 40
    if px % 4 = 2 ∧ (py = 19 ∨ py = 20) then s.slotFeed (px / 4) (py - 19) hy f else false

/-- Plot feed f of a hank (02 R44 to R46). -/
def State.feed (s : State) (ev : Sig → Option Bool) (hank f : Nat) : Option Bool :=
  let plot := hank / 256
  let hx := hank % 16
  let hy := hank / 16 % 16
  if hx = 7 ∨ hx = 8 then s.cstFeed ev (plot * 8 + hy / 2) (2 * (hx - 7) + hy % 2) f
  else if hx = 0 ∧ isHostPlot plot then some (s.otkFeed plot hy f)
  else if hx = 15 ∧ plot < 2560 then some (s.landFeed plot hy f)
  else some false

/-! ### Splices (04 R72, R77, R79, R86) -/

/-- The carrier whose copy the receiver takes (04 R79). -/
def ChanRec.taking (r : ChanRec) : Carrier :=
  match r.st, r.shadow with
  | .shadowed, some k => if r.taken then k else r.carrier
  | _, _ => r.carrier

/-- F in use of the path of a channel's pair; a path without a route never has a channel in fallback (04 R86, R87). -/
def State.chanF (s : State) (c : Nat) : Nat := (s.pathF (pairPath (chanPair c)) s.inArray).getD 0

/-- Signal p that a hank receives on logical coupler m div 2 (04 R72): 0 from a channel that no strand drives (R84). `wrong` are the carriers whose refresh differs from
the keeper in this pulse: what they deliver at its end was wrong (04 R77). -/
def State.spliceIn (s : State) (wrong : List Nat) (ev : Sig → Option Bool) (hank m : Nat) : Option Bool :=
  let c := chanInto hank (m / 2)
  let r := s.spl.chanAt c
  if r.st = .fallback then s.spl.fallbackValue c (s.chanF c) s.win.turnCount s.win.strand (m % 2)
  else if wrong.contains (carrierKey c r.taking) then (if s.chanUnused c then some false else none)
  else s.wire ev (chanSender c) (80 + m)

/-! ### Sources and drivers (R34, R38) -/

/-- The wire of a kind that ends at a hank. -/
def State.arriving (s : State) (ev : Sig → Option Bool) (hank d r n : Nat) : Option Bool :=
  match wireStart hank d r with
  | some h => s.wire ev h n
  | none => some false

/-- Source i of a hank (R34; ferry latches 03 R54, pattern entries 03 R63). -/
def State.source (s : State) (wrong : List Nat) (ev : Sig → Option Bool) (hank i : Nat) : Option Bool :=
  if i < 64 then
    let k := hank * 16 + i / 4
    match i % 4 with
    | 0 => ev (.out k)
    | 1 => ev (.half k)
    | 2 => some (s.flop k s.win.strand 120)
    | _ => some (s.flop k s.win.strand 128)
  else if i < 96 then
    some (tget (if i % 2 = 0 then s.fab.ferryOut else s.fab.ferryHalf) false (hank * 16 + (i - 64) / 2))
  else if i < 128 then s.arriving ev hank ((i - 96) / 8) 1 (i - 96)
  else if i < 160 then s.arriving ev hank ((i - 128) / 8) 4 (i - 96)
  else if i < 168 then s.arriving ev hank ((i - 160) / 2) 64 (i - 96)
  else if i < 176 then s.arriving ev hank ((i - 168) / 2) 256 (i - 96)
  else if i < 192 then s.spliceIn wrong ev hank (i - 176)
  else if i < 210 then s.feed ev hank (i - 192)
  else if i < 226 then some (s.patternValue (hank / 256) (i - 210))
  else some (decide (i = 255))

/-- Driver n of a hank (R37, R38). -/
def State.driver (s : State) (wrong : List Nat) (ev : Sig → Option Bool) (hank n : Nat) : Option Bool :=
  let k (j : Nat) : Nat := hank * 16 + (n + j) % 16
  let sel := s.fab.driverSel hank n s.win.strand
  if sel < 4 then ev (.out (k (4 * sel)))
  else if sel < 8 then ev (.half (k (4 * (sel - 4))))
  else if sel < 10 then some (s.flop (k (8 * (sel - 8))) s.win.strand 120)
  else if sel < 12 then some (s.flop (k (4 + 8 * (sel - 10))) s.win.strand 128)
  else if sel < 14 then some (tget s.fab.ferryOut false (k (8 * (sel - 12))))
  else if sel = 14 then s.source wrong ev hank (if n < 80 then 96 + n else 96 + 2 * (n - 80))
  else some false

/-- Input b of a knot, or in arithmetic mode for b = 4 its carry in (R28, R30). -/
def State.knotInput (s : State) (wrong : List Nat) (ev : Sig → Option Bool) (knot b : Nat) : Option Bool :=
  let w := s.fab.latchAt knot s.win.strand
  let sel (b : Nat) : Option Bool := s.source wrong ev (knot / 16) (kSelect w b)
  if kFunction w = 2 ∧ b = 4 then
    match kCarryIn w with
    | 0 => s.carryChain ev knot
    | 1 => some false
    | 2 => some true
    | _ => sel 4
  else sel b

/-- OUT, HALF or carry out of a knot: undefined where an input it depends on is (R28 to R31, R36). -/
def State.knotValue (s : State) (wrong : List Nat) (ev : Sig → Option Bool) (knot what : Nat) : Option Bool :=
  let w := s.fab.latchAt knot s.win.strand
  (tapsNat ((List.range 6).map fun b => if kDepends w what b then s.knotInput wrong ev knot b else some false)).map (kFn w what)

/-- One signal, with `ev` giving the others. -/
def State.sigValue (s : State) (wrong : List Nat) (ev : Sig → Option Bool) : Sig → Option Bool
  | .out k => s.knotValue wrong ev k 0
  | .half k => s.knotValue wrong ev k 1
  | .cout k => s.knotValue wrong ev k 2
  | .drv h n => s.driver wrong ev h n

/-- A signal of the coming pulse, by following what it depends on; one that comes back to itself is undefined (R36). The fuel
exceeds the number of signals. -/
def State.evalSig (s : State) (wrong : List Nat) : Nat → List Sig → Sig → Option Bool
  | 0, _, _ => none
  | f + 1, path, g => if path.contains g then none else s.sigValue wrong (s.evalSig wrong f (g :: path)) g

/-- More than the knot outputs, carries and drivers of the device. -/
def sigFuel : Nat := 2 ^ 28

def State.sig (s : State) (wrong : List Nat) (g : Sig) : Option Bool := s.evalSig wrong sigFuel [] g

/-- What a place that samples an undefined value gets: a free value. -/
def State.settle (s : State) (place : Nat) (v : Option Bool) : Bool := v.getD (Config.freeBit s.fresh place)

end Sys2Proof.Machine
end

