-- ==== Sys2Proof/Machine/Pulse.lean ====
section
/-! DEFINITION. One fabric pulse and the turn end (03_strands_turns, 05_window_timing R111 to R119, 06_cisterns R128,
08_leat_network R198 to R202, 11_lanes_gwynior R283, 12_host_ports R307 to R309). -/
namespace Sys2Proof.Machine

/-! ### Sampling points -/

/-- The value of a driver's wire where a block samples it (02 R44, R45). -/
def State.tap (s : State) (wrong : List Nat) (hank n : Nat) : Bool :=
  s.settle (hank * 96 + n) (s.sig wrong (.drv hank n))

/-- A number on taps, least significant first. -/
def bitsNat (l : List Bool) : Nat := l.foldr (fun b a => (if b then 1 else 0) + 2 * a) 0

def State.taps (s : State) (wrong : List Nat) (hank lo k : Nat) : Nat :=
  bitsNat ((List.range k).map fun i => s.tap wrong hank (lo + i))

/-! ### Knots (03 R53, R57) -/

/-- Knots of running plots whose latches of the current strand are not all zero. -/
def State.liveKnots (s : State) : List Nat :=
  (s.fab.latch.filter fun e => decide (e.1 % 8 = s.win.strand) && s.plotRuns (e.1 / 32768)).map (·.1 / 8)

/-- The D source of a flip-flop (02 R32, 03 R57): b is 120 for QA, 128 for QB. -/
def State.dValue (s : State) (wrong : List Nat) (knot b : Nat) : Bool :=
  let w := s.fab.latchAt knot s.win.strand
  s.settle (2 ^ 31 + 4 * knot + (if b = 120 then 0 else 1)) (match w.toNat >>> b % 4 with
    | 0 => s.sig wrong (.out knot)
    | 1 => s.sig wrong (.half knot)
    | 2 => s.source wrong (s.sig wrong) (knot / 16) (kSelect w 4)
    | _ => s.source wrong (s.sig wrong) (knot / 16) (kSelect w 5))

/-- Hanks of running plots that may drive a wire in this strand, or did so last. -/
def State.liveHanks (s : State) : List Nat :=
  let old : List (Nat × Bool) := s.fab.last.filter fun e => decide (e.1 % 8 = s.win.strand) && s.plotRuns (e.1 / 8 / 96 / 256)
  ((s.liveKnots.map (· / 16)) ++ old.map fun (e : Nat × Bool) => e.1 / 8 / 96).eraseDups

/-- End of the pulse in the knots: ferry latches load, pending values are taken, and what the wires carried is kept for a
border (03 R53, R57, 10 R251). -/
def State.pulseKnots (wrong : List Nat) (s : State) : State :=
  let t := s.win.strand
  let ks := s.liveKnots
  let loads (bit : Nat) (g : Nat → Sig) (p : Nat) : List (Nat × Bool) :=
    (ks.filter fun k => (s.fab.latchAt k t).getLsbD bit).map fun k => (k, s.settle (2 ^ 31 + 4 * k + p) (s.sig wrong (g k)))
  let pend (b : Nat) : List (Nat × Option Bool) :=
    (ks.filter fun k => kInUse (s.fab.latchAt k t) b).map fun k => (k * 8 + t, some (s.dValue wrong k b))
  let hs := s.liveHanks
  let wires := hs.flatMap fun h => (List.range 96).map fun n => ((h * 96 + n) * 8 + t, s.tap wrong h n)
  let carries := (hs.filter fun h => h / 16 % 16 = 15).map fun h =>
    (h * 8 + t, s.settle (2 ^ 32 + h) (s.sig wrong (.cout (h * 16 + 15))))
  s.modFab fun f =>
    { f with
      ferryOut := tsetAll false f.ferryOut (loads 116 .out 2)
      ferryHalf := tsetAll false f.ferryHalf (loads 117 .half 3)
      pendA := tsetAll none f.pendA (pend 120)
      pendB := tsetAll none f.pendB (pend 128)
      last := tsetAll false f.last wires
      lastCarry := tsetAll false f.lastCarry carries }

/-! ### Cisterns (06 R128, R129, R139) -/

/-- Data and mask of a write, by row (06 R122, R125). -/
def cstWrites (ratio a d : Nat) : List (Nat × Word18 × Word18) :=
  match ratio with
  | 0 => [(a, BitVec.ofNat 18 d, BitVec.allOnes 18)]
  | 1 => [(a / 2, BitVec.ofNat 18 (d % 512 * 512 ^ (a % 2)), BitVec.ofNat 18 (511 * 512 ^ (a % 2)))]
  | 2 => (List.range 2).map fun k => (2 * a + k, BitVec.ofNat 18 (d >>> (18 * k)), BitVec.allOnes 18)
  | _ => (List.range 4).map fun k => (4 * a + k, BitVec.ofNat 18 (d >>> (18 * k)), BitVec.allOnes 18)

/-- The accesses of one port of a cistern in the pulse. -/
def State.portAccs (s : State) (wrong : List Nat) (i : Nat) (portB : Bool) : List PortAcc :=
  let cfg := s.cstCfg i
  let ratio := cstRatio cfg
  let h1 := cstHank i (if portB then 2 else 0)
  let h2 := cstHank i (if portB then 3 else 1)
  let req := if portB then 1 else 0
  if !cstActive cfg portB s.win.strand || !s.tap wrong h1 12 then []
  else
    let we := s.tap wrong h1 13
    let write := if ratio < 2 then we else !portB && we
    let a := cstEff cfg portB s.win.strand (s.taps wrong h1 0 (cstAddrBits ratio))
    if write then
      if !s.fab.weFree then []
      else
        let d := s.taps wrong h1 16 36 + 2 ^ 36 * s.taps wrong h2 16 36
        (cstWrites ratio a d).map fun w => { cistern := i, row := w.1, req := req, write := some w.2 }
    else if 2 ≤ ratio ∧ !portB then []
    else (cstRows ratio a).map fun r => { cistern := i, row := r, req := req, write := none }

/-- The fabric's accesses of the pulse, port A before port B in each cistern. -/
def State.fabricAccs (s : State) (wrong : List Nat) : List PortAcc :=
  (tkeys s.cst.cfg).flatMap fun i =>
    if s.plotRuns (cstPlot i) then s.portAccs wrong i false ++ s.portAccs wrong i true else []

/-! ### Promises (05 R111 to R116) -/

/-- Low 13 bits of P0 of code 0x0204 (13 R325). -/
def LateSrc.code : LateSrc → Nat
  | .offtake n => 16 * n
  | .fallback p => 1 + 16 * p
  | .ioBank b => 2 + 16 * b

/-- A promise is raised to λ + 1: logged once for each source (05 R115). -/
def State.promiseRaised (src : LateSrc) (old new : Nat) (s : State) : State :=
  if s.win.raised.contains src then s
  else ((s.log 0x0207 false false (w32 src.code) (w32 old) (w32 new)).winEvt 7).modWin fun w =>
    { w with raised := w.raised ++ [src] }

/-- Units of free write queue that an offtake needs (08 R201). -/
def State.wqNeed (s : State) : Nat := min 256 (s.fab.turnLen * (s.win.lead.toNat + 1))

def NodeRec.wqFree (x : NodeRec) : Nat := 256 - x.wq.length

/-- Input samples of a bank whose due point is strand 0 of a turn and which have not reached the Tier (05 R111, R113). -/
def State.inputMissing (s : State) (b turn : Nat) : Bool :=
  s.bankLive b && !s.bankFree b && (tget s.io.samples [] b).any fun v => decide (v.turn + s.inEff = turn) && !v.here

/-- Deliveries due at a pulse that are not complete (05 R111, R113, 08 R200, R201, 04 R86). -/
def State.lateAt (s : State) (p : Nat) : List LateSrc :=
  let now := s.pulseNo
  let otk := (s.leat.node.filter fun e =>
      decide (e.1 < 320) && s.plotRuns (hostPlot e.1) &&
      ((e.2.schedule now).any (fun r => decide (r.2 ≤ p) && decide (p < r.2 + r.1.units) && r.1.data.isNone)
        || (e.2.wqDue.contains p && decide (e.2.wqFree < s.wqNeed)))).map fun e => LateSrc.offtake e.1
  let fb := if p % s.fab.turnLen ≠ 0 then [] else
    ((tkeys (s.spl.chan.filter fun e => e.2.st = .fallback)).filter fun c =>
      s.spl.fallbackMissing c (s.chanF c) (p / s.fab.turnLen)).map fun c => LateSrc.fallback (pairPath (chanPair c))
  let inp := if p % s.fab.turnLen ≠ 0 then [] else
    ((List.range 20).filter fun b => s.inputMissing b (p / s.fab.turnLen)).map LateSrc.ioBank
  otk ++ fb.eraseDups ++ inp

def State.devBit (s : State) : W32 := 1#32 <<< s.lnk.devNum.toNat

/-- A stall notice of this device for a due point (05 R114). -/
def State.raiseNotice (d : Due) (srcs : List LateSrc) (s : State) : State :=
  if srcs.isEmpty then s
  else
    let s := s.mergeNotice d false s.devBit
    s.modWin fun w => { w with notices := w.notices.map fun n =>
      if n.due = d then { n with srcs := (n.srcs ++ srcs).eraseDups } else n }

/-- Due points named by this device are resumed when their deliveries are complete (05 R116). -/
def State.resumeOwn (s : State) : State :=
  s.modWin fun w => { w with notices := w.notices.map fun n =>
    if n.notice &&& s.devBit ≠ 0 ∧ n.resume &&& s.devBit = 0 ∧ (s.lateAt (n.due.turn * s.fab.turnLen + n.due.strand)).isEmpty
    then { n with resume := n.resume ||| s.devBit } else n }

/-- The notice that names the coming pulse. -/
def State.noticeNow (s : State) : Option Notice :=
  s.win.notices.find? fun n => n.due = ⟨s.win.turnCount, s.win.strand⟩

/-- The fabric is to stall before the coming pulse, or may not leave its stall: a delivery is not complete, a notice that names the
point has no resume, or the stall of a named point has not been taken at all, which every device takes even where the
delivery has completed since (05 R113, R114, R116). -/
def State.mustStall (s : State) : Bool :=
  !(s.lateAt s.pulseNo).isEmpty ||
  match s.noticeNow with
  | some n => n.notice &&& ~~~n.resume ≠ 0 || (n.notice ≠ 0 && !n.taken)
  | none => false

/-- A late event (05 R113, R120). -/
def State.logLate (src : LateSrc) (pulses : Nat) (s : State) : State :=
  ((s.log 0x0204 false false (w32 src.code) (w32 pulses) 0).winEvt 4).modWin fun w => { w with lateCnt := satInc w.lateCnt }

/-- The stall ends: its late events carry the stamp of the due point (05 R113, R116). -/
def State.endStall (s : State) : State :=
  match s.win.stall with
  | none => s
  | some x =>
    let s := s.modWin fun w => { w with stall := none }
    x.srcs.foldl (fun s src => s.logLate src x.pulses) s

/-- The fabric stalls: who is late is noted at once (05 R113, R114). -/
def State.beginStall (s : State) : State :=
  let own := match s.noticeNow with | some n => n.srcs | none => []
  let srcs := (own ++ s.lateAt s.pulseNo).eraseDups
  s.modWin fun w =>
    { w with
      stall := some { due := ⟨w.turnCount, w.strand⟩, srcs := srcs }
      notices := w.notices.map fun n => if n.due = ⟨w.turnCount, w.strand⟩ then { n with taken := true } else n }

/-- One pulse period is held by a stall; a service access that was to take port B's place in the pulse takes place in the period (06
R135). -/
def State.heldPulse (s : State) : State :=
  (s.cstPulseEnd []).modWin fun w =>
    { w with
      stallNow := satInc w.stallNow
      stall := w.stall.map fun x => { x with pulses := x.pulses + 1 } }

/-! ### Pacing and slots (05 R114, R118, 11 R284) -/

/-- Every active link has reported the beginning of the turn before; a link that has gone down is waited for (05 R114, 11 R278). -/
def State.paced (s : State) : Bool :=
  !s.inArray || s.win.strand ≠ 0 || s.win.turnCount = 0 ||
  (List.range 16).all fun i =>
    let x := s.linkAt i
    !x.active || x.nbSeen && decide ((x.nbTurn + 1 - w32 s.win.turnCount).toNat < 2 ^ 31)

/-! ### The beginning of a turn -/

/-- Levels of a bank's input pins at the beginning of a turn: a pin that the device drives shows that level; where the outside
shows another, the sample is undefined (12 R307). -/
def State.pinSample (s : State) (o : PulseObs) (b : Nat) : BitVec 48 :=
  let en := if s.pinsFloat then 0 else tget s.io.enable 0 b
  let v := tget s.io.value 0 b
  match o.pins.find? fun e => e.1 = b with
  | none => v &&& en
  | some e => (List.range 48).foldl (fun (a : BitVec 48) p =>
      let x := if en.getLsbD p then
          (if v.getLsbD p = e.2.getLsbD p then v.getLsbD p else Config.freeBit s.fresh (2 ^ 33 + 48 * b + p))
        else e.2.getLsbD p
      if x then a ||| (1#48 <<< p) else a) 0

/-- The Sill samples the inputs of turn-aligned banks (05 R119); a sample that further resends hold up is not at its landing yet (01
R21). A free-running landing takes what it presents in the turn (12 R309, 03 R69). -/
def State.sampleInputs (o : PulseObs) (s : State) : State :=
  (List.range 20).foldl (fun (s : State) b =>
    if !s.bankLive b then s
    else if s.bankFree b then
      let q := tget s.io.inF [] b
      s.modIo fun io =>
        { io with
          frView := tset io.frView {} b
            { valid := !q.isEmpty, entry := q.headD 0, full := decide (512 ≤ (tget io.outF [] b).length) } }
    else
      let v : InSample := { turn := s.win.turnCount, pins := s.pinSample o b, here := !o.held.contains b }
      s.modIo fun io => { io with samples := tset io.samples [] b ((v :: tget io.samples [] b).take 300) }) s

/-- The oldest sample that has not come is there: the resends keep the frames of a channel in order (01 R21). -/
def oldestCame : List InSample → List InSample
  | [] => []
  | v :: t => if t.any fun x => !x.here then v :: oldestCame t else { v with here := true } :: t

/-- Samples that were held up arrive (01 R21, 05 R112). -/
def State.inputsCome (o : PulseObs) (s : State) : State :=
  o.came.foldl (fun (s : State) b => s.modIo fun io => { io with samples := tmod io.samples [] b oldestCame }) s

/-- The checks that offtakes make at the beginning of a turn (08 R201), and in an array every pending delivery due λ turns
later (05 R114). -/
def State.turnChecks (s : State) : State :=
  let l := s.fab.turnLen
  let m := s.win.turnCount
  let lead := s.win.lead.toNat
  let due := (m + lead) * l
  let s := (tkeys s.leat.node).foldl (fun (s : State) n =>
    let x := s.nodeAt n
    if n < 320 ∧ x.wqFree < s.wqNeed ∧ !x.wqDue.contains due then s.modNode n fun x => { x with wqDue := x.wqDue ++ [due] } else s) s
  let s := if s.inArray then (List.range l).foldl (fun (s : State) t => s.raiseNotice ⟨m + lead, t⟩ (s.lateAt (due + t))) s else s
  -- a CTRL frame at the beginning of every turn (11 R275)
  s.ctrlAll

/-- A turn begins (05 R114, R119, 09 R220, 11 R275). -/
def State.turnBegin (o : PulseObs) (s : State) : State :=
  ((s.sampleInputs o).turnChecks).modFlm FlumeState.turnStart

/-! ### Offtakes (08 R198 to R201) -/

/-- A request that fails a check at issue (08 R199). -/
def State.otkFail (n due dest : Nat) (write : Bool) (st : Status) (s : State) : State :=
  let s := s.niError n st dest (if write then .write else .read)
  let s := if st = .overBudget then (s.modNode n fun x => { x with ovbCnt := satInc x.ovbCnt }).niEvt n 0 else s
  if write then
    (if (s.nodeAt n).wrLogged then s
     else (s.log 0x0704 false false (w32 n) (w32 st.code) 0).modNode n fun x => { x with wrLogged := true })
  else s.modNode n fun x =>
    { x with reads := x.reads ++ [{ seq := x.seq, due := due, units := 1, failed := true, data := some (st, []) }], seq := x.seq + 1 }

/-- The checks at issue, in the order of R197. -/
def State.otkCheck (s : State) (n : Nat) (addr : BitVec 48) (write : Bool) (units : Nat) : Except Status Nat :=
  let x := s.nodeAt n
  match s.sourceCheck n addr with
  | .error st => .error st
  | .ok d =>
    if !(x.srcs.any fun v => v.target = d && v.standing) then .error .noReservation
    else if x.budget ≠ 0xFFFFFF ∧ x.budget.toNat < x.used.toNat + units then .error .overBudget
    else if !write ∧ 64 ≤ x.readsHeld then .error .overrun
    else .ok d

/-- An offtake issues one request (08 R199). -/
def State.otkIssue (n : Nat) (addr : BitVec 48) (write : Bool) (lenM1 d : Nat) (data : Nat) (s : State) : State :=
  let lead := s.win.lead.toNat + 1
  let d1 := max d 1
  let dEff := if s.inArray then max d1 lead else d1
  let s := if !write ∧ d1 < dEff then s.promiseRaised (.offtake n) d dEff else s
  let due := s.pulseNo + dEff * s.fab.turnLen
  let len := if write then lenM1 % 8 + 1 else lenM1 + 1
  let units := if write then 2 else 1
  match s.otkCheck n addr write units with
  | .error st => s.otkFail n due ((destOf addr).getD 0) write st
  | .ok dest =>
    let seq := (s.nodeAt n).seq
    let words : List MWord := if write then (List.range len).map fun k => { data := BitVec.ofNat 18 (data >>> (18 * k)) } else []
    let s := s.modNode n fun x =>
      { x with
        seq := seq + 1
        used := satAdd x.used units
        reads := if write then x.reads else x.reads ++ [{ seq := seq, due := due, units := ceilDiv len 8 }]
        wq := if write then x.wq ++ [seq] else x.wq }
    s.enqueue n { asker := if write then .offtakeWrite seq else .offtakeRead seq, dest := dest, cmd := if write then .write else .read,
                  addr := addr, len := len, words := words }

/-- What an offtake's taps ask for in the pulse (08 R198): address, WE, LEN_M1, D, write data. -/
structure OtkTaps where
  node : Nat
  addr : BitVec 48
  we : Bool
  lenM1 : Nat
  d : Nat
  data : Nat

def State.otkTaps (s : State) (wrong : List Nat) (n : Nat) : Option OtkTaps :=
  let h (q : Nat) : Nat := hankIx (hostPlot n) 0 q
  if !(s.nodeAt n).strandEn.getLsbD s.win.strand || !s.plotRuns (hostPlot n) then none
  else if !s.tap wrong (h 1) 0 then none
  else some
    { node := n, addr := BitVec.ofNat 48 (s.taps wrong (h 0) 0 48), we := s.tap wrong (h 1) 1,
      lenM1 := s.taps wrong (h 1) 2 7, d := s.taps wrong (h 1) 9 8,
      data := s.taps wrong (h 2) 0 48 + 2 ^ 48 * s.taps wrong (h 3) 0 48 + 2 ^ 96 * s.taps wrong (h 4) 0 48 }

def State.otkRequests (s : State) (wrong : List Nat) : List OtkTaps :=
  (tkeys s.leat.node).filterMap fun n => if n < 320 then s.otkTaps wrong n else none

/-- A unit has been presented (08 R200). -/
def State.otkAdvance (s : State) : State :=
  let now := s.pulseNo
  (tkeys s.leat.node).foldl (fun (s : State) n =>
    if n < 320 ∧ s.plotRuns (hostPlot n) then
      s.modNode n fun x =>
        let x := { x with wqDue := x.wqDue.filter fun p => now < p }
        match x.presenting now with
        | none => x
        | some r =>
          if x.unit + 1 < r.units then { x with unit := x.unit + 1 }
          else { x with unit := 0, reads := x.reads.filter fun y => y.seq ≠ r.seq }
    else s) s

/-! ### Landing plots (12 R307, R309, 11 R283) -/

/-- Output value and enable that the pulse takes at a turn-aligned landing (12 R307): an output pin always drives, a
bidirectional pin as its enable says. -/
def State.takeOutputs (s : State) (wrong : List Nat) (b : Nat) : BitVec 48 × BitVec 48 × BitVec 48 :=
  (List.range 48).foldl (fun (a : BitVec 48 × BitVec 48 × BitVec 48) p =>
    let w := s.pinCfg b p
    let dir := field w 0 2
    if (dir = 2 ∨ dir = 3) ∧ ownPin w p ∧ field w 10 3 = s.win.strand then
      let h := hankIx (bankPlot b) 15 (p / 3)
      let m : BitVec 48 := 1#48 <<< p
      (a.1 ||| m, if s.tap wrong h (p % 3) then a.2.1 ||| m else a.2.1,
        if dir = 2 ∨ s.tap wrong h (3 + p % 3) then a.2.2 ||| m else a.2.2)
    else a) (0, 0, 0)

/-- What a free-running landing samples (12 R309). -/
def State.takeFr (s : State) (wrong : List Nat) (b : Nat) : FrSample :=
  let h (q : Nat) : Nat := hankIx (bankPlot b) 15 q
  { rd := s.tap wrong (h 0) 12 && (tget s.io.frView {} b).valid, wr := s.tap wrong (h 0) 13,
    bits := bitsNat ((List.range (frBits (s.bankCfg b))).map fun g => s.tap wrong (h (g / 12)) (g % 12)) }

/-- The landings of the banks in the pulse. -/
def State.pulseBanks (s0 : State) (wrong : List Nat) (s : State) : State :=
  (List.range 20).foldl (fun (s : State) b =>
    if !s0.bankLive b ∨ !s0.plotRuns (bankPlot b) then s
    else if s0.bankFree b then
      (if field (s0.bankCfg b) 4 3 = s0.win.strand then
        s.modIo fun io => { io with sampled := tset io.sampled none b (some (s0.takeFr wrong b)) }
       else s)
    else
      let (m, v, e) := s0.takeOutputs wrong b
      if m = 0 then s
      else s.modIo fun io =>
        { io with
          takenVal := tset io.takenVal 0 b ((tget io.takenVal 0 b &&& ~~~m) ||| v)
          takenEn := tset io.takenEn 0 b ((tget io.takenEn 0 b &&& ~~~m) ||| e) }) s

/-- The slot bits of the strand that a link sends, in ascending order (11 R282, R283). -/
def State.slotSend (s : State) (wrong : List Nat) (i : Nat) : Nat :=
  let x := s.linkAt i
  bitsNat ((slotBits s.fab.turnLen x.slotOutBits s.win.strand).map fun b =>
    let r := b / 72
    let q := b % 72
    let lane := x.first + r / s.fab.turnLen
    let plot := plotIx 0 (4 * x.group + 2) (19 + lane / 4)
    let hank := hankIx plot 15 (4 * (lane % 4) + q / 18)
    match s.wire (s.sig wrong) hank (q % 18) with
    | some v => v
    | none => s.tap wrong hank (q % 18))

/-- SLOT frames of the strand are queued, and the slot values just delivered are given up (11 R283, R284). -/
def State.pulseSlots (s0 : State) (wrong : List Nat) (s : State) : State :=
  let n := s0.win.turnCount
  let t := s0.win.strand
  (List.range 16).foldl (fun (s : State) i =>
    let x := s0.linkAt i
    if !x.valid ∨ !s0.inArray then s
    else
      let q : List SlotVal := if (slotBits s0.fab.turnLen x.slotOutBits t).isEmpty then []
        else [{ turn := n, strand := t, bits := s0.slotSend wrong i }]
      s.modLink i fun x =>
        { x with
          slotQ := x.slotQ ++ q
          slotIn := x.slotIn.filter fun v => !(decide (v.turn + 1 < n) || (decide (v.turn + 1 = n) && decide (v.strand ≤ t))) }) s

/-! ### Splices (04 R74, R77, R85, R87) -/

/-- Values of the forwarded channels in the pulse, as their wires carry them: those of a plot that stands still are held (04 R87, 10
R251). -/
def State.pulseDriven (s0 : State) (wrong : List Nat) (s : State) : State :=
  s0.spl.forwarded.foldl (fun (s : State) c =>
    let h := chanSender c
    let bit (p : Nat) : Nat :=
      let n := 80 + 2 * chanCoupler c + p
      if (s0.wire (s0.sig wrong) h n).getD (s0.tap wrong h n) then 2 ^ (2 * s0.win.strand + p) else 0
    s.modSpl fun x => { x with driven := tmod x.driven 0 c fun v => v ||| BitVec.ofNat 16 (bit 0 + bit 1) }) s

/-- Refreshes at the end of the pulse, after which a shadow has carried one (04 R74, R76, R77, R79). -/
def State.pulseRefresh (o : PulseObs) (t : Stamp) (s : State) : State :=
  (s.modSpl SpliceState.markDue).judgeAll false t o.weak o.verr o.drift

/-- The splice fallback sender of a path and direction queues the packet of the turn that ends; an uncarried channel whose plot does not
execute has nothing in it (04 R85, R87). The spec lays out neither the
4 data units nor ADDR, which carries the turn count here (DESIGN CHOICE, log entry 153). -/
def State.sendFallback (path dir : Nat) (s : State) : State :=
  let cs := s.spl.forwarded.filter fun c =>
    pairPath (chanPair c) = path && chanDir c = dir && ((s.spl.chanAt c).st = .fallback || s.plotRuns (chanSender c / 256))
  match s.fallbackRoute path dir with
  | none => s
  | some wps =>
    if cs.isEmpty ∨ !s.leat.fbHeld then s
    else s.modNode (fbSender path dir) fun x =>
      { x with fbOut := x.fbOut ++
        [{ dest := fbReceiver path dir, src := fbSender path dir, wps := wps, wpi := wpiOf wps 0, cmd := .fallback, len := 32,
           addr := BitVec.ofNat 48 s.win.turnCount, words := (s.spl.fallbackWords cs).map fun w => { data := w } }] }

/-- The turn's fallback packets of every path that carries channels (04 R85). -/
def State.sendFallbacks (s : State) : State :=
  ((s.spl.forwarded.map fun c => (pairPath (chanPair c), chanDir c)).eraseDups).foldl (fun s e => s.sendFallback e.1 e.2) s

/-! ### The turn end -/

/-- The pending value that a flip-flop takes; b is 120 for QA, 128 for QB. One that an upset put into use after its strand's pulse of the
turn has none (03 R57 takes it in that pulse): the spec is silent, and it takes a free value (DESIGN CHOICE, log entry 151). -/
def State.pendValue (s : State) (b key : Nat) : Bool :=
  (tget (if b = 120 then s.fab.pendA else s.fab.pendB) none key).getD
    (Config.freeBit s.fresh (2 ^ 34 + 2 * key + if b = 120 then 0 else 1))

/-- The commit (03 R58): flip-flops in use whose entry is 1 take their pending values, all at one instant. -/
def State.commitTurn (s : State) : State :=
  if !s.fab.srFree then s.modFab fun f => { f with pendA := [], pendB := [] }
  else
    let es := s.fab.latch.filter fun e => decide (e.1 % 8 < s.fab.turnLen) && s.plotRuns (e.1 / 32768)
    let take (b : Nat) : List (Nat × Bool) :=
      (es.filter fun e => kInUse e.2 b && s.patternValue (e.1 / 32768) (e.2.toNat >>> (b + 2) % 16)).map fun e =>
        (e.1, s.pendValue b e.1)
    s.modFab fun f =>
      { f with
        qa := tsetAll false f.qa (take 120)
        qb := tsetAll false f.qb (take 128)
        pendA := []
        pendB := [] }

/-- A turn-aligned bank shows a frame. -/
def State.showFrame (f : OutFrame) (s : State) : State :=
  let old := (tget s.io.value 0 f.bank, tget s.io.enable 0 f.bank)
  let s := s.modIo fun io =>
    { io with
      value := tset io.value 0 f.bank f.value
      enable := tset io.enable 0 f.bank f.enable
      frames := io.frames.erase f }
  if old = (f.value, f.enable) ∨ s.pinsFloat then s else s.emit (.pins f.bank f.value f.enable)

/-- Banks whose domain has returned resume with their outputs at INIT (12 R310). -/
def State.banksBack (s : State) : State :=
  s.io.back.foldl (fun (s : State) b => s.bankStart b) (s.modIo fun io => { io with back := [] })

/-- Output frames: the frame of this turn is sent, and the oldest frame of each bank that is there and due changes the pins
(05 R119). -/
def State.turnFrames (s : State) : State :=
  let n := s.win.turnCount
  (List.range 20).foldl (fun (s : State) b =>
    if !s.bankLive b ∨ s.bankFree b then s
    else
      let s := if !s.plotRuns (bankPlot b) then s
        else if (List.range 48).any (fun p => let d := field (s.pinCfg b p) 0 2; (d = 2 ∨ d = 3) && ownPin (s.pinCfg b p) p) then
          s.modIo fun io =>
            { io with
              frames := io.frames ++
                [{ bank := b, due := n + s.win.kOut.toNat, value := tget io.takenVal 0 b, enable := tget io.takenEn 0 b }] }
        else s
      match s.io.frames.find? fun f => f.bank = b with
      | some f => if f.here ∧ f.due ≤ n then s.showFrame f else s
      | none => s) s

/-- A drop of a free-running FIFO: the first in each window is logged (12 R309). -/
def State.frDrop (b : Nat) (out : Bool) (s : State) : State :=
  if (if out then s.io.outDrop else s.io.inDrop).contains b then s
  else (s.log 0x0B02 false false (w32 b) (if out then 1 else 0) 0).modIo fun io =>
    if out then { io with outDrop := b :: io.outDrop } else { io with inDrop := b :: io.inDrop }

/-- Free-running banks act on what they sampled (12 R309). -/
def State.turnFr (s : State) : State :=
  s.io.sampled.foldl (fun (s : State) e =>
    match e.2 with
    | none => s
    | some v =>
      let b := e.1
      let s := if v.rd then s.modIo fun io => { io with inF := tmod io.inF [] b fun l => l.drop 1 } else s
      if !v.wr then s
      else if 512 ≤ (tget s.io.outF [] b).length then s.frDrop b true
      else s.modIo fun io => { io with outF := tmod io.outF [] b fun l => l ++ [v.bits] })
    (s.modIo fun io => { io with sampled := [] })

/-- The frame that a repair writes comes from the running configuration: logged, counted, and stuck after three sweeps of
sixteen (10 R254, R255). -/
def State.repairFrame (fr : Nat) (s : State) : State :=
  let ms := s.configOf s.runBank
  match configFrame ms fr with
  | none => s.modImg fun x => { x with fixes := x.fixes.filter fun r => r.frame ≠ fr }
  | some (c, crc) =>
    let s := s.putFrame fr c
    let sw := s.img.sweeps.toNat
    let h := (sw :: tget s.img.history [] fr).eraseDups.filter fun k => sw < k + 16
    let stuck := decide (3 ≤ h.length) && !s.img.stuckFrames.contains fr
    let s := s.modImg fun x =>
      { x with
        crc := tset x.crc none fr (some (w32 crc))
        repairs := satInc x.repairs
        fixes := x.fixes.filter fun r => r.frame ≠ fr
        reported := x.reported.filter (· ≠ fr)
        history := tset x.history [] fr h }
    let s := (s.log 0x0904 false false (frameAddr fr) 0 0).cfgEvt 4
    if stuck then
      ((s.log 0x0906 true false (frameAddr fr) 0 0).cfgEvt 5).modImg fun x =>
        { x with stuck := satInc x.stuck, stuckFrames := fr :: x.stuckFrames }
    else s

/-- Repair frames that have arrived are written (10 R254). -/
def State.writeRepairs (s : State) : State :=
  ((s.img.fixes.filter (·.arrived)).map (·.frame)).foldl (fun s fr => s.repairFrame fr) s

/-- Step 1 of the boundary: the fabric stops, admission closes, and step 2 begins (05 R107). -/
def State.fabricStop (s : State) : State :=
  let s := s.modWin fun w =>
    { w with
      st := .boundary
      step := 2
      item := none
      hold := (w.hold &&& ~~~holdBit holdRun) ||| holdBit holdBoundary }
  (s.modLeat fun l => { l with admission := false }).sendDrains

/-- Give up notices whose point has passed and which every link has carried (05 R114). -/
def State.pruneNotices (s : State) : State :=
  s.modWin fun w => { w with notices := w.notices.filter fun n =>
    !(decide (n.due.turn < w.turnCount) && s.upLinks.all fun i => (s.linkAt i).sentFor n.due = (n.notice, n.resume)) }

/-- The end of a turn (03 R55, R58, R67, 05 R93, R107): commit, ferry latches, fallback packets, pins, repairs, clock stops, and the
boundary after the last turn. -/
def State.turnEnd (s : State) : State :=
  let s := s.commitTurn
  let s := s.modFab fun f => { f with ferryOut := [], ferryHalf := [] }
  let s := s.sendFallbacks.modSpl SpliceState.nextTurn
  let s := s.turnFrames.turnFr.banksBack
  let s := s.writeRepairs
  let s := s.modWin fun w =>
    { w with
      strand := 0
      turnCount := (w.turnCount + 1) % 2 ^ 64
      turn := w.turn + 1 }
  let s := s.pruneNotices.takeStops
  if s.win.turn.toNat = s.turns % 2 ^ 32 then s.fabricStop
  -- the 5 ms of an orderly stop have passed within the window (17 R433 item 3)
  else if s.thm.stopping ∧ s.fab.clockStop.contains stopThermal then s.thermalStop true
  else s

/-! ### The pulse -/

/-- What the blocks do in a pulse (03 R48): every block samples the wires as the state before it gives them. -/
def State.pulseBody (o : PulseObs) (s : State) : State :=
  let s := if s.win.strand = 0 then s.turnBegin o else s
  let s0 := (s.modSpl SpliceState.takeDue).freshen
  let wrong := o.verr
  let t := s0.stamp
  let reqs := s0.otkRequests wrong
  let accs := s0.fabricAccs wrong
  let s := s0.pulseKnots wrong
  let s := s.cstPulseEnd accs
  let s := s0.pulseDriven wrong (s0.pulseSlots wrong (s0.pulseBanks wrong s))
  let s := s.otkAdvance
  let s := reqs.foldl (fun (s : State) r => s.otkIssue r.node r.addr r.we r.lenM1 r.d r.data) s
  (s.pulseRefresh o t).freshen

/-- The pulse executes the current strand, and the next strand or the turn end follows (03 R48, R55). -/
def State.pulseRun (o : PulseObs) (s : State) : State :=
  let s := s.pulseBody o
  if s.win.strand + 1 < s.fab.turnLen then s.modWin fun w => { w with strand := w.strand + 1 }
  else s.turnEnd

/-- One pulse period while the window runs: a stall or slot wait holds the pulse, else it executes (05 R113 to R118). -/
def State.pulse (o : PulseObs) (s : State) : State :=
  let s := s.inputsCome o
  let s := if s.inArray then s.resumeOwn else s
  if s.mustStall then (if s.win.stall.isSome then s else s.beginStall).heldPulse
  else
    let s := s.endStall
    if !s.slotsReady ∨ !s.paced then
      (s.cstPulseEnd []).modWin fun w => { w with slotWait := true, slotNow := satInc w.slotNow }
    else (s.modWin fun w => { w with slotWait := false }).pulseRun o

/-- The splices are judged while an image loads: what is found then is repaired at once (04 R83, 10 R239). -/
def State.loadRefresh (o : PulseObs) (s : State) : State := (s.judgeAll true s.stamp o.weak o.verr o.drift).freshen

/-- CONFIGURATION_UPSET: one bit of a strand latch changes (02 R42). A flip-flop that it takes out of use holds its reset
value (02 R32). -/
def execConfigurationUpset (knot : Nat) (strand : Fin 8) (bit : Fin 160) (s : State) : Host.Outcome State Fault Refusal :=
  .next (if 20971520 ≤ knot then s
    else
      let k := knot * 8 + strand.val
      let w := tget s.fab.latch 0 k ^^^ (1#160 <<< bit.val)
      s.modFab fun f =>
        { f with
          latch := tset f.latch 0 k w
          qa := if kInUse w 120 then f.qa else tset f.qa false k (w.getLsbD 126)
          qb := if kInUse w 128 then f.qb else tset f.qb false k (w.getLsbD 134) })

/-- STALL_END: the first pulse boundary after the deliveries due are complete and every notice is resumed (05 R113, R116). -/
def execStallEnd (s : State) : Host.Outcome State Fault Refusal :=
  let s := if s.inArray then s.resumeOwn else s
  .next (if s.win.st = .running ∧ s.win.stall.isSome ∧ !s.mustStall then s.endStall else s)

/-- LONG_STALL: a stall has lasted longer than WIN_STALL_LIMIT (05 R117). -/
def execLongStall (s : State) : Host.Outcome State Fault Refusal :=
  .next (match s.win.stall with
    | some x =>
      if x.long ∨ s.win.stallLimit = 0 then s
      else ((s.log 0x0205 true false (w32 x.due.turn) 0 0).winEvt 5).modWin fun w => { w with stall := some { x with long := true } }
    | none => s)

/-- IO_OUTPUT_FRAME: the oldest frame of a bank on its way reaches the Sill; one that is late is logged (05 R119). -/
def execIoOutputFrame (b : Fin 20) (s : State) : Host.Outcome State Fault Refusal :=
  .next (match s.io.frames.find? fun f => f.bank = b.val && !f.here with
    | none => s
    | some f =>
      let s := s.modIo fun io => { io with frames := io.frames.map fun x => if x = f then { x with here := true } else x }
      if f.due < s.win.turnCount then s.logLate (.ioBank b) 0 else s)

/-- FR_INPUT_ENTRY: the pins of a free-running bank have filled one entry (12 R308, R309). -/
def execFrInputEntry (b : Fin 20) (bits : Nat) (s : State) : Host.Outcome State Fault Refusal :=
  .next (if !s.bankLive b ∨ !s.bankFree b then s
    else if 512 ≤ (tget s.io.inF [] b.val).length then s.frDrop b false
    else s.modIo fun io => { io with inF := tmod io.inF [] b.val fun l => l ++ [bits % 2 ^ frBits (s.bankCfg b)] })

/-- FR_OUTPUT_ENTRY: the pins of a free-running bank take the next entry; while none waits they drive INIT (12 R308, R309). -/
def execFrOutputEntry (b : Fin 20) (s : State) : Host.Outcome State Fault Refusal :=
  .next (if !s.bankLive b ∨ !s.bankFree b then s
    else match tget s.io.outF [] b.val with
      | [] => s
      | e :: t => (s.modIo fun io => { io with outF := tset io.outF [] b.val t }).emit (.frEntry b e))

end Sys2Proof.Machine
end

