-- ==== Sys2Proof/Machine/Sleep.lean ====
section
/-! DEFINITION. Device sleep, Off and wake; the rows of power domains (17_power_thermal R415 to R425). -/
namespace Sys2Proof.Machine

/-! ### Entry (R420, R421) -/

/-- A pending sleep or Off request ends with BUSY (R420, R439, 14 R372). -/
def State.sleepWithdraw (s : State) : State :=
  match s.pwr.pend with
  | none => s
  | some q => ((s.modPwr fun p => { p with pend := none }).pwrEvt 3).postRecord? q.origin stBusy []

/-- Why entry is postponed at this boundary: 0 release buffers, 1 reservations (R420, 05 R109, 08 R196). -/
def State.sleepBlock (s : State) (st : BitVec 2) : Option Nat :=
  if st ≠ 1 ∧ (s.leat.node.any fun e => decide (e.1 < 320) && !e.2.reads.isEmpty) then some 0
  else if (List.range 320).any fun n => (s.nodeAt n).tgt.any fun e =>
      match e.2 with
      | some t => t.src = nodePcie || isLinkNode t.src
      | none => false
  then some 1
  else none

/-- Entry begins (R421): POWER stands, the retention banks take the state, the offtakes stop. -/
def State.sleepBegin (q : SleepReq) (s : State) : State :=
  let s := (List.range 8).foldl (fun (s : State) i =>
    let d := 2 + i
    let cur := s.domSt d
    let s := if cur = .run then s.quadOfftakes d else s
    if q.st ≠ 1 ∧ (cur = .run ∨ cur = .sleep) then s.retSave d else s) s
  (s.modPwr fun p => { p with dev := .entering, pend := none, entry := some q }).setHold holdPower

/-- Step 6h for the device: entry, or a postponement of at most 16 boundaries (R420). -/
def State.sleepStep (counted : Bool) (s : State) : State :=
  match s.pwr.pend with
  | none => s
  | some q =>
    match s.sleepBlock q.st with
    | none => s.sleepBegin q
    | some cause =>
      let n := if counted then q.postponed + 1 else q.postponed
      if 16 ≤ n then (s.log 0x0D05 true false (w32 cause) 0 0).sleepWithdraw
      else s.modPwr fun p => { p with pend := some { q with postponed := n } }

/-- A request for Sleep, Deep sleep or Off: a later one replaces the earlier (R420, R439). It applies at once while the
device is held (14 R345). -/
def State.sleepRequest (st : BitVec 2) (o : Option Origin) (s : State) : State :=
  let s := s.sleepWithdraw.modPwr fun p => { p with pend := some { st := st, origin := o } }
  if s.opAtOnce then s.sleepStep false else s

/-- The state a domain takes when the device enters Sleep or Deep sleep (R413). -/
def sleepState (d : Nat) (deep : Bool) : Option PState :=
  if d = 1 ∨ isQuad d ∨ isMemDom d then some (if deep then .deep else .sleep)
  else if d = 11 then some .sleep
  else none

/-- The state that a domain keeps through a device sleep: that to which it would return from a wake on demand, and Run for one
that returns (R417,
R425). -/
def State.domOwn (s : State) (d : Nat) : PState :=
  let st := if isMemDom d then ((s.ctlAt ((domainCtls d).headD 0)).wokenFrom).getD (s.domSt d) else s.domSt d
  if st = .waking then .run else st

/-- One domain goes down with the device, unless it is already in a lower state (R413, R425). -/
def State.domDown (d : Nat) (st : PState) (s : State) : State :=
  let own := s.domOwn d
  let s := s.modDom d fun x => { x with before := match x.before with | some b => some b | none => some own }
  if st.code ≤ (s.domSt d).code % 4 then s
  else
    let s := if isMemDom d then s.memLeave d st else s.setDom d st
    s.modDom d fun x => { x with deepest := x.deepest.lower st }

def State.domsDown (deep : Bool) (s : State) : State :=
  (List.range 20).foldl (fun (s : State) d => match sleepState d deep with
    | some st => if s.domAbsent d then s else s.domDown d st
    | none => s) s

/-- PLLs that stop in Deep sleep: Sill core, Tiers, DDR (R421). -/
def deepPlls : List Nat := [0, 1, 2, 3, 4, 5, 6]

def State.deepClocks (s : State) : State :=
  let s := s.modClk fun c => { c with lock := c.lock &&& ~~~(0x7F : BitVec 25), relock := c.relock &&& ~~~(0x7F : BitVec 25) }
  if s.clk.lkFosc then s else s.muxSwitch { mux := 2, target := 1, loss := true }

/-- A wake that was held begins (R424, R439). -/
def State.wakeHeld (s : State) : State :=
  match s.pwr.wake with
  | none => s
  | some w =>
    let left := s.pwr.dev
    let s := s.modPwr fun p => { p with wake := some { w with left := left }, wakeOn := true, dev := .waking }
    if left = .off then (s.modPwr fun p => { p with pwrEn := true }).emit (.pwrEn true) else s

/-- Entry fails: a sluice does not close (R415, R420). -/
def State.entryFails (q : SleepReq) (s : State) : State :=
  let s := s.modPwr fun p => { p with dev := .run, entry := none, wake := none }
  ((((s.log 0x0D05 true false 2 0 0).pwrEvt 3).postRecord? q.origin stBusy []).acquireStanding).powerSettle

/-- SLEEP_ENTRY_COMPLETE: domain changes of the same boundary are complete, the domains are down and the state is entered; Off drives PWR_EN low (R420, R421). -/
def execSleepEntryComplete (s : State) : Host.Outcome State Fault Refusal :=
  .next (match s.pwr.dev, s.pwr.entry with
    | .entering, some q =>
      let s := s.pwr.changed.foldl (fun (s : State) c => s.domEnd c) s
      if (List.range 9).any fun n => (slcCtls n).any (fun m => s.domRun (ctlDomain m)) && !s.slcIdle n then s.entryFails q
      else
        let deep := decide (q.st ≠ 1)
        let s := s.domsDown deep
        let s := if deep then s.deepClocks else s
        let dev : DevSt := if q.st = 1 then .sleep else if q.st = 2 then .deep else .off
        let s := if q.st = 3 then
            let s := [10, 12, 13, 14, 15, 16, 17, 18, 19].foldl (fun (s : State) d => s.memLeave d .off) s
            (s.modPwr fun p => { p with pwrEn := false, railsGood := false }).emit (.pwrEn false)
          else s
        let s := s.modPwr fun p => { p with dev := dev, entry := none }
        let s := ((s.log 0x0D01 false false (w32 dev.code) 0 0).pwrEvt 0).postRecord? q.origin stOk [w32 q.st.toNat]
        s.wakeHeld
    | _, _ => s)

/-! ### Wake (R422 to R425) -/

/-- A wake source acts, if it is enabled; WAKE always does (R422). -/
def State.wakeBy (src : Nat) (o : Option Origin) (s : State) : State :=
  if src ≠ 5 ∧ !s.pwr.wakeEn.getLsbD src ∨ s.pwr.dev = .run then s
  else
    let s := if src ≠ 5 ∧ s.host.pf0.d3hot ∧ s.host.linkUp then s.emit .pme else s
    let s := match s.pwr.wake with
      | none => s.modPwr fun p => { p with wake := some { src := src, left := p.dev, origin := o } }
      | some w => if w.origin.isNone then s.modPwr fun p => { p with wake := some { w with origin := o } } else s
    if s.pwr.dev = .entering ∨ s.pwr.dev = .waking then s else s.wakeHeld

/-- What WAKE's record and PWR_STATUS give as the last wake source (14 R358). -/
def State.wakeWord (s : State) : W32 := w32 s.pwr.wakeLast.toNat

/-- A wake is complete: it is recorded, POWER clears (R422, R423, R436). -/
def State.wakeEnd (w : Wake) (o : WakeObs) (s : State) : State :=
  let s := s.modPwr fun p =>
    { p with
      dev := .run
      wake := none
      wakeOn := false
      wakeLast := 1#6 <<< w.src
      wakeUs := BitVec.ofNat 24 (min o.us 0xFFFFFF) }
  let s := (s.log 0x0D02 false false (w32 w.src) (w32 w.left.code) (w32 o.us)).pwrEvt 1
  let f := s.pwr
  (s.postRecord? w.origin stOk
    [s.wakeWord, loWord f.retFailA.toNat, hiWord f.retFailA.toNat, loWord f.retFailB.toNat, hiWord f.retFailB.toNat]).powerSettle

/-- A domain returns to the state that the owner gave it (R425). -/
def State.domBack (failing : List Nat) (d : Nat) (s : State) : State :=
  match (s.domAt d).before with
  | none => s
  | some b =>
    let s := if b = .run then
        if isMemDom d then (domainCtls d).foldl (fun s k => s.serveAll k) (s.memRun d)
        else
          let s := if isQuad d then s.quadRestore d failing else s
          (s.setDom d .run).modDom d fun x => { x with deepest := .run }
      else if isMemDom d then s.memLeave d b
      else (s.setDom d b).modDom d fun x => { x with deepest := x.deepest.lower b }
    let o := (s.domAt d).waking
    (s.modDom d fun x => { x with before := none, waking := none }).postRecord? o stOk [w32 b.code]

/-- End of thermal stop: the behaviour of the safe state ends, and the fabric leaves its clock stop (R434, 16 R400). -/
def State.thermalEnd (s : State) : State :=
  let s := s.modThm fun t => { t with stopped := false, stopping := false }
  ((List.range 25).foldl (fun (s : State) p => s.pllLock p) s).safeEnd.endStop stopThermal

/-- DEVICE_WAKE_COMPLETE: the wake order is complete; from Off, once release is (R423 to R425, R434). -/
def execDeviceWakeComplete (o : WakeObs) (s : State) : Host.Outcome State Fault Refusal :=
  .next (match s.pwr.dev, s.pwr.wake with
    | .waking, some w =>
      if w.left = .off then (if s.img.st = .released then s.wakeEnd w o else s)
      else if w.left = .thermal then s.thermalEnd.wakeEnd w o
      else
        let failing := if w.left = .deep then
            o.banks.filter fun b => decide (b < 128) &&
              (List.range 8).any fun i => (quadBanks (2 + i)).contains b && decide ((s.domAt (2 + i)).deepest = .deep)
          else []
        let s := if w.left = .deep then (deepPlls.foldl (fun (s : State) p => s.pllLock p) s).safeEnd else s
        let s := (List.range 20).foldl (fun (s : State) d => s.domBack failing d) s
        let s := if w.left = .deep then s.retReport failing else s
        (s.acquireStanding).wakeEnd w o
    | _, _ => s)

/-- WAKE_TIMER (R422). -/
def execWakeTimer (s : State) : Host.Outcome State Fault Refusal :=
  .next (if s.pwr.timer = 0 then s else s.wakeBy 3 none)

/-- D3HOT_EXIT: pending messages go, and PF0 leaving D3hot is a wake source (12 R296, R297, R422). -/
def execD3hotExit (f : Func) (s : State) : Host.Outcome State Fault Refusal :=
  .next (if (s.host.func f).d3hot then
      let s := (s.modFunc f fun x => { x with d3hot := false }).sendPending f
      if f = .pf0 ∧ s.pwr.dev ≠ .off then s.wakeBy 1 none else s
    else s)

/-- PERST_N_RELEASE: the endpoint leaves reset; in Off it is a wake source (R422, 12 R297). -/
def execPerstNRelease (s : State) : Host.Outcome State Fault Refusal :=
  let s := s.modHost fun h => { h with perst := false }
  .next (if s.pwr.dev = .off then s.wakeBy 1 none else s)

/-- SMBUS_ADDRESS_MATCH: the always-on circuit matches an address in a low-power state (12 R300, R302). The Alert Response
Address does not wake the device. -/
def execSmbusAddressMatch (addr : BitVec 7) (s : State) : Host.Outcome State Fault Refusal :=
  .next (if addr.toNat = 0x5A + s.host.addrSel.toNat then s.wakeBy 0 none else s)

/-! ### Rows of domains -/

/-- MEMORY_WAKE_COMPLETE: a memory domain reaches Run and its held requests are served (07 R161). -/
def execMemoryWakeComplete (d : Fin 9) (s : State) : Host.Outcome State Fault Refusal :=
  let dom := memDomain d
  .next (if s.domSt dom = .waking ∧ !(s.pwr.changed.any fun q => q.dom = dom) then s.memUp dom else s)

/-- A domain other than a quadrant is in Run again. -/
def State.otherUp (d mv : Nat) (s : State) : State :=
  if isMemDom d then s.memUp d
  else
    let s := s.domUp d []
    if isBankDom d then
      (if s.fab.outFree then s.bankReturn (d - 37) mv else s)
    else if isLaneDom d then
      let s := s.modGroup (d - 20) fun g => if s.clk.lock.getLsbD (7 + (d - 20)) then { g with pll := 0 } else g
      if s.released then (List.range 16).foldl (fun (s : State) i =>
        if (s.linkAt i).valid ∧ (s.linkAt i).group = d - 20 then s.train i else s) s else s
    else s

/-- DOMAIN_CHANGE_COMPLETE: a commanded change ends (R415); `mv` is VCCIO of an I/O bank (12 R310). -/
def execDomainChangeComplete (d : Fin 64) (mv : Nat) (s : State) : Host.Outcome State Fault Refusal :=
  .next (match s.pwr.changed.find? fun q => q.dom = d.val with
    | some q => s.domEnd q
    | none => if s.domSt d = .waking ∧ !isQuad d then s.otherUp d mv else s)

/-- QUADRANT_WAKE_COMPLETE: quadrants 0 to 3 of Tier A, then of Tier B (R416, R419, R423). -/
def execQuadrantWakeComplete (q : Fin 8) (banks : List Nat) (s : State) : Host.Outcome State Fault Refusal :=
  let d := 2 + q.val
  .next (if s.domSt d = .waking ∧ !(s.pwr.changed.any fun r => r.dom = d) then s.quadUp d banks else s)

end Sys2Proof.Machine
end

