-- ==== Sys2Proof/Machine/ResetOps.lean ====
section
/-! DEFINITION. What step 6 of the boundary applies beside loads and repairs: capture and restore, die and domain resets, the
pulse rate; and the forced Sill reset (05_window_timing R108, 14_command_reference R369 to R371, 17_power_thermal R432,
18_faults_resets R444 to R447). -/
namespace Sys2Proof.Machine

/-! ### Runs of deep words (07 R142, R143) -/

/-- The pages of a run of words of one region from word `x`: controller, local page, first offset, count. -/
def deepRuns (region : Nat) : Nat → Nat → Nat → List (Nat × Nat × Nat × Nat)
  | 0, _, _ => []
  | fuel + 1, x, len =>
    if len = 0 then []
    else
      let (m, page, off) := locate (BitVec.ofNat 48 (region * 2 ^ 44 + x))
      let k := min len (224 - off)
      (m, page, off, k) :: deepRuns region fuel (x + k) (len - k)

def deepRunsAt (a : BitVec 48) (len : Nat) : List (Nat × Nat × Nat × Nat) :=
  deepRuns (a.toNat / 2 ^ 44) (len / 224 + 2) (a.toNat % 2 ^ 44) len

/-- A run stays in the region of its address, a region of deep memory (14 R370). -/
def State.deepRoom (s : State) (a : BitVec 48) (len : Nat) : Bool :=
  let r := a.toNat / 2 ^ 44
  let x := a.toNat % 2 ^ 44
  if r = 0 then decide (x + len ≤ 2642411520)
  else decide (r ≤ 8) && decide (x + len ≤ 224 * (s.ctlAt (31 + r)).pages (31 + r))

/-- A page with a word that the light code cannot read goes through the page path first (07 R150). -/
def State.mendPage (m page off n : Nat) (why : PathWhy) (s : State) : State :=
  match s.badPage m [(page, off, n)] with
  | some _ => ((s.endRunning m).startPath m page why).endPath m page
  | none => s

/-- Write words of one page, a poisoned word as a poisoned word. -/
def State.deepPutRun (m page off : Nat) (ws : List MWord) (s : State) : State :=
  let (b, k) := burstRun off ws.length
  let s := s.mendPage m page b k .write
  let s := (s.makeRoom m page off ws.length ((s.ctlAt m).ledger.length + 1)).endRunning m
  let s := s.writeRun m page off (ws.map (·.data))
  s.putStored m page (((List.range ws.length).zip ws).filterMap fun (e : Nat × MWord) =>
    if e.2.poison then some (off + e.1, lightPoison e.2.data) else none)

def State.deepPut (a : BitVec 48) (ws : List MWord) (s : State) : State :=
  ((deepRunsAt a ws.length).foldl (fun (acc : State × List MWord) g =>
    (acc.1.deepPutRun g.1 g.2.1 g.2.2.1 (acc.2.take g.2.2.2), acc.2.drop g.2.2.2)) (s, ws)).1

def State.deepGet (a : BitVec 48) (len : Nat) (s : State) : State × List MWord :=
  (deepRunsAt a len).foldl (fun (acc : State × List MWord) g =>
    let s := acc.1.mendPage g.1 g.2.1 g.2.2.1 g.2.2.2 .read
    let (s, rs) := s.readRun g.1 g.2.1 g.2.2.1 g.2.2.2
    let s := s.poisonDelivered g.1 reqCapture ((poisonAt (pageAddr g.1 g.2.1 + g.2.2.1)
      (rs.map fun r => { data := r.data, poison := r.poisoned })))
    (s, acc.2 ++ rs.map fun r => { data := r.data, poison := r.poisoned })) (s, [])

/-! ### Capture and restore (14 R369 to R371) -/

/-- The 16 words of a hank: word 2s holds QA[s] of its knots, word 2s + 1 QB[s] (14 R370). -/
def State.hankWords (s : State) (hank : Nat) : List Word18 :=
  (List.range 8).flatMap fun t => [120, 128].map fun b =>
    BitVec.ofNat 18 ((List.range 16).foldl (fun a k => if s.flop (16 * hank + k) t b then a + 2 ^ k else a) 0)

/-- Slot bit `b` of a link as received for the coming turn (11 R282 to R284); one that has not arrived yet is a free value. -/
def State.slotReceived (s : State) (i b : Nat) : Bool :=
  let x := s.linkAt i
  let t := b / 72 % s.fab.turnLen
  if s.lnk.array ≠ .joined ∨ s.win.turnCount = 0 then false
  else match x.slotIn.find? fun v => v.turn + 1 = s.win.turnCount && v.strand = t with
    | some v => match (slotBits s.fab.turnLen x.slotInBits t).findIdx? (· = b) with
      | some k => v.bits.testBit k
      | none => false
    | none => Config.freeBit s.fresh (2 ^ 20 * i + b)

/-- Words of a link's slot receive buffer: none without a valid entry (14 R370). -/
def LinkRec.slotWords (x : LinkRec) : Nat := if x.valid then ceilDiv x.slotInBits 18 else 0

def State.slotBuffer (s : State) (i : Nat) : List Word18 :=
  let x := s.linkAt i
  (List.range x.slotWords).map fun w =>
    BitVec.ofNat 18 ((List.range 18).foldl (fun a j =>
      if 18 * w + j < x.slotInBits ∧ s.slotReceived i (18 * w + j) then a + 2 ^ j else a) 0)

/-- Responses that offtakes hold through the boundary (05 R109). -/
def State.heldResponses (s : State) : Nat :=
  s.leat.node.foldl (fun n e => if e.1 < 320 then n + e.2.reads.length else n) 0

/-- Effective version of Active (10 R237). -/
def State.activeVersion (s : State) : W32 := (s.img.bank s.img.act).effVersion

def hanksAll : Nat := 1310720

/-- Words of a capture with n cisterns (14 R370). -/
def State.captureLen (s : State) (n : Nat) : Nat :=
  8 + 16 * hanksAll + ((List.range 16).map fun i => (s.linkAt i).slotWords).sum + 2048 * n

def State.captureHead (s : State) (n : Nat) : List Word18 :=
  let c := s.win.cnt.toNat
  let v := s.activeVersion.toNat
  [c % 65536, c / 65536 % 65536, c / 2 ^ 32, s.fab.turnLen, n, s.heldResponses, v % 65536, v / 65536].map (BitVec.ofNat 18 ·)

/-- A row of a cistern as the copy reads it, in a slot of a service read (06 R131, R132, R135). -/
def State.captureRows (cs : List Nat) (s : State) : State × List MWord :=
  cs.foldl (fun (acc : State × List MWord) i => (List.range 2048).foldl (fun (acc : State × List MWord) r =>
    let (s, x) := acc.1.cstRead i r 2
    (s, acc.2 ++ [{ data := x.data, poison := x.poisoned }])) acc) (s, [])

/-- A capture's copy and what its record carries (14 R369). -/
def State.capture (q : CapReq) (s : State) : State × List W32 :=
  let n := q.cisterns.length
  let held := s.heldResponses
  let flat := s.captureHead n ++ (List.range hanksAll).flatMap (fun h => s.hankWords h)
    ++ (List.range 16).flatMap (fun i => s.slotBuffer i)
  let (s, rows) := s.captureRows q.cisterns
  let ws := flat.map (fun d => ({ data := d } : MWord)) ++ rows
  let s := (s.deepPut q.addr ws).modRst fun r => { r with captured := tset r.captured [] q.addr.toNat q.cisterns }
  (s, [w32 ws.length, w32 held, s.wcnt, w32 (s.win.cnt.toNat / 2 ^ 32), w32 (ws.filter (·.poison)).length])

/-- The cisterns of the capture at A: those of the CAPTURE made there; of a capture that this device has not made since
power-on the layout names none, and each is a free value (14 R370, R371). -/
def State.restoreList (s : State) (a : BitVec 48) (n : Nat) : List Nat :=
  let l := tget s.rst.captured [] a.toNat
  if l.length = n then l else (List.range n).map fun k => (Config.freeWord s.fresh k).toNat % 40960

/-- Write the 16 words of a hank back; a poisoned word sets its flip-flops to their reset values (14 R371). -/
def State.restoreHank (hank : Nat) (ws : List MWord) (s : State) : State :=
  s.modFab fun f => (List.range 256).foldl (fun (f : FabricState) i =>
    let t := i / 32
    let qb := decide (16 ≤ i % 32)
    let k := i % 16
    let w := ws.getD (2 * t + if qb then 1 else 0) {}
    let key := (16 * hank + k) * 8 + t
    let l := tget f.latch 0 key
    let base := if qb then 128 else 120
    let v := if w.poison || !kInUse l base then l.getLsbD (base + 6) else w.data.getLsbD k
    if qb then { f with qb := tset f.qb false key v } else { f with qa := tset f.qa false key v }) f

/-- Write the slot receive buffer of a link back. -/
def State.restoreSlots (i : Nat) (ws : List MWord) (s : State) : State :=
  let x := s.linkAt i
  let bit (b : Nat) : Bool := (ws.getD (b / 18) {}).data.getLsbD (b % 18)
  if !x.valid ∨ s.win.turnCount = 0 then s
  else s.modLink i fun x =>
    { x with slotIn := ((List.range s.fab.turnLen).filter fun t => s.slotDue i t).map fun t =>
        { turn := s.win.turnCount - 1, strand := t,
          bits := ((slotBits s.fab.turnLen x.slotInBits t).zip (List.range 4096)).foldl
            (fun a (e : Nat × Nat) => if bit e.1 then a + 2 ^ e.2 else a) 0 } }

/-- The hanks of a capture, in order. -/
def State.restoreHanks (body : List MWord) (s : State) : State :=
  (List.range hanksAll).foldl (fun (s : State) k => s.restoreHank k ((body.drop (16 * k)).take 16)) s

/-- The slot buffers of a capture, and what follows them. -/
def State.restoreLinks (rest : List MWord) (s : State) : State × List MWord :=
  (List.range 16).foldl (fun (acc : State × List MWord) i =>
    let k := (s.linkAt i).slotWords
    (acc.1.restoreSlots i (acc.2.take k), acc.2.drop k)) (s, rest)

/-- The rows of the cisterns of a capture. -/
def State.restoreRows (cs : List Nat) (rest : List MWord) (s : State) : State :=
  (cs.zip (List.range cs.length)).foldl (fun (s : State) (e : Nat × Nat) =>
    ((rest.drop (2048 * e.2)).take 2048).zip (List.range 2048) |>.foldl (fun (s : State) (w : MWord × Nat) =>
      s.putRow e.1 w.2 (if w.1.poison then lightPoison w.1.data else lightEncode w.1.data)) s) s

/-- What stands after the head of a capture: hanks, slot buffers, cistern rows. -/
def State.restoreBody (cs : List Nat) (body : List MWord) (s : State) : State :=
  let p := (s.restoreHanks body).restoreLinks (body.drop (16 * hanksAll))
  p.1.restoreRows cs p.2

/-- A restore whose head has been read (14 R371). -/
def State.restoreFrom (a : BitVec 48) (head : List MWord) (s : State) : State × Nat × List W32 :=
  let h (i : Nat) : Nat := (head.getD i {}).data.toNat
  let n := h 4
  let len := s.captureLen n
  if head.any (·.poison) ∨ h 3 ≠ s.fab.turnLen ∨ h 6 + 65536 * h 7 ≠ s.activeVersion.toNat ∨ !s.deepRoom a len then
    (s, stBadParam, [])
  else
    let p := s.deepGet a len
    (p.1.restoreBody (s.restoreList a n) (p.2.drop 8), stOk, [w32 p.2.length, w32 (p.2.filter (·.poison)).length])

/-- A restore (14 R371): its status and what its record carries. -/
def State.restoreAll (a : BitVec 48) (s : State) : State × Nat × List W32 :=
  let p := s.deepGet a 8
  p.1.restoreFrom a p.2

/-- The controllers that hold a run. -/
def State.deepRuns (s : State) (a : BitVec 48) : Bool :=
  let m := (locate a).1
  decide ((s.ctlAt m).pstate = .run) && s.ctlClocked m

/-- Step 6a begins: CAPTURE stands until the copy is complete (05 R102, R108); memory that sleeps is woken (07 R161). -/
def State.capBegin (q : CapReq) (s : State) : State :=
  ((s.setHold holdCapture).modRst fun r => { r with cap := none, capRun := some q }).wakeMem (locate q.addr).1

/-! ### Reset of the Sill core, a Tier, the Headgate, the Reservoir (18 R444, R446) -/

/-- Reservations held at a node are gone, at their sources too. -/
def State.dropHeldAt (n : Nat) (s : State) : State :=
  let s := (tkeys s.leat.node).foldl (fun (s : State) m =>
    s.modNode m fun x => { x with srcs := x.srcs.filter fun v => v.target ≠ n, retry := x.retry.filter (· ≠ n) }) s
  s.modNode n fun x => { x with tgt := [] }

/-- Reservations that a node holds as source are released at their targets. -/
def State.dropOwn (n : Nat) (s : State) : State := (s.nodeAt n).srcs.foldl (fun (s : State) v => s.releaseRsv n v.target) s

/-- An interface and its weir start empty. Registers stay. -/
def NodeRec.emptied (x : NodeRec) : NodeRec :=
  { x with
    resp := []
    rxReq := []
    rxResp := []
    rxCredit := []
    work := []
    retry := []
    inflight := 0
    notice := none }

/-- The Sill core is reset: weirs, endpoints, Flume, DDR4 controllers; gives the descriptors written back (18 R446). -/
def State.sillReset (s : State) : State × Nat :=
  let (s, k) := s.flumeForced
  let s := (List.range 8).foldl (fun (s : State) i => s.ctlReset (32 + i)) s
  let s := ((List.range 32).map (320 + ·)).foldl (fun (s : State) n =>
    (((s.isolClear n false).dropOwn n).dropHeldAt n).modNode n NodeRec.emptied) s
  (s.modLeat fun l => { l with net := l.net.filter fun t => decide (t.weir < 320) && !decide (320 ≤ t.pkt.dest && t.pkt.dest < 352) }, k)

/-- Interfaces of some Tier nodes are reset: isolation, reservations, queues, release buffers (18 R444). -/
def State.tierNodes (ns : List Nat) (s : State) : State :=
  let s := ns.foldl (fun (s : State) n =>
    let s := (s.isolClear n false).modNode (fbTwin n) NodeRec.fbClear
    ((s.dropOwn n).dropHeldAt n).modNode n fun x =>
      { x.emptied.fbClear with
        reads := []
        unit := 0
        wq := []
        wqDue := []
        discard := []
        reqs := [] }) s
  s.modLeat fun l => { l with net := l.net.filter fun t => !ns.contains t.weir }

/-- Plots of a Tier or quadrant: frames again from the running configuration, flip-flops at their reset values, splice
channels judged anew, standing reservations acquired again (18 R442, R444). -/
def State.tierReset (plots ns : List Nat) (s : State) : State :=
  let s := (s.tierNodes ns).reloadFrames plots
  let s := s.modFab fun f => f.resetFlops fun p => plots.contains p
  let s := s.reviewSplices (fun p => !(s.spl.pairAt p).frozen &&
    (plots.contains (plotIx 0 (pairPx p) (pairPy p)) || plots.contains (plotIx 1 (pairPx p) (pairPy p)))) s.inArray
    s.img.runVersion
  s.acquireStanding

/-- Writing the Staged bank ends with a hardware fault, and so does a verify (18 R444). -/
def State.headgateReset (s : State) : State :=
  let s := s.stageAbort stHwFault
  let o := s.img.readback
  let s := (s.modImg fun x =>
    { x with readback := none, chunkLen := none, stgValid := x.stgValid && o.isNone && x.chunkLen.isNone }).postRecord? o stHwFault []
  match s.img.verify with
  | some (o, _) => (s.modImg fun x => { x with verify := none }).postRecord o stHwFault []
  | none => s

/-- The reset of a die at a boundary (18 R444). -/
def State.dieReset (die : Nat) (s : State) : State :=
  match die with
  | 0 => (s.sillReset.1).acquireStanding
  | 1 =>
    let s := (List.range 32).foldl (fun (s : State) m => s.ctlReset m) s
    ((List.range 32).map (352 + ·)).foldl (fun (s : State) n => s.isolClear n false) s
  | 2 => s.tierReset (List.range 2560) (List.range 160)
  | 3 => s.tierReset ((List.range 2560).map (2560 + ·)) ((List.range 160).map (160 + ·))
  | _ => s.headgateReset

/-- The die whose reset takes a domain with it (18 R445). -/
def domDie (d : Nat) : Option Nat :=
  if d = 1 ∨ (12 ≤ d ∧ d ≤ 19) then some 0
  else if d = 10 then some 1
  else if 2 ≤ d ∧ d ≤ 5 then some 2
  else if 6 ≤ d ∧ d ≤ 9 then some 3
  else if d = 11 then some 4
  else none

/-- The reset of a domain; `mv` is VCCIO of an I/O bank (18 R445). -/
def State.domReset (d mv : Nat) (s : State) : State :=
  if d = 1 then s.dieReset 0
  else if isQuad d then s.tierReset (domPlots d) ((List.range 320).filter fun n => nodeQuad n = d)
  else if d = 10 then s.dieReset 1
  else if d = 11 then s.dieReset 4
  else if isMemDom d then (s.ctlReset (32 + (d - 12))).isolClear (320 + (d - 12)) false
  else if isLaneDom d then
    (List.range 16).foldl (fun (s : State) i =>
      if (s.linkAt i).valid ∧ (s.linkAt i).group = d - 20 then
        ((s.isolClear (nodeLink i) false).modLink i fun x => { x with replay := [], resend := 0, tries := 0 }).linkRetrain i
      else s) (s.modGroup (d - 20) fun g => { g with lock := 0 })
  else if d = 36 then s.endpointReset
  else if isBankDom d then
    let b := d - 37
    let s := (s.bankDown b).modIo fun io => { io with inF := tset io.inF [] b [], outF := tset io.outF [] b [] }
    if s.fab.outFree then s.bankReturn b mv else s
  else s

/-! ### Step 6f -/

/-- The die and domain resets that are pending begin (05 R108, 18 R444, R445): dies first, each in rising number. A domain
that a die's reset takes with it shares that reset; one that is not in Run completes when it next enters Run. A DDR4
controller reads its SPD again, so it is not ready until DDR_TRAINING_COMPLETE. -/
def State.resetBegin (s : State) : State :=
  if s.rst.dies.isEmpty ∧ s.rst.doms.isEmpty then s
  else
    let dies := sortBy (·.unit) s.rst.dies
    let doms := sortBy (·.unit) s.rst.doms
    let inDie (q : ResetReq) : Bool := match domDie q.unit with
      | some d => dies.any fun x => x.unit = d
      | none => false
    let now := doms.filter fun q => inDie q || s.domRun q.unit
    let s := now.foldl (fun (s : State) q =>
      if isMemDom q.unit ∧ q.unit ≠ 10 ∧ !inDie q then s.modCtl (32 + (q.unit - 12)) fun c => { c with ready := false } else s) s
    (s.modRst fun r =>
      { r with
        dies := []
        doms := []
        dieRun := r.dieRun ++ dies
        domRun := r.domRun ++ now
        domLater := r.domLater ++ doms.filter fun q => !(inDie q || s.domRun q.unit) }).setHold holdPower

/-- The resets of step 6f under way are complete. -/
def State.resetsDone (s : State) : Bool := s.rst.dieRun.isEmpty && s.rst.domRun.isEmpty

/-- A domain's reset is complete: its record follows (18 R445, R448). -/
def State.domResetDone (q : ResetReq) (s : State) : State :=
  (s.log 0x1003 false false (w32 q.unit) 0 0).postRecord q.origin stOk []

/-- The reset of a Tier ends the clock stop and the holdover that the loss of its clock couplers brought (01 R23). -/
def State.couplersReset (die : Nat) (s : State) : State :=
  if die = 2 then (s.modVert fun v => { v with holdA := false }).endStop (stopCoupler 0)
  else if die = 3 then (s.modVert fun v => { v with holdB := false }).endStop (stopCoupler 1)
  else s

/-- A die's reset is complete, with that of the domains it took with it (18 R445, R448). -/
def State.dieResetDone (q : ResetReq) (s : State) : State :=
  let s := ((s.dieReset q.unit).couplersReset q.unit).modRst fun r => { r with dieRun := r.dieRun.filter fun x => x.unit ≠ q.unit }
  let s := (s.log 0x1002 true false (w32 q.unit) 0 0).postRecord q.origin stOk []
  let mine := s.rst.domRun.filter fun x => domDie x.unit = some q.unit
  let s := s.modRst fun r => { r with domRun := r.domRun.filter fun x => domDie x.unit ≠ some q.unit }
  mine.foldl (fun (s : State) x => s.domResetDone x) s

/-! ### Step 6g (17 R432, 16 R402) -/

/-- The reduction that step 6g puts in force. -/
def ThermalState.nextReduction (t : ThermalState) : BitVec 6 :=
  if t.reduction.toNat < t.target.toNat then t.target
  else if t.target.toNat < t.reduction.toNat ∧ 10 ≤ t.lows.length then t.lows.foldl (fun (a b : BitVec 6) => if a.toNat < b.toNat then b else a) 0
  else t.reduction

/-- A change of the reduction: THROTTLE stands until the PLLs have relocked (17 R432). -/
def State.throttleBegin (s : State) : State :=
  let r := s.thm.nextReduction
  if r = s.thm.reduction then s
  else
    let s := s.modThm fun t => { t with reduction := r, lows := [] }
    let s := ((s.log 0x0D06 true false (w32 r.toNat) (w32 s.thm.hotT.toNat) (w32 s.thm.hot.toNat)).thmEvt 0).setHold holdThrottle
    s.modRst fun q => { q with rate := some (reducedRate s.fab.pulseKhz r.toNat) }

/-! ### The forced Sill reset (18 R446, R447) -/

def isSill (n : Nat) : Bool := nodeDie n = 2

/-- A response to a Tier request has crossed back to Tier A (18 R446 step 2). -/
def State.crossedBack (s : State) (n : Nat) (r : Request) : Bool :=
  let mine (p : Packet) : Bool :=
    p.src = r.dest && decide (some p.tag = r.lastTag) && (decide (p.cmd = .readResp) || decide (p.cmd = .writeResp))
  (s.nodeAt n).rxResp.any mine || s.leat.net.any fun t => decide (t.weir < 320) && t.pkt.dest = n && mine t.pkt

/-- The requests that complete with PATH_LOST at a node: of a Tier, those to Sill nodes with no response back; of the host's
and the Lockkeeper's endpoints, all (18 R446, R447). -/
def State.lostRequests (s : State) (n : Nat) : List Request :=
  (s.nodeAt n).reqs.filter fun r =>
    if n < 320 then isSill r.dest && !s.crossedBack n r else n = nodePcie || n = nodeLk

/-- A write that completes with PATH_LOST may or may not have been executed (18 R447): a free value for each write that a DDR4
controller holds. -/
def State.lostWrites (s : State) : State :=
  (List.range 8).foldl (fun (s : State) i =>
    let m := 32 + i
    let x := s.nodeAt (ctlNode m)
    let ps := (x.work ++ x.rxReq ++ (s.leat.net.map (·.pkt)).filter fun p => p.dest = ctlNode m).filter fun p =>
      decide (p.cmd = .write) && s.memRange p.addr p.len
    ps.foldl (fun (s : State) p =>
      let s := s.freshen
      if Config.freeBit s.fresh m then s.deepPut p.addr p.words else s) s) s

/-- DIE_RESET of die 0 with FORCE begins as its reply is committed: steps 1 to 5 (18 R446). -/
def State.forceSill (o : Origin) (s : State) : State :=
  let s := (s.clockStop stopForced).lostWrites
  let (s, lost) := (tkeys s.leat.node).foldl (fun (a : State × Nat) n =>
    (a.1.lostRequests n).foldl (fun (a : State × Nat) r => (a.1.failRequest n r .pathLost, a.2 + 1)) a) (s, 0)
  let (s, k) := s.sillReset
  let s := s.modNode nodeFlumeRead fun x => { x with reqs := [] }
  let s := s.modNode nodeFlumeWrite fun x => { x with reqs := [] }
  let s := s.modMem fun x => { x with host := [] }
  let s := s.modHost fun h => { h with reads := h.reads.filter fun r => r.ask = .stage }
  let s := if s.win.st = .boundary then s.modWin fun w => { w with paused := true } else s
  (s.modLeat fun l => { l with gateClosed := true }).modRst fun r =>
    { r with forced := some { origin := o, lost := lost, written := k } }

/-- Transactions from neighbours are answered with PATH_LOST, and credits return to 4,096 (18 R447). -/
def State.linksLost (s : State) : State × Nat :=
  (List.range 16).foldl (fun (a : State × Nat) i =>
    let x := a.1.linkAt i
    let rs := x.serving ++ x.waiting
    let s := a.1.modLink i fun y => { y with serving := [], waiting := [], asked := [], credit := 4096, creditOut := 0 }
    let s := s.modNode (nodeLink i) fun y => { y with reqs := [] }
    (rs.foldl (fun (s : State) r => s.linkRespond i r .pathLost []) s, a.2 + rs.length)) (s, 0)

/-- Step 7: the edge stages open, the clock stop ends, the record is posted (18 R446, R448). -/
def State.forcedEnd (q : Forced) (s : State) : State :=
  let (s, k) := s.linksLost
  let s := ((s.modLeat fun l => { l with gateClosed := false }).modRst fun r => { r with forced := none }).endStop stopForced
  let s := s.acquireStanding
  let s := s.log 0x1004 true true (w32 (q.lost + k)) (w32 q.written) 0
  (s.log 0x1002 true false 0 1 0).postRecord q.origin stOk []

end Sys2Proof.Machine
end

