-- ==== Sys2Proof/Machine/Window.lean ====
section
/-! DEFINITION. Window starts and the boundary sequence (05_window_timing R97 to R110). -/
namespace Sys2Proof.Machine

/-! ### Step 7 (R107, R101, R102) -/

/-- The faults that a boundary closes with become causes of hold reason FAULT (R101, R102, 11 R277, R284). -/
def State.boundaryFaults (s : State) : State :=
  let s := if s.win.faultDue then (s.modWin fun w => { w with faultDue := false }).setCause 0 else s
  let s := if s.vert.holdDue then (s.modVert fun v => { v with holdDue := false }).setCause 1 else s
  let s := if s.lnk.holdDue then (s.modLnk fun l => { l with holdDue := false }).setCause 2 else s
  if s.lnk.seqDue then (s.modLnk fun l => { l with seqDue := false }).setCause 3 else s

/-- The state after step 7: ready, held or not released; a pending edge is taken (R98, R100). -/
def WindowState.leaveBoundary (time : W32) (w : WindowState) : WindowState :=
  let w := { w with st := .held, step := 0, item := none, paused := false, bndTime := time, hold := w.hold &&& ~~~holdBit holdBoundary }
  w.settle.takeEdge

/-- Step 7: the length check, then ready or held; between-window admission opens (R107, R110). An orderly stop now enters
thermal stop (17 R433). The duration of the boundary is a free value. -/
def State.boundaryReady (s : State) : State :=
  let s := (s.dropStopped.modWin fun w => { w with step := 7 }).lengthCheck.boundaryFaults.freshen
  let s := if s.thm.stopping then s.thermalStop false else s
  (s.modWin fun w => w.leaveBoundary (Config.freeWord s.fresh 0)).modLeat fun l => { l with admission := true }

/-! ### Step 6 (R108) -/

def State.atItem (i : Item) (s : State) : State := s.modWin fun w => { w with step := 6, item := some i }

/-- Step 6h: domains and the device begin to leave Run; step 7 follows (17 R415, R420). -/
def State.itemH (s : State) : State := (((s.atItem .h).domStep true).sleepStep true).boundaryReady

/-- Step 6g: the pulse rate (17 R432). -/
def State.itemG (s : State) : State :=
  let s := (s.atItem .g).throttleBegin
  if s.rst.rate.isSome then s else s.itemH

/-- Step 6f: die and domain resets (18 R444, R445). -/
def State.itemF (s : State) : State :=
  let s := (s.atItem .f).resetBegin
  if s.resetsDone then s.itemG else s

/-- Step 6e: WIN_LEN and WIN_STALL_LEAD (R93, R114). -/
def State.itemE (s : State) : State :=
  ((s.atItem .e).modWin fun w => { w with turnsM1 := w.turnsM1Reg, lead := w.leadReg }).itemF

/-- Step 6d, its reconfigurations: a partial commit whose copy was complete when step 6 began, or a join (10 R244, R249, R252). -/
def State.itemD2 (s : State) : State :=
  match s.img.pend with
  | some p =>
    -- what was requested during a load of this boundary waits for the first boundary after release
    if p.atStart ∨ s.img.st ≠ .released then s.itemE
    else if p.kind = .partialCommit ∧ p.copied ∧ !p.missed then (s.modImg fun x => { x with pend := none }).beginApply p.origin
    else if p.kind = .join then ((s.modImg fun x => { x with pend := none }).joinNow p.origin).itemE
    else s.itemE
  | none => s.itemE

/-- Step 6d: splice repairs, fallback or freeze, then partial reconfigurations (04 R81). -/
def State.itemD (s : State) : State := ((s.atItem .d).spliceStep s.inArray).itemD2

/-- Step 6c: permanent swaps (01 R19, 11 R277). -/
def State.itemC (s : State) : State := ((s.atItem .c).vSwapAll.laneSwapAll).itemD

/-- Step 6b: a full commit or rollback (10 R245). -/
def State.itemB (s : State) : State :=
  let s := s.atItem .b
  match s.img.pend with
  | some p =>
    if !p.atStart ∧ (p.kind = .full ∨ p.kind = .rollback) then s.applyFull p else s.itemC
  | none => s.itemC

/-- What follows step 6a. An orderly stop leaves out items 6b to 6h, which stay pending (17 R433). -/
def State.afterA (s : State) : State := if s.thm.stopping then s.boundaryReady else s.itemB

/-- The capture that an orderly stop makes, where the thermal registers ask for one and its address lies in deep memory
(17 R433, R438). -/
def State.thermalCap (s : State) : Option CapReq :=
  if s.thm.stopping ∧ s.thm.capEn ∧ s.thm.stopMs < 5 ∧ s.deepRoom s.thm.capAddr (s.captureLen 0) then
    some { restore := false, addr := s.thm.capAddr, origin := none }
  else none

/-- Step 6a: a capture or restore (R108, 14 R369). A pending one takes the place of the orderly stop's. -/
def State.itemA (s : State) : State :=
  let s := (s.atItem .a).modImg fun x => { x with pend := x.pend.map fun p => { p with missed := false } }
  match s.rst.cap with
  | some q => s.capBegin q
  | none => match s.thermalCap with
    | some q => s.capBegin q
    | none => s.afterA

/-- Step 6 goes on where it waits for an item that is now complete. -/
def State.boundaryGoOn (s : State) : State :=
  if s.win.st ≠ .boundary ∨ s.win.step ≠ 6 ∨ s.win.paused then s
  else match s.win.item with
    | some .a => if s.rst.capRun.isNone then s.afterA else s
    | some .b => if s.img.load.isNone then s.itemC else s
    | some .d => if s.img.app.isNone ∧ s.img.load.isNone then s.itemE else s
    | some .f => if s.resetsDone then s.itemG else s
    | some .g => if s.rst.rate.isNone then s.itemH else s
    | _ => s

/-! ### Steps 2 to 5 (R107) -/

/-- Step 2 is complete: dynamic reservations are released, Flume stands at burst boundaries, and step 4 begins (R107, 08
R184). -/
def State.boundaryDrained (s : State) : State := s.releaseDynamic.modWin fun w => { w with step := 4 }

/-- Every queue of the Leat is empty, and in an array every link has brought DRAIN (R107, 11 R289). -/
def State.drained (s : State) : Bool := s.leatEmpty && (!s.inArray || s.linksDrained)

/-- LEAT_DRAIN_COMPLETE: step 2 of the boundary, or the drain of a route commit while held, is complete (R106, R107). -/
def execLeatDrainComplete (s : State) : Host.Outcome State Fault Refusal :=
  .next (if s.win.st = .boundary then
      if s.win.step = 2 ∧ !s.win.paused ∧ s.drained then s.boundaryDrained else s
    else if s.leat.swapWait ∧ s.leatEmpty then
      if s.atOnce ∧ s.leat.arm ∧ s.leat.checked then s.commitHeld
      else s.modLeat fun l => { l with swapWait := false, admission := true }
    else s)

/-- LEDGER_FLUSH_COMPLETE: every ledger is empty; steps 5 to 7 follow (R107, 07 R154). -/
def execLedgerFlushComplete (s : State) : Host.Outcome State Fault Refusal :=
  .next (if s.win.st = .boundary ∧ s.win.step = 4 ∧ !s.win.paused then
      ((s.flushLedgers.modWin fun w => { w with step := 5 }).routeStep).itemA
    else s)

/-- CAPTURE_COPY_COMPLETE: the copy of step 6a is in deep memory (R108, 14 R369). -/
def execCaptureCopyComplete (s : State) : Host.Outcome State Fault Refusal :=
  .next (match s.rst.capRun with
    | some q =>
      if q.restore ∨ s.win.paused ∨ !s.deepRuns q.addr then s
      else
        let (s, payload) := s.capture q
        let s := (s.modRst fun r => { r with capRun := none }).clearHold holdCapture
        let s := if q.origin.isNone then s.modThm fun t => { t with stopCaptured := true } else s
        (s.postRecord? q.origin stOk payload).boundaryGoOn
    | none => s)

/-- RESTORE_COMPLETE: the restore of step 6a is done (14 R371). -/
def execRestoreComplete (s : State) : Host.Outcome State Fault Refusal :=
  .next (match s.rst.capRun with
    | some q =>
      if !q.restore ∨ s.win.paused ∨ !s.deepRuns q.addr then s
      else
        let p := s.freshen.restoreAll q.addr
        let s := (p.1.modRst fun r => { r with capRun := none }).clearHold holdCapture
        (s.postRecord? q.origin p.2.1 p.2.2).boundaryGoOn
    | none => s)

/-- THROTTLE_RELOCK_COMPLETE: the PLLs of both Tiers run at the new rate (16 R402, 05 R102). -/
def execThrottleRelockComplete (s : State) : Host.Outcome State Fault Refusal :=
  .next (match s.rst.rate with
    | some r =>
      if s.win.paused then s
      else (((s.modClk fun c => { c with pulseNow := r }).modRst fun q => { q with rate := none }).clearHold
        holdThrottle).boundaryGoOn
    | none => s)

/-! ### Starts (R97 to R101) -/

/-- The device is held in reset, or has no supply (18 R441, R443). -/
def State.inReset (s : State) : Bool := s.rst.st = .dead || s.rst.st = .held || s.rst.st = .quiescing

/-- An early edge: counted, and pending unless one is pending already (R100). -/
def State.earlyEdge (s : State) : State :=
  let s := (s.modWin fun w => { w with earlyCnt := satInc w.earlyCnt }).winEvt 0
  if s.win.edgePending then (s.log 0x0201 true false 0 0 0).winEvt 1
  else s.modWin fun w => { w with edgePending := true }

/-- Accept an edge (R98). -/
def State.acceptEdge (s : State) : State := s.modWin fun w => { w with edgeAccepted := true }

/-- WIN_EDGE: a rising edge on WIN (R98, R100, 17 R422). A device that takes no part in an array ignores it (R103). -/
def execWinEdge (s : State) : Host.Outcome State Fault Refusal :=
  .next (if s.inReset then s
    else
      let s := s.wakeBy 2 none
      if s.win.mode ≠ 0 ∨ s.lnk.array = .notPart then s
      else if s.win.st = .ready ∧ !s.win.edgeAccepted ∧ !s.clk.safe then s.acceptEdge
      else s.earlyEdge)

/-- GENERATOR_FIRE: the device's own generator fires, once the device is ready (R99). -/
def execGeneratorFire (s : State) : Host.Outcome State Fault Refusal :=
  .next (if (s.win.mode = 1 ∨ s.win.mode = 2) ∧ s.win.st = .ready ∧ !s.win.edgeAccepted ∧ !s.clk.safe ∧ s.lnk.array ≠ .notPart then
      (if s.win.mode = 2 then s.emit .winOut else s).acceptEdge
    else s)

/-- What is counted or logged once in a window begins anew. -/
def State.newCounts (s : State) : State :=
  let s := (s.modVert (·.newWindow)).modSpl (·.newWindow)
  let s := (s.modCst (·.newWindow)).modMem (·.newWindow)
  let s := s.modLnk fun x => { x with group := tmapListed {} (fun _ g => { g with bad := [] }) x.group }
  let s := (tkeys s.leat.node).foldl (fun (s : State) n => s.modNode n fun x => { x with used := 0, inflight := 0, wrLogged := false }) s
  let s := s.modIo fun io => { io with inDrop := [], outDrop := [] }
  s.modWin fun w => { w with stallPulses := w.stallNow, slotPulses := w.slotNow, stallNow := 0, slotNow := 0 }

/-- The count master's new count, which the CTRL frames of the edge pulse bring to every neighbour (R101, 11 R275, R286). -/
def State.sendMcnt (s : State) : State :=
  s.modLnk fun x => { x with mcnt := BitVec.ofNat 16 s.win.cnt.toNat }

/-- EDGE_PULSE: the first pulse period after the accepted edge, with which the new window begins (R94, R95, R98, R101). -/
def execEdgePulse (s : State) : Host.Outcome State Fault Refusal :=
  .next (if s.win.edgeAccepted ∧ s.fab.clockStop.isEmpty ∧ !s.gated then
      let s := s.modWin fun w =>
        { w with
          st := .starting
          cnt := w.cnt + 1
          edgeAccepted := false
          hold := w.hold ||| holdBit holdRun }
      let s := (s.newCounts.modLeat fun l => { l with admission := false }).ctrlAll
      if !s.inArray then s
      else if s.countMaster then s.sendMcnt
      else if s.lnk.mcntNew then (s.modLnk fun x => { x with mcntNew := false }).compareCount
      else s
    else s)

/-- Promises shorter than λ + 1 are raised in an array (R115): K_in of the banks in use, and F of the fallback paths in use. -/
def State.raisePromises (s : State) : State :=
  if !s.inArray then s
  else
    let need := s.win.lead.toNat + 1
    let s := if s.win.kIn.toNat < need then
        (List.range 20).foldl (fun (s : State) b =>
          if s.bankUsed b ∧ !s.bankFree b then s.promiseRaised (.ioBank b) s.win.kIn.toNat need else s) s
      else s
    let paths := ((s.spl.chan.filter fun e => decide (e.2.st = .fallback)).map fun e => pairPath (chanPair e.1)).eraseDups
    paths.foldl (fun (s : State) p =>
      match tget s.spl.pathF none p with
      | some f => if f < need then s.promiseRaised (.fallback p) f need else s
      | none => s) s

/-- WINDOW_START: strand 0 of turn 0 begins, once the Leat is empty (R98, R110). -/
def execWindowStart (s : State) : Host.Outcome State Fault Refusal :=
  .next (if s.win.st = .starting ∧ s.leatEmpty ∧ s.fab.clockStop.isEmpty ∧ !s.gated then
      let s := s.dropStopped
      let s := s.modWin fun w => { w with st := .running, turn := 0, strand := 0 }
      let s := s.modPwr fun p => { p with rejoin := [] }
      s.linksWindowStart.flumeWindowStart.raisePromises
    else s)

/-! ### A pulse period (03 R48, R66) -/

/-- What is timed for a step of the next boundary is done at once in a pulse period in which the device stands held, or not released
with no load or release under way (10 R244, 14 R345): isolations, a capture or restore, an image operation, resets, domains, the
device. A capture comes before the others, as at step 6. -/
def State.heldActs (s : State) : State :=
  if !s.opAtOnce ∨ s.rst.capRun.isSome then s
  else
    let s := s.clearIsolations
    match s.rst.cap with
    | some q => s.capBegin q
    | none => ((s.applyPend.resetBegin).domStep false).sleepStep false

/-- PULSE: one Tier pulse period. The fabric executes the current strand where the window runs and no clock stop stands
(03 R48, R66); while an image loads the splices alone are judged (04 R83); in the held and not-released states what waits for a
boundary is done. -/
def execPulse (o : PulseObs) (s : State) : Host.Outcome State Fault Refusal :=
  .next (if s.win.st = .running ∧ s.fab.clockStop.isEmpty then s.pulse o
    else if s.gated then s
    else if s.img.load.isSome then s.loadRefresh o
    else s.heldActs)

end Sys2Proof.Machine
end

