-- ==== Sys2Proof/Machine/ConfigRows.lean ====
section
/-! DEFINITION. The events of images: loads, applies, release, checks, and the configuration scrubber (10_configuration). -/
namespace Sys2Proof.Machine

/-! ### Loads and applies (R239 to R249) -/

/-- After a load has ended: the boundary goes on, or an operation that may apply at once does (R244). -/
def State.afterLoad (s : State) : State := if s.win.st = .boundary then s.boundaryGoOn else s.applyPend

/-- FULL_LOAD_COMPLETE: frames, contents, CRC store and settings are there. What the load reads is checked again; a failure
is as APPLY_FAIL (R239, R243, R245, R246). -/
def execFullLoadComplete (s : State) : Host.Outcome State Fault Refusal :=
  .next (match s.img.load with
    | none => s
    | some l =>
      let row := s.bankCheck l.bank
      (if row = 0 then s.loadDone l else s.loadFails l row).afterLoad)

/-- The reload of a failed apply fails too: as the failure of the reload of a full load (R246). -/
def State.reloadFails (a : Apply) (row : Nat) (s : State) : State :=
  let s := (s.postRecord? a.origin stSignatureFail s.commitPayload).modImg fun x => { x with app := none }
  s.activeFails row

/-- APPLY_FAIL: a frame or digest fails while a load or an apply reads it: the check of frame CRCs, unless the stored image
fails another (R239, R246). -/
def execApplyFail (s : State) : Host.Outcome State Fault Refusal :=
  .next (match s.img.load, s.img.app with
    | some l, _ =>
      let row := s.bankCheck l.bank
      (s.loadFails l (if row = 0 then 5 else row)).afterLoad
    | none, some a => (if a.reload then s.reloadFails a 5 else s.applyFails a).afterLoad
    | none, none => s)

/-- PARTIAL_APPLY_COMPLETE: the rectangles are written, or their reload is (R246, R249). -/
def execPartialApplyComplete (s : State) : Host.Outcome State Fault Refusal :=
  .next (match s.img.app with
    | none => s
    | some a =>
      if a.reload then (s.applyReloaded a).afterLoad
      else match (s.img.bank s.img.act).pendingPatch with
        | none => s
        | some p =>
          (if s.imgCheck p.img (some true) [1, 2, 3, 4, 5, 9] = 0 then s.applyDone a else s.applyFails a).afterLoad)

/-- PATCH_COPY_COMPLETE: the copy of a pending partial commit is in the patch area (R244, R248). -/
def execPatchCopyComplete (s : State) : Host.Outcome State Fault Refusal :=
  .next (match s.img.pend with
    | some p =>
      if p.kind = .partialCommit ∧ !p.copied then
        let s := s.modImg fun x =>
          { x with pend := some { p with copied := true, missed := decide (s.win.st = .boundary ∧ 6 ≤ s.win.step) } }
        if p.atStart then s.startUp else s.applyPend
      else s
    | none => s)

/-! ### Release (R241) -/

/-- EXTEST, CLAMP or HIGHZ controls the pins, so step OUT waits (12 R304). -/
def State.tapDrives (s : State) : Bool := s.win.shown = .notReleased && (s.host.ir = 0x00 || s.host.ir = 0x04 || s.host.ir = 0x05)

/-- RELEASE_STEP (R241): the gap has passed; a manual step waits for GO. `vccio` holds the millivolts measured at each bank. -/
def execReleaseStep (vccio : List Nat) (s : State) : Host.Outcome State Fault Refusal :=
  .next (if !s.mayRelease ∨ (s.img.stepAt s.img.steps = 1 ∧ s.tapDrives) then s
    else if s.img.manual.getLsbD s.img.steps ∧ !s.img.go then
      if s.img.stepWait then s else (s.modImg fun x => { x with stepWait := true }).cfgEvt 8
    else s.releaseStep vccio)

/-! ### Checks of stored images (R231, R243) -/

/-- STAGE_READBACK_COMPLETE: the staged bytes are read back and checked (R231, R237, 14 R354, R355). -/
def execStageReadbackComplete (s : State) : Host.Outcome State Fault Refusal :=
  .next (match s.img.readback with
    | none => s
    | some o =>
      let b := s.img.stg
      let row := s.imgCheck (s.img.bank b).base none rowsStaged
      let s := s.modImg fun x => { x with readback := none, stgValid := decide (row = 0) }
      let s := if row = 0 then s.setMark b true else s.sigFail b row
      s.postRecord o (rowStatus row) [s.cfgSlots])

/-- First failing row of a role's bank for a verify (R243). -/
def State.verifyRow (s : State) (role : Nat) : Nat :=
  if role = 2 then s.imgCheck (s.img.bank s.img.stg).base none rowsStart else s.bankCheck (s.img.roleBank role)

/-- VERIFY_COMPLETE (R243, 14 R353, R355). -/
def execVerifyComplete (s : State) : Host.Outcome State Fault Refusal :=
  .next (match s.img.verify with
    | none => s
    | some (o, role) =>
      let row := s.verifyRow role
      let b := s.img.roleBank role
      let s := s.modImg fun x => { x with verify := none }
      let s := (if row = 0 then s else s.sigFail b row).setMark b (decide (row = 0))
      (s.cfgEvt 7).postRecord o stOk [w32 row, w32 (rowStatus row)])

/-! ### The configuration scrubber (R253 to R256) -/

/-- Frames of a sweep. -/
def framesAll : Nat := 1315840

/-- A configuration runs, so there is something to compare with. -/
def State.configured (s : State) : Bool := s.img.st = .releasing || s.img.st = .released || s.img.st = .applying

/-- The scrubber stands: disabled, halted, or paused (R253, R256, 18 R444). -/
def State.scrubPaused (s : State) : Bool :=
  !s.configured || s.img.load.isSome || s.gated || s.pwr.dev = .entering || (s.rst.dieRun.any fun q => q.unit = 4)

/-- The plot of a frame stands since a turn end: between windows, in a clock stop, behind a levee or a freeze, or with its quadrant out
of Run (R254). -/
def State.repairNow (s : State) (fr : Nat) : Bool :=
  s.win.st ≠ .running || !s.fab.clockStop.isEmpty || !s.plotRuns (fr / 257)

/-- The frame is being loaded or applied, so a repair of it is dropped (R257). -/
def State.frameLoads (s : State) (fr : Nat) : Bool :=
  s.img.load.isSome || (match s.img.app with | some a => inRects a.rects (fr / 257) | none => false)

/-- A repair frame that will not be written. -/
def State.dropFix (fr : Nat) (s : State) : State := s.modImg fun x => { x with fixes := x.fixes.filter fun y => y.frame ≠ fr }

/-- The sweep passes a frame; a sweep that ends is reported (R253, R258). Its duration is a free value. -/
def State.sweepNext (s : State) : State :=
  if s.img.sweepPos + 1 < framesAll then s.modImg fun x => { x with sweepPos := x.sweepPos + 1 }
  else
    let s := s.freshen
    s.modImg fun x =>
      { x with
        sweepPos := 0
        sweeps := x.sweeps + 1
        wdogRun := 0
        sweepUs := BitVec.ofNat 16 (Config.freeWord s.fresh 0).toNat }

/-- A frame found mismatching (R254). -/
def State.frameMismatch (fr : Nat) (s : State) : State :=
  let s := s.modImg fun x => { x with mismatch := satInc x.mismatch, last := frameAddr fr }
  if s.img.repairEn then
    s.modImg fun x => { x with fixes := if x.fixes.any fun r => r.frame = fr then x.fixes else x.fixes ++ [{ frame := fr }] }
  else if s.img.reported.contains fr then s
  else ((s.log 0x0909 true false (frameAddr fr) 0 0).cfgEvt 10).modImg fun x => { x with reported := fr :: x.reported }

/-- SCRUB_FRAME_READ: one frame is read back and compared (R253, R254). -/
def execScrubFrameRead (s : State) : Host.Outcome State Fault Refusal :=
  let fr := s.img.sweepPos
  .next (if !s.img.scrubEn ∨ s.img.halted ∨ s.scrubPaused then s
    else if (match s.img.app with | some a => inRects a.rects (fr / 257) | none => false) || s.bistPlot (fr / 257) then s.sweepNext
    else if tget s.img.crc none fr = some (w32 (frameCrc32 fr (s.frameNow fr))) then
      (s.modImg fun x => { x with reported := x.reported.filter (· ≠ fr) }).sweepNext
    else (s.frameMismatch fr).sweepNext)

/-- REPAIR_FRAME_ARRIVAL: the oldest frame on its way reaches the frame controller; a bad one is not written (R254), and one that is being
loaded is dropped (R257). -/
def execRepairFrameArrival (bad : Bool) (s : State) : Host.Outcome State Fault Refusal :=
  .next (match s.img.fixes.find? fun r => !r.arrived with
    | none => s
    | some r =>
      if s.frameLoads r.frame then s.dropFix r.frame
      else if bad then (s.dropFix r.frame).log 0x0905 false false (frameAddr r.frame) 0 0
      else if s.repairNow r.frame then s.repairFrame r.frame
      else s.modImg fun x => { x with fixes := x.fixes.map fun y => if y.frame = r.frame then { y with arrived := true } else y })

/-- SCRUB_WDOG: 80 ms without a report; after three resets without a completed sweep the scrubber is stopped (R256). The watchdog pauses while the
Lockkeeper is out of service (13 R319). -/
def execScrubWdog (s : State) : Host.Outcome State Fault Refusal :=
  .next (if !s.img.scrubEn ∨ s.img.halted ∨ s.scrubPaused ∨ !s.lk.inService then s
    else
      let halt := decide (3 ≤ s.img.wdogRun + 1)
      let s := s.modImg fun x =>
        { x with wdog := satInc x.wdog, wdogRun := x.wdogRun + 1, sweepPos := 0, halted := halt }
      (s.log 0x0907 true halt (w32 s.img.wdog.toNat) 0 0).cfgEvt 6)

end Sys2Proof.Machine
end

