-- ==== Sys2Proof/Machine/HostPorts.lean ====
section
/-! DEFINITION. The command transports: mailbox, SMBus, JTAG, array link (12_host_ports R299 to R304, 13_lockkeeper R326 to
R330, 14_command_reference R351, R352). A transport holds the request's words; the command's own row serves it. -/
namespace Sys2Proof.Machine

/-- A function answers memory accesses (12 R297). -/
def State.funcOpen (s : State) (f : Func) : Bool :=
  s.host.linkUp && !s.inReset && (let x := s.host.func f; x.mse && !x.d3hot)

/-- LENGTH of a request's first word (14 R341). -/
def reqLength (w : W32) : Nat := field w 16 12

/-- A request is complete: the port holds it, and the reply before it is gone (R326, R327). -/
def PortState.hold (ws : List W32) (x : PortState) : PortState :=
  { x with held := some ws, replyReady := false, hwReply := false, reply := [], replyPos := 0 }

/-! ### Mailboxes (R327) -/

/-- Request words are written while the port is not busy. -/
def State.mbxWrite (f : Func) (at0 : Nat) (words : List W32) (s : State) : State :=
  if words.isEmpty then s
  else s.modPort f.port fun x =>
    if x.held.isSome then { x with overrun := true }
    else { x with req := tsetAll 0 x.req (((List.range words.length).map (at0 + ·)).zip words |>.filter fun e => decide (e.1 < 1024)) }

/-- A write of the doorbell. -/
def State.doorbell (f : Func) (data : W32) (s : State) : State :=
  if !data.getLsbD 0 then s
  else s.modPort f.port fun x =>
    if x.held.isSome then { x with overrun := true }
    else
      let n := reqLength (tget x.req 0 0)
      x.hold ((List.range (max 2 (min 1024 n))).map fun i => tget x.req 0 i)

/-- A write of MBX_CR_TAIL: records consumed. -/
def State.mbxTail (f : Func) (tail : Option (BitVec 6)) (s : State) : State :=
  match tail with
  | some v => s.modPort f.port fun x => { x with crTail := v }
  | none => s

/-- MBX_DOORBELL: `words` are what has been written to MBX_REQ from word 0 since the last doorbell, `tail` what has been written to
MBX_CR_TAIL (R327). PF0 needs no ownership for it. -/
def execMbxDoorbell (f : Func) (words : List W32) (tail : Option (BitVec 6)) (data : W32) (s : State) :
    Host.Outcome State Fault Refusal :=
  .next (if s.funcOpen f then ((s.mbxTail f tail).mbxWrite f 0 words).doorbell f data else s)

/-! ### SMBus (R328, 12 R299 to R301) -/

def State.smbAddr (s : State) : Nat := 0x5A + s.host.addrSel.toNat

/-- A PEC failure: a wrong byte, or a missing one where PEC is required (12 R301). -/
def State.pecFails (s : State) (sent : List Byte) : Option Byte → Bool
  | some p => decide (p ≠ pec (BitVec.ofNat 8 (2 * s.smbAddr) :: sent))
  | none => s.host.pecReq

/-- The transaction is discarded for PEC and counted; a wrong byte is NACKed (12 R301; ID_SMB.PEC_ERRS counts a missing one too,
DEDUCED log entry 158). -/
def State.pecFailed (p : Option Byte) (s : State) : State :=
  let s := s.modHost fun h => { h with pecErrs := satInc h.pecErrs }
  if p.isSome then s.emit .smbusNack else s

/-- A chunk of a request: the first of a request clears the error of the one before. -/
def PortState.chunk (bytes : List Byte) (x : PortState) : PortState :=
  { x with chunkErr := x.chunkErr && !x.partialBytes.isEmpty, partialBytes := x.partialBytes ++ bytes }

/-- 32-bit words of bytes, least significant byte first. -/
def wordsOfBytes : List Byte → List W32
  | a :: b :: c :: d :: t => bytesWord a.toNat b.toNat c.toNat d.toNat :: wordsOfBytes t
  | _ => []

/-- A Block Write with code 0x40 or 0x41. A PEC failure discards the chunk and sets CHUNK_ERR; the chunks before it wait for ABORT or
REQ_END (R328, 12 R313, log entry 158). -/
def State.smbWrite (code : Nat) (bytes : List Byte) (p : Option Byte) (last : Bool) (s : State) : State :=
  if s.inReset then s
  else if s.lk.smbus.held.isSome then s.emit .smbusNack
  else if s.pecFails (BitVec.ofNat 8 code :: BitVec.ofNat 8 bytes.length :: bytes) p then
    (s.pecFailed p).modPort .smbus fun x => { x with chunkErr := true }
  else
    let s := s.modPort .smbus fun x => x.chunk bytes
    if !last then s
    else s.modPort .smbus fun x =>
      let ws := wordsOfBytes x.partialBytes
      let bad := decide (x.partialBytes.length ≠ 4 * reqLength (ws.headD 0)) || decide (4096 < x.partialBytes.length)
      { x.hold ws with partialBytes := [], chunkErr := x.chunkErr || bad }

/-- SMBUS_REQ (R328): code 0x40. -/
def execSmbusReq (bytes : List Byte) (pec : Option Byte) (s : State) : Host.Outcome State Fault Refusal :=
  .next (s.smbWrite 0x40 bytes pec false)

/-- SMBUS_REQ_END (R328): code 0x41. -/
def execSmbusReqEnd (bytes : List Byte) (pec : Option Byte) (s : State) : Host.Outcome State Fault Refusal :=
  .next (s.smbWrite 0x41 bytes pec true)

/-- SMBUS_ABORT (R328): Write Byte with code 0x42 and data 0x00. -/
def execSmbusAbort (data : Byte) (pec : Option Byte) (s : State) : Host.Outcome State Fault Refusal :=
  .next (if s.inReset then s
    else if s.pecFails [0x42, data] pec then s.pecFailed pec
    else if data = 0 then s.modPort .smbus fun x => { x with partialBytes := [], chunkErr := false }
    else s)

/-- A read returns its bytes and offers their PEC (12 R301). -/
def State.smbSend (code : Nat) (bytes : List Byte) (s : State) : State :=
  let a := 2 * s.smbAddr
  s.emit (.smbusRead bytes (pec (BitVec.ofNat 8 a :: BitVec.ofNat 8 code :: BitVec.ofNat 8 (a + 1) :: bytes)))

/-- The next chunk of at most 252 bytes, with its count. -/
def smbChunk (ws : List W32) (pos : Nat) : List Byte :=
  let c := ((ws.flatMap wordBytes).drop pos).take 252
  (c.length :: c).map (BitVec.ofNat 8 ·)

/-- SMBUS_REPLY (R328): code 0x50; after its last chunk no reply is ready. -/
def execSmbusReply (s : State) : Host.Outcome State Fault Refusal :=
  let x := s.lk.smbus
  .next (if s.inReset then s
    else if !x.replyReady then s.smbSend 0x50 [0]
    else
      let c := smbChunk x.reply x.replyPos
      let pos := x.replyPos + (c.length - 1)
      (s.smbSend 0x50 c).modPort .smbus fun x =>
        { x with replyPos := pos, replyReady := decide (pos < 4 * x.reply.length) })

/-- SMBUS_RECORD (R328): code 0x51; a record is removed after its last chunk. -/
def execSmbusRecord (s : State) : Host.Outcome State Fault Refusal :=
  let x := s.lk.smbus
  .next (if s.inReset then s
    else match x.records with
      | [] => s.smbSend 0x51 [0]
      | r :: t =>
        let c := smbChunk r x.recordPos
        let pos := x.recordPos + (c.length - 1)
        (s.smbSend 0x51 c).modPort .smbus fun x =>
          if pos < 4 * r.length then { x with recordPos := pos } else { x with records := t, recordPos := 0 })

/-- SMBUS_STATUS (R328): code 0x60. -/
def execSmbusStatus (s : State) : Host.Outcome State Fault Refusal :=
  let x := s.lk.smbus
  let w := bitAt x.held.isSome 0 ||| bitAt x.replyReady 1 ||| bitAt (!x.records.isEmpty) 2 ||| bitAt x.hwReply 3
    ||| bitAt x.chunkErr 4 ||| bitAt s.lk.inService 5
  .next (if s.inReset then s else s.smbSend 0x60 [BitVec.ofNat 8 w.toNat])

/-- An event bit is set and enabled: a source of vectors 2 to 11 (12 R296). -/
def State.eventPending (s : State) : Bool :=
  s.win.evt &&& s.win.evtEn ≠ 0 || s.img.evt &&& s.img.evtEn ≠ 0 || (s.mem.ctl.any fun e => e.2.evt &&& e.2.evtEn ≠ 0) ||
  (s.leat.node.any fun e => e.2.evt &&& e.2.evtEn ≠ 0) || (s.flm.chan.any fun e => e.2.evt &&& e.2.evtEn ≠ 0) ||
  (s.lnk.link.any fun e => e.2.evt &&& e.2.evtEn ≠ 0) || s.clk.evt &&& s.clk.evtEn ≠ 0 || s.pwr.evt &&& s.pwr.evtEn ≠ 0 ||
  s.thm.evt &&& s.thm.evtEn ≠ 0 || s.sec.evt &&& s.sec.evtEn ≠ 0 || s.bist.evt &&& s.bist.evtEn ≠ 0

/-- SMBALERT_N is asserted: a source of vectors 0 to 11 is pending, a reply or record of the PF0 mailbox or of the SMBus port among them,
and an event has arisen since the last Alert Response (12 R299, 13 R328). A log entry is pending until that response (log entry 158). -/
def State.alertOut (s : State) : Bool :=
  s.host.alertArmed && (s.host.logAlert || s.lk.pf0.replyReady || s.lk.pf0.crHead ≠ s.lk.pf0.crTail || s.lk.smbus.replyReady ||
    !s.lk.smbus.records.isEmpty || s.eventPending)

/-- SMBUS_ALERT_RESPONSE: a read at 0x0C while SMBALERT_N is asserted returns the device address (12 R299). -/
def execSmbusAlertResponse (s : State) : Host.Outcome State Fault Refusal :=
  .next (if s.inReset then s
    else if !s.alertOut then s.emit .smbusNack
    else
      let b : Byte := BitVec.ofNat 8 (2 * s.smbAddr)
      (s.modHost fun h => { h with alertArmed := false, logAlert := false }).emit (.smbusRead [b] (pec [0x19, b])))

/-- SMBUS_TIMEOUT: the port's state machine is reset (12 R299). A transaction reaches the port whole, so the one that is cut
has left nothing; chunks already accepted stay until ABORT. -/
def execSmbusTimeout (s : State) : Host.Outcome State Fault Refusal := .next s

/-! ### JTAG (R329, 12 R303, R304) -/

/-- EXTEST, CLAMP and HIGHZ control the pins in the not-released state alone (12 R304). -/
def State.tapFree (s : State) : Bool := s.win.shown = .notReleased

/-- An instruction is loaded; the scan that loads it shifts out what the instruction register captured, bit 2 of which says that
the pin-driving instructions are blocked (12 R303). -/
def State.loadIr (code : Byte) (s : State) : State :=
  (s.emit (.jtagIr (if s.tapFree then 1 else 5))).modHost fun h => { h with ir := code }

/-- A pin-driving instruction, which else acts as BYPASS. -/
def State.loadDrive (code : Byte) (s : State) : State := s.loadIr (if s.tapFree then code else 0xFF)

/-- EXTEST (12 R304). -/
def execExtest (s : State) : Host.Outcome State Fault Refusal := .next (s.loadDrive 0x00)
/-- CLAMP (12 R304). -/
def execClamp (s : State) : Host.Outcome State Fault Refusal := .next (s.loadDrive 0x04)
/-- HIGHZ (12 R304). -/
def execHighz (s : State) : Host.Outcome State Fault Refusal := .next (s.loadDrive 0x05)

/-- SAMPLE_PRELOAD: `cells` are the boundary cells preloaded (12 R304). -/
def execSamplePreload (cells : List (Nat × Bool)) (s : State) : Host.Outcome State Fault Refusal :=
  .next ((s.loadIr 0x02).modHost fun h => { h with boundary := tsetAll false h.boundary cells })

/-- IDCODE (12 R303). -/
def execIdcode (s : State) : Host.Outcome State Fault Refusal := .next ((s.loadIr 0x01).emit (.jtagDr 32 0x0B4EA0B3))

/-- USERCODE: ACT_VER, or 0 with no image (12 R303). -/
def execUsercode (s : State) : Host.Outcome State Fault Refusal :=
  .next ((s.loadIr 0x06).emit (.jtagDr 32 (if s.img.st = .noImage then 0 else s.actVer.toNat)))

/-- Instruction codes other than BYPASS (12 R303). -/
def tapCodes : List Byte := [0x00, 0x01, 0x02, 0x04, 0x05, 0x06, 0x10]

/-- BYPASS, or a code that acts as BYPASS (12 R303). -/
def execBypass (code : Byte) (s : State) : Host.Outcome State Fault Refusal :=
  .next (if tapCodes.contains code then s else s.loadIr code)

/-- TAP_RESET selects IDCODE; no instruction is scanned in (12 R303, 18 R441). -/
def execTapReset (s : State) : Host.Outcome State Fault Refusal := .next (s.modHost fun h => { h with ir := 0x01 })

/-- JTAG_CMD (R329). -/
def execJtagCmd (s : State) : Host.Outcome State Fault Refusal := .next (s.loadIr 0x10)

/-- A word arrives; one sent while the port is busy is ignored (R329). -/
def State.jtagWord (w : W32) (last : Bool) (s : State) : State :=
  if s.host.ir ≠ 0x10 ∨ s.lk.jtag.held.isSome ∨ s.inReset then s
  else s.modPort .jtag fun x =>
    let ws := x.partialWords ++ [w]
    if last then { x.hold ws with partialWords := [] } else { x with partialWords := ws }

/-- JTAG_REQUEST_WORD (R329). -/
def execJtagRequestWord (w : W32) (s : State) : Host.Outcome State Fault Refusal := .next (s.jtagWord w false)
/-- JTAG_LAST_WORD (R329). -/
def execJtagLastWord (w : W32) (s : State) : Host.Outcome State Fault Refusal := .next (s.jtagWord w true)

/-- OP and DATA at Capture-DR: busy, then reply words, then record words. With OP 00 or 11 the data is a free value. -/
def State.jtagPresent (s : State) : Nat × W32 :=
  let x := s.lk.jtag
  if x.held.isSome then (3, Config.freeWord s.fresh 0)
  else if x.replyReady then (1, x.reply.getD x.replyPos 0)
  else match x.records with
    | r :: _ => (2, r.getD x.recordPos 0)
    | [] => (0, Config.freeWord s.fresh 0)

/-- JTAG_CAPTURE (R329). -/
def execJtagCapture (s : State) : Host.Outcome State Fault Refusal :=
  .next (if s.host.ir ≠ 0x10 then s
    else
      let s := s.freshen
      let (op, d) := s.jtagPresent
      (s.modHost fun h => { h with cmdDr := BitVec.ofNat 34 (2 ^ 32 * op + d.toNat) }).emit (.jtagDr 34 (2 ^ 32 * op + d.toNat)))

/-- JTAG_ADVANCE: the word last captured has been read (R329). -/
def execJtagAdvance (s : State) : Host.Outcome State Fault Refusal :=
  let op := s.host.cmdDr.toNat / 2 ^ 32
  .next (if s.host.ir ≠ 0x10 then s
    else s.modPort .jtag fun x =>
      if op = 1 ∧ x.replyReady then
        { x with replyPos := x.replyPos + 1, replyReady := decide (x.replyPos + 1 < x.reply.length) }
      else if op = 2 then
        match x.records with
        | r :: t => if x.recordPos + 1 < r.length then { x with recordPos := x.recordPos + 1 } else { x with records := t, recordPos := 0 }
        | [] => x
      else x)

/-! ### The array link (R330, 14 R351, R352) -/

/-- MGMT_COMMAND: a message of type 0x10 completes a request; while the port is busy the hardware responder answers (R330). -/
def execMgmtCommand (i : Fin 16) (f : RxFrame) (s : State) : Host.Outcome State Fault Refusal :=
  let (s, m) := s.mgmtTake i f
  .next (match m with
    | some (w0 :: ws) =>
      if mgmtType (w0 :: ws) ≠ 0x10 then s
      else if s.lk.array.held.isSome then
        let words := replyWords s (ws.getD 1 0) stBusy false true []
        s.modLink i fun x => { x with mgmtQ := x.mgmtQ ++ [.words (mgmtWord 0x11 words.length :: words)] }
      else s.modPort .array fun x => { x.hold ws with link := i.val }
    | _ => s)

/-- Post what a neighbour returned for a FORWARD (14 R352). -/
def State.forwarded (fw : Forward) (more : Bool) (ws : List W32) (s : State) : State :=
  let s := s.modLk fun k =>
    { k with forwards := if more then k.forwards.map fun x => if x = fw then { fw with replied := true } else x else k.forwards.erase fw }
  let s := s.postRecord fw.origin stOk ws
  if more then s.modPort fw.origin.port fun x => { x with running := x.running + 1 } else s

/-- MGMT_REPLY: a message of type 0x11 (14 R352). -/
def execMgmtReply (i : Fin 16) (f : RxFrame) (s : State) : Host.Outcome State Fault Refusal :=
  let (s, m) := s.mgmtTake i f
  .next (match m with
    | some (w0 :: ws) =>
      if mgmtType (w0 :: ws) ≠ 0x11 then s
      else match s.lk.forwards.find? fun x => x.link = i.val && !x.replied with
        | some fw => s.forwarded fw (decide (field (ws.headD 0) 0 16 = stAccepted)) ws
        | none => s
    | _ => s)

/-- MGMT_RECORD: a message of type 0x12 (14 R352). -/
def execMgmtRecord (i : Fin 16) (f : RxFrame) (s : State) : Host.Outcome State Fault Refusal :=
  let (s, m) := s.mgmtTake i f
  .next (match m with
    | some (w0 :: ws) =>
      if mgmtType (w0 :: ws) ≠ 0x12 then s
      else match s.lk.forwards.find? fun x => x.link = i.val && x.replied with
        | some fw => s.forwarded fw false ws
        | none => s
    | _ => s)

/-- FORWARD_TIMEOUT: no reply within 5 ms (14 R352). -/
def execForwardTimeout (i : Fin 16) (s : State) : Host.Outcome State Fault Refusal :=
  .next (match s.lk.forwards.find? fun x => x.link = i.val && !x.replied with
    | some fw => (s.modLk fun k => { k with forwards := k.forwards.erase fw }).postRecord fw.origin stHwFault []
    | none => s)

end Sys2Proof.Machine
end

