-- ==== Sys2Proof/Machine/Lockkeeper.lean ====
section
/-! DEFINITION. The Lockkeeper's own events: restarts, boot, the log area, the hardware responder, the lease, the control ring
(13_lockkeeper R315 to R340, 15_security R382 to R385). -/
namespace Sys2Proof.Machine

/-! ### Firmware slots (15 R382, R383) -/

/-- Bytes of the firmware in a slot. -/
def SecState.fw (x : SecState) (slot : BitVec 1) : Tab Byte := if slot = 0 then x.fw0 else x.fw1
def fwByte (t : Tab Byte) (i : Nat) : Nat := (tget t 0 i).toNat
def fwRun (t : Tab Byte) (off n : Nat) : List Nat := (List.range n).map fun i => fwByte t (off + i)
def fwWord (t : Tab Byte) (off : Nat) : W32 :=
  bytesWord (fwByte t off) (fwByte t (off + 1)) (fwByte t (off + 2)) (fwByte t (off + 3))

/-- MAGIC, FORMAT, the fields that are 0 and the size rules of the layout (R382). -/
def fwFormat (t : Tab Byte) (body : Nat) : Bool :=
  decide (fwWord t 0 = 0x4C4B2080#32) && decide (fwWord t 4 = 1#32) && decide (fwWord t 16 = w32 body) && body % 4 = 0 &&
  decide (896 + body ≤ 16 * 2 ^ 20) && (fwRun t 20 44).all (· = 0) && (fwRun t 448 64).all (· = 0)

/-- The firmware measurement (R382). -/
def fwMeasure (t : Tab Byte) (body : Nat) : List Nat := sha256 (fwRun t 0 (512 + body))

/-- Why a slot fails R383, as in FW_REJECTED: 0 format, 1 key hash, 2 signature, 3 SEC_VERSION. -/
def State.fwCause (s : State) (slot : BitVec 1) (body : Nat) : Option Nat :=
  let t := s.sec.fw slot
  let n := beWord (fwRun t 64 384)
  if !fwFormat t body then some 0
  else if keyHash n ≠ s.sec.fuses.rootHash then some 1
  else if !pssVerify n (fwRun t (512 + body) 384) (fwMeasure t body) then some 2
  else if (fwWord t 12).toNat < s.sec.fwMin.toNat then some 3
  else none

/-- Why a slot fails at boot. A slot known to pass since it was written is judged on SEC_VERSION alone. -/
def State.bootCause (s : State) (slot : BitVec 1) : Option Nat :=
  let t := s.sec.fw slot
  if (if slot = 0 then s.sec.fwOk0 else s.sec.fwOk1) then
    (if (fwWord t 12).toNat < s.sec.fwMin.toNat then some 3 else none)
  else s.fwCause slot (fwWord t 16).toNat

/-- A slot boots: it runs, and FW_MIN rises to its SEC_VERSION (R383). -/
def State.fwRuns (slot : BitVec 1) (fallback : Bool) (s : State) : State :=
  let t := s.sec.fw slot
  let v := fwWord t 12
  let s := s.modLk fun k => { k with fwSlot := slot, fwVersion := fwWord t 8 }
  s.modSec fun x =>
    { x with
      fwMin := if x.fwMin.toNat < v.toNat then v else x.fwMin
      fwFallback := fallback
      recovery := false }

/-- The firmware boot: the slot that the role table names, else the other, else recovery (R315, R385). -/
def State.fwBoot (s : State) : State :=
  let a := s.sec.fwNamed
  let b := ~~~a
  match s.bootCause a with
  | none => s.fwRuns a false
  | some ca =>
    match s.bootCause b with
    | none => (s.fwRuns b true).log 0x0005 true false (w32 a.toNat) 0 0
    | some cb =>
      let (c0, c1) := if a = 0 then (ca, cb) else (cb, ca)
      (s.modSec fun x => { x with recovery := true }).log 0x0E07 true true (w32 c0) (w32 c1) 0

/-! ### Restarts (R318 to R320) -/

/-- MEM_READ and MEM_WRITE when the Lockkeeper goes out of service: a read is answered by the hardware responder; a write is never
abandoned, so it is accepted and its record follows (R319, R338, 14 R363). -/
def State.memRestart (s : State) : State :=
  s.lk.memOps.foldl (fun (s : State) o =>
    if o.accepted ∨ o.mute ∨ o.write then s
    else (s.modLk fun k => { k with memOps := k.memOps.filter fun x => x.id ≠ o.id }).hwBusy o.req.port o.req.link o.req.tag) s

/-- A full restart begins: the Lockkeeper is out of service until LOCKKEEPER_IN_SERVICE (R319). -/
def State.restartBegin (s : State) : State :=
  s.memRestart.memCut.modLk fun k => { k with inService := false, restarting := true, mismatches := [] }

/-- A full restart with its log entry: cause 0 mismatches, 1 data word (R319). -/
def State.fullRestart (cause : Nat) (s : State) : State := (s.restartBegin).log 0x0002 true true (w32 cause) 0 0

/-- LOCKSTEP_MISMATCH: the third within 1 s is a full restart, another resumes from the last commit, so a command that was
executing has its effects once (R318, R319, R340). -/
def execLockstepMismatch (s : State) : Host.Outcome State Fault Refusal :=
  .next (if !s.lk.inService then s
    else
      let now := 1000 * s.lk.seconds.toNat + s.lk.ms
      let l := (s.lk.mismatches.filter fun t => decide (now < t + 1000)) ++ [now]
      if 3 ≤ l.length then s.fullRestart 0
      else (s.modLk fun k => { k with mismatches := l }).log 0x0001 false false (w32 l.length) 0 0)

/-- FETCH_TRAP: an uncorrectable code word is reloaded from the firmware slot; a data word causes a full restart (R319, R320). -/
def execFetchTrap (lo hi : W32) (dataArea : Bool) (s : State) : Host.Outcome State Fault Refusal :=
  .next (if !s.lk.inService then s
    else if dataArea then s.fullRestart 1
    else s.log 0x0003 false false lo hi 0)

/-- The records that waited for the restart are posted, the FW_SWITCH's among them (R340, 14 R366). -/
def State.postDeferred (s : State) : State :=
  let l := s.lk.deferred
  let s := s.modLk fun k => { k with restarting := false, deferred := [] }
  let s := match s.sec.switched with
    | some o => (s.modSec fun x => { x with switched := none }).postNow o stOk [w32 s.lk.fwSlot.toNat]
    | none => s
  l.foldl (fun (s : State) (e : Origin × Nat × List W32) => s.postNow e.1 e.2.1 e.2.2) s

/-- LOCKKEEPER_IN_SERVICE: firmware has been checked and runs, or the boot ROM does; start-up goes on (R315, R319, 10 R238,
15 R383, R385). -/
def execLockkeeperInService (s : State) : Host.Outcome State Fault Refusal :=
  .next (if s.lk.inService ∨ s.rst.st = .dead then s
    else ((s.fwBoot.modLk fun k => { k with inService := true }).postDeferred).startUp)

/-! ### The log (R323, R324) -/

/-- What the slot of a gap receives: words 0 to 3 of the displaced entry, CODE 0. -/
def LogEntry.marker (e : LogEntry) : LogEntry := { index := e.index, stamp := e.stamp, seconds := e.seconds }

def areaPut (t : Tab (Option LogEntry)) (e : LogEntry) : Tab (Option LogEntry) := tset t none (e.index.toNat % 8192) (some e)

/-- The oldest 16 entries go to their slots of the log area, with the gap markers that lie before the last of them. -/
def LogState.writeBlock (l : LogState) : LogState :=
  let blk := l.queue.take 16
  match blk.getLast? with
  | none => l
  | some e =>
    let before (g : LogEntry) : Bool := decide (g.index.toNat ≤ e.index.toNat)
    { l with
      queue := l.queue.drop 16
      gaps := l.gaps.filter fun g => !before g
      area := (blk ++ ((l.gaps.filter before).map LogEntry.marker)).foldl areaPut l.area }

/-- LOG_SUPPRESSED once the queue has fallen below 256 entries: the count of drops and the code of the first (R324). -/
def State.logSuppressed (s : State) : State :=
  let l := s.lk.log
  if l.unreported ≠ 0 ∧ l.queue.length < 256 then
    (s.modLk fun k => { k with log := { k.log with unreported := 0, firstCode := 0 } }).log 0x0004 false false l.unreported
      (w32 l.firstCode.toNat) 0
  else s

/-- LOG_HEADGATE_WRITE: one block of up to 16 entries is written (R324). -/
def execLogHeadgateWrite (s : State) : Host.Outcome State Fault Refusal :=
  .next (if s.lk.inService ∧ s.pwr.railsGood then
      (s.modLk fun k => { k with log := k.log.writeBlock }).logSuppressed
    else s)

/-- HOUSEKEEPING: an interval between commands, so the command before it has ended (R317, R337, 14 R363). -/
def execHousekeeping (s : State) : Host.Outcome State Fault Refusal :=
  .next (if s.lk.inService then s.memCut.logSuppressed else s)

/-! ### Requests that are no command, the hardware responder, the lease -/

/-- Every opcode of the command reference (14). -/
def opcodes : List Nat :=
  [0x0000, 0x0001, 0x0010, 0x0011, 0x0100, 0x0101, 0x0102, 0x0103, 0x0104, 0x0105] ++
  (List.range 12).map (0x0200 + ·) ++ (List.range 5).map (0x0300 + ·) ++ (List.range 6).map (0x0400 + ·) ++
  (List.range 3).map (0x0500 + ·) ++ (List.range 5).map (0x0600 + ·) ++ (List.range 4).map (0x0700 + ·) ++
  (List.range 6).map (0x0800 + ·) ++ (List.range 4).map (0x0900 + ·) ++ (List.range 8).map (0x0A00 + ·) ++
  (List.range 8).map (0x0B00 + ·) ++ (List.range 2).map (0x0C00 + ·) ++ (List.range 4).map (0x0D00 + ·) ++
  (List.range 4).map (0x0E00 + ·)

/-- BAD_OPCODE: a request that is no command, of whatever opcode or LENGTH (R336, 14 R344). -/
def execBadOpcode (opcode : BitVec 16) (r : Req) (s : State) : Host.Outcome State Fault Refusal :=
  .next (if !s.lk.inService then s.hwBusy r.port r.link r.tag
    else
      let s := s.memCut
      if r.badLength then s.notCommand r stBadLength
      else if opcodes.contains opcode.toNat then s
      else s.notCommand r stBadOpcode)

/-- The SLUICE_SET of a port that has not replied. -/
def State.sluiceWaiting (s : State) (p : Port) : Option (Nat × Req) :=
  s.clk.slc.findSome? fun e => match e.2.waiter with
    | some r => if r.port = p then some (e.1, r) else none
    | none => none

/-- HW_RESPONDER_CUTOFF: a request without a committed reply is answered BUSY and its command cancelled (R338). A MEM_WRITE is
never abandoned (14 R363), so it is accepted. -/
def execHwResponderCutoff (p : Port) (s : State) : Host.Outcome State Fault Refusal :=
  .next (match s.lk.memOps.find? fun o => o.req.port = p && !o.accepted && !o.mute with
    | some o =>
      if o.write then s.memCut
      else (s.modLk fun k => { k with memOps := k.memOps.filter fun x => x.id ≠ o.id }).hwBusy p o.req.link o.req.tag
    | none =>
      match s.sluiceWaiting p with
      | some (n, r) =>
        (s.modSlc n fun x => { x with waiter := none, closing := false, req := x.st }).hwBusy p r.link r.tag
      | none =>
        match (s.lk.port p).held with
        | some ws => s.hwBusy p (s.lk.port p).link (ws.getD 1 0)
        | none => s)

/-- LEASE_EXPIRY (R333). -/
def execLeaseExpiry (s : State) : Host.Outcome State Fault Refusal := .next s.expireLease

/-- CONTROL_RING_SEGMENT_FAIL: traffic moves to the other ring; the channel, one of the control ring's, is logged as a vertical channel
(R331). -/
def execControlRingSegmentFail (v : VChan) (s : State) : Host.Outcome State Fault Refusal :=
  let k := (vP0 v 0).toNat
  .next (if !v.present ∨ !v.ring then s
    else (s.modLk fun x => { x with ringFailed := if x.ringFailed.contains k then x.ringFailed else x.ringFailed ++ [k] }).vFail v)

end Sys2Proof.Machine
end

