-- ==== Sys2Proof/Machine/Bist.lean ====
section
/-! DEFINITION. Built-in self-test (19_bist R451 to R460, 14_command_reference R367). -/
namespace Sys2Proof.Machine

/-! ### Voltage monitors (13 R322, 20 R462) -/

/-- Nominal voltage of a monitor in mV (20 R462, 13 R322). -/
def monNominal (m : Nat) : Nat :=
  if m ≤ 2 then 720 else if m = 3 then 800 else if m = 4 then 1050 else if m = 5 then 1800
  else if m = 6 ∨ m = 21 then 1200 else if m = 7 then 2500 else if m = 8 then 900 else if m = 9 then 1200
  else if m ≤ 17 then 1200 else if m ≤ 19 then 1800 else if m = 20 then 750 else (Config.monitorNominal m).toNat

/-- Operating conditions of a monitor in mV (20 R462). -/
def monMin (m : Nat) : Nat :=
  if m ≤ 2 then 691 else if m = 3 then 768 else if m = 4 then 998 else if m = 5 then 1710
  else if m = 6 ∨ m = 21 then 1140 else if m = 7 then 2375 else if m = 8 then 864 else if m = 9 then 1152
  else if m ≤ 17 then 1140 else if m ≤ 19 then 1710 else Config.monitorMin m

def monMax (m : Nat) : Nat :=
  if m ≤ 2 then 749 else if m = 3 then 832 else if m = 4 then 1103 else if m = 5 then 1890
  else if m = 6 ∨ m = 21 then 1260 else if m = 7 then 2625 else if m = 8 then 936 else if m = 9 then 1248
  else if m ≤ 17 then 1260 else if m ≤ 19 then 1890 else Config.monitorMax m

/-- VMON_MV of a monitor as last sampled. -/
def State.monMv (s : State) (m : Nat) : Nat := field (tget s.thm.vmon 0 m) 0 16

/-! ### Conditions (R454, R456) -/

/-- The first test condition that fails, as 0x0F02 reports it: a monitor, 0x100 + the diode; a lost reference has no code. -/
def State.bistCond (s : State) : Option W32 :=
  match (List.range 24).find? fun m =>
    decide (100 * s.monMv m < 97 * monNominal m) || decide (103 * monNominal m < 100 * s.monMv m) with
  | some m => some (w32 m)
  | none =>
    if s.thm.hot = 7 ∨ s.thm.hotT.toInt < 0 ∨ 95 * 16 < s.thm.hotT.toInt then some (w32 (0x100 + s.thm.hot.toNat))
    else if s.clk.inUse.isNone ∨ s.holdover then some (Config.freeWord s.fresh 0)
    else none

/-- Domains that an instance needs in Run (R454). -/
def bistDomains (kind inst : Nat) : List Nat :=
  let p := framePlot inst
  match kind with
  | 0 | 1 => [plotDomain p]
  | 2 => [10]
  | 3 => [plotDomain (p % 2560), plotDomain (p % 2560 + 2560)]
  | _ => if inst < 320 then [nodeQuad inst] else if inst < 352 then [1] else []

/-- The instance is valid (R454). -/
def bistValid (kind inst : Nat) : Bool :=
  match kind with
  | 0 | 1 => inst % 2 = 1 && decide (inst < 2 ^ 14) && decide (inst / 256 ≤ 39)
  | 2 => decide (inst ≤ 31)
  | 3 => inst % 2 = 1 && decide (inst < 2 ^ 14) && decide (inst / 256 ≤ 39) && inst / 2 % 2 = 0
  | 4 => decide (inst ≤ 351)
  | _ => false

/-! ### Start (R454, R455, R457) -/

/-- A test begins: RECONFIG stands and, but for kind 2, both Tiers run at 400 MHz. -/
def State.bistBegin (kind inst : Nat) (o : Origin) (s : State) : State :=
  let s := s.modBist fun b =>
    { b with run := some { kind := kind, inst := inst, origin := o }, kind := BitVec.ofNat 3 kind, inst := w32 inst }
  let s := if kind = 2 then s else s.modClk fun c => { c with pulseNow := 400000 }
  s.setHold holdReconfig

/-- BIST_RUN: the conditions of R454 in their order; where a test condition fails the record carries BUSY at once and nothing
changes. -/
def bistRunBody (r : Req) (s : State) : Res :=
  let kind := (r.p 0).toNat
  let inst := (r.p 1).toNat
  if 4 < kind then .fail stBadParam
  else if s.windowRunning then .fail stWindowRunning
  else if !((bistDomains kind inst).all fun d => s.domRun d) then .fail stDomainOff
  else if s.bist.run.isSome then .fail stBusy
  else if !bistValid kind inst then .fail stBadParam
  else if s.bistCond.isSome then .acceptThen s fun t => t.postRecord (r.origin 0x0C00) stBusy []
  else .accept (s.bistBegin kind inst (r.origin 0x0C00))

/-! ### Samples (R456) -/

/-- The conditions are judged again in every sensor sample; a test that loses one is stopped (R456, R459). -/
def State.bistSample (s : State) : State :=
  match s.bist.run with
  | none => s
  | some b =>
    if b.condLost then s
    else match s.freshen.bistCond with
      | none => s
      | some p =>
        let s := s.freshen.modBist fun x => { x with run := some { b with condLost := true } }
        (s.log 0x0F02 false false (w32 b.kind) p 0).bistEvt 2

/-! ### Stimulus and signature (R452) -/

/-- The seed of an instance's stimulus: the first 8 bytes of the SHA-256 of kind, instance and serial number, bit 0 forced to 1. -/
def bistSeed (kind inst : Nat) (serial : BitVec 64) : BitVec 64 :=
  let le (k n : Nat) : List Nat := (beBytes k n).reverse
  BitVec.ofNat 64 (leNat ((sha256 (le 4 kind ++ le 4 inst ++ le 8 serial.toNat)).take 8)) ||| 1

/-- A shift of a register that divides by a polynomial whose terms below the highest are `poly`: the bit shifted out at the top is fed back.
The spec gives the polynomials and not the form of the registers (DESIGN CHOICE, log entry 117). -/
def polyShift {w : Nat} (poly : BitVec w) (x : BitVec w) : BitVec w := (x <<< 1) ^^^ (if x.msb then poly else 0)

/-- The stimulus LFSR, x^64 + x^4 + x^3 + x + 1. -/
def lfsrNext (x : BitVec 64) : BitVec 64 := polyShift 0x1B x

/-- The first n bits of the stimulus, each the top bit of the register before a shift. -/
def lfsrBits : Nat → BitVec 64 → List Bool
  | 0, _ => []
  | n + 1, x => x.msb :: lfsrBits n (lfsrNext x)

/-- The MISR, x^128 + x^7 + x^2 + x + 1 from 0, over values in their order: its final value is the raw signature. -/
def misr (values : List (BitVec 128)) : BitVec 128 := values.foldl (fun m v => polyShift 0x87 m ^^^ v) 0

/-- The pattern that kind 3 sends on every channel, n bits: alternating bits, then as many of the LFSR (R451). How many the spec does not
say (DESIGN CHOICE, log entry 117). -/
def bistPattern (seed : BitVec 64) (n : Nat) : List Bool :=
  (List.range (n / 2)).map (fun i => decide (i % 2 = 1)) ++ lfsrBits (n - n / 2) seed

/-- Bits as a value, the first lowest. -/
def bitsValue (l : List Bool) : BitVec 128 := BitVec.ofNat 128 (l.foldr (fun b a => (if b then 1 else 0) + 2 * a) 0)

/-- March C−: of each element whether its addresses ascend, whether it reads, and what it then writes. Where either order will do the model
takes the ascending one (R451). -/
def marchC : List (Bool × Bool × Option Bool) :=
  [(true, false, some false), (true, true, some true), (true, true, some false), (false, true, some true), (false, true, some false),
    (true, true, none)]

/-- The reads of element e over n words that hold v in all their stored bits, but for the bits that defects turn over. -/
def marchElement (n : Nat) (flips : List (Nat × Nat × BitVec 24)) (e : Nat) (up v : Bool) : List (BitVec 24) :=
  (if up then List.range n else (List.range n).reverse).map fun a =>
    (flips.filter fun x => x.1 = e && x.2.1 = a).foldl (fun (w : BitVec 24) x => w ^^^ x.2.2) (if v then BitVec.allOnes 24 else 0)

/-- The read data of March C− over n words (R451). -/
def marchReads (n : Nat) (flips : List (Nat × Nat × BitVec 24)) : List (BitVec 24) :=
  (((List.range 6).zip marchC).foldl (fun (acc : Bool × List (BitVec 24)) x =>
    (x.2.2.2.getD acc.1, if x.2.2.1 then acc.2 ++ marchElement n flips x.1 x.2.1 acc.1 else acc.2)) (false, [])).2

/-- Stored words of an instance of kind 1, the rows of 8 cisterns, and of kind 2, the pages of a channel (R451). -/
def marchWords (kind : Nat) : Nat := if kind = 1 then 8 * 2048 else 368640 * 240

/-- What the MISR takes in: for kinds 1 and 2 the read data of March C−, for kind 3 the values received on the channels of the pair, lower
channels first, else the responses of the instance (R451). -/
def bistValues (kind pair : Nat) (o : BistObs) : List (BitVec 128) :=
  if kind = 1 ∨ kind = 2 then (marchReads (marchWords kind) o.flips).map (·.setWidth 128)
  else if kind = 3 then (sortBy (fun (e : Nat × List Bool) => e.1) (o.rx.filter fun e => chanPair e.1 = pair)).map fun e => bitsValue e.2
  else o.got

/-- Channels of the pair whose received pattern differs from the pattern sent (R457). -/
def bistBad (pair : Nat) (seed : BitVec 64) (o : BistObs) : List Nat :=
  (o.rx.filter fun e => chanPair e.1 = pair && e.2 ≠ bistPattern seed e.2.length).map (·.1)

/-! ### End (R457 to R459) -/

/-- The repairs of kind 3: a channel found failing is repaired at once, while a window runs at its next boundary (R457, 04 R79, R80,
R83). -/
def State.bistRepair (pair : Nat) (bad : List Nat) (s : State) : State :=
  let cs := sortBy (fun c => c) (bad.filter fun c => chanPair c = pair)
  (cs.foldl (fun (s : State) c =>
    match (s.spl.chanAt c).judged with
    | some k => s.chanDeclare (!s.windowRunning) c true k s.stamp
    | none => s) s).writeRepairRecord

/-- Contents of a plot's cisterns from the running configuration where INIT is 1, else zero, with its records (R458, 06 R138). -/
def State.reloadCisterns (plot : Nat) (s : State) : State :=
  let ms := s.configOf s.runBank
  let s := match configFrame ms (frameOf plot 0) with
    | some c => s.putFrame (frameOf plot 0) c.1
    | none => s
  match ms.reverse.find? fun m => m.plots.contains plot with
  | some m => s.loadContents m .zero [plot]
  | none => s

/-- The instance after the test (R458). -/
def State.bistReinit (kind inst : Nat) (s : State) : State :=
  match kind with
  | 0 =>
    let p := framePlot inst
    let s := (s.reloadFrames [p]).modFab fun f => f.resetFlops fun q => q = p
    s.modFab fun f =>
      { f with
        ferryOut := tdrop (fun k => k / 16 / 256 = p) f.ferryOut
        ferryHalf := tdrop (fun k => k / 16 / 256 = p) f.ferryHalf }
  | 1 => s.reloadCisterns (framePlot inst)
  | 2 => s.filled inst
  | _ => s

/-- Reference value of an instance (R453). -/
def State.bistRef (s : State) (kind inst : Nat) : BitVec 128 := tget s.bist.refs 0 (kind * 2 ^ 32 + inst)

def sigWords (x : BitVec 128) : List W32 := (List.range 4).map fun i => BitVec.ofNat 32 (x.toNat >>> (32 * i))

/-- The result is reported: event bits, log, record (R459, R460). -/
def State.bistReport (b : BistRun) (c0 : BitVec 3) (sig : BitVec 128) (s : State) : State :=
  let pass := c0.getLsbD 0
  let s := s.modBist fun x =>
    { x with
      run := none
      result := c0
      recKind := BitVec.ofNat 3 b.kind
      sig := sig
      runs := satInc x.runs
      fails := if pass then x.fails else satInc x.fails }
  let s := (s.log 0x0F01 (!pass) false (w32 b.kind) (w32 b.inst) (w32 c0.toNat)).bistEvt 0
  let s := if pass then s else s.bistEvt 1
  s.postRecord b.origin stOk (w32 c0.toNat :: sigWords sig)

/-- BIST_TEST_COMPLETE: the instance's responses are compressed into the raw signature; a channel of kind 3 whose received pattern differs
from the pattern sent is repaired (R452, R453, R457). A weir's test starts once the Leat is empty; a test that meets a closed sluice waits
for it to reopen (16 R409). -/
def execBistTestComplete (o : BistObs) (s : State) : Host.Outcome State Fault Refusal :=
  .next (match s.bist.run with
    | none => s
    | some b =>
      if !s.slcOpen 10 ∨ (b.kind = 4 ∧ !s.leatEmpty) then s
      else
        let pair := plotPair (framePlot b.inst)
        let sig := misr (bistValues b.kind pair o)
        let mine := bistBad pair (bistSeed b.kind b.inst s.sec.fuses.serial) o
        let repaired := decide (b.kind = 3) && !mine.isEmpty
        let s := if repaired then s.bistRepair pair mine else s
        let pass := !b.condLost && decide (sig = s.bistRef b.kind b.inst)
        let c0 := BitVec.ofNat 3 ((if pass then 1 else 0) + (if b.condLost then 2 else 0) + if repaired then 4 else 0)
        let s := (s.bistReinit b.kind b.inst).modClk fun c =>
          { c with pulseNow := if b.kind = 2 then c.pulseNow else reducedRate s.fab.pulseKhz s.thm.reduction.toNat }
        let s := s.bistReport b c0 sig
        let s := if s.img.app.isNone ∧ s.img.load.isNone then s.clearHold holdReconfig else s
        if b.kind = 2 then s.serveAll b.inst else s)

/-- BIST_RUN (0x0C00; R367, 19 R454). -/
def execBistRun (r : Req) (s : State) : Host.Outcome State Fault Refusal :=
  .next (s.freshen.serveCmd r 0x0C00 .owner (r.length = 4) (bistRunBody r))

/-- BIST_RESULT (0x0C01; R367): the words of the latest record and its kind. -/
def execBistResult (r : Req) (s : State) : Host.Outcome State Fault Refusal :=
  .next (s.serveCmd r 0x0C01 .anyone (r.length = 2) fun s =>
    .ok s (w32 s.bist.result.toNat :: sigWords s.bist.sig ++ [w32 s.bist.recKind.toNat]))

end Sys2Proof.Machine
end

