-- ==== Sys2Proof/Machine/Thermal.lean ====
section
/-! DEFINITION. The sensor block: the millisecond sample, throttling, orderly stop, hard trip (13_lockkeeper R321, R322,
17_power_thermal R428 to R435). -/
namespace Sys2Proof.Machine

/-! ### What a millisecond brings -/

/-- The counters that a millisecond moves: seconds, lease, time throttled, in the safe state, stopping, waiting for the rails. -/
def State.tickMs (s : State) : State :=
  let s := s.modLk fun k =>
    { k with
      ms := (k.ms + 1) % 1000
      seconds := if k.ms + 1 = 1000 then k.seconds + 1 else k.seconds }
  let s := if s.lk.owner = 0 then s
    else if s.lk.leaseTicks ≤ 100 then s.expireLease
    else s.modLk fun k => { k with leaseTicks := k.leaseTicks - 100 }
  let s := if s.clk.safe then s.modClk fun c => { c with safeMs := c.safeMs + 1 } else s
  s.modThm fun t =>
    { t with
      throttleMs := if t.reduction = 0 then t.throttleMs else satInc t.throttleMs
      stopMs := if t.stopping then t.stopMs + 1 else t.stopMs }

/-! ### Diodes (R428 to R430) -/

/-- Stack neighbours (01_stack R10). -/
def diodeNear : Nat → List Nat
  | 0 => [1, 2]
  | 1 => [0, 2]
  | 2 => [0, 1, 3]
  | 3 => [2, 4]
  | 4 => [3, 5]
  | _ => [4]

/-- Rows 1 to 3: open, short, out of range; 0 where none applies. -/
def DiodeObs.row (o : DiodeObs) : Nat :=
  if 950 < o.mv then 1 else if o.mv < 150 then 2 else if o.t < -640 ∨ 2400 < o.t then 3 else 0

def diodeObs (l : List DiodeObs) (d : Nat) : DiodeObs := l.getD d { t := 0, mv := 0 }

def State.diodeAt (s : State) (d : Nat) : Diode := tget s.thm.diode {} d

/-- Neighbours that take part in the comparison (R429). -/
def State.diodePeers (s : State) (l : List DiodeObs) (d : Nat) : List Nat :=
  (diodeNear d).filter fun n => !(s.diodeAt n).ignored && (diodeObs l n).row = 0

def differs (l : List DiodeObs) (a b : Nat) : Bool := decide (240 < ((diodeObs l a).t - (diodeObs l b).t).natAbs)

/-- The diode has neighbours to compare with and agrees with none. -/
def State.diodeLone (s : State) (l : List DiodeObs) (d : Nat) : Bool :=
  let ps := s.diodePeers l d
  !ps.isEmpty && ps.all fun n => differs l d n

/-- The diode is judged bad for disagreement: of two that agree with nobody, the lower only (R429). -/
def State.diodeOdd (s : State) (l : List DiodeObs) (d : Nat) : Bool :=
  let lone := (s.diodePeers l d).filter fun n => s.diodeLone l n
  let t (n : Nat) : Int := (diodeObs l n).t
  s.diodeLone l d && ((lone.all fun n => decide (t d < t n)) || lone.any fun n => decide (t d < t n))

/-- DIODE_WHY of this sample, 0 good (R428). -/
def State.diodeWhy (s : State) (l : List DiodeObs) (d : Nat) : Nat :=
  let r := (diodeObs l d).row
  if r ≠ 0 then r else if s.diodeOdd l d then 4 else 0

/-- Count a sample of one diode: the third bad one ignores it, the hundredth good one restores it (R428). -/
def Diode.count (why : Nat) (o : DiodeObs) (x : Diode) : Diode :=
  let bad := if why = 0 then 0 else x.bad + 1
  let good := if why = 0 then x.good + 1 else 0
  let ignored := if x.ignored then decide (good < 100) else decide (3 ≤ bad)
  { t := BitVec.ofInt 16 o.t
    valid := !ignored
    why := if !ignored then 0 else if x.ignored then x.why else BitVec.ofNat 3 why
    bad := bad
    good := good
    ignored := ignored }

/-- All diodes of a sample, judged against the validity before it (R428). -/
def State.sampleDiodes (l : List DiodeObs) (s : State) : State :=
  (List.range 6).foldl (fun (u : State) d =>
    let old := s.diodeAt d
    let new := old.count (s.diodeWhy l d) (diodeObs l d)
    let u := u.modThm fun t => { t with diode := tset t.diode {} d new }
    if new.ignored ∧ !old.ignored then (u.log 0x0D07 true false (w32 d) (w32 new.why.toNat) 0).thmEvt 1
    else if old.ignored ∧ !new.ignored then (u.log 0x0D08 false false (w32 d) 0 0).thmEvt 2
    else u) s

/-- The governing temperature (R430). With no valid diode HOT_T is a free value. -/
def State.sampleHot (s : State) : State :=
  let best := (List.range 6).foldl (fun (a : Option Nat) d =>
    if !(s.diodeAt d).valid then a
    else match a with
      | none => some d
      | some b => if (s.diodeAt b).t.toInt < (s.diodeAt d).t.toInt then some d else a) none
  match best with
  | some d => s.modThm fun t => { t with hot := BitVec.ofNat 3 d, hotT := (s.diodeAt d).t }
  | none =>
    let s := s.freshen
    s.modThm fun t => { t with hot := 7, hotT := BitVec.ofNat 16 (Config.freeWord s.fresh 0).toNat }

/-! ### Throttling (R431, R432) -/

/-- The target that a governing temperature in 1/16 °C gives for the throttle start S. -/
def targetOf (start : Nat) (t : Int) : Nat :=
  let d := t - 16 * (start : Int)
  if d < 0 then 0 else 5 * min 10 (d.toNat / 16 + 1)

/-- The target of this sample, and FIXED (R431). -/
def State.sampleTarget (s : State) : State :=
  let t0 := if s.thm.hot = 7 then 0 else targetOf s.thm.start.toNat s.thm.hotT.toInt
  let fixed := !(s.diodeAt 3).valid && !(s.diodeAt 4).valid
  let t := if fixed then max 25 t0 else t0
  let was := s.thm.fixed
  let s := s.modThm fun x =>
    { x with
      target := BitVec.ofNat 6 t
      fixed := fixed
      lows := if t < x.reduction.toNat then (BitVec.ofNat 6 t :: x.lows).take 10 else [] }
  if fixed ∧ !was then (s.log 0x0D09 true false 0 0 0).thmEvt 3 else s

/-! ### Monitors (13 R322, 20 R462, R463, R465) -/

def monWord (m mv : Nat) : W32 := w32 (mv % 65536) ||| bitAt (decide (mv < monMin m)) 16 ||| bitAt (decide (monMax m < mv)) 17

/-- Voltage monitors: each departure is logged while the device runs (R463). -/
def State.sampleMon (l : List Nat) (s : State) : State :=
  let runs := s.pwr.railsGood && s.pwr.dev ≠ .off
  (List.range 24).foldl (fun (u : State) m =>
    let mv := l.getD m 0
    let old := tget s.thm.vmon 0 m
    let new := monWord m mv
    let u := u.modThm fun t => { t with vmon := tset t.vmon 0 m new }
    if runs ∧ field new 16 2 ≠ 0 ∧ field old 16 2 = 0 then (u.log 0x0D0C true false (w32 m) (w32 mv) 0).pwrEvt 5 else u) s

/-- Rails that are still out of range 200 ms after VAUX or PWR_EN rose are logged once (20 R465). -/
def State.railWatch (s : State) : State :=
  if s.pwr.railsGood ∨ !s.pwr.pwrEn ∨ 200 ≤ s.pwr.railMs then s
  else
    let s := s.modPwr fun p => { p with railMs := p.railMs + 1 }
    if s.pwr.railMs ≠ 200 then s
    else match (List.range 24).find? fun m => field (tget s.thm.vmon 0 m) 16 2 ≠ 0 with
      | some m => (s.log 0x0D0C true false (w32 m) (w32 (s.monMv m)) 0).pwrEvt 5
      | none => s

/-- Currents, bank supplies, the second of the sample, the fast oscillator while a reference is locked (13 R322, 16 R395). -/
def State.sampleRest (o : SensorObs) (s : State) : State :=
  let ok := (List.range 20).foldl (fun (a : BitVec 20) b => if vccioOk (s.bankCfg b) (o.vccio.getD b 0) then a ||| (1#20 <<< b) else a) 0
  let s := s.modThm fun t =>
    { t with
      imon := (List.range 4).foldl (fun (x : Tab W32) r => tset x 0 r (w32 (o.amps.getD r 0 % 65536))) t.imon
      vccioOk := ok
      sampleS := s.lk.seconds }
  if s.clk.inUse.isSome then s.modClk fun c => { c with fosc := BitVec.ofNat 18 o.foscKhz } else s

/-! ### Orderly stop (R433) -/

/-- The window has ended and none is about to start. -/
def State.idleWindow (s : State) : Bool :=
  match s.win.st with
  | .held | .notReleased => true
  | .ready => !s.win.edgeAccepted
  | _ => false

/-- HOT_T reaches 105 °C: an orderly stop begins, and between windows is complete at once (R433, R439). -/
def State.orderlyStop (s : State) : State :=
  if s.thm.hot = 7 ∨ s.thm.hotT.toInt < 105 * 16 ∨ s.thm.stopping ∨ s.thm.stopped ∨ s.thm.shdn ∨ s.pwr.dev ≠ .run ∨ s.inReset
  then s
  else
    let s := s.sleepWithdraw.modThm fun t =>
      { t with
        stopping := true
        stopMs := 0
        stopT := t.hotT
        stopCaptured := false
        stopCnt := satInc t.stopCnt }
    if s.idleWindow then s.thermalStop false else s

/-- SENSOR_SAMPLE: the sensor block runs through every state that has VAUX (13 R321, 17 R428 to R433, 19 R456). -/
def execSensorSample (o : SensorObs) (s : State) : Host.Outcome State Fault Refusal :=
  .next (if s.rst.st = .dead then s
    else
      let s := ((s.tickMs.sampleDiodes o.diodes).sampleHot.sampleTarget.sampleMon o.mv).railWatch.sampleRest o
      let s := s.orderlyStop.bistSample
      if s.pwr.dev = .thermal ∧ s.thm.hot ≠ 7 ∧ s.thm.hotT.toInt ≤ 16 * ((s.thm.start.toNat : Int) - 10) then s.wakeBy 4 none else s)

/-- The orderly stop's capture is given up (R433). -/
def State.dropThermalCap (s : State) : State :=
  match s.rst.capRun with
  | some q => if q.origin.isNone then (s.modRst fun r => { r with capRun := none }).clearHold holdCapture else s
  | none => s

/-- ORDERLY_STOP_TIMEOUT: 5 ms have passed since the sample. A window that still runs takes a clock stop at the next turn end, with
which thermal stop begins; a capture under way is abandoned (R433). -/
def execOrderlyStopTimeout (s : State) : Host.Outcome State Fault Refusal :=
  .next (if !s.thm.stopping then s
    else
      let s := s.modThm fun t => { t with stopMs := max t.stopMs 5 }
      match s.win.st with
      | .running =>
        let s := s.clockStop stopThermal
        if s.fab.clockStop.contains stopThermal then s.thermalStop true else s
      | .starting => s.thermalStop true
      | .boundary => s.dropThermalCap.boundaryGoOn
      | _ => if s.idleWindow then s.thermalStop false else s.thermalStop true)

/-! ### Hard trip (R435) -/

/-- HARD_TRIP: THERM_SHDN_N goes low, the pins float, every Tier clock is gated; an orderly stop is abandoned (R435, R439).
`diodes` are the comparators that tripped. -/
def execHardTrip (diodes : BitVec 6) (s : State) : Host.Outcome State Fault Refusal :=
  .next (if diodes = 0 ∨ s.rst.st = .dead then s
    else
      let was := s.thm.shdn
      let s := s.dropThermalCap.modThm fun t => { t with stopping := false, shdn := true, tripped := t.tripped ||| diodes }
      if was then s else (s.takeStop stopTrip).showPins.emit .thermShdn)

end Sys2Proof.Machine
end

