-- ==== Sys2Proof/Machine/Resets.lean ====
section
/-! DEFINITION. Resets: power-on, warm, die, domain and forced Sill reset, and the commands of class 0x0D
(18_faults_resets R441 to R448, 14_command_reference R368). -/
namespace Sys2Proof.Machine

/-! ### What each part keeps over a warm reset (R442) -/

/-- The window block: window and turn count 0, not released. Counts since power-on stay, and a vertical channel without spare holds
until power-on (14 R357). -/
def WindowState.warm (w : WindowState) : WindowState :=
  let v := w.causes &&& 2
  { winMstr := w.winMstr
    modeReg := if w.winMstr then 2 else 0
    mode := if w.winMstr then 2 else 0
    lateCnt := w.lateCnt
    earlyCnt := w.earlyCnt
    causes := v
    hold := 0x400 ||| (if v = 0 then 0 else holdBit holdFault) }

/-- The repair map, the frozen pairs and the declarations since power-on stay (04 R83, R89, R90). -/
def SpliceState.warm (x : SpliceState) : SpliceState :=
  { chan := tmapListed {} (fun _ r => { r with due := false, taken := false, late := false, fwd := false }) x.chan
    spare := x.spare
    pool := x.pool
    badPort := x.badPort
    pair := tmapListed {} (fun _ r => { r with slack := 0, drift := 0, driftUp := 0, driftDn := 0 }) x.pair
    nextOrder := x.nextOrder
    weakCnt := x.weakCnt
    verrCnt := x.verrCnt
    recChan := x.recChan
    recSpare := x.recSpare
    recPool := x.recPool
    recPort := x.recPort
    recFrozen := x.recFrozen }

def CisternState.warm (c : CisternState) : CisternState :=
  { rows := c.rows, corrCnt := c.corrCnt, uncorrCnt := c.uncorrCnt, scrubPass := c.scrubPass }

/-- A controller that has lost its supply (17 R414, R424). -/
def MemCtl.unpowered (c : MemCtl) : MemCtl := { pass := c.pass }

/-- The operation timed for the next start stays: it stands in the role table (10 R244, R442). -/
def ImgState.warm (x : ImgState) : ImgState :=
  { bank0 := x.bank0
    bank1 := x.bank1
    bank2 := x.bank2
    act := x.act
    prev := x.prev
    stg := x.stg
    stgValid := x.stgValid
    sweeps := x.sweeps
    pend := match x.pend with
      | some p => if p.atStart then some p else none
      | none => none }

/-- A port starts empty; the record of an operation timed for the next start stays due (R442). -/
def portWarm (p : Port) (pend : Option PendOp) : PortState :=
  { running := match pend with
      | some q => (match q.origin with
        | some o => if o.port = p then 1 else 0
        | none => 0)
      | none => 0 }

/-- The Lockkeeper runs on; the ports are empty, what runs for them is withdrawn (R442, 14 R372). -/
def LkState.warm (pend : Option PendOp) (k : LkState) : LkState :=
  { k with
    pf0 := portWarm .pf0 pend
    pf1 := portWarm .pf1 pend
    smbus := portWarm .smbus pend
    jtag := portWarm .jtag pend
    array := portWarm .array pend
    leaseLen := 10
    leaseTicks := 0
    forwards := []
    memOps := []
    deferred := [] }

/-- The endpoint is at reset values, its link down; the TAP is not reset (12 R297, R304). -/
def HostState.warm (h : HostState) : HostState :=
  { addrSel := h.addrSel
    perst := h.perst
    nextRead := h.nextRead
    ir := h.ir
    cmdDr := h.cmdDr
    boundary := h.boundary }

/-- References, PLLs and their monitors run on; settings are reset and sluices open. -/
def ClockState.warm (c : ClockState) : ClockState :=
  { c with
    select := 0
    refbSrc := false
    recGroup := 0
    recLane := 0
    slc := []
    evt := 0
    evtEn := 0 }

/-- Power settings are reset; the last wake stays in the always-on domain (17 R424). -/
def PowerState.warm (p : PowerState) : PowerState :=
  { pwrEn := p.pwrEn
    railMs := p.railMs
    railsGood := p.railsGood
    wakeLast := p.wakeLast
    wakeUs := p.wakeUs }

/-- Samples, counts since power-on and the trip stay (17 R428, R435, R438). -/
def ThermalState.warm (t : ThermalState) : ThermalState :=
  { trip := t.trip
    shdn := t.shdn
    tripped := t.tripped
    hot := t.hot
    hotT := t.hotT
    throttleMs := t.throttleMs
    stopCnt := t.stopCnt
    diode := t.diode
    vmon := t.vmon
    imon := t.imon
    vccioOk := t.vccioOk
    sampleS := t.sampleS }

def BistState.warm (b : BistState) : BistState := { runs := b.runs, fails := b.fails, refs := b.refs }

def FlumeState.warm (f : FlumeState) : FlumeState :=
  { chan := tmapListed {} (fun _ x => { cnt := x.cnt }) f.chan }

def SecState.warm (x : SecState) : SecState :=
  { x with
    switching := none
    switched := none
    attests := []
    evt := 0
    evtEn := 0 }

/-- Lane group PLLs run on; links are trained at release (R442). -/
def LaneState.warm (l : LaneState) : LaneState := { group := tmapListed {} (fun _ g => { pll := g.pll }) l.group }

/-- The pins that are driven are released (10 R240). -/
def State.pinsReleased (s : State) : State := (s.modFab fun f => { f with outFree := false }).showPins

/-- Every domain other than always-on is held in reset (R442, R443). -/
def State.warmHeld (s : State) : State :=
  let s := s.pinsReleased
  let pend := s.img.warm.pend
  { s with
    win := s.win.warm
    fab := {}
    spl := s.spl.warm
    vert := { s.vert with holdA := false, holdB := false }
    cst := s.cst.warm
    mem := { words := s.mem.words, ctl := tmapListed {} (fun _ c => c.warm) s.mem.ctl, imgRate := s.mem.imgRate }
    leat := {}
    flm := s.flm.warm
    sec := s.sec.warm
    img := s.img.warm
    io := {}
    lnk := s.lnk.warm
    lk := s.lk.warm pend
    host := s.host.warm
    pwr := s.pwr.warm
    clk := s.clk.warm
    thm := s.thm.warm
    rst :=
      { st := .held
        cause := s.rst.cause
        cntBefore := s.rst.cntBefore
        resetN := s.rst.resetN
        captured := s.rst.captured }
    bist := s.bist.warm }

/-! ### Warm reset (R443) -/

/-- Steps 1 and 2 begin: the clock stop, and the controllers that quiesce. -/
def State.warmBegin (cause : ResetCause) (s : State) : State :=
  (s.clockStop stopWarm).modRst fun r =>
    { r with st := .quiescing, cause := cause, cntBefore := s.wcnt, deviceReset := false }

/-- RESET_N_ASSERT: RESET_N has been low for 10 µs (R441, R443). -/
def execResetNAssert (s : State) : Host.Outcome State Fault Refusal :=
  .next (if s.rst.st = .dead then s
    else
      let s := s.modRst fun r => { r with resetN := true }
      if s.rst.st = .held ∨ s.rst.st = .quiescing then s else s.warmBegin .resetN)

/-- WARM_RESET_BEGIN: 1 ms after the reply of DEVICE_RESET (R443). -/
def execWarmResetBegin (s : State) : Host.Outcome State Fault Refusal :=
  .next (if s.rst.deviceReset ∧ s.rst.st ≠ .dead ∧ s.rst.st ≠ .held ∧ s.rst.st ≠ .quiescing then s.warmBegin .device
    else s.modRst fun r => { r with deviceReset := false })

/-- Ledgers of controllers that did not reach self-refresh are rebuilt (R448, 07 R155). -/
def State.rebuildLedgers (s : State) : State :=
  (tkeys s.mem.ctl).foldl (fun (s : State) m =>
    if (s.ctlAt m).rebuild then
      ((s.ctlAt m).ledger.foldl (fun (s : State) e => s.ledgerLost m e.page) s).modCtl m fun c => { c with rebuild := false }
    else s) s

/-- Start-up begins (R443 step 4, 10 R238). -/
def State.startBegin (s : State) : State := ((s.modRst fun r => { r with st := .starting }).rebuildLedgers).startUp

/-- Step 2 ends: the ledgers of the controllers in Run are flushed, but for those named; every other domain is held until RESET_N is
high (R443). A device that was owned becomes unowned (13 R332). -/
def State.quiesced (late : List Nat) (s : State) : State :=
  let s := ((List.range 40).filter fun m => !late.contains m && decide ((s.ctlAt m).pstate = .run)).foldl
    (fun (s : State) m => s.flushAll m) s
  let s := late.foldl (fun (s : State) m => s.modCtl m fun c => { c with rebuild := true }) s
  let s := (s.setOwner 0 4).warmHeld
  if s.rst.resetN then s else s.startBegin

/-- WARM_RESET_QUIESCE_DONE (R443). -/
def execWarmResetQuiesceDone (s : State) : Host.Outcome State Fault Refusal :=
  .next (if s.rst.st = .quiescing then s.quiesced [] else s)

/-- RESET_TIMEOUT: `ctls` had not reached self-refresh at 200 µs; their number is logged (R443, R448). -/
def execResetTimeout (ctls : List Nat) (s : State) : Host.Outcome State Fault Refusal :=
  let l := (ctls.filter fun m => decide (m < 40)).eraseDups
  .next (if s.rst.st = .quiescing then (s.log 0x1006 true true (w32 l.length) 0 0).quiesced l else s)

/-- RESET_N_RELEASE: WIN_MSTR is sampled; with every comparator below 105 °C a hard trip ends; start-up begins once the reset is
complete (R441, R443, 05 R97, 17 R435). -/
def execResetNRelease (winMstr cool : Bool) (s : State) : Host.Outcome State Fault Refusal :=
  .next (if s.rst.st = .dead ∨ !s.rst.resetN then s
    else
      let s := s.modRst fun r => { r with resetN := false }
      let s := s.modWin fun w =>
        { w with
          winMstr := winMstr
          modeReg := if winMstr then 2 else 0
          mode := if winMstr then 2 else 0 }
      let s := if s.thm.shdn ∧ cool then
          (s.modThm fun t => { t with shdn := false }).modRst fun r => { r with cause := .trip }
        else s
      if s.rst.st = .held then s.startBegin else s)

/-! ### Power (R441, R467, 20 R465, 17 R424) -/

/-- What outlasts VAUX: the Headgate's content, fuses and always-written tables (10 R228, R244, 13 R323, R324, 15 R374). -/
def State.unpowered (s : State) : State :=
  { pending := s.pending
    fresh := s.fresh
    out := s.out
    spl :=
      { recChan := s.spl.recChan
        recSpare := s.spl.recSpare
        recPool := s.spl.recPool
        recPort := s.spl.recPort
        recFrozen := s.spl.recFrozen }
    vert := { record := s.vert.record }
    sec :=
      { fuses := s.sec.fuses
        slot0 := s.sec.slot0
        slot1 := s.sec.slot1
        slot2 := s.sec.slot2
        slot3 := s.sec.slot3
        keyCtr := s.sec.keyCtr
        fwMin := s.sec.fwMin
        idN := s.sec.idN
        idD := s.sec.idD
        cert := s.sec.cert
        fw0 := s.sec.fw0
        fw1 := s.sec.fw1
        fwOk0 := s.sec.fwOk0
        fwOk1 := s.sec.fwOk1
        fwNamed := s.sec.fwNamed }
    img :=
      { s.img.warm with
        sweeps := 0
        pend := s.img.warm.pend.map fun p => { p with origin := none } }
    lk := { log := { area := s.lk.log.area, next := s.lk.log.next } }
    bist := { refs := s.bist.refs }
    rst := { st := .dead } }

/-- POWER_OFF: VAUX falls below 1.55 V, and the power-on reset is asserted (20 R467). -/
def execPowerOff (s : State) : Host.Outcome State Fault Refusal := .next s.unpowered

/-- POWER_ON: VAUX rises; everything is reset, the straps are sampled, the repair map comes from the repair record (R441, 20 R467,
04 R83, 16 R393, R402). -/
def execPowerOn (st : Straps) (s : State) : Host.Outcome State Fault Refusal :=
  let s := s.unpowered
  let s := (s.modSpl fun x => x.restoreRecord).modVert fun t => t.restored
  let s := s.modClk fun c => { c with modeA := st.refaMode, modeB := st.refbMode, pulseNow := s.gradeMax }
  let s := s.modHost fun h => { h with addrSel := st.addrSel }
  let s := s.modWin fun w =>
    { w with
      winMstr := st.winMstr
      modeReg := if st.winMstr then 2 else 0
      mode := if st.winMstr then 2 else 0 }
  .next (s.modRst fun r => { r with st := .held, cause := .powerOn, cntBefore := 0, resetN := true })

/-- A wake from Off finds the rails present: the device starts as after RESET_N. Ownership, the ports and the log have been kept;
memory and the repair map have not (17 R424). -/
def State.offStart (s : State) : State :=
  let lk := s.lk
  let p := s.pwr
  let s := s.warmHeld
  let s :=
    { s with
      lk := lk
      mem := { ctl := tmapListed {} (fun _ c => c.unpowered) s.mem.ctl, imgRate := s.mem.imgRate }
      spl := s.spl.restoreRecord
      vert := s.vert.restored
      pwr := { s.pwr with dev := p.dev, wake := p.wake, wakeOn := p.wakeOn } }
  (s.modRst fun r => { r with causeLogged := true }).startBegin

/-- POWER_GOOD: every rail has been in range for 1 ms (20 R465). -/
def execPowerGood (s : State) : Host.Outcome State Fault Refusal :=
  .next (if s.rst.st = .dead ∨ !s.pwr.pwrEn ∨ s.pwr.railsGood then s
    else
      let s := s.modPwr fun p => { p with railsGood := true, railMs := 0 }
      let fromOff := s.pwr.dev = .waking && (match s.pwr.wake with
        | some w => decide (w.left = .off)
        | none => false)
      if fromOff ∧ s.rst.st = .none then s.offStart else s.startUp)

/-! ### Die and domain resets (R444, R445) -/

/-- DIE_RESET (0x0D00): at step 6f, or as its reply is committed with FORCE on die 0 (14 R368, R446). -/
def dieResetBody (r : Req) (s : State) : Res :=
  let die := (r.p 0).toNat
  let o := r.origin 0x0D00
  if 4 < die ∨ !only (r.p 1) 1 ∨ (r.p 1 = 1 ∧ die ≠ 0) then .fail stBadParam
  else if r.p 1 = 1 then
    (if s.rst.forced.isSome then .fail stBusy else .acceptThen s fun t => t.forceSill o)
  else
    let s := s.modRst fun x => { x with dies := x.dies ++ [{ unit := die, origin := o }] }
    .accept (if s.opAtOnce then s.resetBegin else s)

/-- DIE_RESET (0x0D00; R368, 18 R444). -/
def execDieReset (r : Req) (s : State) : Host.Outcome State Fault Refusal :=
  .next (s.serveCmd r 0x0D00 .owner (r.length = 4) (dieResetBody r))

/-- DIE_RESET_COMPLETE (R444). -/
def execDieResetComplete (die : Fin 5) (s : State) : Host.Outcome State Fault Refusal :=
  .next (match s.rst.dieRun.find? fun q => q.unit = die.val with
    | some q => (s.dieResetDone q).powerSettle.boundaryGoOn
    | none => s)

/-- A lane group that carries a joined link is not reset (R445, 17 R415). -/
def State.laneDomJoined (s : State) (d : Nat) : Bool :=
  isLaneDom d && s.inArray && (List.range 16).any fun i => (s.linkAt i).valid && (s.linkAt i).group = d - 20

/-- DOMAIN_RESET (0x0D01): at step 6f (14 R368). -/
def execDomainReset (r : Req) (s : State) : Host.Outcome State Fault Refusal :=
  let d := (r.p 0).toNat
  .next (s.serveCmd r 0x0D01 .owner (r.length = 3) fun s =>
    if d = 0 ∨ 57 ≤ d ∨ s.laneDomJoined d then .fail stBadParam
    else
      let s := s.modRst fun x => { x with doms := x.doms ++ [{ unit := d, origin := r.origin 0x0D01 }] }
      .accept (if s.opAtOnce then s.resetBegin else s))

/-- The reset of a domain is not taken with that of its die. -/
def State.ownReset (s : State) (d : Nat) : Bool :=
  match domDie d with
  | some k => !s.rst.dieRun.any fun x => x.unit = k
  | none => true

/-- DOMAIN_RESET_COMPLETE: `mv` is VCCIO of an I/O bank (R445, 12 R310). A DDR4 channel has read its SPD again; a domain that was not in
Run has entered it. -/
def execDomainResetComplete (d : Fin 64) (mv : Nat) (s : State) : Host.Outcome State Fault Refusal :=
  let ready := !(isMemDom d && d.val ≠ 10) || (s.ctlAt (32 + (d.val - 12))).ready
  .next (match s.rst.domRun.find? fun q => q.unit = d.val with
    | some q =>
      if !ready ∨ !s.ownReset d then s
      else
        let s := (s.domReset d mv).modRst fun x => { x with domRun := x.domRun.filter fun y => y.unit ≠ d.val }
        (s.domResetDone q).powerSettle.boundaryGoOn
    | none =>
      match s.rst.domLater.find? fun q => q.unit = d.val with
      | some q =>
        if s.domRun d then
          ((s.domReset d mv).modRst fun x => { x with domLater := x.domLater.filter fun y => y.unit ≠ d.val }).domResetDone q
        else s
      | none => s)

/-- SILL_RESET_HOLD_END: step 5 of a forced Sill reset is over, and the controllers leave self-refresh (R446). -/
def execSillResetHoldEnd (s : State) : Host.Outcome State Fault Refusal :=
  .next (s.modRst fun r => { r with forced := r.forced.map fun q => { q with released := true } })

/-- FORCED_RESET_COMPLETE: step 7; a boundary that was paused goes on, and a paused step 2 is complete (R446). -/
def execForcedResetComplete (s : State) : Host.Outcome State Fault Refusal :=
  .next (match s.rst.forced with
    | some q =>
      if !q.released then s
      else
        let s := s.forcedEnd q
        if s.win.st = .boundary ∧ s.win.paused then
          let s := s.modWin fun w => { w with paused := false }
          if s.win.step = 2 then s.boundaryDrained else s.boundaryGoOn
        else s
    | none => s)

/-! ### DEVICE_RESET and LK_RESTART (14 R368) -/

/-- DEVICE_RESET (0x0D02; R368): the reset begins with WARM_RESET_BEGIN. -/
def execDeviceReset (r : Req) (s : State) : Host.Outcome State Fault Refusal :=
  .next (s.serveCmd r 0x0D02 .owner (r.length = 2) fun s => .ok (s.modRst fun x => { x with deviceReset := true }) [])

/-- A full restart that a command causes: the cause that FULL_RESTART reports for it is a free value (13 R325). -/
def State.commandRestart (s : State) : State :=
  let s := s.restartBegin.freshen
  s.log 0x0002 true true (Config.freeWord s.fresh 0) 0 0

/-- LK_RESTART (0x0D03; R368): a full restart once its reply is committed. -/
def execLkRestart (r : Req) (s : State) : Host.Outcome State Fault Refusal :=
  .next (s.serveCmd r 0x0D03 .owner (r.length = 2) fun s => .okThen s fun t => t.commandRestart)

end Sys2Proof.Machine
end

