-- ==== Sys2Proof/Machine/RegRead.lean ====
section
/-! DEFINITION. What each register reads as (the register tables of 05 R120, 07 R164, 08 R204 to R206, 09 R226 and R227,
10 R258, 11 R291, 12 R314, 13 R327, 15 R391, 16 R412, 17 R437 and R438, 19 R460). Reserved bits read 0. -/
namespace Sys2Proof.Machine

/-- A number in a word at bit `lo`. -/
def at_ (n lo : Nat) : W32 := w32 (n <<< lo)

/-- A word of 64 bits or 128 bits, by place. -/
def wordOf {w : Nat} (x : BitVec w) (i : Nat) : W32 := w32 (x.toNat >>> (32 * i))

/-! ### Identity block and the view of the PF0 mailbox (12 R314, 13 R327) -/

/-- ID_DEVICE. -/
def State.idDevice (s : State) : W32 :=
  w32 (0x2080 + 2 ^ 16 * s.sec.fuses.grade.toNat + 2 ^ 24 * s.sec.fuses.rev.toNat)

def State.idReg (s : State) (o : Nat) : W32 :=
  let h := s.host
  if o = 0x00 then s.idDevice
  else if o = 0x04 then wordOf s.sec.fuses.serial 0
  else if o = 0x08 then wordOf s.sec.fuses.serial 1
  else if o = 0x10 then w32 h.csrErr.toNat
  else if o = 0x14 then w32 h.lastOffset.toNat ||| at_ h.lastKind.toNat 26 ||| at_ h.lastFunc.toNat 28
  else if o = 0x18 then h.dropCnt
  else if o = 0x1C then w32 h.speed.toNat ||| at_ h.width.toNat 4 ||| bitAt h.linkUp 8 ||| bitAt h.pf0.bme 9 ||| bitAt h.pf0.d3hot 10
  else if o = 0x20 then w32 s.smbAddr ||| bitAt h.pecReq 7 ||| at_ h.pecErrs.toNat 8
  else 0

/-- A register of a mailbox at its BAR2 offset; `reader` is the function that reads it. -/
def State.mbxReg (s : State) (p reader : Port) (o : Nat) : W32 :=
  let x := s.lk.port p
  if o < 0x1000 then tget x.req 0 (o / 4)
  else if o < 0x2000 then x.reply.getD ((o - 0x1000) / 4) 0
  else if o = 0x2004 then bitAt x.held.isSome 0 ||| bitAt x.replyReady 1 ||| bitAt x.overrun 2 ||| bitAt x.hwReply 3
    ||| bitAt s.lk.inService 4
  else if o = 0x2008 then w32 x.crHead.toNat
  else if o = 0x200C then w32 x.crTail.toNat
  else if o = 0x2010 then w32 s.lk.owner.toNat ||| at_ reader.num 4 ||| at_ s.leaseSeconds 16
  else if 0x4000 ≤ o ∧ o < 0x6000 then tget x.cr 0 ((o - 0x4000) / 4)
  else 0

/-! ### Clocks and sluices (16 R412) -/

/-- CLK_STATUS. -/
def State.clkStatus (s : State) : W32 :=
  let c := s.clk
  w32 (match c.inUse with | some .a => 0 | some .b => 1 | none => 2) ||| bitAt c.validA 2 ||| bitAt c.validB 3 |||
  bitAt s.holdover 4 ||| bitAt c.safe 5 ||| bitAt c.lkFosc 6 ||| bitAt (!s.fab.clockStop.isEmpty) 7

def State.clkReg (s : State) (o : Nat) : W32 :=
  let c := s.clk
  if o = 0x00 then s.clkStatus
  else if o = 0x04 then w32 c.lock.toNat
  else if o = 0x08 then w32 c.select.toNat
  else if o = 0x0C then w32 c.modeA.toNat ||| at_ c.modeB.toNat 2 ||| bitAt c.refbSrc 4 ||| at_ c.recGroup.toNat 8 ||| at_ c.recLane.toNat 12
  else if o = 0x10 then (if s.img.st = .noImage ∨ s.img.st = .checking then 0 else w32 s.fab.pulseKhz)
  else if o = 0x14 then w32 c.pulseNow
  else if o = 0x18 then w32 c.fosc.toNat
  else if o = 0x1C then c.failovers
  else if o = 0x20 then c.stops
  else if o = 0x40 then w32 c.evt.toNat
  else if o = 0x44 then w32 c.evtEn.toNat
  else if 0x100 ≤ o ∧ o < 0x1E0 then
    let x := s.slcAt ((o - 0x100) / 4)
    w32 x.req.toNat ||| at_ x.st.toNat 4 ||| bitAt x.closing 6 ||| bitAt x.fail 7 ||| at_ x.reopen.toNat 16
  else 0

/-! ### Power (17 R437) -/

/-- BIAS: the row of R427 in force. -/
def DevSt.bias : DevSt → Nat
  | .sleep => 1 | .deep => 2 | _ => 0

def State.pwrReg (s : State) (o : Nat) : W32 :=
  let p := s.pwr
  if o = 0x00 then w32 p.dev.code ||| bitAt p.pend.isSome 3 ||| at_ ((p.pend.map (·.st.toNat)).getD 0) 4
    ||| at_ ((p.pend.map (·.postponed)).getD 0) 6 ||| at_ p.dev.bias 11 ||| bitAt p.pwrEn 16
  else if o = 0x08 then w32 p.wakeEn.toNat
  else if o = 0x0C then p.timer
  else if o = 0x10 then w32 p.wakeLast.toNat ||| at_ p.wakeUs.toNat 8
  else if 0x20 ≤ o ∧ o < 0x40 then
    (List.range 8).foldl (fun (w : W32) k => w ||| at_ (s.domCode (8 * ((o - 0x20) / 4) + k)) (4 * k)) 0
  else if o = 0x40 then wordOf p.retFailA 0
  else if o = 0x44 then wordOf p.retFailA 1
  else if o = 0x48 then wordOf p.retFailB 0
  else if o = 0x4C then wordOf p.retFailB 1
  else if o = 0x50 then w32 p.evt.toNat
  else if o = 0x54 then w32 p.evtEn.toNat
  else 0

/-! ### Sensors and temperature (17 R438, 13 R322) -/

/-- Word d of R322. -/
def State.diodeWord (s : State) (d : Nat) : W32 :=
  let x := s.diodeAt d
  w32 x.t.toNat ||| bitAt x.valid 16 ||| at_ x.why.toNat 17

/-- The record of R322. -/
def State.sensorWords (s : State) : List W32 :=
  ((List.range 6).map s.diodeWord) ++ ((List.range 24).map fun m => tget s.thm.vmon 0 m) ++
  ((List.range 4).map fun r => tget s.thm.imon 0 r) ++
  [w32 s.thm.hot.toNat ||| at_ s.thm.hotT.toNat 16, w32 s.thm.vccioOk.toNat, s.thm.sampleS]

def State.thmReg (s : State) (o : Nat) : W32 :=
  let t := s.thm
  if o = 0x00 then w32 t.start.toNat ||| bitAt t.capEn 8
  else if o = 0x04 then w32 t.reduction.toNat ||| at_ t.target.toNat 6 ||| bitAt t.fixed 12 ||| bitAt t.stopping 13
    ||| bitAt t.stopped 14 ||| bitAt t.trip 15 ||| at_ t.hot.toNat 16
    ||| (List.range 6).foldl (fun (w : W32) d => w ||| bitAt (s.diodeAt d).valid (24 + d)) 0
  else if o = 0x08 then wordOf t.capAddr 0
  else if o = 0x0C then wordOf t.capAddr 1
  else if o = 0x10 then t.throttleMs
  else if o = 0x14 then t.stopCnt
  else if 0x20 ≤ o ∧ o < 0x38 then s.diodeWord ((o - 0x20) / 4)
  else if o = 0x40 then w32 t.evt.toNat
  else if o = 0x44 then w32 t.evtEn.toNat
  else if 0x100 ≤ o ∧ o < 0x160 then tget t.vmon 0 ((o - 0x100) / 4)
  else if 0x160 ≤ o ∧ o < 0x170 then tget t.imon 0 ((o - 0x160) / 4)
  else 0

/-! ### Flume (09 R226, R227) -/

def State.flmChReg (s : State) (c o : Nat) : W32 :=
  let x := s.flmAt c
  if o = 0x00 then bitAt x.run 0
  else if o = 0x04 then w32 (s.flmStateCode c) ||| bitAt x.trigPend 3
    ||| bitAt (match x.desc with | some d => d.desc | none => false) 4 ||| at_ x.slots 8 ||| at_ x.lastStatus.toNat 16
  else if o = 0x08 then wordOf x.ring 0
  else if o = 0x0C then wordOf x.ring 1
  else if o = 0x10 then w32 x.size.toNat
  else if o = 0x14 then w32 x.tail.toNat
  else if o = 0x18 then w32 x.head.toNat
  else if o = 0x1C then x.done
  else if o = 0x20 then x.crc
  else if o = 0x24 then x.cnt
  else if o = 0x28 then w32 x.evt.toNat
  else if o = 0x2C then w32 x.evtEn.toNat
  else 0

def State.flmReg (s : State) (o : Nat) : W32 :=
  if o < 0x2000 then s.flmChReg (o / 0x100) (o % 0x100)
  else if o = 0x8000 then w32 (32 + 2 ^ 16 * 224)
  else if o = 0x8004 then w32 s.flm.rdPtr.toNat ||| at_ s.flm.wrPtr.toNat 8
  else if o = 0x8008 then w32 (224 - s.flm.used) ||| at_ s.flm.shared 16
  else if o = 0x800C then s.flm.trigLost
  else if o = 0x8010 then (List.range 32).foldl (fun (w : W32) c =>
      let x := s.flmAt c
      w ||| bitAt (decide (x.evt &&& x.evtEn ≠ 0)) c) 0
  else 0

/-! ### Leat interfaces (08 R204 to R206) -/

/-- LEAT_NI_STATUS. DOMAIN_OFF: requests for the target's domain are absorbed (R195). -/
def State.niStatus (s : State) (n : Nat) : W32 :=
  let x := s.nodeAt n
  w32 (s.heldAt n) ||| at_ (x.srcs.length + if s.fbHeldAt n then 1 else 0) 16 ||| bitAt x.isolated 25
  ||| bitAt (if n < 320 then !s.domRun (nodeQuad n) else s.targetOff n 0) 26
  ||| bitAt x.pwrPend 27 ||| bitAt x.sizePend 28 ||| bitAt (!x.rteBad.isEmpty) 29

def rsvWord : Option TgtRsv → W32
  | some t => w32 t.src ||| bitAt t.standing 9 ||| at_ t.credit 16 ||| bitAt true 31
  | none => 0

/-- A word of LEAT_NI_RSV_TBL; entry 0 of a Tier weir is its fallback sender's (R204, 04 R85). -/
def State.rsvTbl (s : State) (n i : Nat) : W32 :=
  let x := s.nodeAt n
  rsvWord (if i = 0 ∧ s.fbHeldAt n then
      some { src := fbTwin n, standing := true, credit := rxUnits x.size - fbUnits * x.rxFb.length }
    else tget x.tgt none i)

/-- Registers that every interface has, a Reservoir front end's among them. -/
def State.niCommon (s : State) (n o : Nat) : W32 :=
  let x := s.nodeAt n
  if o = 0x00 then w32 n ||| at_ (nodeDie n) 9
  else if o = 0x04 then w32 x.sizeStg.toNat ||| at_ x.size.toNat 4
  else if o = 0x18 then s.niStatus n
  else if o = 0x1C then w32 x.used.toNat
  else if o = 0x20 then x.ovbCnt
  else if o = 0x24 then x.tmoCnt
  else if o = 0x28 then x.absCnt
  else if o = 0x2C then x.errCnt
  else if 0x3000 ≤ o ∧ o < 0x3400 then s.rsvTbl n ((o - 0x3000) / 4)
  else 0

def State.niOwn (s : State) (n o : Nat) : W32 :=
  let x := s.nodeAt n
  if o = 0x08 then w32 x.budgetStg.toNat
  else if o = 0x0C then w32 x.budget.toNat
  else if o = 0x10 then w32 x.limitStg.toNat ||| at_ x.limit.toNat 16
  else if o = 0x14 then w32 x.timeout.toNat
  else if o = 0x30 then w32 x.lastStatus.toNat ||| at_ x.lastNode.toNat 4 ||| at_ x.lastCmd.toNat 13
  else if o = 0x34 then w32 x.bound.toNat
  else if o = 0x40 then w32 x.evt.toNat
  else if o = 0x44 then w32 x.evtEn.toNat
  else if 0x1000 ≤ o ∧ o < 0x1800 then tget x.rteStg 0 ((o - 0x1000) / 4)
  else if 0x2000 ≤ o ∧ o < 0x2800 then tget x.rteAct 0 ((o - 0x2000) / 4)
  else 0

def State.niOtk (s : State) (n o : Nat) : W32 :=
  let x := s.nodeAt n
  if o = 0x80 then w32 x.strandEn.toNat
  else if o = 0x84 then w32 x.readsHeld ||| at_ x.wqFree 8 ||| at_ (min x.standingTargets.length 255) 24
  else if 0x800 ≤ o ∧ o < 0x900 then tget x.otkStg 0 ((o - 0x800) / 4)
  else if 0x900 ≤ o ∧ o < 0xA00 then tget x.otkAct 0 ((o - 0x900) / 4)
  else 0

/-- Each register lies in one of the three parts, and the others read 0 there. -/
def State.niReg (s : State) (n o : Nat) : W32 :=
  s.niCommon n o ||| (if n < 352 then s.niOwn n o else 0) ||| (if n < 320 then s.niOtk n o else 0)

def State.leatShared (s : State) (o : Nat) : W32 :=
  let l := s.leat
  if o = 0x00 then s.commitWord
  else if o = 0x04 then (if l.checked then w32 l.horizonStg.toNat else 0)
  else if o = 0x08 then w32 l.svcHost.toNat
  else if o = 0x0C then w32 l.svcLink.toNat
  else if o = 0x14 then w32 (l.node.filter fun e => e.2.isolated).length
  else if 0x20 ≤ o ∧ o < 0x50 then
    (List.range 32).foldl (fun (w : W32) j => w ||| bitAt (s.nodeAt (32 * ((o - 0x20) / 4) + j)).isolated j) 0
  else 0

def State.leatReg (s : State) (o : Nat) : W32 :=
  if o < 0x600000 then s.niReg (o / 0x4000) (o % 0x4000) else s.leatShared (o - 0x600000)

/-! ### Memory controllers (07 R164) -/

def State.ctlReg (s : State) (m o : Nat) : W32 :=
  let c := s.ctlAt m
  if o = 0x00 then w32 m ||| bitAt (decide (32 ≤ m)) 6 ||| bitAt (c.present m) 7
  else if o = 0x04 then w32 (c.pages m)
  else if o = 0x08 then bitAt c.patrolEn 0
  else if o = 0x0C then w32 c.pstate.code ||| bitAt c.valid 3 ||| bitAt c.filling 4 ||| bitAt c.path.isSome 5
    ||| bitAt (decide (m < 32) || c.trainDone) 6
  else if o = 0x10 then w32 c.limit.toNat
  else if o = 0x14 then w32 c.ledger.length ||| at_ c.peak.toNat 16
  else if o = 0x18 then c.early
  else if o = 0x20 then c.corrCnt
  else if o = 0x24 then c.fixCnt
  else if o = 0x28 then c.failCnt
  else if o = 0x2C then c.poisonCnt
  else if o = 0x30 then wordOf c.lastAddr 0
  else if o = 0x34 then w32 c.hiLatch.toNat ||| at_ c.lastReq.toNat 16
  else if o = 0x38 then c.period
  else if o = 0x3C then w32 c.pos.toNat
  else if o = 0x40 then c.pass
  else if o = 0x44 then w32 c.evt.toNat
  else if o = 0x48 then w32 c.evtEn.toNat
  else if o = 0x80 ∧ 32 ≤ m ∧ c.present m then
    match c.spd with
    | some d => w32 c.rate.toNat ||| at_ d.type.toNat 2 ||| at_ d.ranksM1.toNat 4 ||| at_ d.stack.toNat 6
        ||| at_ d.width.toNat 8 ||| at_ d.capGib.toNat 16
    | none => 0
  else if o = 0x84 ∧ 32 ≤ m then bitAt c.trainDone 0 ||| bitAt c.trainFail 1 ||| at_ c.failLane.toNat 2 ||| at_ c.failRank.toNat 6
  else 0

def State.memReg (s : State) (o : Nat) : W32 :=
  let x := s.mem
  if o < 0x280000 then s.ctlReg (o / 0x10000) (o % 0x10000)
  else if o = 0x600000 then wordOf x.hwBase 0
  else if o = 0x600004 then wordOf x.hwBase 1
  else if o = 0x600008 then x.hwSize
  else if o = 0x600010 then wordOf x.b4Base 0
  else if o = 0x600014 then wordOf x.b4Base 1
  else if o = 0x600018 then x.b4Drop
  else if o = 0x60001C then (List.range 8).foldl (fun (w : W32) d => w ||| bitAt ((s.ctlAt (32 + d)).present (32 + d)) d) 0
  else 0

/-! ### Lanes (11 R291) -/

/-- LNK_STATUS. -/
def State.lnkStatus (s : State) (i : Nat) : W32 :=
  let x := s.linkAt i
  w32 x.st.code ||| bitAt s.lnk.fixedEq 3 ||| at_ x.partnerDev.toNat 4 ||| at_ x.partnerLink.toNat 9 ||| at_ x.replay.length 13

def State.linkReg (s : State) (i o : Nat) : W32 :=
  let x := s.linkAt i
  if o = 0x00 then bitAt x.en 0
  else if o = 0x04 then x.cfg0
  else if o = 0x08 then x.cfg1
  else if o = 0x0C then s.lnkStatus i
  else if o = 0x10 then x.crcCnt
  else if o = 0x14 then x.replayCnt
  else if o = 0x18 then x.hdrCnt
  else if o = 0x1C then x.fillCnt
  else if o = 0x20 then w32 x.skew.toNat
  else if o = 0x40 then w32 x.evt.toNat
  else if o = 0x44 then w32 x.evtEn.toNat
  else 0

/-- ROLE of a lane, 8 the spare. -/
def HalfRec.role (h : HalfRec) (l : Nat) : Nat :=
  if l = 8 then (match h.spare with | .free => 0 | .shadowing => 1 | .assigned => 2 | .unusable => 3)
  else if h.failed.getLsbD l then 3 else 0

/-- SHADOW_OF: the lane that the spare carries. -/
def HalfRec.shadowOf (h : HalfRec) (l : Nat) : Nat := if l = 8 ∧ h.spare ≠ .free then h.lane else 0

def State.groupReg (s : State) (g o : Nat) : W32 :=
  let x := s.groupAt g
  if o < 0x24 then
    let l := o / 4
    w32 (tget x.eye 0 l).toNat ||| at_ (tget x.peak 0 l).toNat 8 ||| bitAt (x.lock.getLsbD l) 14 ||| at_ (x.rx.role l) 15
      ||| at_ (x.rx.shadowOf l) 17
  else if 0x40 ≤ o ∧ o < 0x64 then
    let l := (o - 0x40) / 4
    w32 (field (s.laneEntry g l) 6 12) ||| bitAt ((s.laneEntry g l).getLsbD 19) 12 ||| at_ (x.tx.role l) 13 ||| at_ (x.tx.shadowOf l) 15
  else if o = 0x80 then w32 x.pll.toNat ||| bitAt (s.domRun (20 + g)) 2
  else 0

/-- LNK_ID. -/
def State.lnkId (s : State) : W32 :=
  w32 s.lnk.devNum.toNat ||| at_ s.lnk.nlink.toNat 8 ||| bitAt s.lnk.fixedEq 16 ||| bitAt s.lnk.table 17

def State.lanesReg (s : State) (o : Nat) : W32 :=
  if o < 0x1000 then s.linkReg (o / 0x100) (o % 0x100)
  else if 0x10000 ≤ o ∧ o < 0x11000 then s.groupReg ((o - 0x10000) / 0x100) (o % 0x100)
  else if o = 0x20000 then s.lnkId
  else if o = 0x20004 then s.arrayWord
  else if o = 0x20008 then w32 s.lnk.eyeMin.toNat
  else if o = 0x2000C then w32 s.lnk.replayTmo.toNat
  else if o = 0x20010 then (List.range 16).foldl (fun (w : W32) i =>
      let x := s.linkAt i
      w ||| bitAt (decide (x.evt &&& x.evtEn ≠ 0)) i) 0
  else 0

/-! ### Window (05 R120) -/

/-- The device pulls WAIT_N low: any hold reason, or the behaviour of the safe state; a device that takes no part in an array
releases it (05 R102, R103, 16 R399). -/
def State.waitOut (s : State) : Bool :=
  s.lnk.array ≠ .notPart && (decide (s.win.hold ≠ 0) || s.clk.safe || s.thm.stopped || s.thm.shdn)

/-- WIN_STATE. WAIT_IN reads 0 while the device itself pulls WAIT_N low; else the level is the board's, a free value. -/
def State.winState (s : State) : W32 :=
  let w := s.win
  let code := if s.clk.safe ∨ s.thm.stopped then WinSt.held.code else w.shown.code
  w32 code ||| at_ w.step 4 ||| bitAt (!s.waitOut && Config.freeBit s.fresh 0) 8 ||| bitAt s.waitOut 9
  ||| bitAt w.stall.isSome 10 ||| bitAt w.slotWait 11 ||| bitAt w.edgePending 12

def State.winReg (s : State) (o : Nat) : W32 :=
  let w := s.win
  if o = 0x00 then w32 w.modeReg.toNat ||| bitAt w.ownerHold 2
  else if o = 0x04 then w.turnsM1Reg
  else if o = 0x08 then w.genPeriod
  else if o = 0x0C then w32 w.leadReg.toNat
  else if o = 0x10 then w32 w.stallLimit.toNat
  else if o = 0x14 then w32 w.kIn.toNat ||| at_ w.kOut.toNat 8 ||| at_ (s.inEff % 256) 16
  else if o = 0x20 then wordOf w.cnt 0
  else if o = 0x24 then w32 w.cntHi.toNat
  else if o = 0x28 then s.stamp.turn
  else if o = 0x2C then s.winState
  else if o = 0x30 then w32 w.hold.toNat
  else if o = 0x34 then w32 w.horizon.toNat
  else if o = 0x38 then w.minLen
  else if o = 0x40 then w32 w.evt.toNat
  else if o = 0x44 then w32 w.evtEn.toNat
  else if o = 0x48 then w.lateCnt
  else if o = 0x4C then w.stallPulses
  else if o = 0x50 then w.slotPulses
  else if o = 0x54 then w.bndTime
  else if o = 0x58 then w.earlyCnt
  else if o = 0x60 then s.stamp.words.getD 0 0
  else if o = 0x64 then w.stamp1
  else if o = 0x68 then w.stamp2
  else 0

/-! ### Configuration (10 R258) -/

def State.wearWord (s : State) (i : Nat) : W32 :=
  let b := s.img.bank i
  w32 b.writes.toNat ||| bitAt (decide (10000 ≤ b.writes.toNat)) 16

def State.actBase (s : State) : W32 := (s.img.bank s.img.act).base.ver
def State.prevVer (s : State) : W32 := (s.img.bank s.img.prev).effVersion
def State.stgVer (s : State) : W32 := if s.img.stgValid then (s.img.bank s.img.stg).base.ver else 0

def State.cfgReg (s : State) (o : Nat) : W32 :=
  let x := s.img
  if o = 0x00 then s.cfgStatus
  else if o = 0x04 then s.actVer
  else if o = 0x08 then s.actBase
  else if o = 0x0C then s.prevVer
  else if o = 0x10 then s.stgVer
  else if o = 0x14 then s.cfgSlots
  else if o = 0x18 then w32 x.order.toNat ||| at_ x.manual.toNat 8 ||| bitAt x.fillWait 11 ||| at_ x.gapUs.toNat 16
  else if o = 0x20 then s.cfgLevee
  else if 0x30 ≤ o ∧ o < 0x3C then s.wearWord ((o - 0x30) / 4)
  else if o = 0x40 then bitAt x.scrubEn 0 ||| bitAt x.repairEn 1
  else if o = 0x44 then
    bitAt (x.scrubEn && !x.halted && !s.scrubPaused) 0 ||| bitAt (x.scrubEn && !x.halted && s.scrubPaused && (s.configured || x.load.isSome)) 1
    ||| bitAt x.halted 2 ||| at_ x.sweepUs.toNat 8
  else if o = 0x48 then x.sweeps
  else if o = 0x4C then x.repairs
  else if o = 0x50 then x.last
  else if o = 0x54 then x.stuck
  else if o = 0x58 then x.wdog
  else if o = 0x5C then x.mismatch
  else if o = 0x80 then w32 x.evt.toNat
  else if o = 0x84 then w32 x.evtEn.toNat
  else 0

/-! ### Security (15 R391) and BIST (19 R460) -/

/-- State of every owner key slot, slot i in bits [2i + 1 : 2i]. -/
def SecState.slotBits (x : SecState) : Nat :=
  x.slot0.st.toNat + 4 * x.slot1.st.toNat + 16 * x.slot2.st.toNat + 64 * x.slot3.st.toNat

def State.secReg (s : State) (o : Nat) : W32 :=
  let x := s.sec
  if o = 0x00 then w32 s.lk.fwSlot.toNat ||| bitAt x.fwFallback 1 ||| bitAt x.recovery 2 ||| bitAt x.fuses.dkOk 3
    ||| at_ x.slotBits 4 ||| bitAt x.switching.isSome 12
  else if o = 0x04 then s.lk.fwVersion
  else if o = 0x08 then x.fwMin
  else if o = 0x0C then x.keyCtr
  else if o = 0x10 then x.failCnt
  else if 0x20 ≤ o ∧ o < 0x40 then wordOf x.fuses.rootHash ((o - 0x20) / 4)
  else if o = 0x40 then w32 x.evt.toNat
  else if o = 0x44 then w32 x.evtEn.toNat
  else 0

def State.bistReg (s : State) (o : Nat) : W32 :=
  let x := s.bist
  if o = 0x00 then bitAt x.run.isSome 0 ||| at_ x.kind.toNat 1 ||| at_ x.result.toNat 4
  else if o = 0x04 then x.inst
  else if 0x08 ≤ o ∧ o < 0x18 then wordOf x.sig ((o - 0x08) / 4)
  else if o = 0x18 then x.runs
  else if o = 0x1C then x.fails
  else if o = 0x40 then w32 x.evt.toNat
  else if o = 0x44 then w32 x.evtEn.toNat
  else 0

/-! ### The map (12 R295) -/

/-- The register at an aligned offset, apart from off domains and latches. Offsets that no block maps read 0. -/
def State.regAt (s : State) (reader : Port) (off : Nat) : W32 :=
  if off % 4 ≠ 0 then 0
  else if off < 0x8000 then s.idReg off
  else if off < 0xE000 then s.mbxReg .pf0 reader (off - 0x8000)
  else if off < 0x100000 then 0
  else if off < 0x200000 then s.clkReg (off - 0x100000)
  else if off < 0x300000 then s.pwrReg (off - 0x200000)
  else if off < 0x400000 then s.thmReg (off - 0x300000)
  else if off < 0x800000 then s.flmReg (off - 0x400000)
  else if off < 0x1000000 then s.leatReg (off - 0x800000)
  else if off < 0x1800000 then s.memReg (off - 0x1000000)
  else if off < 0x2000000 then s.lanesReg (off - 0x1800000)
  else if off < 0x2400000 then s.winReg (off - 0x2000000)
  else if off < 0x2800000 then s.cfgReg (off - 0x2400000)
  else if off < 0x2C00000 then s.secReg (off - 0x2800000)
  else if off < 0x3000000 then s.bistReg (off - 0x2C00000)
  else 0

/-- What else a read does: it latches a second register (05 R120, 07 R164), or has taken a free value. -/
def State.readLatch (off : Nat) (s : State) : State :=
  if off = 0x2000020 then s.modWin fun w => { w with cntHi := BitVec.ofNat 16 (w.cnt.toNat >>> 32) }
  else if off = 0x2000060 then
    s.modWin fun w => { w with stamp1 := s.stamp.words.getD 1 0, stamp2 := s.stamp.words.getD 2 0 }
  else if off = 0x200002C then s.freshen
  else if 0x1000000 ≤ off ∧ off < 0x1280000 ∧ off % 0x10000 = 0x30 then
    s.modCtl ((off - 0x1000000) / 0x10000) fun c => { c with hiLatch := BitVec.ofNat 16 (c.lastAddr.toNat >>> 32) }
  else s

/-- The domain of the block at an offset, where it can leave Run and the register is not in the always-on domain: the Sill core
holds Flume and the Leat interfaces of the Sill; a lane group holds its lane registers (17 R426). Memory controllers are
exempt, and a Tier interface is never powered down with a quadrant (08 R195). GRP_STATUS reports the group's own state. -/
def offDomain (off : Nat) : Option Nat :=
  if 0x400000 ≤ off ∧ off < 0x800000 then some 1
  else if 0x800000 + 320 * 0x4000 ≤ off ∧ off < 0x800000 + 352 * 0x4000 then some 1
  else if 0xE00000 ≤ off ∧ off < 0x1000000 then some 1
  else if 0x1810000 ≤ off ∧ off < 0x1811000 ∧ off % 0x100 ≠ 0x80 then some (20 + (off - 0x1810000) / 0x100)
  else none

/-- An access meets a domain that is not in Run (12 R294, 17 R426). -/
def State.offAt (s : State) (off : Nat) : Bool :=
  match offDomain off with
  | some d => !s.domRun d
  | none => false

/-- ID_CSR_LAST (12 R294): KIND 0 off read, 1 off write, 2 non-owner write, 3 partial write. -/
def State.csrLast (f : Func) (kind off : Nat) (s : State) : State :=
  s.modHost fun h =>
    { h with lastOffset := BitVec.ofNat 26 off
             lastKind := BitVec.ofNat 2 kind
             lastFunc := match f with | .pf0 => 0 | .pf1 => 1 }

/-- A BAR0 read (12 R294). -/
def State.csrRead (f : Func) (off : Nat) (s : State) : State × W32 :=
  if s.offAt off then
    ((s.modHost fun h => { h with csrErr := h.csrErr ||| 1 }).csrLast f 0 off, 0xFFFFFFFF)
  else (s.readLatch off, s.regAt f.port off)

end Sys2Proof.Machine
end

