-- ==== Sys2Proof/Machine/RegWrite.lean ====
section
/-! DEFINITION. What a write to each register does, once R294 lets it through (the register tables of 05 R120, 07 R164,
08 R204 to R206, 09 R226, 10 R258, 11 R291, 12 R314, 13 R327, 15 R391, 16 R412, 17 R437 and R438, 19 R460). Read-only
registers and reserved bits ignore writes. -/
namespace Sys2Proof.Machine

/-- The low `w` bits of a word written. -/
abbrev bitsOf (w : Nat) (v : W32) : BitVec w := BitVec.ofNat w v.toNat

/-- Write one half of a 64-bit register. -/
def setHalf {w : Nat} (x : BitVec w) (hi : Bool) (v : W32) : BitVec w :=
  if hi then BitVec.ofNat w (x.toNat % 2 ^ 32 + 2 ^ 32 * v.toNat) else BitVec.ofNat w (x.toNat / 2 ^ 32 * 2 ^ 32 + v.toNat)

/-! ### Identity block and the view of the PF0 mailbox (12 R314, 13 R327) -/

def State.idWrite (o : Nat) (v : W32) (s : State) : State :=
  if o = 0x10 then s.modHost fun h => { h with csrErr := h.csrErr &&& ~~~bitsOf 3 v }
  else if o = 0x20 then s.modHost fun h => { h with pecReq := v.getLsbD 7 }
  else s

def State.mbxRegWrite (f : Func) (o : Nat) (v : W32) (s : State) : State :=
  if o < 0x1000 then s.mbxWrite f (o / 4) [v]
  else if o = 0x2000 then s.doorbell f v
  else if o = 0x2004 then (if v.getLsbD 2 then s.modPort f.port fun x => { x with overrun := false } else s)
  else if o = 0x200C then s.modPort f.port fun x => { x with crTail := bitsOf 6 v }
  else s

/-! ### Clocks and sluices (16 R394, R406 to R412) -/

/-- REFB_SRC, REC_GROUP and REC_LANE; ignored while REFB is in use. A change of source switches the REFB multiplexer
(R394, R406). -/
def State.refCfg (src : Bool) (group lane : BitVec 4) (s : State) : State :=
  if s.clk.inUse = some .b then s
  else
    let old := s.clk.refbSrc
    let s := s.modClk fun c =>
      { c with refbSrc := src
               recGroup := group
               recLane := if 8 < lane.toNat then c.recLane else lane }
    if old = src then s else s.muxSwitch { mux := 1, target := if src then 1 else 0 }

/-- SLC_CTL: sluices 11 and above are set by power states alone (R410). A close that a waiting SLUICE_SET asked for and that
this write ends is answered with the state reached. -/
def State.slcCtl (n : Nat) (v : W32) (s : State) : State :=
  let req := bitsOf 2 v
  let s := if v.getLsbD 7 then s.modSlc n fun x => { x with fail := false } else s
  if 10 < n ∨ req = 3 ∨ (req = 0 ∧ (s.slcAt n).req = 0) then s
  else
    let s := s.slcRequest n req
    if (s.slcAt n).closing then s else s.slcAnswer n stOk

def State.clkWrite (o : Nat) (v : W32) (s : State) : State :=
  if o = 0x08 then s.selectRef (bitsOf 2 v)
  else if o = 0x0C then s.refCfg (v.getLsbD 4) (BitVec.ofNat 4 (field v 8 4)) (BitVec.ofNat 4 (field v 12 4))
  else if o = 0x40 then s.modClk fun c => { c with evt := c.evt &&& ~~~bitsOf 10 v }
  else if o = 0x44 then
    (s.evtAssert 8 s.clk.evt s.clk.evtEn s.clk.evt (bitsOf 10 v)).modClk fun c => { c with evtEn := bitsOf 10 v }
  else if 0x100 ≤ o ∧ o < 0x1E0 then s.slcCtl ((o - 0x100) / 4) v
  else s

/-! ### Power (17 R420, R422, R437) and temperature (17 R438) -/

/-- CANCEL withdraws a pending request until step 6 of the boundary begins (17 R420). -/
def State.pwrCancel (s : State) : State := if s.win.st = .boundary ∧ 6 ≤ s.win.step then s else s.sleepWithdraw

/-- A request for Off (17 R420); with OFF_REQ and CANCEL in one write, CANCEL meets what was pending before. -/
def State.pwrCtl (off cancel : Bool) (s : State) : State :=
  let s := if cancel then s.pwrCancel else s
  if off ∧ s.pwr.dev = .run then s.sleepRequest 3 none else s

def State.wakeEnable (v : BitVec 6) (s : State) : State := s.modPwr fun p => { p with wakeEn := v ||| 0x20 }

def State.pwrWrite (o : Nat) (v : W32) (s : State) : State :=
  if o = 0x04 then s.pwrCtl (v.getLsbD 0) (v.getLsbD 1)
  else if o = 0x08 then s.wakeEnable (bitsOf 6 v)
  else if o = 0x0C then s.modPwr fun p => { p with timer := v }
  else if o = 0x50 then s.modPwr fun p => { p with evt := p.evt &&& ~~~bitsOf 6 v }
  else if o = 0x54 then
    (s.evtAssert 9 s.pwr.evt s.pwr.evtEn s.pwr.evt (bitsOf 6 v)).modPwr fun p => { p with evtEn := bitsOf 6 v }
  else s

/-- A throttle start outside 70 to 100 °C is ignored. -/
def State.thmStart (n : Nat) (s : State) : State :=
  if 70 ≤ n ∧ n ≤ 100 then s.modThm fun t => { t with start := BitVec.ofNat 7 n } else s

def State.thmWrite (o : Nat) (v : W32) (s : State) : State :=
  if o = 0x00 then (s.thmStart (field v 0 7)).modThm fun t => { t with capEn := v.getLsbD 8 }
  else if o = 0x08 then s.modThm fun t => { t with capAddr := setHalf t.capAddr false v }
  else if o = 0x0C then s.modThm fun t => { t with capAddr := setHalf t.capAddr true v }
  else if o = 0x40 then s.modThm fun t => { t with evt := t.evt &&& ~~~bitsOf 6 v }
  else if o = 0x44 then
    (s.evtAssert 9 s.thm.evt s.thm.evtEn s.thm.evt (bitsOf 6 v)).modThm fun t => { t with evtEn := bitsOf 6 v }
  else s

/-! ### Flume (09 R226) -/

def State.flmWrite (o : Nat) (v : W32) (s : State) : State :=
  let c := o / 0x100
  let r := o % 0x100
  if 0x2000 ≤ o then s
  else if r = 0x00 then s.flmCtl c (v.getLsbD 0) (v.getLsbD 1)
  else if r = 0x08 then s.flmRingLo c v
  else if r = 0x0C then s.flmRingHi c v
  else if r = 0x10 then s.flmSize c (field v 0 4)
  else if r = 0x14 then s.flmTail c (field v 0 12)
  else if r = 0x28 then s.modFlmCh c fun x => { x with evt := x.evt &&& ~~~bitsOf 3 v }
  else if r = 0x2C then
    let x := s.flmAt c
    (s.evtAssert 6 x.evt x.evtEn x.evt (bitsOf 3 v)).modFlmCh c fun x => { x with evtEn := bitsOf 3 v }
  else s

/-! ### Leat (08 R191, R204 to R206) -/

/-- At least 1. -/
def atLeast1 {w : Nat} (x : BitVec w) : BitVec w := if x = 0 then 1 else x

/-- A staged copy of an interface's own settings (R191, R204). -/
def State.niStage (n : Nat) (f : NodeRec → NodeRec) (s : State) : State := (s.modNode n f).stagedWrite

/-- A word of the staged route table, its reserved bits dropped (R205). -/
def State.rteStage (n i : Nat) (v : W32) (s : State) : State :=
  s.niStage n fun x => { x with rteStg := tset x.rteStg 0 i (v &&& (if i % 2 = 0 then 0x8FFFFFFF else 0x000FFFFF)) }

/-- An entry of the staged offtake reservation list, its reserved bits dropped (R204). -/
def State.otkStage (n i : Nat) (v : W32) (s : State) : State :=
  s.niStage n fun x => { x with otkStg := tset x.otkStg 0 i (v &&& 0x800001FF) }

/-- SIZE_STG is written: the size in force withdraws a change that waits (R192). -/
def NodeRec.stageSize (v : BitVec 2) (x : NodeRec) : NodeRec := { x with sizeStg := v, sizePend := x.sizePend && decide (v ≠ x.size) }

def State.niWrite (n o : Nat) (v : W32) (s : State) : State :=
  if o = 0x04 then s.niStage n (NodeRec.stageSize (bitsOf 2 v))
  else if 352 ≤ n then s
  else if o = 0x08 then s.niStage n fun x => { x with budgetStg := bitsOf 24 v }
  else if o = 0x10 then s.niStage n fun x => { x with limitStg := atLeast1 (bitsOf 12 v) }
  else if o = 0x14 then s.modNode n fun x => { x with timeout := atLeast1 (bitsOf 24 v) }
  else if o = 0x40 then s.modNode n fun x => { x with evt := x.evt &&& ~~~bitsOf 8 v }
  else if o = 0x44 then
    let x := s.nodeAt n
    (s.evtAssert 5 x.evt x.evtEn x.evt (bitsOf 8 v)).modNode n fun x => { x with evtEn := bitsOf 8 v }
  else if 0x1000 ≤ o ∧ o < 0x1800 then s.rteStage n ((o - 0x1000) / 4) v
  else if n < 320 ∧ 0x800 ≤ o ∧ o < 0x900 then s.otkStage n ((o - 0x800) / 4) v
  else s

/-- LEAT_COMMIT: ARM with 1 starts the checks, with 0 disarms as a staged write does; SWAP_DONE clears with 1 (R191, R206). -/
def State.leatCommit (v : W32) (s : State) : State :=
  let s := if v.getLsbD 3 then s.modLeat fun l => { l with swapDone := false } else s
  if !v.getLsbD 0 then s.stagedWrite
  else if s.leat.arm then s
  else s.armCommit none

/-- LEAT_ISOL_CLR (R194). -/
def State.leatIsolClr (v : W32) (s : State) : State := s.isolClear (field v 0 9) (v.getLsbD 31)

def State.leatWrite (o : Nat) (v : W32) (s : State) : State :=
  if o < 0x600000 then s.niWrite (o / 0x4000) (o % 0x4000) v
  else if o = 0x600000 then s.leatCommit v
  else if o = 0x600008 then s.svcWrite false (bitsOf 24 v)
  else if o = 0x60000C then s.svcWrite true (bitsOf 24 v)
  else if o = 0x600010 then s.leatIsolClr v
  else s

/-! ### Memory (07 R160, R164) -/

/-- FILL: ignored while the window is running, on an absent channel, or while a fill is in progress (R160). -/
def State.memFill (m : Nat) (s : State) : State :=
  if s.windowRunning ∨ !(s.ctlAt m).present m ∨ (s.ctlAt m).filling then s
  else s.startFill m

def State.memCtlWrite (m : Nat) (v : W32) (s : State) : State :=
  let s := s.modCtl m fun c => { c with patrolEn := v.getLsbD 0 }
  if v.getLsbD 1 then s.memFill m else s

/-- MEM_LEDGER_LIMIT holds 1 to 4,096. -/
def ledgerLimit (n : Nat) : BitVec 13 := BitVec.ofNat 13 (max 1 (min n 4096))

def State.ctlWrite (m o : Nat) (v : W32) (s : State) : State :=
  if o = 0x08 then s.memCtlWrite m v
  else if o = 0x10 then s.modCtl m fun c => { c with limit := ledgerLimit (field v 0 13) }
  else if o = 0x38 then s.modCtl m fun c => { c with period := atLeast1 v }
  else if o = 0x44 then s.modCtl m fun c => { c with evt := c.evt &&& ~~~bitsOf 8 v }
  else if o = 0x48 then
    let c := s.ctlAt m
    (s.evtAssert 4 c.evt c.evtEn c.evt (bitsOf 8 v)).modCtl m fun c => { c with evtEn := bitsOf 8 v }
  else s

def State.memWrite (o : Nat) (v : W32) (s : State) : State :=
  if o < 0x280000 then s.ctlWrite (o / 0x10000) (o % 0x10000) v
  else if o = 0x600000 then s.modMem fun x => { x with hwBase := setHalf x.hwBase false (v &&& 0xFFFFF000) }
  else if o = 0x600004 then s.modMem fun x => { x with hwBase := setHalf x.hwBase true v }
  else if o = 0x600008 then s.modMem fun x => { x with hwSize := v }
  else if o = 0x600010 then s.modMem fun x => { x with b4Base := setHalf x.b4Base false v }
  else if o = 0x600014 then s.modMem fun x => { x with b4Base := setHalf x.b4Base true v }
  else s

/-! ### Lanes (11 R270, R291) -/

/-- LNK_CTL: EN, then RETRAIN. -/
def State.lnkCtl (i : Nat) (en retrain : Bool) (s : State) : State :=
  let s := s.linkEn i en
  if retrain then s.linkRetrain i else s

def State.linkWrite (i o : Nat) (v : W32) (s : State) : State :=
  if o = 0x00 then s.lnkCtl i (v.getLsbD 0) (v.getLsbD 1)
  else if o = 0x40 then s.modLink i fun x => { x with evt := x.evt &&& ~~~bitsOf 11 v }
  else if o = 0x44 then
    let x := s.linkAt i
    (s.evtAssert 7 x.evt x.evtEn x.evt (bitsOf 11 v)).modLink i fun x => { x with evtEn := bitsOf 11 v }
  else s

def State.lanesWrite (o : Nat) (v : W32) (s : State) : State :=
  if o < 0x1000 then s.linkWrite (o / 0x100) (o % 0x100) v
  else if o = 0x20008 then s.modLnk fun l => { l with eyeMin := bitsOf 8 v }
  else if o = 0x2000C then s.modLnk fun l => { l with replayTmo := atLeast1 (bitsOf 16 v) }
  else s

/-! ### Window (05 R97, R102, R106, R120) -/

/-- WIN_CTL.HOLD. -/
def State.winHold (h : Bool) (s : State) : State :=
  let s := s.modWin fun w => { w with ownerHold := h }
  if h then s.setHold holdOwner else s.clearHold holdOwner

/-- WIN_CTL.MODE; 11 is ignored. It comes into force when the ready state is next entered. -/
def State.winMode (m : BitVec 2) (s : State) : State := if m = 3 then s else s.modWin fun w => { w with modeReg := m }

/-- WIN_LEN: at once while held or not released (R106). -/
def State.winLen (v : W32) (s : State) : State :=
  let s := s.modWin fun w => { w with turnsM1Reg := v }
  if s.atOnce then (s.modWin fun w => { w with turnsM1 := v }).recheck else s

/-- WIN_STALL_LEAD: below 2 stores 2; at once while held or not released (R106). -/
def State.winLead (v : BitVec 5) (s : State) : State :=
  let v := if v.toNat < 2 then 2 else v
  let s := s.modWin fun w => { w with leadReg := v }
  if s.atOnce then (s.modWin fun w => { w with lead := v }).recheck else s

def State.winWrite (o : Nat) (v : W32) (s : State) : State :=
  if o = 0x00 then (s.winMode (bitsOf 2 v)).winHold (v.getLsbD 2)
  else if o = 0x04 then s.winLen v
  else if o = 0x08 then s.modWin fun w => { w with genPeriod := v }
  else if o = 0x0C then s.winLead (bitsOf 5 v)
  else if o = 0x10 then s.modWin fun w => { w with stallLimit := bitsOf 20 v }
  else if o = 0x40 then s.modWin fun w => { w with evt := w.evt &&& ~~~bitsOf 8 v }
  else if o = 0x44 then
    (s.evtAssert 2 s.win.evt s.win.evtEn s.win.evt (bitsOf 8 v)).modWin fun w => { w with evtEn := bitsOf 8 v }
  else s

/-! ### Configuration (10 R258), security (15 R391), BIST (19 R460) -/

def State.cfgWrite (o : Nat) (v : W32) (s : State) : State :=
  if o = 0x1C then (if v.getLsbD 0 then s.releaseGo else s)
  else if o = 0x40 then s.modImg fun x => { x with scrubEn := v.getLsbD 0, repairEn := v.getLsbD 1 }
  else if o = 0x80 then s.modImg fun x => { x with evt := x.evt &&& ~~~bitsOf 11 v }
  else if o = 0x84 then
    (s.evtAssert 3 s.img.evt s.img.evtEn s.img.evt (bitsOf 11 v)).modImg fun x => { x with evtEn := bitsOf 11 v }
  else s

def State.secWrite (o : Nat) (v : W32) (s : State) : State :=
  if o = 0x40 then s.modSec fun x => { x with evt := x.evt &&& ~~~bitsOf 5 v }
  else if o = 0x44 then
    (s.evtAssert 10 s.sec.evt s.sec.evtEn s.sec.evt (bitsOf 5 v)).modSec fun x => { x with evtEn := bitsOf 5 v }
  else s

def State.bistWrite (o : Nat) (v : W32) (s : State) : State :=
  if o = 0x40 then s.modBist fun x => { x with evt := x.evt &&& ~~~bitsOf 3 v }
  else if o = 0x44 then
    (s.evtAssert 11 s.bist.evt s.bist.evtEn s.bist.evt (bitsOf 3 v)).modBist fun x => { x with evtEn := bitsOf 3 v }
  else s

/-! ### The map and the judgement (12 R294, R295) -/

/-- A write to the register at an aligned offset. -/
def State.regWrite (off : Nat) (v : W32) (s : State) : State :=
  if off % 4 ≠ 0 then s
  else if off < 0x8000 then s.idWrite off v
  else if off < 0xE000 then s.mbxRegWrite .pf0 (off - 0x8000) v
  else if off < 0x100000 then s
  else if off < 0x200000 then s.clkWrite (off - 0x100000) v
  else if off < 0x300000 then s.pwrWrite (off - 0x200000) v
  else if off < 0x400000 then s.thmWrite (off - 0x300000) v
  else if off < 0x800000 then s.flmWrite (off - 0x400000) v
  else if off < 0x1000000 then s.leatWrite (off - 0x800000) v
  else if off < 0x1800000 then s.memWrite (off - 0x1000000) v
  else if off < 0x2000000 then s.lanesWrite (off - 0x1800000) v
  else if off < 0x2400000 then s.winWrite (off - 0x2000000) v
  else if off < 0x2800000 then s.cfgWrite (off - 0x2400000) v
  else if off < 0x2C00000 then s.secWrite (off - 0x2800000) v
  else if off < 0x3000000 then s.bistWrite (off - 0x2C00000) v
  else s

/-- A BAR0 write is dropped: the bit of ID_CSR_ERR, ID_DROP_CNT, ID_CSR_LAST (R294). -/
def State.csrDrop (f : Func) (kind off : Nat) (err : BitVec 3) (s : State) : State :=
  (s.modHost fun h => { h with csrErr := h.csrErr ||| err, dropCnt := satInc h.dropCnt }).csrLast f kind off

/-- The offset lies in the view of the PF0 mailbox, which needs no ownership (13 R327). -/
def inView (off : Nat) : Bool := decide (0x8000 ≤ off) && decide (off < 0xE000)

/-- The rule of R294 that drops a write: its KIND and its bit, in the order of the rule. -/
def State.csrJudge (s : State) (f : Func) (be : BitVec 4) (off : Nat) : Option (Nat × BitVec 3) :=
  if f = .pf1 ∨ (s.lk.owner ≠ 1 ∧ !inView off) then some (2, 2)
  else if be ≠ 15 then some (3, 4)
  else if s.offAt off then some (1, 1)
  else none

/-- A BAR0 write of a function: judged, then applied (R294). A function that answers no accesses takes none (R297). -/
def State.bar0Write (f : Func) (be : BitVec 4) (off : Nat) (v : W32) (s : State) : State :=
  if !s.funcOpen f then s
  else match s.csrJudge f be off with
    | some (kind, err) => s.csrDrop f kind off err
    | none => s.regWrite off v

/-- The bytes of a word that the byte enables name. -/
def bytesAsked (be : BitVec 4) (v : W32) : W32 :=
  (List.range 4).foldl (fun (a : W32) k => if be.getLsbD k then a ||| (v &&& (0xFF#32 <<< (8 * k))) else a) 0

/-- A BAR0 read of a function, answered with its data; a read of fewer bytes returns the requested bytes of the whole register
(R294). -/
def State.bar0Read (f : Func) (be : BitVec 4) (off : Nat) (s : State) : State :=
  if !s.funcOpen f then s
  else
    let (s, v) := s.csrRead f off
    s.emit (.bar0Read f (bytesAsked be v))

end Sys2Proof.Machine
end

