-- ==== Sys2Proof/Machine/Bar0Rows.lean ====
section
/-! DEFINITION. The rows of BAR0 accesses (12_host_ports R294, R295). Each names its register's offset. -/
namespace Sys2Proof.Machine

/-- BAR0_WRITE (12 R294). -/
def execBar0Write (f : Func) (be : BitVec 4) (off : BitVec 26) (data : W32) (s : State) : Host.Outcome State Fault Refusal :=
  .next (s.bar0Write f be off.toNat data)

/-- BAR0_READ_OFF_DOMAIN: a BAR0 read; of an off domain it returns all ones and sets OFF_ACCESS, of another register its value
(12 R294). -/
def execBar0ReadOffDomain (f : Func) (be : BitVec 4) (off : BitVec 26) (s : State) : Host.Outcome State Fault Refusal :=
  .next (s.bar0Read f be off.toNat)

/-- WIN_STAMP_READ (05 R120). -/
def execWinStampRead (f : Func) (be : BitVec 4) (s : State) : Host.Outcome State Fault Refusal := .next (s.bar0Read f be 0x2000060)

/-- WIN_CNT_LO_READ (05 R120). -/
def execWinCntLoRead (f : Func) (be : BitVec 4) (s : State) : Host.Outcome State Fault Refusal := .next (s.bar0Read f be 0x2000020)

/-- MEM_LAST_ADDR_READ (07 R164). -/
def execMemLastAddrRead (f : Func) (be : BitVec 4) (m : Fin 40) (s : State) : Host.Outcome State Fault Refusal :=
  .next (s.bar0Read f be (0x1000000 + m.val * 0x10000 + 0x30))

/-- MEM_CH_FILL: a write of MEM_CH_CTL (07 R160, R164). -/
def execMemChFill (f : Func) (be : BitVec 4) (m : Fin 40) (data : W32) (s : State) : Host.Outcome State Fault Refusal :=
  .next (s.bar0Write f be (0x1000000 + m.val * 0x10000 + 0x08) data)

/-- LEAT_COMMIT_ARM: a write of LEAT_COMMIT (08 R191, R206). -/
def execLeatCommitArm (f : Func) (be : BitVec 4) (data : W32) (s : State) : Host.Outcome State Fault Refusal :=
  .next (s.bar0Write f be 0xE00000 data)

/-- LEAT_ISOL_CLR (08 R194, R206). -/
def execLeatIsolClr (f : Func) (be : BitVec 4) (data : W32) (s : State) : Host.Outcome State Fault Refusal :=
  .next (s.bar0Write f be 0xE00010 data)

/-- LEAT_SVC_WRITE: LEAT_SVC_HOST or LEAT_SVC_LINK (08 R189, R206, 05 R106). -/
def execLeatSvcWrite (f : Func) (be : BitVec 4) (link : Bool) (data : W32) (s : State) : Host.Outcome State Fault Refusal :=
  .next (s.bar0Write f be (if link then 0xE0000C else 0xE00008) data)

/-- FLM_CH_TAIL_WRITE (09 R209, R226). -/
def execFlmChTailWrite (f : Func) (be : BitVec 4) (c : Fin 32) (data : W32) (s : State) : Host.Outcome State Fault Refusal :=
  .next (s.bar0Write f be (0x400000 + c.val * 0x100 + 0x14) data)

/-- FLM_RUN: a write of FLM_CH_CTL (09 R223, R226). -/
def execFlmRun (f : Func) (be : BitVec 4) (c : Fin 32) (data : W32) (s : State) : Host.Outcome State Fault Refusal :=
  .next (s.bar0Write f be (0x400000 + c.val * 0x100) data)

/-- FLM_ABORT: a write of FLM_CH_CTL (09 R223, R225, R226). -/
def execFlmAbort (f : Func) (be : BitVec 4) (c : Fin 32) (data : W32) (s : State) : Host.Outcome State Fault Refusal :=
  .next (s.bar0Write f be (0x400000 + c.val * 0x100) data)

/-- FLM_RING_LO_WRITE (09 R226). -/
def execFlmRingLoWrite (f : Func) (be : BitVec 4) (c : Fin 32) (data : W32) (s : State) : Host.Outcome State Fault Refusal :=
  .next (s.bar0Write f be (0x400000 + c.val * 0x100 + 0x08) data)

/-- CFG_RELEASE_GO: a write of CFG_RELEASE (10 R241, R258). -/
def execCfgReleaseGo (f : Func) (be : BitVec 4) (data : W32) (s : State) : Host.Outcome State Fault Refusal :=
  .next (s.bar0Write f be 0x240001C data)

/-- LNK_CTL_EN: a write of LNK_CTL (11 R291). -/
def execLnkCtlEn (f : Func) (be : BitVec 4) (i : Fin 16) (data : W32) (s : State) : Host.Outcome State Fault Refusal :=
  .next (s.bar0Write f be (0x1800000 + i.val * 0x100) data)

/-- LNK_CTL_RETRAIN: a write of LNK_CTL (11 R270, R291). -/
def execLnkCtlRetrain (f : Func) (be : BitVec 4) (i : Fin 16) (data : W32) (s : State) : Host.Outcome State Fault Refusal :=
  .next (s.bar0Write f be (0x1800000 + i.val * 0x100) data)

/-- CLK_REF_SELECT_WRITE: a write of CLK_REF_CTL (16 R396, R412). -/
def execClkRefSelectWrite (f : Func) (be : BitVec 4) (data : W32) (s : State) : Host.Outcome State Fault Refusal :=
  .next (s.bar0Write f be 0x100008 data)

/-- SLUICE_REQ_WRITE: a write of SLC_CTL (16 R408, R412). -/
def execSluiceReqWrite (f : Func) (be : BitVec 4) (n : Fin 56) (data : W32) (s : State) : Host.Outcome State Fault Refusal :=
  .next (s.bar0Write f be (0x100100 + 4 * n.val) data)

/-- PWR_OFF_REQ: a write of PWR_CTL (17 R420, R437). -/
def execPwrOffReq (f : Func) (be : BitVec 4) (data : W32) (s : State) : Host.Outcome State Fault Refusal :=
  .next (s.bar0Write f be 0x200004 data)

/-- PWR_CANCEL: a write of PWR_CTL (17 R420, R437). -/
def execPwrCancel (f : Func) (be : BitVec 4) (data : W32) (s : State) : Host.Outcome State Fault Refusal :=
  .next (s.bar0Write f be 0x200004 data)

end Sys2Proof.Machine
end

