-- ==== Sys2Proof/Machine/SecurityCmds.lean ====
section
/-! DEFINITION. Security, class 0x0B (14_command_reference R366, 15_security R373 to R388). -/
namespace Sys2Proof.Machine

/-! ### Byte strings in words -/

/-- The bytes of 32-bit words, byte 0 in bits [7:0] of the first. -/
def bytesIn (ws : List W32) : List Nat := ws.flatMap wordBytes

/-- 32-bit words of bytes, the last filled with zeros. -/
def wordsFrom (bs : List Nat) : List W32 :=
  (chunks 4 (ceilDiv bs.length 4) bs).map fun c => bytesWord (c.getD 0 0) (c.getD 1 0) (c.getD 2 0) (c.getD 3 0)

/-- The eight words of a 256-bit number. -/
def words256 (x : BitVec 256) : List W32 := (List.range 8).map fun i => wordOf x i

/-! ### Attestation -/

/-- ATTEST (0x0B00; R366, 15 R386). -/
def execAttest (r : Req) (s : State) : Host.Outcome State Fault Refusal :=
  .next (s.serveCmd r 0x0B00 .anyone (r.length = 10) fun s =>
    .accept (s.modSec fun x => { x with attests := x.attests ++ [{ origin := r.origin 0x0B00, nonce := r.params }] }))

/-- Words 0 to 38 of the report (R386). -/
def State.reportHead (s : State) (a : Attest) : List W32 :=
  let t := s.sec.fw s.lk.fwSlot
  [0x00870001, s.idDevice, wordOf s.sec.fuses.serial 0, wordOf s.sec.fuses.serial 1, s.lk.fwVersion, w32 s.lk.fwSlot.toNat]
  ++ wordsFrom (fwMeasure t (fwWord t 16).toNat)
  ++ [if s.img.st = CfgSt.noImage then 0 else s.actVer,
      w32 s.img.bootRole.toNat ||| at_ (if s.img.bootRole = 3 then 0 else (s.img.bank s.runBank).applied.length) 2]
  ++ words256 s.img.measure
  ++ [s.sec.keyCtr, w32 s.sec.slotBits, wordOf s.win.cnt 0, wordOf s.win.cnt 1, w32 a.origin.port.num]
  ++ a.nonce ++ [s.sec.fwMin, 0]

/-- The report: its signature is made under a salt that is a free value. -/
def State.report (s : State) (a : Attest) : List W32 :=
  let head := s.reportHead a
  let salt := bytesIn ((List.range 8).map fun k => Config.freeWord s.fresh k)
  head ++ wordsFrom (pssSign s.sec.idN s.sec.idD (sha256 (bytesIn head)) salt)

/-- ATTEST_REPORT_DONE (15 R386): the oldest report asked for is signed and held for its port. -/
def execAttestReportDone (s : State) : Host.Outcome State Fault Refusal :=
  .next (match s.sec.attests with
    | [] => s
    | a :: rest =>
      let s := s.freshen
      let ws := s.report a
      (s.modSec fun x => { x with attests := rest, reports := tset x.reports [] a.origin.port.num ws }).postRecord a.origin stOk
        [w32 ws.length])

/-- ATTEST_GET (0x0B01; R366): a report has words, so a port with none has made none. -/
def execAttestGet (r : Req) (s : State) : Host.Outcome State Fault Refusal :=
  .next (s.serveCmd r 0x0B01 .anyone (r.length = 3) fun s =>
    match tget s.sec.reports [] r.port.num with
    | [] => .fail stBadParam
    | ws => .ok s ((ws.drop (r.p 0).toNat).take 1021))

/-- CERT_GET (0x0B02; R366, 15 R388). -/
def execCertGet (r : Req) (s : State) : Host.Outcome State Fault Refusal :=
  .next (s.serveCmd r 0x0B02 .anyone (r.length = 3) fun s =>
    let off := (r.p 0).toNat
    if off % 4 ≠ 0 then .fail stBadParam
    else .ok s (w32 s.sec.cert.length :: wordsFrom (((s.sec.cert.drop off).take 4080).map (·.toNat))))

/-! ### Owner key slots -/

/-- SHA-256 of a slot's key; of a slot that holds none the hash is a free value. -/
def State.slotHash (s : State) (i : Nat) : List W32 :=
  let k := s.sec.slot i
  if k.st = 1 then words256 (keyHash k.key) else (List.range 8).map fun j => Config.freeWord s.fresh (8 * i + j)

/-- KEY_STATUS (0x0B03; R366). -/
def execKeyStatus (r : Req) (s : State) : Host.Outcome State Fault Refusal :=
  .next (s.freshen.serveCmd r 0x0B03 .anyone (r.length = 2) fun s =>
    .ok s (((List.range 4).map fun i => w32 (s.sec.slot i).st.toNat) ++ (List.range 4).flatMap fun i => s.slotHash i))

/-- An authorisation block (R376). -/
structure AuthBlock where
  words : List W32
deriving DecidableEq, Repr

def AuthBlock.w (b : AuthBlock) (i : Nat) : W32 := b.words.getD i 0
def AuthBlock.op (b : AuthBlock) : Nat := field (b.w 0) 0 8
def AuthBlock.slot (b : AuthBlock) : Nat := field (b.w 0) 8 2
def AuthBlock.signer (b : AuthBlock) : Nat := field (b.w 0) 12 3
def AuthBlock.digest (b : AuthBlock) : List Nat := sha256 (bytesIn (b.words.take 12))
def AuthBlock.sig (b : AuthBlock) : List Nat := bytesIn ((b.words.drop 12).take 96)

/-- Some slot is in use, other than `skip`. -/
def SecState.inUse (x : SecState) (skip : Option Nat) : Bool :=
  (List.range 4).any fun i => skip ≠ some i && (x.slot i).st = 1

/-- The modulus of a signer: of an owner slot in use; the vendor root key as the running firmware carries it, which must have the fused
key hash; the new key. -/
def State.signerKey (s : State) (signer new : Nat) : Option Nat :=
  if signer < 4 then (if (s.sec.slot signer).st = 1 then some (s.sec.slot signer).key else none)
  else if signer = 4 then
    let n := beWord (fwRun (s.sec.fw s.lk.fwSlot) 64 384)
    if keyHash n = s.sec.fuses.rootHash then some n else none
  else some new

/-- The checks of R377 in their order: the status of the first that fails, 0 for none. -/
def State.authJudge (s : State) (b : AuthBlock) (slot op new : Nat) : Nat :=
  let install := decide (op = 1)
  if b.op ≠ op ∨ b.slot ≠ slot ∨ (b.w 0 &&& 0xFFFF8C00) ≠ 0 ∨ 5 < b.signer ∨ (install && decide (new < 2 ^ 3071)) then stBadParam
  else if b.signer = 5 ∧ (!install || s.sec.inUse none) then stBadParam
  else if !install ∧ b.signer ≠ 4 ∧ !s.sec.inUse (some slot) then stBadParam
  else if b.w 1 ≠ wordOf s.sec.fuses.serial 0 ∨ b.w 2 ≠ wordOf s.sec.fuses.serial 1 ∨ b.w 3 ≠ s.sec.keyCtr then stSignatureFail
  else if install ∧ (b.words.drop 4).take 8 ≠ words256 (keyHash new) then stSignatureFail
  else match s.signerKey b.signer new with
    | some n => if pssVerify n b.sig b.digest then 0 else stSignatureFail
    | none => stSignatureFail

def State.modSlot (i : Nat) (k : KeySlot) (s : State) : State :=
  s.modSec fun x => match i with
    | 0 => { x with slot0 := k }
    | 1 => { x with slot1 := k }
    | 2 => { x with slot2 := k }
    | _ => { x with slot3 := k }

/-- A refusal for SIGNATURE_FAIL is logged and counted. -/
def State.authFail (b : AuthBlock) (op slot : Nat) (s : State) : State :=
  ((s.log 0x0E03 true false (w32 op) (w32 slot) (w32 b.signer)).modSec fun x => { x with failCnt := satInc x.failCnt }).secEvt 1

/-- An authorisation acts: the slot is written, KEY_CTR rises, the event is logged. -/
def State.authAct (b : AuthBlock) (slot : Nat) (k : KeySlot) (code : Nat) (s : State) : State :=
  let s := (s.modSlot slot k).modSec fun x => { x with keyCtr := x.keyCtr + 1 }
  (s.log code true false (w32 slot) (w32 b.signer) s.sec.keyCtr).secEvt 0

/-- What the checks come to. -/
def State.authorise (s : State) (b : AuthBlock) (slot op new : Nat) (k : KeySlot) (code : Nat) : Res :=
  let st := s.authJudge b slot op new
  if st = 0 then .ok (s.authAct b slot k code) []
  else if st = stSignatureFail then .partly (s.authFail b op slot) st []
  else .fail st

/-- KEY_INSTALL (0x0B04): a LENGTH that does not fit gives BAD_PARAM, the first check of R377, and not row 3 of R344 (DEDUCED, log entry
137). -/
def execKeyInstall (r : Req) (s : State) : Host.Outcome State Fault Refusal :=
  .next (s.serveCmd r 0x0B04 .owner true fun s =>
    let slot := (r.p 0).toNat
    let new := beWord (bytesIn ((r.params.drop 1).take 96))
    if r.length ≠ 207 ∨ 3 < slot then .fail stBadParam
    else s.authorise ⟨r.params.drop 97⟩ slot 1 new { st := 1, key := new } 0x0E01)

/-- KEY_REVOKE (0x0B05; R366, 15 R377). -/
def execKeyRevoke (r : Req) (s : State) : Host.Outcome State Fault Refusal :=
  .next (s.serveCmd r 0x0B05 .owner true fun s =>
    let slot := (r.p 0).toNat
    if r.length ≠ 111 ∨ 3 < slot then .fail stBadParam
    else s.authorise ⟨r.params.drop 1⟩ slot 2 0 { st := 2, key := 0 } 0x0E02)

/-! ### Firmware -/

/-- Size of a firmware bank (10 R228). -/
def fwBankBytes : Nat := 16 * 2 ^ 20

/-- Write bytes to a firmware bank, which has then to be checked anew (R384). -/
def State.fwWrite (slot : BitVec 1) (off : Nat) (bs : List Nat) (s : State) : State :=
  let put (t : Tab Byte) : Tab Byte :=
    tsetAll 0 t (((List.range bs.length).map (off + ·)).zip (bs.map (BitVec.ofNat 8)))
  s.modSec fun x => if slot = 0 then { x with fw0 := put x.fw0, fwOk0 := false } else { x with fw1 := put x.fw1, fwOk1 := false }

/-- FW_CHUNK (0x0B06; R366, 15 R384). -/
def execFwChunk (r : Req) (s : State) : Host.Outcome State Fault Refusal :=
  .next (s.serveCmd r 0x0B06 .owner (decide (3 ≤ r.length)) fun s =>
    let off := (r.p 0).toNat
    let bs := bytesIn (r.params.drop 1)
    if off % 4 ≠ 0 ∨ fwBankBytes < off + bs.length then .fail stBadParam
    else if s.sec.switching.isSome then .fail stBusy
    else .ok (s.fwWrite (~~~s.sec.fwNamed) off bs) [])

/-- FW_SWITCH (0x0B07; R366, 15 R384). -/
def execFwSwitch (r : Req) (s : State) : Host.Outcome State Fault Refusal :=
  .next (s.serveCmd r 0x0B07 .owner (r.length = 3) fun s =>
    let n := (r.p 0).toNat
    if n % 4 ≠ 0 ∨ fwBankBytes < n then .fail stBadParam
    else if s.sec.switching.isSome then .fail stBusy
    else .accept (s.modSec fun x => { x with switching := some (r.origin 0x0B07, n) }))

/-- Why the slot not named fails R383 with a length. -/
def State.switchCause (s : State) (len : Nat) : Option Nat :=
  if len < 896 then some 0 else s.fwCause (~~~s.sec.fwNamed) (len - 896)

/-- FW_VERIFY_COMPLETE: the role table names the other slot and a full restart begins, or the running slot stays (R384). -/
def execFwVerifyComplete (s : State) : Host.Outcome State Fault Refusal :=
  .next (match s.sec.switching with
    | none => s
    | some (o, len) =>
      match s.switchCause len with
      | some c =>
        let s := s.modSec fun x => { x with switching := none, failCnt := satInc x.failCnt }
        ((s.log 0x0E05 true false (w32 c) 0 0).secEvt 3).postRecord o (if c = 3 then stVersionRejected else stSignatureFail) []
      | none =>
        let b := ~~~s.sec.fwNamed
        let v := fwWord (s.sec.fw b) 8
        let s := s.modSec fun x =>
          { x with
            switching := none
            fwNamed := b
            fwOk0 := x.fwOk0 || decide (b = 0)
            fwOk1 := x.fwOk1 || decide (b = 1)
            switched := some o }
        ((s.log 0x0E04 true false (w32 b.toNat) v 0).secEvt 2).commandRestart)

end Sys2Proof.Machine
end

