-- ==== Sys2Proof/Machine/CaptureCmds.lean ====
section
/-! DEFINITION. Capture and debug, class 0x0E (14_command_reference R369 to R371). -/
namespace Sys2Proof.Machine

/-- Deep address A of p0 and p1. -/
def Req.capAddr (r : Req) : BitVec 48 := BitVec.ofNat 48 ((r.p 0).toNat + 2 ^ 32 * (r.p 1).toNat)

/-- A cistern location: tier, plot and cistern (06 R134). -/
def cstOfLoc (w : W32) : Nat := 8 * plotIx (field w 26 1) (field w 20 6) (field w 14 6) + field w 11 3

/-- A location names no cistern; its row bits name none of its rows in particular. -/
def cstLocBad (w : W32) : Bool := !only w 27 || decide (39 < field w 14 6)

/-- A capture or restore is pending or under way. -/
def State.capTaken (s : State) : Bool := s.rst.cap.isSome || s.rst.capRun.isSome

/-- It is pending for step 6a, or applies at once (R345). -/
def State.capAsk (q : CapReq) (s : State) : State :=
  let s := s.modRst fun x => { x with cap := some q }
  if s.opAtOnce then s.capBegin q else s

/-- CAPTURE (0x0E00; R369). -/
def execCapture (r : Req) (s : State) : Host.Outcome State Fault Refusal :=
  .next (s.serveCmd r 0x0E00 .owner (decide (5 ≤ r.length) && r.length = 5 + (r.p 2).toNat) fun s =>
    let n := (r.p 2).toNat
    let locs := r.params.drop 3
    if !only (r.p 1) 16 ∨ 1019 < n ∨ locs.any cstLocBad ∨ !s.deepRoom r.capAddr (s.captureLen n) then .fail stBadParam
    else if s.capTaken then .fail stBusy
    else .acceptThen s (State.capAsk
      { restore := false, addr := r.capAddr, cisterns := locs.map cstOfLoc, origin := some (r.origin 0x0E00) }))

/-- RESTORE (0x0E01; R371): the number of cisterns is known once the header is read, so the range is judged here without them. -/
def execRestore (r : Req) (s : State) : Host.Outcome State Fault Refusal :=
  .next (s.serveCmd r 0x0E01 .owner (r.length = 4) fun s =>
    if !only (r.p 1) 16 ∨ !s.deepRoom r.capAddr (s.captureLen 0) then .fail stBadParam
    else if s.capTaken then .fail stBusy
    else .acceptThen s (State.capAsk { restore := true, addr := r.capAddr, origin := some (r.origin 0x0E01) }))

/-- The frame that a frame address names (10 R235). -/
def frameAt (w : W32) : Nat :=
  frameOf (plotIx (field w 1 1) (field w 2 6) (field w 8 6)) (if w.getLsbD 0 then 0 else 1 + 16 * field w 18 4 + field w 14 4)

/-- The address of no frame. -/
def frameBad (w : W32) : Bool := !only w 22 || decide (39 < field w 8 6) || (w.getLsbD 0 && decide (field w 14 8 ≠ 0))

/-- The frame as read back; an entry of the CRC store that cannot be read is a free value. -/
def State.frameWords (s : State) (fr : Nat) : List W32 :=
  let content := s.frameNow fr
  wordsFrom content ++ [(tget s.img.crc none fr).getD (Config.freeWord s.fresh 0), w32 (frameCrc32 fr content)]

/-- FRAME_READ (0x0E02; R369). -/
def execFrameRead (r : Req) (s : State) : Host.Outcome State Fault Refusal :=
  .next (s.freshen.serveCmd r 0x0E02 .anyone (r.length = 3) fun s =>
    if frameBad (r.p 0) then .fail stBadParam else .ok s (s.frameWords (frameAt (r.p 0))))

/-- FF_READ (0x0E03; R369). -/
def execFfRead (r : Req) (s : State) : Host.Outcome State Fault Refusal :=
  .next (s.serveCmd r 0x0E03 .anyone (r.length = 3) fun s =>
    if frameBad (r.p 0) ∨ (r.p 0).getLsbD 0 then .fail stBadParam
    else if s.windowRunning then .fail stWindowRunning
    else
      let hank := 256 * (frameAt (r.p 0) / 257) + (frameAt (r.p 0) % 257 - 1)
      .ok s ((s.hankWords hank).map fun (w : Word18) => w32 w.toNat))

end Sys2Proof.Machine
end

