-- ==== Sys2Proof/Machine/IdentityCmds.lean ====
section
/-! DEFINITION. Identity and register access, class 0x00, and ownership, class 0x01 (14_command_reference R348 to R352). -/
namespace Sys2Proof.Machine

/-- ID_GET (0x0000; R348). -/
def execIdGet (r : Req) (s : State) : Host.Outcome State Fault Refusal :=
  .next (s.serveCmd r 0x0000 .anyone (r.length = 2) fun s =>
    .ok s [s.idDevice, wordOf s.sec.fuses.serial 0, wordOf s.sec.fuses.serial 1, s.lk.fwVersion, w32 s.lk.fwSlot.toNat,
      if s.img.st = CfgSt.noImage then 0 else s.actVer, w32 s.img.bootRole.toNat, w32 s.lnk.devNum.toNat])

/-- PING (0x0001; R348): every parameter comes back; with at most 1,021 of them the reply fits. -/
def execPing (r : Req) (s : State) : Host.Outcome State Fault Refusal :=
  .next (s.serveCmd r 0x0001 .anyone (r.length ≤ 1023) fun s => .ok s r.params)

/-- A range of registers that CSR_READ and CSR_WRITE refuse (R349). -/
def csrRangeBad (off count : Nat) : Bool :=
  off % 4 ≠ 0 || count = 0 || decide (256 < count) || decide (0x3000000 < off + 4 * count)
  || (decide (off < 0xE000) && decide (0x8000 < off + 4 * count))

/-- Read `n` registers one after the other from the offset. -/
def State.csrReads (off : Nat) : Nat → State → State × List W32
  | 0, s => (s, [])
  | n + 1, s =>
    let (s, w) := s.csrRead .pf0 off
    let (s, ws) := State.csrReads (off + 4) n s
    (s, w :: ws)

/-- CSR_READ (0x0010; R349). -/
def execCsrRead (r : Req) (s : State) : Host.Outcome State Fault Refusal :=
  .next (s.serveCmd r 0x0010 .anyone (r.length = 4) fun s =>
    if csrRangeBad (r.p 0).toNat (r.p 1).toNat then .fail stBadParam
    else
      let (s, ws) := s.csrReads (r.p 0).toNat (r.p 1).toNat
      .ok s ws)

/-- Write registers one after the other from the offset, as the owner; counts the writes dropped for an off domain. -/
def State.csrWrites (off : Nat) : List W32 → Nat → State → State × Nat
  | [], n, s => (s, n)
  | v :: vs, n, s =>
    if s.offAt off then State.csrWrites (off + 4) vs (n + 1) (s.csrDrop .pf0 1 off 1)
    else State.csrWrites (off + 4) vs n (s.regWrite off v)

/-- CSR_WRITE (0x0011; R349): LENGTH follows the count. -/
def execCsrWrite (r : Req) (s : State) : Host.Outcome State Fault Refusal :=
  .next (s.serveCmd r 0x0011 .owner (decide (4 ≤ r.length) && r.length = 4 + (r.p 1).toNat) fun s =>
    if csrRangeBad (r.p 0).toNat (r.p 1).toNat then .fail stBadParam
    else
      let (s, n) := s.csrWrites (r.p 0).toNat (r.params.drop 2) 0
      .ok s [w32 n])

/-! ### Ownership (13_lockkeeper R332 to R335) -/

/-- Payload of CLAIM. -/
def State.ownerWords (s : State) : List W32 := [w32 s.lk.owner.toNat, w32 s.lk.leaseLen.toNat]

/-- CLAIM (0x0100; R350, 13 R332): a refused claim shows the owner that refused it. -/
def execClaim (r : Req) (s : State) : Host.Outcome State Fault Refusal :=
  .next (s.serve r 0x0100 .claim (r.length = 2) State.ownerWords fun s =>
    let s := s.setOwner r.port.num 0
    .ok s s.ownerWords)

/-- RELEASE (0x0101; R350, 13 R334). -/
def execRelease (r : Req) (s : State) : Host.Outcome State Fault Refusal :=
  .next (s.serveCmd r 0x0101 .owner (r.length = 2) fun s =>
    .ok ((s.setOwner 0 2).modLk fun k => { k with leaseTicks := 0 }) [])

/-- HANDOVER (0x0102; R350, 13 R334): the party becomes owner with a full lease; to the owner itself it changes nothing. -/
def execHandover (r : Req) (s : State) : Host.Outcome State Fault Refusal :=
  .next (s.serveCmd r 0x0102 .owner (r.length = 3) fun s =>
    let p := (r.p 0).toNat
    if p = 0 ∨ 4 < p then .fail stBadParam else .ok (s.setOwner p 1).renewLease [])

/-- LEASE_SET (0x0103; R350, 13 R333): the renewal that its own commit makes is the first with the new length. -/
def execLeaseSet (r : Req) (s : State) : Host.Outcome State Fault Refusal :=
  .next (s.serveCmd r 0x0103 .owner (r.length = 3) fun s =>
    let n := (r.p 0).toNat
    if n = 0 ∨ 3600 < n then .fail stBadParam else .ok (s.modLk fun k => { k with leaseLen := BitVec.ofNat 12 n }) [])

/-- OWNER_GET (0x0104; R350). -/
def execOwnerGet (r : Req) (s : State) : Host.Outcome State Fault Refusal :=
  .next (s.serveCmd r 0x0104 .anyone (r.length = 2) fun s =>
    .ok s [w32 s.lk.owner.toNat, w32 s.leaseSeconds, w32 s.lk.leaseLen.toNat, w32 r.port.num])

/-- FORWARD (0x0105): the embedded request goes to the neighbour in a MGMT message (R351). -/
def execForward (r : Req) (s : State) : Host.Outcome State Fault Refusal :=
  .next (s.serveCmd r 0x0105 .owner (decide (5 ≤ r.length) && reqLength (r.p 1) = r.length - 3) fun s =>
    let i := (r.p 0).toNat
    if !only (r.p 0) 4 || decide (r.port = Port.array) || !(s.linkAt i).valid then .fail stBadParam
    else if !(s.linkAt i).isUp then .fail stDomainOff
    else
      let ws := r.params.drop 1
      .accept ((s.modLk fun k => { k with forwards := k.forwards ++ [{ origin := r.origin 0x0105, link := i }] }).modLink i
        fun x => { x with mgmtQ := x.mgmtQ ++ [.words (mgmtWord 0x10 ws.length :: ws)] }))

end Sys2Proof.Machine
end

