-- ==== Sys2Proof/Machine/ImageCmds.lean ====
section
/-! DEFINITION. Images, class 0x02 (14_command_reference R353 to R355, 10_configuration R231, R243, R244). -/
namespace Sys2Proof.Machine

/-- IMG_STATUS (0x0200; R353). -/
def execImgStatus (r : Req) (s : State) : Host.Outcome State Fault Refusal :=
  .next (s.serveCmd r 0x0200 .anyone (r.length = 2) fun s =>
    .ok s [s.cfgStatus, s.actVer, s.actBase, s.prevVer, s.stgVer, s.cfgSlots, s.cfgLevee, s.wearWord 0, s.wearWord 1, s.wearWord 2])

/-! ### Write staged -/

/-- A STAGE_HOST, a readback, a pending operation or a load has the Staged bank (R354, 10 R244). -/
def State.stagedTaken (s : State) : Bool :=
  s.img.staging.isSome || s.img.readback.isSome || s.img.stagedBusy
  || (match s.img.load with | some l => l.bank = s.img.stg | none => false)

/-- Write staged begins: what the bank held is gone, its write is counted (10 R230, R231, 14 R355). -/
def State.beginStaged (s : State) : State :=
  let b := s.img.stg
  let worn := decide (10000 ≤ (s.img.bank b).writes.toNat)
  let s := (s.modBank b fun x => { x with bytes := [], len := 0, patches := [], mark := none, writes := satInc x.writes }).modImg
    fun x => { x with stgValid := false, chunkLen := none }
  if worn then (s.log 0x0908 true false (w32 b) 0 0).cfgEvt 9 else s

/-- STAGE_HOST (0x0201; R354): the length is that of the image asked for, whatever part of it arrives. -/
def execStageHost (r : Req) (s : State) : Host.Outcome State Fault Refusal :=
  .next (s.serveCmd r 0x0201 .owner (r.length = 5) fun s =>
    let len := (r.p 2).toNat
    if bankBytes < len then .fail stBadParam
    else if s.stagedTaken then .fail stBusy
    else
      let t := (s.beginStaged.modBank s.img.stg fun x => { x with len := len }).modImg fun x =>
        { x with staging := some { origin := r.origin 0x0201, addr := (r.p 0).toNat + 2 ^ 32 * (r.p 1).toNat, len := len } }
      .acceptThen t State.stageNext)

/-- STAGE_BEGIN (0x0202; R354). -/
def execStageBegin (r : Req) (s : State) : Host.Outcome State Fault Refusal :=
  .next (s.serveCmd r 0x0202 .owner (r.length = 3) fun s =>
    let len := (r.p 0).toNat
    if bankBytes < len then .fail stBadParam
    else if s.stagedTaken then .fail stBusy
    else .ok (s.beginStaged.modImg fun x => { x with chunkLen := some len }) [])

/-- The bytes of 32-bit words, little-endian. -/
def bytesOfWords (ws : List W32) : List Byte := ws.flatMap fun (w : W32) => (wordBytes w).map (BitVec.ofNat 8)

/-- What a STAGE_CHUNK or STAGE_END with no STAGE_BEGIN replies: BUSY while STAGE_HOST runs (R354, R372), else BAD_PARAM. Where both
hold R372 is followed and not the order of R344 (DEDUCED, log entry 159). -/
def State.noBegin (s : State) : Nat := if s.img.staging.isSome then stBusy else stBadParam

/-- STAGE_CHUNK (0x0203; R354). -/
def execStageChunk (r : Req) (s : State) : Host.Outcome State Fault Refusal :=
  .next (s.serveCmd r 0x0203 .owner (decide (3 ≤ r.length)) fun s =>
    let off := (r.p 0).toNat
    let ws := r.params.drop 1
    match s.img.chunkLen with
    | none => .fail (if off % 4 ≠ 0 then stBadParam else s.noBegin)
    | some len =>
      if off % 4 ≠ 0 ∨ len < off + 4 * ws.length then .fail stBadParam
      else if s.stagedTaken then .fail stBusy
      else .ok ((s.writeStaged off (bytesOfWords ws)).modBank s.img.stg fun x => { x with mark := none }) [])

/-- STAGE_END (0x0204; R354): readback and checks begin. -/
def execStageEnd (r : Req) (s : State) : Host.Outcome State Fault Refusal :=
  .next (s.serveCmd r 0x0204 .owner (r.length = 2) fun s =>
    match s.img.chunkLen with
    | none => .fail s.noBegin
    | some len =>
      if s.stagedTaken then .fail stBusy
      else .accept ((s.modBank s.img.stg fun x => { x with len := len }).modImg fun x =>
        { x with chunkLen := none, readback := some (r.origin 0x0204) }))

/-! ### Commit, rollback, join -/

/-- The owner key slot of a bank's checked mark is in use and holds the key it held then (R355). -/
def State.markGood (s : State) (bank : Nat) : Bool :=
  match (s.img.bank bank).mark with
  | none => false
  | some (slot, hash) =>
    let k := s.sec.slot slot.toNat
    decide (k.st = 1) && decide (keyHash k.key = hash)

/-- The running image is Previous after a fallback, or Active has failed (10 R243). -/
def ImgState.fellBack (x : ImgState) : Bool := x.activeBad || decide (x.bootRole = 1)

/-- An accepted partial commit copies the image from Staged into the patch area of Active, which changes that bank (10 R248, 14 R355). -/
def State.addPatch (m : Img) (s : State) : State :=
  s.modBank s.img.act fun b => { b with patches := b.patches ++ [{ bytes := m.bytes, len := m.len, applied := false }], mark := none }

/-- An operation becomes pending, and applies at once where it may (10 R244). -/
def State.setPendOp (p : PendOp) (s : State) : State := s.modImg fun x => { x with pend := some p }
def State.pendNow (s : State) : State := if s.opAtOnce then s.applyPend else s

/-- What refuses a COMMIT, in the order of R355; 0 for nothing. -/
def State.commitJudge (s : State) (m : Img) : Nat :=
  if (s.img.bank s.img.stg).mark.isNone ∨ !s.img.stgValid then stBadParam
  else if m.partly ∧ s.img.fellBack then stBadParam
  else if !s.imgRow m none 8 ∨ !s.imgRow m none 9 then stBadParam
  else if s.img.pend.isSome then stBusy
  else if !s.imgRow m none 10 then stBusy
  else if !s.markGood s.img.stg then stSignatureFail
  else if !s.imgRow m none 6 ∨ !s.imgRow m none 7 then stVersionRejected
  else 0

/-- COMMIT (0x0205; R355). -/
def execImageCommit (r : Req) (s : State) : Host.Outcome State Fault Refusal :=
  .next (s.serveCmd r 0x0205 .owner (r.length = 3) fun s =>
    let m := (s.img.bank s.img.stg).base
    if !only (r.p 0) 1 then .fail stBadParam
    else
      let st := s.commitJudge m
      if st ≠ 0 then .fail st
      else
        let p : PendOp :=
          { kind := if m.partly then .partialCommit else .full, atStart := decide (r.p 0 = 1), origin := some (r.origin 0x0205)
            fell := decide (s.img.bootRole = 1) }
        .acceptThen ((if m.partly then s.addPatch m else s).setPendOp p) State.pendNow)

/-- What refuses a ROLLBACK: no version rule applies. -/
def State.rollbackJudge (s : State) : Nat :=
  if (s.img.bank s.img.prev).mark.isNone ∨ s.img.fellBack then stBadParam
  else if s.img.pend.isSome then stBusy
  else if !s.markGood s.img.prev then stSignatureFail
  else 0

/-- ROLLBACK (0x0206; R355). -/
def execRollback (r : Req) (s : State) : Host.Outcome State Fault Refusal :=
  .next (s.serveCmd r 0x0206 .owner (r.length = 3) fun s =>
    if !only (r.p 0) 1 then .fail stBadParam
    else
      let st := s.rollbackJudge
      if st ≠ 0 then .fail st
      else .acceptThen (s.setPendOp { kind := .rollback, atStart := decide (r.p 0 = 1), origin := some (r.origin 0x0206) }) State.pendNow)

/-- JOIN (0x0207; R355): at step 6d. -/
def execJoin (r : Req) (s : State) : Host.Outcome State Fault Refusal :=
  .next (s.serveCmd r 0x0207 .owner (r.length = 2) fun s =>
    if !(s.fab.levees.any (·.awaitJoin)) then .fail stBadParam
    else if s.img.pend.isSome then .fail stBusy
    else .acceptThen (s.setPendOp { kind := .join, atStart := false, origin := some (r.origin 0x0207) }) State.pendNow)

/-- The opcode that asked for an operation. -/
def OpKind.opcode : OpKind → Nat
  | .full | .partialCommit => 0x0205
  | .rollback => 0x0206
  | .join => 0x0207

/-- Step 6 of the boundary at which a pending operation applies has begun: its own item lies ahead in the step under way
(10 R244). An orderly stop leaves the items out. -/
def State.pastStep6 (s : State) (p : PendOp) : Bool :=
  !p.atStart && s.win.st = .boundary && s.win.step = 6 && !s.thm.stopping
  && (match p.kind with
    | .full | .rollback => s.win.item = some .a
    | .partialCommit => p.copied && !p.missed && s.win.item = some .a
    | .join => s.win.item = some .a)

/-- CANCEL (0x0208; R355): the withdrawn operation posts its record with BUSY, and its copy in the patch area is discarded. -/
def execCancel (r : Req) (s : State) : Host.Outcome State Fault Refusal :=
  .next (s.serveCmd r 0x0208 .owner (r.length = 2) fun s =>
    match s.img.pend with
    | none => .fail stBadParam
    | some p =>
      if s.pastStep6 p then .fail stBusy
      else
        let s := s.modImg fun x => { x with pend := none }
        let s := if p.kind = OpKind.partialCommit then
            s.modBank s.img.act fun b => { b with patches := b.patches.filter (·.applied) } else s
        .ok (s.postRecord? p.origin stBusy []) [w32 p.kind.opcode])

/-- VERIFY (0x0209; R355): read-only, and changes nothing but marks. -/
def execVerify (r : Req) (s : State) : Host.Outcome State Fault Refusal :=
  .next (s.serveCmd r 0x0209 .anyone (r.length = 3) fun s =>
    if 2 < (r.p 0).toNat then .fail stBadParam
    else if s.img.verify.isSome then .fail stBusy
    else .accept (s.modImg fun x => { x with verify := some (r.origin 0x0209, (r.p 0).toNat) }))

/-- RELEASE_GO (0x020A; R355). -/
def execReleaseGo (r : Req) (s : State) : Host.Outcome State Fault Refusal :=
  .next (s.serveCmd r 0x020A .owner (r.length = 2) fun s =>
    if !s.img.stepWait then .fail stBadParam else .ok s.releaseGo [])

/-- IMG_HEADER (0x020B; R353): the header of the role's base image. -/
def execImgHeader (r : Req) (s : State) : Host.Outcome State Fault Refusal :=
  .next (s.serveCmd r 0x020B .anyone (r.length = 3) fun s =>
    if 2 < (r.p 0).toNat then .fail stBadParam
    else
      let b := s.img.bank (s.img.roleBank (r.p 0).toNat)
      if b.bytes.isEmpty then .fail stBadParam else .ok s ((List.range 128).map fun i => b.base.hw i))

end Sys2Proof.Machine
end

