-- ==== Sys2Proof/Machine/LogCmds.lean ====
section
/-! DEFINITION. Sensors and log, class 0x06 (14_command_reference R360, 04_splices R90, R91, 13_lockkeeper R322 to R324). -/
namespace Sys2Proof.Machine

/-- SENSOR_READ (0x0600; R360). -/
def execSensorRead (r : Req) (s : State) : Host.Outcome State Fault Refusal :=
  .next (s.serveCmd r 0x0600 .anyone (r.length = 2) fun s => .ok s s.sensorWords)

/-! ### Splice health -/

/-- Spares of a direction that are not free; keys alternate by direction. -/
def spareTaken (t : Tab SpareRec) (d : Nat) : Nat := (t.filter fun e => e.1 % 2 = d && decide (e.2.st ≠ .free)).length

/-- Free pool splices of a plot pair in a direction. -/
def SpliceState.poolFree (x : SpliceState) (p d : Nat) : Nat :=
  16 - (x.pool.filter fun e => e.1 / 32 = p && e.1 % 2 = d && decide (e.2.st ≠ .free)).length

/-- Plot pairs with a channel in a state. -/
def SpliceState.pairsIn (x : SpliceState) (st : ChanSt) : List Nat :=
  ((x.chan.filter fun e => e.2.st = st).map fun e => chanPair e.1).eraseDups

/-- The plot pair with the fewest free pool splices in either direction: the lowest plot x, then the lowest plot y. A pair whose pool
is wholly free comes first only where every pair's is. -/
def SpliceState.minPool (x : SpliceState) : Nat × Nat :=
  (sortBy (fun p => pairPx p * 64 + pairPy p) ((x.pool.map fun e => e.1 / 32).eraseDups)).foldl
    (fun (b : Nat × Nat) p =>
      let n := min (x.poolFree p 0) (x.poolFree p 1)
      if n < b.1 then (n, p) else b) (16, 0)

/-- SPLICE_SUMMARY (0x0601; R360). -/
def execSpliceSummary (r : Req) (s : State) : Host.Outcome State Fault Refusal :=
  .next (s.serveCmd r 0x0601 .anyone (r.length = 2) fun s =>
    let x := s.spl
    let m := x.minPool
    .ok s [w32 (655360 - spareTaken x.spare 0), w32 (655360 - spareTaken x.spare 1), w32 (40960 - spareTaken x.pool 0),
      w32 (40960 - spareTaken x.pool 1),
      w32 (x.pairsIn .fallback).length ||| at_ (x.pair.filter fun e => e.2.frozen).length 16, x.weakCnt, x.verrCnt,
      w32 m.1 ||| at_ (pairPx m.2) 8 ||| at_ (pairPy m.2) 16])

def SpareSt.code : SpareSt → Nat
  | .free => 0 | .shadowing => 1 | .assigned => 2 | .unusable => 3

/-- Channels of a path that are in fallback in a direction (R91). -/
def SpliceState.pathFallback (x : SpliceState) (w d : Nat) : Nat :=
  (x.chan.filter fun e => e.2.st = .fallback && pairPath (chanPair e.1) = w && chanDir e.1 = d).length

/-- Words 0 to 2 of the pair record. -/
def State.pairHead (s : State) (p : Nat) : List W32 :=
  let x := s.spl
  let has (st : ChanSt) : Bool := x.chan.any fun e => e.2.st = st && chanPair e.1 = p
  let st := if (x.pairAt p).frozen then 2 else if has .uncarried then 3 else if has .fallback then 1 else 0
  let w := pairPath p
  let f := s.pathF w s.inArray
  [ w32 (pairPx p) ||| at_ (pairPy p) 8 ||| at_ st 16 ||| at_ (x.poolFree p 0) 18 ||| at_ (x.poolFree p 1) 23,
    w32 (x.pairAt p).slack.toNat ||| at_ (min 255 (f.getD 255)) 8 ||| at_ (x.pathFallback w 0) 16 ||| at_ (x.pathFallback w 1) 22
      ||| bitAt f.isNone 28,
    w32 ((BitVec.ofInt 16 (x.pairAt p).drift).toNat) ]

/-- The word of a hank's two groups, upward and downward. -/
def SpliceState.groupWord (x : SpliceState) (g : Nat) : W32 :=
  let fails (d : Nat) : Nat := (List.range 8).foldl (fun a k => if (x.chanAt (g * 16 + 2 * k + d)).failed then a + 2 ^ k else a) 0
  let a := x.spareAt (2 * g)
  let b := x.spareAt (2 * g + 1)
  let cpl (q : SpareRec) : Nat := if q.st = .free then 0 else chanCoupler q.chan
  w32 (fails 0) ||| at_ (fails 1) 8 ||| at_ (cpl a) 16 ||| at_ a.st.code 19 ||| at_ (cpl b) 21 ||| at_ b.st.code 24
  ||| at_ (x.portsUsed (g * 16)).length 26 ||| at_ (x.portsUsed (g * 16 + 1)).length 28
  ||| bitAt (decide (tget x.badPort 0 (2 * g) ≠ 0)) 30 ||| bitAt (decide (tget x.badPort 0 (2 * g + 1) ≠ 0)) 31

/-- The word of a pool splice. -/
def SpliceState.poolWord (x : SpliceState) (p d j : Nat) : W32 :=
  let q := x.poolAt (poolKey p j d)
  let dir := at_ d 11
  if q.st = .free then dir
  else w32 (chanHx q.chan) ||| at_ (chanHy q.chan) 4 ||| at_ (chanCoupler q.chan) 8 ||| dir ||| at_ q.st.code 12 ||| at_ q.port 14

/-- SPLICE_PAIR (0x0602; R360). -/
def execSplicePair (r : Req) (s : State) : Host.Outcome State Fault Refusal :=
  .next (s.serveCmd r 0x0602 .anyone (r.length = 4) fun s =>
    let px := (r.p 0).toNat
    let py := (r.p 1).toNat
    if 63 < px ∨ 39 < py then .fail stBadParam
    else
      let p := 64 * py + px
      .ok s (s.pairHead p ++ ((List.range 256).map fun g => s.spl.groupWord (p * 256 + g))
        ++ (List.range 32).map fun i => s.spl.poolWord p (i / 16) (i % 16)))

/-! ### The log -/

/-- The eight words of an entry (13 R323). -/
def LogEntry.words (e : LogEntry) : List W32 :=
  e.stamp.words ++ [e.seconds, w32 e.code.toNat ||| bitAt e.int 16 ||| bitAt e.fault 17, e.p0, e.p1, e.p2]

/-- Entries held, by rising index: the area without its gap markers, then the queue. -/
def LogState.held (l : LogState) : List LogEntry :=
  sortBy (fun e => e.index.toNat) (l.area.filterMap fun e => e.2.filter fun x => x.code ≠ 0) ++ l.queue

/-- The first entries of a list whose indices follow each other from `i`, at most `n`. -/
def logRun : Nat → Nat → List LogEntry → List LogEntry
  | 0, _, _ => []
  | _, _, [] => []
  | n + 1, i, e :: t => if e.index.toNat = i then e :: logRun n (i + 1) t else []

/-- The entries that a read from an index returns: from the first one held at or after it, up to the next gap (R323, 14 R360). -/
def LogState.read (l : LogState) (i n : Nat) : List LogEntry :=
  match l.held.filter fun e => i ≤ e.index.toNat with
  | [] => []
  | e :: t => logRun n e.index.toNat (e :: t)

/-- LOG_READ (0x0603; R360). -/
def execLogRead (r : Req) (s : State) : Host.Outcome State Fault Refusal :=
  .next (s.serveCmd r 0x0603 .anyone (r.length = 4) fun s =>
    let n := (r.p 1).toNat
    if n = 0 ∨ 127 < n then .fail stBadParam
    else
      let es := s.lk.log.read (r.p 0).toNat n
      .ok s (((es.head?).map (·.index)).getD (r.p 0) :: w32 es.length :: es.flatMap LogEntry.words))

/-- LOG_INFO (0x0604; R360): the indices are free values while no entry is held. -/
def execLogInfo (r : Req) (s : State) : Host.Outcome State Fault Refusal :=
  .next (s.freshen.serveCmd r 0x0604 .anyone (r.length = 2) fun s =>
    let l := s.lk.log
    let index (e : Option LogEntry) (k : Nat) : W32 := (e.map (·.index)).getD (Config.freeWord s.fresh k)
    .ok s [index l.held.getLast? 0, index l.held.head? 1, l.dropped, w32 l.queue.length])

end Sys2Proof.Machine
end

