-- ==== Sys2Proof/Machine/MemoryCmds.lean ====
section
/-! DEFINITION. Lanes, class 0x07, and memory and ECC, class 0x08 (14_command_reference R361 to R363). -/
namespace Sys2Proof.Machine

/-- LINK_STATUS (0x0700; R361). -/
def execLinkStatus (r : Req) (s : State) : Host.Outcome State Fault Refusal :=
  .next (s.serveCmd r 0x0700 .anyone (r.length = 3) fun s =>
    let i := (r.p 0).toNat
    if 15 < i then .fail stBadParam
    else .ok s ([0x04, 0x08, 0x0C, 0x10, 0x14, 0x18, 0x1C, 0x20, 0x40].map fun (o : Nat) => s.linkReg i o))

/-- LANE_GROUP (0x0701; R361). -/
def execLaneGroup (r : Req) (s : State) : Host.Outcome State Fault Refusal :=
  .next (s.serveCmd r 0x0701 .anyone (r.length = 3) fun s =>
    let g := (r.p 0).toNat
    if 15 < g then .fail stBadParam
    else .ok s (((List.range 9).map fun l => s.groupReg g (4 * l)) ++ ((List.range 9).map fun l => s.groupReg g (0x40 + 4 * l))
      ++ [s.groupReg g 0x80]))

/-- LINK_SET (0x0702; R361): LNK_CTL with both bits in one write. -/
def execLinkSet (r : Req) (s : State) : Host.Outcome State Fault Refusal :=
  .next (s.serveCmd r 0x0702 .owner (r.length = 4) fun s =>
    if 15 < (r.p 0).toNat ∨ !only (r.p 1) 2 then .fail stBadParam
    else .ok (s.lnkCtl (r.p 0).toNat ((r.p 1).getLsbD 0) ((r.p 1).getLsbD 1)) [])

/-- ARRAY_STATUS (0x0703; R361). -/
def execArrayStatus (r : Req) (s : State) : Host.Outcome State Fault Refusal :=
  .next (s.serveCmd r 0x0703 .anyone (r.length = 2) fun s => .ok s [s.lnkId, s.arrayWord])

/-! ### Memory -/

/-- MEM_STATUS (0x0800; R362): the registers in order, so LAST_HI is the one that LAST_LO latched. -/
def execMemStatus (r : Req) (s : State) : Host.Outcome State Fault Refusal :=
  .next (s.serveCmd r 0x0800 .anyone (r.length = 3) fun s =>
    let m := (r.p 0).toNat
    if 39 < m then .fail stBadParam
    else
      let s := s.readLatch (0x1000000 + 0x10000 * m + 0x30)
      .ok s (((List.range 19).map fun k => s.ctlReg m (4 * k)) ++ [s.ctlReg m 0x80, s.ctlReg m 0x84]))

/-- Controllers that a fill mask names: bit 0 the Reservoir, bits 1 to 8 the DDR4 channels. -/
def fillCtls (mask : W32) : List Nat :=
  (if mask.getLsbD 0 then List.range 32 else []) ++ ((List.range 8).filter fun c => mask.getLsbD (1 + c)).map (32 + ·)

/-- MEM_FILL (0x0801; R362): a controller whose fill is in progress is occupied. -/
def execMemFill (r : Req) (s : State) : Host.Outcome State Fault Refusal :=
  .next (s.serveCmd r 0x0801 .owner (r.length = 3) fun s =>
    let ms := fillCtls (r.p 0)
    if !only (r.p 0) 9 ∨ r.p 0 = 0 ∨ ms.any (fun m => !(s.ctlAt m).present m) then .fail stBadParam
    else if s.windowRunning then .fail stWindowRunning
    else if ms.any fun m => (s.ctlAt m).filling then .fail stBusy
    else .accept ((ms.foldl (fun (s : State) m => s.startFill m) s).modMem fun x =>
      { x with fills := x.fills ++ [{ origin := r.origin 0x0801, mask := r.p 0, left := ms }] }))

/-- SCRUB_SET (0x0802; R362): a period of 0 stores 1. For the cisterns, p2 sets nothing. -/
def execScrubSet (r : Req) (s : State) : Host.Outcome State Fault Refusal :=
  .next (s.serveCmd r 0x0802 .owner (r.length = 5) fun s =>
    let t := (r.p 0).toNat
    let p := atLeast1 (r.p 1)
    if (39 < t ∧ t ≠ 0xFF ∧ t ≠ 0x100) ∨ !only (r.p 2) 1 then .fail stBadParam
    else if t = 0x100 then .ok (s.modCst fun c => { c with period := p }) []
    else
      let ms := if t = 0xFF then List.range 40 else [t]
      .ok (ms.foldl (fun (s : State) m => s.modCtl m fun c => { c with period := p, patrolEn := decide (r.p 2 = 1) }) s) [])

/-- The record of 06 R140. -/
def CisternState.eccWords (c : CisternState) : List W32 :=
  [c.corrCnt, c.uncorrCnt, w32 (cstLoc c.lastCistern c.lastRow) ||| at_ c.lastReq 28] ++ c.lastStamp.words ++ [c.scrubPass]

/-- CISTERN_ECC (0x0803; R362). -/
def execCisternEcc (r : Req) (s : State) : Host.Outcome State Fault Refusal :=
  .next (s.serveCmd r 0x0803 .anyone (r.length = 2) fun s => .ok s s.cst.eccWords)

/-! ### Reads and writes of deep memory and cisterns (R363) -/

/-- Deep address of p0 and p1. -/
def Req.deep (r : Req) : Nat := (r.p 0).toNat + 2 ^ 32 * (r.p 1).toNat

/-- The range lies in one region that the Lockkeeper reaches, within its words (07 R141); a cistern address is judged by its
weir. -/
def State.deepRangeOk (s : State) (a n : Nat) : Bool :=
  let region := a / 2 ^ 44
  let x := a % 2 ^ 44
  if region = 0 then decide (x + n ≤ 2642411520)
  else if region ≤ 8 then decide (x + n ≤ 224 * (s.ctlAt (31 + region)).pages (31 + region))
  else region = 12 && decide (x + n ≤ 2 ^ 44)

/-- The memory domain that holds the range is not in Run. -/
def State.deepOff (s : State) (a : Nat) : Bool :=
  let region := a / 2 ^ 44
  decide (region ≤ 8) && !s.domRun (if region = 0 then 10 else 11 + region)

/-- The command begins: its packets go one after the other. -/
def State.memBegin (o : MemOp) (s : State) : State :=
  (s.modLk fun k => { k with memOps := k.memOps ++ [o], memNext := k.memNext + 1 }).memSend o

/-- MEM_READ (0x0804; R363). -/
def execMemRead (r : Req) (s : State) : Host.Outcome State Fault Refusal :=
  .next (s.serveCmd r 0x0804 .anyone (r.length = 5) fun s =>
    let n := (r.p 2).toNat
    if !only (r.p 1) 16 ∨ n = 0 ∨ 960 < n ∨ !s.deepRangeOk r.deep n then .fail stBadParam
    else if s.deepOff r.deep then .fail stDomainOff
    else .wait (s.memBegin { id := s.lk.memNext, req := r, write := false, addr := r.deep, count := n }))

/-- MEM_WRITE (0x0805): it may yet reply ACCEPTED, so it needs room for a record (13 R339). -/
def execMemWrite (r : Req) (s : State) : Host.Outcome State Fault Refusal :=
  .next (s.serveCmd r 0x0805 .owner (decide (5 ≤ r.length) && r.length = 5 + (r.p 2).toNat) fun s =>
    let n := (r.p 2).toNat
    let ws := r.params.drop 3
    if !only (r.p 1) 16 ∨ n = 0 ∨ 1019 < n ∨ ws.any (fun w => !only w 18) ∨ !s.deepRangeOk r.deep n then .fail stBadParam
    else if s.deepOff r.deep then .fail stDomainOff
    else if 32 ≤ (s.lk.port r.port).recordLoad r.port then .fail stBusy
    else .wait (s.memBegin
      { id := s.lk.memNext, req := r, write := true, addr := r.deep, count := n, words := ws.map fun (w : W32) => BitVec.ofNat 18 w.toNat }))

end Sys2Proof.Machine
end

