-- ==== Sys2Proof/Machine/NetCmds.lean ====
section
/-! DEFINITION. Flume, class 0x09, and Leat routes, class 0x0A (14_command_reference R364, R365). -/
namespace Sys2Proof.Machine

/-- FLM_STATUS (0x0900; R364). -/
def execFlmStatus (r : Req) (s : State) : Host.Outcome State Fault Refusal :=
  .next (s.serveCmd r 0x0900 .anyone (r.length = 3) fun s =>
    let c := (r.p 0).toNat
    if 31 < c then .fail stBadParam else .ok s ((List.range 11).map fun k => s.flmChReg c (4 * k)))

/-- FLM_RING (0x0901; R364): RING_LO last, so HEAD becomes 0. -/
def execFlmRing (r : Req) (s : State) : Host.Outcome State Fault Refusal :=
  .next (s.serveCmd r 0x0901 .owner (r.length = 6) fun s =>
    let c := (r.p 0).toNat
    let n := (r.p 3).toNat
    if 31 < c ∨ n = 0 ∨ 12 < n then .fail stBadParam
    else if !s.flmRingFree c then .fail stBusy
    else .ok (((s.flmSize c n).flmRingHi c (r.p 2)).flmRingLo c (r.p 1)) [])

/-- FLM_TAIL (0x0902; R364). -/
def execFlmTail (r : Req) (s : State) : Host.Outcome State Fault Refusal :=
  .next (s.serveCmd r 0x0902 .owner (r.length = 4) fun s =>
    if 31 < (r.p 0).toNat ∨ !only (r.p 1) 12 then .fail stBadParam
    else .ok (s.flmTail (r.p 0).toNat (r.p 1).toNat) [])

/-- FLM_CTL (0x0903; R364): FLM_CH_CTL in one write. -/
def execFlmCtl (r : Req) (s : State) : Host.Outcome State Fault Refusal :=
  .next (s.serveCmd r 0x0903 .owner (r.length = 4) fun s =>
    if 31 < (r.p 0).toNat ∨ !only (r.p 1) 2 then .fail stBadParam
    else .ok (s.flmCtl (r.p 0).toNat ((r.p 1).getLsbD 0) ((r.p 1).getLsbD 1)) [])

/-! ### Leat routes -/

/-- HORIZON (0x0A00; R365). -/
def execHorizon (r : Req) (s : State) : Host.Outcome State Fault Refusal :=
  .next (s.serveCmd r 0x0A00 .anyone (r.length = 3) fun s =>
    let n := (r.p 0).toNat
    if 383 < n ∧ n ≠ 0x1FF then .fail stBadParam
    else .ok s [w32 s.win.horizon.toNat, s.leatShared 0x04, s.commitWord, if n = 0x1FF then 0 else s.niReg n 0x34])

/-- NI_STATUS (0x0A01; R365). -/
def execNiStatus (r : Req) (s : State) : Host.Outcome State Fault Refusal :=
  .next (s.serveCmd r 0x0A01 .anyone (r.length = 3) fun s =>
    let n := (r.p 0).toNat
    if 383 < n then .fail stBadParam
    else .ok s (((List.range 18).map fun k => s.niReg n (4 * k)) ++ [s.niReg n 0x80, s.niReg n 0x84]))

/-- NI_SET (0x0A02; R365): a Reservoir front end takes SIZE_STG alone and ignores the rest. -/
def execNiSet (r : Req) (s : State) : Host.Outcome State Fault Refusal :=
  .next (s.serveCmd r 0x0A02 .owner (r.length = 7) fun s =>
    let n := (r.p 0).toNat
    let own := decide (n < 352)
    if 383 < n ∨ !only (r.p 1) 2 ∨ (own && !(only (r.p 2) 24 && only (r.p 3) 12 && only (r.p 4) 24)) then .fail stBadParam
    else
      let s := s.niWrite n 0x04 (r.p 1)
      .ok (if own then ((s.niWrite n 0x08 (r.p 2)).niWrite n 0x10 (r.p 3)).niWrite n 0x14 (r.p 4) else s) [])

/-- A word of a route entry with a reserved bit set (08 R205). -/
def rteReserved (i : Nat) (w : W32) : Bool := decide (w &&& (if i % 2 = 0 then 0x70000000 else 0xFFF00000) ≠ 0)

/-- The words of a list with their places from `i`. -/
def numbered (i : Nat) (ws : List W32) : List (Nat × W32) := ((List.range ws.length).map (i + ·)).zip ws

/-- ROUTE_WRITE (0x0A03; R365). -/
def execRouteWrite (r : Req) (s : State) : Host.Outcome State Fault Refusal :=
  .next (s.serveCmd r 0x0A03 .owner (decide (5 ≤ r.length) && r.length = 5 + 2 * (r.p 2).toNat) fun s =>
    let n := (r.p 0).toNat
    let e := (r.p 1).toNat
    let k := (r.p 2).toNat
    let ws := numbered (2 * e) (r.params.drop 3)
    if 351 < n ∨ k = 0 ∨ 256 < e + k ∨ ws.any (fun x => rteReserved x.1 x.2) then .fail stBadParam
    else .ok (ws.foldl (fun (s : State) (x : Nat × W32) => s.rteStage n x.1 x.2) s) [])

/-- ROUTE_READ (0x0A04; R365). -/
def execRouteRead (r : Req) (s : State) : Host.Outcome State Fault Refusal :=
  .next (s.serveCmd r 0x0A04 .anyone (r.length = 6) fun s =>
    let n := (r.p 0).toNat
    let e := (r.p 2).toNat
    let k := (r.p 3).toNat
    if 351 < n ∨ !only (r.p 1) 1 ∨ k = 0 ∨ 256 < e + k then .fail stBadParam
    else
      let base := if r.p 1 = 1 then 0x2000 else 0x1000
      .ok s ((List.range (2 * k)).map fun j => s.niReg n (base + 8 * e + 4 * j)))

/-- OTK_RSV_WRITE (0x0A05; R365). -/
def execOtkRsvWrite (r : Req) (s : State) : Host.Outcome State Fault Refusal :=
  .next (s.serveCmd r 0x0A05 .owner (decide (5 ≤ r.length) && r.length = 5 + (r.p 2).toNat) fun s =>
    let n := (r.p 0).toNat
    let e := (r.p 1).toNat
    let k := (r.p 2).toNat
    let ws := numbered e (r.params.drop 3)
    if 319 < n ∨ k = 0 ∨ 64 < e + k ∨ ws.any (fun x => decide (x.2 &&& 0x7FFFFE00 ≠ 0)) then .fail stBadParam
    else .ok (ws.foldl (fun (s : State) (x : Nat × W32) => s.otkStage n x.1 x.2) s) [])

/-- ROUTE_ARM (0x0A06; R365): the record follows when CHECKED sets. -/
def execRouteArm (r : Req) (s : State) : Host.Outcome State Fault Refusal :=
  .next (s.serveCmd r 0x0A06 .owner (r.length = 2) fun s =>
    if s.leat.armOrigin.isSome then .fail stBusy else .accept (s.armCommit (some (r.origin 0x0A06))))

/-- ISOL_CLEAR (0x0A07; R365): at step 5. -/
def execIsolClear (r : Req) (s : State) : Host.Outcome State Fault Refusal :=
  .next (s.serveCmd r 0x0A07 .owner (r.length = 3) fun s =>
    let all := (r.p 0).getLsbD 31
    if (r.p 0 &&& 0x7FFFFE00) ≠ 0 ∨ (!all && decide (383 < (r.p 0).toNat)) then .fail stBadParam
    else
      let s := s.isolClear (field (r.p 0) 0 9) all
      .ok (if s.opAtOnce then s.clearIsolations else s) [])

end Sys2Proof.Machine
end

