-- ==== Sys2Proof/Machine/PowerCmds.lean ====
section
/-! DEFINITION. Power, class 0x04, and clocks, class 0x05 (14_command_reference R358, R359). -/
namespace Sys2Proof.Machine

/-- PWR_STATUS (0x0400; R358). -/
def execPwrStatus (r : Req) (s : State) : Host.Outcome State Fault Refusal :=
  .next (s.serveCmd r 0x0400 .anyone (r.length = 2) fun s =>
    .ok s (((List.range 64).map fun d => w32 (s.domCode d)) ++ [s.wakeWord]))

/-- DOMAIN_SET is refused (R358, 17 R413, R415). -/
def State.domSetBad (s : State) (d : Nat) (st : PState) : Bool :=
  !domSupports d st || (s.domAbsent d && st.code ≠ 3) || (decide (st.code ≠ 0) && s.laneDomJoined d)

/-- A change of the domain is pending or under way for a command (17 R415). -/
def State.domTaken (s : State) (d : Nat) : Bool :=
  (s.pwr.reqs.any fun q => q.dom = d) || (s.pwr.changed.any fun q => q.dom = d) || (s.domAt d).waking.isSome

/-- The device sleeps, enters sleep or wakes, and the domain's state is saved over that sleep (17 R425). -/
def State.domSaved (s : State) (d : Nat) : Bool :=
  (s.domAt d).before.isSome && decide (s.pwr.dev ≠ .run) && decide (s.pwr.dev ≠ .thermal)

/-- A change asked of a domain that is not there yet: to Run at once, else at step 6h (17 R415). -/
def State.domAsk (d : Nat) (st : PState) (o : Origin) (s : State) : State :=
  if st.code = 0 then s.domWake d (some o)
  else
    let s := (s.modPwr fun p => { p with reqs := p.reqs ++ [{ dom := d, st := st, origin := some o }] }).setPend d true
    if s.opAtOnce then s.domStep false else s

/-- A memory domain that a request has woken stays in Run when Run is commanded (17 R417). -/
def State.domStays (d : Nat) (st : PState) (s : State) : State :=
  if isMemDom d ∧ st.code = 0 then (domainCtls d).foldl (fun (s : State) m => s.modCtl m fun c => { c with wokenFrom := none }) s
  else s

/-- DOMAIN_SET (0x0401; R358): a domain that is in the state already has its record at once. -/
def execDomainSet (r : Req) (s : State) : Host.Outcome State Fault Refusal :=
  .next (s.serveCmd r 0x0401 .owner (r.length = 4) fun s =>
    let d := (r.p 0).toNat
    let st := pstateOf (r.p 1).toNat
    let o := r.origin 0x0401
    if !only (r.p 0) 6 ∨ !only (r.p 1) 2 ∨ s.domSetBad d st then .fail stBadParam
    else if s.domTaken d ∨ s.pwr.dev = .entering then .fail stBusy
    else if s.domSaved d then .accept (s.modDom d fun x => { x with before := some st, waking := some o })
    else if s.domCode d = st.code then .acceptThen (s.domStays d st) (State.postRecord o stOk [w32 st.code])
    else .acceptThen s (State.domAsk d st o))

/-- DEVICE_SLEEP (0x0402; R358): at step 6h. -/
def execDeviceSleep (r : Req) (s : State) : Host.Outcome State Fault Refusal :=
  .next (s.serveCmd r 0x0402 .owner (r.length = 3) fun s =>
    let n := (r.p 0).toNat
    if n ≠ 1 ∧ n ≠ 2 then .fail stBadParam
    else if s.pwr.dev ≠ .run ∧ s.pwr.dev ≠ .sleep ∧ s.pwr.dev ≠ .deep then .fail stBusy
    else .acceptThen s (State.sleepRequest (BitVec.ofNat 2 n) (some (r.origin 0x0402))))

/-- WAKE_CONFIG (0x0403; R358). -/
def execWakeConfig (r : Req) (s : State) : Host.Outcome State Fault Refusal :=
  .next (s.serveCmd r 0x0403 .owner (r.length = 4) fun s =>
    if !only (r.p 0) 6 then .fail stBadParam
    else .ok ((s.wakeEnable (bitsOf 6 (r.p 0))).modPwr fun p => { p with timer := r.p 1 }) [])

/-- HOT_T is at or above the throttle start. -/
def ThermalState.hotStart (t : ThermalState) : Bool := decide (16 * (t.start.toNat : Int) ≤ t.hotT.toInt)

/-- WAKE (0x0404): in Run it withdraws a pending entry and is complete (R358, R372); in thermal stop it is refused while HOT_T is
at or above the throttle start (17 R434). -/
def execWake (r : Req) (s : State) : Host.Outcome State Fault Refusal :=
  .next (s.serveCmd r 0x0404 .owner (r.length = 2) fun s =>
    if s.pwr.dev = .run then .ok s.sleepWithdraw []
    else if s.pwr.dev = .thermal ∧ s.thm.hotStart then .fail stBusy
    else if (s.pwr.wake.bind (·.origin)).isSome then .fail stBusy
    else .acceptThen s (State.wakeBy 5 (some (r.origin 0x0404))))

/-- THERMAL_SET (0x0405; R358). -/
def execThermalSet (r : Req) (s : State) : Host.Outcome State Fault Refusal :=
  .next (s.serveCmd r 0x0405 .owner (r.length = 3) fun s =>
    if (r.p 0).toNat < 70 ∨ 100 < (r.p 0).toNat then .fail stBadParam else .ok (s.thmStart (r.p 0).toNat) [])

/-! ### Clocks -/

/-- CLK_STATUS (0x0500; R359). -/
def execClkStatus (r : Req) (s : State) : Host.Outcome State Fault Refusal :=
  .next (s.serveCmd r 0x0500 .anyone (r.length = 2) fun s =>
    .ok s [s.clkStatus &&& 3, w32 s.clk.lock.toNat, w32 s.clk.pulseNow])

/-- REF_SELECT (0x0501): a refused write shows in CLK_EVT alone (16 R396). -/
def execRefSelect (r : Req) (s : State) : Host.Outcome State Fault Refusal :=
  .next (s.serveCmd r 0x0501 .owner (r.length = 3) fun s =>
    if 2 < (r.p 0).toNat then .fail stBadParam else .ok (s.selectRef (bitsOf 2 (r.p 0))) [])

/-- SLUICE_SET (0x0502): a close replies when the sluice has closed or the request has failed. Sluices 11 and above are set by power
states alone (16 R410). -/
def execSluiceSet (r : Req) (s : State) : Host.Outcome State Fault Refusal :=
  .next (s.serveCmd r 0x0502 .owner (r.length = 4) fun s =>
    let n := (r.p 0).toNat
    if 10 < n ∨ 2 < (r.p 1).toNat then .fail stBadParam
    else if (s.slcAt n).waiter.isSome then .fail stBusy
    else
      let s := s.slcRequest n (bitsOf 2 (r.p 1))
      if (s.slcAt n).closing then .wait (s.modSlc n fun x => { x with waiter := some r })
      else .ok s [w32 (s.slcAt n).st.toNat])

end Sys2Proof.Machine
end

