-- ==== Sys2Proof/Machine/WindowCmds.lean ====
section
/-! DEFINITION. Window, class 0x03 (14_command_reference R356, R357). -/
namespace Sys2Proof.Machine

/-- WIN_STATUS (0x0300; R356): with the level of WAIT_N as WIN_STATE gives it. -/
def execWinStatus (r : Req) (s : State) : Host.Outcome State Fault Refusal :=
  .next (s.freshen.serveCmd r 0x0300 .anyone (r.length = 2) fun s =>
    .ok s ([s.winState, w32 s.win.hold.toNat, wordOf s.win.cnt 0, wordOf s.win.cnt 1, s.winReg 0x28, w32 s.win.horizon.toNat,
      s.win.minLen, w32 s.win.evt.toNat, s.win.lateCnt, s.win.stallPulses, s.win.slotPulses, s.win.bndTime, s.win.earlyCnt]
      ++ s.stamp.words))

/-- WIN_HOLD (0x0301; R356): WIN_CTL.HOLD. -/
def execWinHold (r : Req) (s : State) : Host.Outcome State Fault Refusal :=
  .next (s.serveCmd r 0x0301 .owner (r.length = 3) fun s =>
    if !only (r.p 0) 1 then .fail stBadParam else .ok (s.winHold (decide (r.p 0 = 1))) [])

/-- WIN_CONFIG (0x0302; R356): five registers, each as its own entry has it. -/
def execWinConfig (r : Req) (s : State) : Host.Outcome State Fault Refusal :=
  .next (s.serveCmd r 0x0302 .owner (r.length = 7) fun s =>
    if 2 < (r.p 0).toNat ∨ !only (r.p 3) 5 ∨ !only (r.p 4) 20 then .fail stBadParam
    else .ok ((((s.winMode (bitsOf 2 (r.p 0))).winLen (r.p 1)).modWin fun w =>
      { w with genPeriod := r.p 2, stallLimit := bitsOf 20 (r.p 4) }).winLead (bitsOf 5 (r.p 3))) [])

/-- A device can be the start device: it produces starts that leave it, or takes them from outside, and it has a lane board table
(11 R279). In mode 01 its starts are its own alone. -/
def State.canStart (s : State) : Bool := s.lnk.table && decide (s.win.modeReg ≠ 1)

/-- ARRAY_START (0x0303; R356). -/
def execArrayStart (r : Req) (s : State) : Host.Outcome State Fault Refusal :=
  .next (s.serveCmd r 0x0303 .owner (r.length = 3) fun s =>
    let n := (r.p 0).toNat
    if n < 2 ∨ 32 < n ∨ !s.canStart then .fail stBadParam
    else if s.windowRunning then .fail stWindowRunning
    else if s.lnk.startOrigin.isSome then .fail stBusy
    else .acceptThen s (State.arrayStart (r.origin 0x0303) n))

/-- A link in the lane board table uses a failing lane direction that no spare carries (11 R277). -/
def State.laneBare (s : State) : Bool :=
  (List.range 16).any fun g => (List.range 8).any fun l =>
    (s.linkOfLane g l).isSome && ([false, true].any fun tx =>
      let h := (s.groupAt g).half tx
      h.failing.getLsbD l && !(h.lane = l && (decide (h.spare = SpareRole.shadowing) || decide (h.spare = SpareRole.assigned))))

/-- FAULT_CLEAR (0x0304; R357): causes 0 and 1 stand, 2 goes when its lane direction is unused, 3 goes. -/
def execFaultClear (r : Req) (s : State) : Host.Outcome State Fault Refusal :=
  .next (s.serveCmd r 0x0304 .owner (r.length = 2) fun s =>
    let s := s.clearCause 3
    let s := if s.laneBare then s else s.clearCause 2
    let left := w32 s.win.causes.toNat
    if left = 0 then .ok s [left] else .partly s stHwFault [left])

end Sys2Proof.Machine
end

