-- ==== Sys2Proof/Machine/Dispatch.lean ====
section
/-! DEFINITION. One arm for each command: a direct call of its meaning. -/
namespace Sys2Proof.Machine

def exec (cmd : Instr) (s : State) : Host.Outcome State Fault Refusal :=
  match cmd with
  | .pulse o => Sys2Proof.Machine.execPulse o s
  | .spliceShadowTakeover c => Sys2Proof.Machine.execSpliceShadowTakeover c s
  | .fallbackPacketReceive path dir => Sys2Proof.Machine.execFallbackPacketReceive path dir s
  | .configurationUpset knot strand bit => Sys2Proof.Machine.execConfigurationUpset knot strand bit s
  | .verticalFrameReceive v frame good => Sys2Proof.Machine.execVerticalFrameReceive v frame good s
  | .verticalShadowStart v => Sys2Proof.Machine.execVerticalShadowStart v s
  | .clockCouplerFail k => Sys2Proof.Machine.execClockCouplerFail k s
  | .clockCouplerSwitch tierB => Sys2Proof.Machine.execClockCouplerSwitch tierB s
  | .winEdge => Sys2Proof.Machine.execWinEdge s
  | .generatorFire => Sys2Proof.Machine.execGeneratorFire s
  | .edgePulse => Sys2Proof.Machine.execEdgePulse s
  | .windowStart => Sys2Proof.Machine.execWindowStart s
  | .leatDrainComplete => Sys2Proof.Machine.execLeatDrainComplete s
  | .ledgerFlushComplete => Sys2Proof.Machine.execLedgerFlushComplete s
  | .captureCopyComplete => Sys2Proof.Machine.execCaptureCopyComplete s
  | .stallEnd => Sys2Proof.Machine.execStallEnd s
  | .longStall => Sys2Proof.Machine.execLongStall s
  | .ioOutputFrame b => Sys2Proof.Machine.execIoOutputFrame b s
  | .winStampRead f be => Sys2Proof.Machine.execWinStampRead f be s
  | .winCntLoRead f be => Sys2Proof.Machine.execWinCntLoRead f be s
  | .cisternServiceRequest n => Sys2Proof.Machine.execCisternServiceRequest n s
  | .cisternServiceRow i => Sys2Proof.Machine.execCisternServiceRow i s
  | .cisternPatrolRead i => Sys2Proof.Machine.execCisternPatrolRead i s
  | .cisternScrubOverrun i => Sys2Proof.Machine.execCisternScrubOverrun i s
  | .memoryRequest m => Sys2Proof.Machine.execMemoryRequest m s
  | .pagePathComplete m => Sys2Proof.Machine.execPagePathComplete m s
  | .ledgerEntryFlush m => Sys2Proof.Machine.execLedgerEntryFlush m s
  | .patrolScrub m => Sys2Proof.Machine.execPatrolScrub m s
  | .scrubOverrun m => Sys2Proof.Machine.execScrubOverrun m s
  | .fillDone m => Sys2Proof.Machine.execFillDone m s
  | .memChFill f be m data => Sys2Proof.Machine.execMemChFill f be m data s
  | .memoryWakeComplete d => Sys2Proof.Machine.execMemoryWakeComplete d s
  | .memoryIdleReturn d => Sys2Proof.Machine.execMemoryIdleReturn d s
  | .caParityError ch retryOk => Sys2Proof.Machine.execCaParityError ch retryOk s
  | .memLastAddrRead f be m => Sys2Proof.Machine.execMemLastAddrRead f be m s
  | .hostWindowRequest => Sys2Proof.Machine.execHostWindowRequest s
  | .hostCompletion id st ep bytes => Sys2Proof.Machine.execHostCompletion id st ep bytes s
  | .completionTimeout id => Sys2Proof.Machine.execCompletionTimeout id s
  | .bar4Read off => Sys2Proof.Machine.execBar4Read off s
  | .bar4Write off be data => Sys2Proof.Machine.execBar4Write off be data s
  | .weirHop n held => Sys2Proof.Machine.execWeirHop n held s
  | .trainInjection n => Sys2Proof.Machine.execTrainInjection n s
  | .leatRequestReceive n => Sys2Proof.Machine.execLeatRequestReceive n s
  | .leatResponseReceive n => Sys2Proof.Machine.execLeatResponseReceive n s
  | .creditReceive n => Sys2Proof.Machine.execCreditReceive n s
  | .reservationRequest src tgt => Sys2Proof.Machine.execReservationRequest src tgt s
  | .reservationRetry src tgt => Sys2Proof.Machine.execReservationRetry src tgt s
  | .reservationIdleRelease src tgt => Sys2Proof.Machine.execReservationIdleRelease src tgt s
  | .responseTimeout src tgt tag => Sys2Proof.Machine.execResponseTimeout src tgt tag s
  | .isolation n => Sys2Proof.Machine.execIsolation n s
  | .leatCommitArm f be data => Sys2Proof.Machine.execLeatCommitArm f be data s
  | .routeCheckComplete => Sys2Proof.Machine.execRouteCheckComplete s
  | .leatIsolClr f be data => Sys2Proof.Machine.execLeatIsolClr f be data s
  | .leatSvcWrite f be link data => Sys2Proof.Machine.execLeatSvcWrite f be link data s
  | .gwyniorEndpointRequest i => Sys2Proof.Machine.execGwyniorEndpointRequest i s
  | .flmChTailWrite f be c data => Sys2Proof.Machine.execFlmChTailWrite f be c data s
  | .flmRun f be c data => Sys2Proof.Machine.execFlmRun f be c data s
  | .flmAbort f be c data => Sys2Proof.Machine.execFlmAbort f be c data s
  | .flmRingLoWrite f be c data => Sys2Proof.Machine.execFlmRingLoWrite f be c data s
  | .descriptorFetch c => Sys2Proof.Machine.execDescriptorFetch c s
  | .descriptorArrival c words good => Sys2Proof.Machine.execDescriptorArrival c words good s
  | .readArbiterGrant => Sys2Proof.Machine.execReadArbiterGrant s
  | .writeArbiterGrant => Sys2Proof.Machine.execWriteArbiterGrant s
  | .descriptorWriteback c => Sys2Proof.Machine.execDescriptorWriteback c s
  | .powerOn st => Sys2Proof.Machine.execPowerOn st s
  | .powerOff => Sys2Proof.Machine.execPowerOff s
  | .resetNAssert => Sys2Proof.Machine.execResetNAssert s
  | .warmResetQuiesceDone => Sys2Proof.Machine.execWarmResetQuiesceDone s
  | .resetTimeout ctls => Sys2Proof.Machine.execResetTimeout ctls s
  | .resetNRelease winMstr cool => Sys2Proof.Machine.execResetNRelease winMstr cool s
  | .powerGood => Sys2Proof.Machine.execPowerGood s
  | .lockkeeperInService => Sys2Proof.Machine.execLockkeeperInService s
  | .fullLoadComplete => Sys2Proof.Machine.execFullLoadComplete s
  | .applyFail => Sys2Proof.Machine.execApplyFail s
  | .pllLock p => Sys2Proof.Machine.execPllLock p s
  | .releaseStep vccio => Sys2Proof.Machine.execReleaseStep vccio s
  | .cfgReleaseGo f be data => Sys2Proof.Machine.execCfgReleaseGo f be data s
  | .stageReadbackComplete => Sys2Proof.Machine.execStageReadbackComplete s
  | .patchCopyComplete => Sys2Proof.Machine.execPatchCopyComplete s
  | .partialApplyComplete => Sys2Proof.Machine.execPartialApplyComplete s
  | .verifyComplete => Sys2Proof.Machine.execVerifyComplete s
  | .scrubFrameRead => Sys2Proof.Machine.execScrubFrameRead s
  | .repairFrameArrival bad => Sys2Proof.Machine.execRepairFrameArrival bad s
  | .scrubWdog => Sys2Proof.Machine.execScrubWdog s
  | .laneDirectionFailing g tx os => Sys2Proof.Machine.execLaneDirectionFailing g tx os s
  | .alignBlockReceive g l payload => Sys2Proof.Machine.execAlignBlockReceive g l payload s
  | .idleColumnAdjust i fill => Sys2Proof.Machine.execIdleColumnAdjust i fill s
  | .lanePllUnlock g => Sys2Proof.Machine.execLanePllUnlock g s
  | .standbyPllTakeover g => Sys2Proof.Machine.execStandbyPllTakeover g s
  | .frameSend i o => Sys2Proof.Machine.execFrameSend i o s
  | .slotFrameReceive i f => Sys2Proof.Machine.execSlotFrameReceive i f s
  | .ctrlFrameReceive i f => Sys2Proof.Machine.execCtrlFrameReceive i f s
  | .txnFrameReceive i f => Sys2Proof.Machine.execTxnFrameReceive i f s
  | .startReceive i f => Sys2Proof.Machine.execStartReceive i f s
  | .startAckReceive i f => Sys2Proof.Machine.execStartAckReceive i f s
  | .goReceive i f => Sys2Proof.Machine.execGoReceive i f s
  | .arrayStartTimeout => Sys2Proof.Machine.execArrayStartTimeout s
  | .mgmtCommand i f => Sys2Proof.Machine.execMgmtCommand i f s
  | .mgmtReply i f => Sys2Proof.Machine.execMgmtReply i f s
  | .mgmtRecord i f => Sys2Proof.Machine.execMgmtRecord i f s
  | .forwardTimeout i => Sys2Proof.Machine.execForwardTimeout i s
  | .replayTimeout i => Sys2Proof.Machine.execReplayTimeout i s
  | .linkDown i => Sys2Proof.Machine.execLinkDown i s
  | .linkUp i o => Sys2Proof.Machine.execLinkUp i o s
  | .lnkCtlEn f be i data => Sys2Proof.Machine.execLnkCtlEn f be i data s
  | .lnkCtlRetrain f be i data => Sys2Proof.Machine.execLnkCtlRetrain f be i data s
  | .bar0Write f be off data => Sys2Proof.Machine.execBar0Write f be off data s
  | .bar0ReadOffDomain f be off => Sys2Proof.Machine.execBar0ReadOffDomain f be off s
  | .pcieReset k => Sys2Proof.Machine.execPcieReset k s
  | .functionLevelReset f => Sys2Proof.Machine.execFunctionLevelReset f s
  | .d3hotEntry f => Sys2Proof.Machine.execD3hotEntry f s
  | .d3hotExit f => Sys2Proof.Machine.execD3hotExit f s
  | .smbusReq bytes pec => Sys2Proof.Machine.execSmbusReq bytes pec s
  | .smbusReqEnd bytes pec => Sys2Proof.Machine.execSmbusReqEnd bytes pec s
  | .smbusAbort data pec => Sys2Proof.Machine.execSmbusAbort data pec s
  | .smbusReply => Sys2Proof.Machine.execSmbusReply s
  | .smbusRecord => Sys2Proof.Machine.execSmbusRecord s
  | .smbusStatus => Sys2Proof.Machine.execSmbusStatus s
  | .smbusAlertResponse => Sys2Proof.Machine.execSmbusAlertResponse s
  | .smbusAddressMatch addr => Sys2Proof.Machine.execSmbusAddressMatch addr s
  | .smbusTimeout => Sys2Proof.Machine.execSmbusTimeout s
  | .jtagCmd => Sys2Proof.Machine.execJtagCmd s
  | .jtagRequestWord w => Sys2Proof.Machine.execJtagRequestWord w s
  | .jtagLastWord w => Sys2Proof.Machine.execJtagLastWord w s
  | .jtagAdvance => Sys2Proof.Machine.execJtagAdvance s
  | .jtagCapture => Sys2Proof.Machine.execJtagCapture s
  | .extest => Sys2Proof.Machine.execExtest s
  | .samplePreload cells => Sys2Proof.Machine.execSamplePreload cells s
  | .clamp => Sys2Proof.Machine.execClamp s
  | .highz => Sys2Proof.Machine.execHighz s
  | .idcode => Sys2Proof.Machine.execIdcode s
  | .usercode => Sys2Proof.Machine.execUsercode s
  | .bypass code => Sys2Proof.Machine.execBypass code s
  | .tapReset => Sys2Proof.Machine.execTapReset s
  | .frInputEntry b bits => Sys2Proof.Machine.execFrInputEntry b bits s
  | .frOutputEntry b => Sys2Proof.Machine.execFrOutputEntry b s
  | .mbxDoorbell f words tail data => Sys2Proof.Machine.execMbxDoorbell f words tail data s
  | .badOpcode opcode r => Sys2Proof.Machine.execBadOpcode opcode r s
  | .housekeeping => Sys2Proof.Machine.execHousekeeping s
  | .lockstepMismatch => Sys2Proof.Machine.execLockstepMismatch s
  | .fetchTrap lo hi dataArea => Sys2Proof.Machine.execFetchTrap lo hi dataArea s
  | .hwResponderCutoff p => Sys2Proof.Machine.execHwResponderCutoff p s
  | .leaseExpiry => Sys2Proof.Machine.execLeaseExpiry s
  | .sensorSample o => Sys2Proof.Machine.execSensorSample o s
  | .logHeadgateWrite => Sys2Proof.Machine.execLogHeadgateWrite s
  | .controlRingSegmentFail v => Sys2Proof.Machine.execControlRingSegmentFail v s
  | .idGet r => Sys2Proof.Machine.execIdGet r s
  | .ping r => Sys2Proof.Machine.execPing r s
  | .csrRead r => Sys2Proof.Machine.execCsrRead r s
  | .csrWrite r => Sys2Proof.Machine.execCsrWrite r s
  | .claim r => Sys2Proof.Machine.execClaim r s
  | .release r => Sys2Proof.Machine.execRelease r s
  | .handover r => Sys2Proof.Machine.execHandover r s
  | .leaseSet r => Sys2Proof.Machine.execLeaseSet r s
  | .ownerGet r => Sys2Proof.Machine.execOwnerGet r s
  | .forward r => Sys2Proof.Machine.execForward r s
  | .imgStatus r => Sys2Proof.Machine.execImgStatus r s
  | .stageHost r => Sys2Proof.Machine.execStageHost r s
  | .stageBegin r => Sys2Proof.Machine.execStageBegin r s
  | .stageChunk r => Sys2Proof.Machine.execStageChunk r s
  | .stageEnd r => Sys2Proof.Machine.execStageEnd r s
  | .rollback r => Sys2Proof.Machine.execRollback r s
  | .join r => Sys2Proof.Machine.execJoin r s
  | .cancel r => Sys2Proof.Machine.execCancel r s
  | .verify r => Sys2Proof.Machine.execVerify r s
  | .releaseGo r => Sys2Proof.Machine.execReleaseGo r s
  | .imgHeader r => Sys2Proof.Machine.execImgHeader r s
  | .winStatus r => Sys2Proof.Machine.execWinStatus r s
  | .winHold r => Sys2Proof.Machine.execWinHold r s
  | .winConfig r => Sys2Proof.Machine.execWinConfig r s
  | .arrayStart r => Sys2Proof.Machine.execArrayStart r s
  | .faultClear r => Sys2Proof.Machine.execFaultClear r s
  | .pwrStatus r => Sys2Proof.Machine.execPwrStatus r s
  | .domainSet r => Sys2Proof.Machine.execDomainSet r s
  | .deviceSleep r => Sys2Proof.Machine.execDeviceSleep r s
  | .wakeConfig r => Sys2Proof.Machine.execWakeConfig r s
  | .wake r => Sys2Proof.Machine.execWake r s
  | .thermalSet r => Sys2Proof.Machine.execThermalSet r s
  | .clkStatus r => Sys2Proof.Machine.execClkStatus r s
  | .refSelect r => Sys2Proof.Machine.execRefSelect r s
  | .sluiceSet r => Sys2Proof.Machine.execSluiceSet r s
  | .sensorRead r => Sys2Proof.Machine.execSensorRead r s
  | .spliceSummary r => Sys2Proof.Machine.execSpliceSummary r s
  | .splicePair r => Sys2Proof.Machine.execSplicePair r s
  | .logRead r => Sys2Proof.Machine.execLogRead r s
  | .logInfo r => Sys2Proof.Machine.execLogInfo r s
  | .linkStatus r => Sys2Proof.Machine.execLinkStatus r s
  | .laneGroup r => Sys2Proof.Machine.execLaneGroup r s
  | .linkSet r => Sys2Proof.Machine.execLinkSet r s
  | .arrayStatus r => Sys2Proof.Machine.execArrayStatus r s
  | .memStatus r => Sys2Proof.Machine.execMemStatus r s
  | .memFill r => Sys2Proof.Machine.execMemFill r s
  | .scrubSet r => Sys2Proof.Machine.execScrubSet r s
  | .cisternEcc r => Sys2Proof.Machine.execCisternEcc r s
  | .memRead r => Sys2Proof.Machine.execMemRead r s
  | .memWrite r => Sys2Proof.Machine.execMemWrite r s
  | .flmStatus r => Sys2Proof.Machine.execFlmStatus r s
  | .flmRing r => Sys2Proof.Machine.execFlmRing r s
  | .flmTail r => Sys2Proof.Machine.execFlmTail r s
  | .flmCtl r => Sys2Proof.Machine.execFlmCtl r s
  | .horizon r => Sys2Proof.Machine.execHorizon r s
  | .niStatus r => Sys2Proof.Machine.execNiStatus r s
  | .niSet r => Sys2Proof.Machine.execNiSet r s
  | .routeWrite r => Sys2Proof.Machine.execRouteWrite r s
  | .routeRead r => Sys2Proof.Machine.execRouteRead r s
  | .otkRsvWrite r => Sys2Proof.Machine.execOtkRsvWrite r s
  | .routeArm r => Sys2Proof.Machine.execRouteArm r s
  | .isolClear r => Sys2Proof.Machine.execIsolClear r s
  | .attest r => Sys2Proof.Machine.execAttest r s
  | .attestReportDone => Sys2Proof.Machine.execAttestReportDone s
  | .attestGet r => Sys2Proof.Machine.execAttestGet r s
  | .certGet r => Sys2Proof.Machine.execCertGet r s
  | .keyStatus r => Sys2Proof.Machine.execKeyStatus r s
  | .keyInstall r => Sys2Proof.Machine.execKeyInstall r s
  | .keyRevoke r => Sys2Proof.Machine.execKeyRevoke r s
  | .fwChunk r => Sys2Proof.Machine.execFwChunk r s
  | .fwSwitch r => Sys2Proof.Machine.execFwSwitch r s
  | .fwVerifyComplete => Sys2Proof.Machine.execFwVerifyComplete s
  | .bistRun r => Sys2Proof.Machine.execBistRun r s
  | .bistTestComplete o => Sys2Proof.Machine.execBistTestComplete o s
  | .bistResult r => Sys2Proof.Machine.execBistResult r s
  | .dieReset r => Sys2Proof.Machine.execDieReset r s
  | .dieResetComplete die => Sys2Proof.Machine.execDieResetComplete die s
  | .domainReset r => Sys2Proof.Machine.execDomainReset r s
  | .domainResetComplete d mv => Sys2Proof.Machine.execDomainResetComplete d mv s
  | .deviceReset r => Sys2Proof.Machine.execDeviceReset r s
  | .lkRestart r => Sys2Proof.Machine.execLkRestart r s
  | .sillResetHoldEnd => Sys2Proof.Machine.execSillResetHoldEnd s
  | .forcedResetComplete => Sys2Proof.Machine.execForcedResetComplete s
  | .capture r => Sys2Proof.Machine.execCapture r s
  | .restore r => Sys2Proof.Machine.execRestore r s
  | .frameRead r => Sys2Proof.Machine.execFrameRead r s
  | .ffRead r => Sys2Proof.Machine.execFfRead r s
  | .refLost r => Sys2Proof.Machine.execRefLost r s
  | .refQualified r => Sys2Proof.Machine.execRefQualified r s
  | .refCompare ppm => Sys2Proof.Machine.execRefCompare ppm s
  | .clkRefSelectWrite f be data => Sys2Proof.Machine.execClkRefSelectWrite f be data s
  | .muxSwitchComplete m => Sys2Proof.Machine.execMuxSwitchComplete m s
  | .muxForced m => Sys2Proof.Machine.execMuxForced m s
  | .muxAbandoned m => Sys2Proof.Machine.execMuxAbandoned m s
  | .safeEntered => Sys2Proof.Machine.execSafeEntered s
  | .refRestored => Sys2Proof.Machine.execRefRestored s
  | .pllUnlock p => Sys2Proof.Machine.execPllUnlock p s
  | .sluiceReqWrite f be n data => Sys2Proof.Machine.execSluiceReqWrite f be n data s
  | .sluiceClose n => Sys2Proof.Machine.execSluiceClose n s
  | .sluiceFail n => Sys2Proof.Machine.execSluiceFail n s
  | .sluiceReopen n => Sys2Proof.Machine.execSluiceReopen n s
  | .throttleRelockComplete => Sys2Proof.Machine.execThrottleRelockComplete s
  | .domainChangeComplete d mv => Sys2Proof.Machine.execDomainChangeComplete d mv s
  | .sleepEntryComplete => Sys2Proof.Machine.execSleepEntryComplete s
  | .wakeTimer => Sys2Proof.Machine.execWakeTimer s
  | .deviceWakeComplete o => Sys2Proof.Machine.execDeviceWakeComplete o s
  | .quadrantWakeComplete q banks => Sys2Proof.Machine.execQuadrantWakeComplete q banks s
  | .pwrOffReq f be data => Sys2Proof.Machine.execPwrOffReq f be data s
  | .pwrCancel f be data => Sys2Proof.Machine.execPwrCancel f be data s
  | .orderlyStopTimeout => Sys2Proof.Machine.execOrderlyStopTimeout s
  | .hardTrip diodes => Sys2Proof.Machine.execHardTrip diodes s
  | .imageCommit r => Sys2Proof.Machine.execImageCommit r s
  | .frameAlignmentLoss v => Sys2Proof.Machine.execFrameAlignmentLoss v s
  | .warmResetBegin => Sys2Proof.Machine.execWarmResetBegin s
  | .perstNRelease => Sys2Proof.Machine.execPerstNRelease s
  | .pcieLinkUp speed width c0 c1 => Sys2Proof.Machine.execPcieLinkUp speed width c0 c1 s
  | .msixUnmask f v => Sys2Proof.Machine.execMsixUnmask f v s
  | .ddrTrainingComplete ch spd fail => Sys2Proof.Machine.execDdrTrainingComplete ch spd fail s
  | .restoreComplete => Sys2Proof.Machine.execRestoreComplete s

end Sys2Proof.Machine
end

