-- ==== Sys2Proof/WellFormed.lean ====
section
/-! DEFINITION. Which commands the outside can bring: every operand within what its row names. A request is judged by the
device itself, so it is bounded only by what a port can hold. -/
namespace Sys2Proof
open Sys2Proof.Machine

/-- A request as a port can hold it: LENGTH has 12 bits, a port takes 1,024 words, a device has 16 links (14_command_reference R341). -/
def Machine.Req.wf (r : Req) : Bool := decide (r.length < 4096) && decide (r.params.length ≤ 1022) && decide (r.link < 16)

/-- A frame has 1 to 32 data blocks, on the lanes of a group (11_lanes_gwynior R259, R272). -/
def Machine.RxFrame.wf (f : RxFrame) : Bool :=
  decide (1 ≤ f.data.length) && decide (f.data.length ≤ 32) && f.bad.all (fun l => decide (l < 9))

/-- Carriers by their keys, plot pairs, banks of 48 pins (04_splices R71 to R79, 12_host_ports R305). -/
def Machine.PulseObs.wf (o : PulseObs) : Bool :=
  o.weak.all (fun k => decide (k < 41943040)) && o.verr.all (fun k => decide (k < 41943040)) &&
  o.drift.all (fun e => decide (e.1 < 2560) && decide (e.2.1 < 2)) && o.pins.all (fun e => decide (e.1 < 20)) &&
  (o.held ++ o.came).all (fun b => decide (b < 20))

/-- Lanes of a group, 37 peaking codes (11_lanes_gwynior R259, R268). -/
def Machine.LinkObs.wf (o : LinkObs) : Bool := o.eyes.all (fun e => decide (e.1 < 9) && decide (e.2.length = 37))

/-- Six diodes, 24 monitors, four rails, 20 banks (13_lockkeeper R322). -/
def Machine.SensorObs.wf (o : SensorObs) : Bool :=
  o.diodes.length = 6 && o.mv.length = 24 && o.amps.length = 4 && o.vccio.length = 20

/-- 128 retention banks (17_power_thermal R418). -/
def Machine.WakeObs.wf (o : WakeObs) : Bool := o.banks.all (fun b => decide (b < 128))

/-- The operands of a command are within what its row names. -/
def Instr.wf (i : Instr) : Bool :=
  match i with
  | .pulse o => o.wf
  | .spliceShadowTakeover c => decide (c < 10485760)
  | .fallbackPacketReceive _ _ => true
  | .configurationUpset knot _ _ => decide (knot < 20971520)
  | .verticalFrameReceive v _ _ => v.present
  | .verticalShadowStart v => v.present
  | .clockCouplerFail _ => true
  | .clockCouplerSwitch _ => true
  | .winEdge => true
  | .generatorFire => true
  | .edgePulse => true
  | .windowStart => true
  | .leatDrainComplete => true
  | .ledgerFlushComplete => true
  | .captureCopyComplete => true
  | .stallEnd => true
  | .longStall => true
  | .ioOutputFrame _ => true
  | .winStampRead _ _ => true
  | .winCntLoRead _ _ => true
  | .cisternServiceRequest _ => true
  | .cisternServiceRow _ => true
  | .cisternPatrolRead _ => true
  | .cisternScrubOverrun _ => true
  | .memoryRequest _ => true
  | .pagePathComplete _ => true
  | .ledgerEntryFlush _ => true
  | .patrolScrub _ => true
  | .scrubOverrun _ => true
  | .fillDone _ => true
  | .memChFill _ _ _ _ => true
  | .memoryWakeComplete _ => true
  | .memoryIdleReturn _ => true
  | .caParityError _ _ => true
  | .memLastAddrRead _ _ _ => true
  | .hostWindowRequest => true
  | .hostCompletion _ _ _ bytes => decide (bytes.length ≤ 4096)
  | .completionTimeout _ => true
  | .bar4Read off => off % 4 = 0
  | .bar4Write off _ _ => off % 4 = 0
  | .weirHop _ _ => true
  | .trainInjection _ => true
  | .leatRequestReceive _ => true
  | .leatResponseReceive _ => true
  | .creditReceive _ => true
  | .reservationRequest _ _ => true
  | .reservationRetry _ _ => true
  | .reservationIdleRelease _ _ => true
  | .responseTimeout _ _ _ => true
  | .isolation _ => true
  | .leatCommitArm _ _ _ => true
  | .routeCheckComplete => true
  | .leatIsolClr _ _ _ => true
  | .leatSvcWrite _ _ _ _ => true
  | .gwyniorEndpointRequest _ => true
  | .flmChTailWrite _ _ _ _ => true
  | .flmRun _ _ _ _ => true
  | .flmAbort _ _ _ _ => true
  | .flmRingLoWrite _ _ _ _ => true
  | .descriptorFetch _ => true
  | .descriptorArrival _ words good => !good || words.length = 16
  | .readArbiterGrant => true
  | .writeArbiterGrant => true
  | .descriptorWriteback _ => true
  | .powerOn _ => true
  | .powerOff => true
  | .resetNAssert => true
  | .warmResetQuiesceDone => true
  | .resetTimeout ctls => ctls.all (fun m => decide (m < 40))
  | .resetNRelease _ _ => true
  | .powerGood => true
  | .lockkeeperInService => true
  | .fullLoadComplete => true
  | .applyFail => true
  | .pllLock _ => true
  | .releaseStep vccio => vccio.length = 20
  | .cfgReleaseGo _ _ _ => true
  | .stageReadbackComplete => true
  | .patchCopyComplete => true
  | .partialApplyComplete => true
  | .verifyComplete => true
  | .scrubFrameRead => true
  | .repairFrameArrival _ => true
  | .scrubWdog => true
  | .laneDirectionFailing _ _ _ => true
  | .alignBlockReceive _ _ _ => true
  | .idleColumnAdjust _ _ => true
  | .lanePllUnlock _ => true
  | .standbyPllTakeover _ => true
  | .frameSend _ _ => true
  | .slotFrameReceive _ f => f.wf
  | .ctrlFrameReceive _ f => f.wf
  | .txnFrameReceive _ f => f.wf
  | .startReceive _ f => f.wf
  | .startAckReceive _ f => f.wf
  | .goReceive _ f => f.wf
  | .arrayStartTimeout => true
  | .mgmtCommand _ f => f.wf
  | .mgmtReply _ f => f.wf
  | .mgmtRecord _ f => f.wf
  | .forwardTimeout _ => true
  | .replayTimeout _ => true
  | .linkDown _ => true
  | .linkUp _ o => o.wf
  | .lnkCtlEn _ _ _ _ => true
  | .lnkCtlRetrain _ _ _ _ => true
  | .bar0Write _ _ off _ => off.toNat % 4 = 0
  | .bar0ReadOffDomain _ _ off => off.toNat % 4 = 0
  | .pcieReset _ => true
  | .functionLevelReset _ => true
  | .d3hotEntry _ => true
  | .d3hotExit _ => true
  | .smbusReq bytes _ => decide (bytes.length ≤ 255)
  | .smbusReqEnd bytes _ => decide (bytes.length ≤ 255)
  | .smbusAbort _ _ => true
  | .smbusReply => true
  | .smbusRecord => true
  | .smbusStatus => true
  | .smbusAlertResponse => true
  | .smbusAddressMatch _ => true
  | .smbusTimeout => true
  | .jtagCmd => true
  | .jtagRequestWord _ => true
  | .jtagLastWord _ => true
  | .jtagAdvance => true
  | .jtagCapture => true
  | .extest => true
  | .samplePreload _ => true
  | .clamp => true
  | .highz => true
  | .idcode => true
  | .usercode => true
  | .bypass _ => true
  | .tapReset => true
  | .frInputEntry _ bits => decide (bits < 2 ^ 184)
  | .frOutputEntry _ => true
  | .mbxDoorbell _ words _ _ => decide (words.length ≤ 1024)
  | .badOpcode _ r => r.wf
  | .housekeeping => true
  | .lockstepMismatch => true
  | .fetchTrap _ _ _ => true
  | .hwResponderCutoff _ => true
  | .leaseExpiry => true
  | .sensorSample o => o.wf
  | .logHeadgateWrite => true
  | .controlRingSegmentFail v => v.present
  | .idGet r => r.wf
  | .ping r => r.wf
  | .csrRead r => r.wf
  | .csrWrite r => r.wf
  | .claim r => r.wf
  | .release r => r.wf
  | .handover r => r.wf
  | .leaseSet r => r.wf
  | .ownerGet r => r.wf
  | .forward r => r.wf
  | .imgStatus r => r.wf
  | .stageHost r => r.wf
  | .stageBegin r => r.wf
  | .stageChunk r => r.wf
  | .stageEnd r => r.wf
  | .rollback r => r.wf
  | .join r => r.wf
  | .cancel r => r.wf
  | .verify r => r.wf
  | .releaseGo r => r.wf
  | .imgHeader r => r.wf
  | .winStatus r => r.wf
  | .winHold r => r.wf
  | .winConfig r => r.wf
  | .arrayStart r => r.wf
  | .faultClear r => r.wf
  | .pwrStatus r => r.wf
  | .domainSet r => r.wf
  | .deviceSleep r => r.wf
  | .wakeConfig r => r.wf
  | .wake r => r.wf
  | .thermalSet r => r.wf
  | .clkStatus r => r.wf
  | .refSelect r => r.wf
  | .sluiceSet r => r.wf
  | .sensorRead r => r.wf
  | .spliceSummary r => r.wf
  | .splicePair r => r.wf
  | .logRead r => r.wf
  | .logInfo r => r.wf
  | .linkStatus r => r.wf
  | .laneGroup r => r.wf
  | .linkSet r => r.wf
  | .arrayStatus r => r.wf
  | .memStatus r => r.wf
  | .memFill r => r.wf
  | .scrubSet r => r.wf
  | .cisternEcc r => r.wf
  | .memRead r => r.wf
  | .memWrite r => r.wf
  | .flmStatus r => r.wf
  | .flmRing r => r.wf
  | .flmTail r => r.wf
  | .flmCtl r => r.wf
  | .horizon r => r.wf
  | .niStatus r => r.wf
  | .niSet r => r.wf
  | .routeWrite r => r.wf
  | .routeRead r => r.wf
  | .otkRsvWrite r => r.wf
  | .routeArm r => r.wf
  | .isolClear r => r.wf
  | .attest r => r.wf
  | .attestReportDone => true
  | .attestGet r => r.wf
  | .certGet r => r.wf
  | .keyStatus r => r.wf
  | .keyInstall r => r.wf
  | .keyRevoke r => r.wf
  | .fwChunk r => r.wf
  | .fwSwitch r => r.wf
  | .fwVerifyComplete => true
  | .bistRun r => r.wf
  | .bistTestComplete o => o.rx.all (fun e => decide (e.1 < 10485760))
  | .bistResult r => r.wf
  | .dieReset r => r.wf
  | .dieResetComplete _ => true
  | .domainReset r => r.wf
  | .domainResetComplete _ _ => true
  | .deviceReset r => r.wf
  | .lkRestart r => r.wf
  | .sillResetHoldEnd => true
  | .forcedResetComplete => true
  | .capture r => r.wf
  | .restore r => r.wf
  | .frameRead r => r.wf
  | .ffRead r => r.wf
  | .refLost _ => true
  | .refQualified _ => true
  | .refCompare _ => true
  | .clkRefSelectWrite _ _ _ => true
  | .muxSwitchComplete _ => true
  | .muxForced _ => true
  | .muxAbandoned _ => true
  | .safeEntered => true
  | .refRestored => true
  | .pllUnlock _ => true
  | .sluiceReqWrite _ _ _ _ => true
  | .sluiceClose _ => true
  | .sluiceFail _ => true
  | .sluiceReopen _ => true
  | .throttleRelockComplete => true
  | .domainChangeComplete _ _ => true
  | .sleepEntryComplete => true
  | .wakeTimer => true
  | .deviceWakeComplete o => o.wf
  | .quadrantWakeComplete _ banks => banks.all (fun b => decide (b < 128))
  | .pwrOffReq _ _ _ => true
  | .pwrCancel _ _ _ => true
  | .orderlyStopTimeout => true
  | .hardTrip _ => true
  | .imageCommit r => r.wf
  | .frameAlignmentLoss v => v.present
  | .warmResetBegin => true
  | .perstNRelease => true
  | .pcieLinkUp _ _ _ _ => true
  | .msixUnmask _ _ => true
  | .ddrTrainingComplete _ _ _ => true
  | .restoreComplete => true

end Sys2Proof
end

