-- ==== Sys2Proof/Safety.lean ====
section
/-! DEFINITION. What counts as a safe run, and the properties of a state that claims use. -/
namespace Sys2Proof.Machine

/-- The step completes: neither a fault nor a refusal. -/
def State.goesOn (s : State) : Prop := ∃ t, step s = .next t

/-- What manufacture writes and no command, register or reset changes (13_lockkeeper R316, 15_security R374, R388,
19_bist R453). -/
structure Made where
  fuses : Fuses
  idN : Nat
  idD : Nat
  cert : List Byte
  refs : Tab (BitVec 128)
deriving DecidableEq, Repr

def State.made (s : State) : Made :=
  { fuses := s.sec.fuses, idN := s.sec.idN, idD := s.sec.idD, cert := s.sec.cert, refs := s.bist.refs }

/-- Deep memory stands in its one canonical form (State/Memory.lean). -/
def State.memWf (s : State) : Prop := Memory.wf s.mem.words = true

/-- The rows of the cisterns stand in the same form (State/Memory.lean). -/
def State.rowsWf (s : State) : Prop := Memory.wf s.cst.rows = true

/-- A log queue within its 512 entries, and a party that may own the device. -/
def LkState.legal (k : LkState) : Prop := k.log.queue.length ≤ 512 ∧ k.owner.toNat ≤ 4

/-- The Lockkeeper takes a request to the opcode's own checks: in service, out of recovery, no memory command to turn from, and
nothing of R344 that refuses it first. -/
def State.takes (s : State) (r : Req) (own : Own) (lenOk : Bool) : Prop :=
  s.lk.inService = true ∧ s.sec.recovery = false ∧ s.lk.memOps = [] ∧ s.judgeReq r own lenOk = none

/-- The port has room for the record of one more operation (R339). -/
def State.room (s : State) (r : Req) : Prop := (s.lk.port r.port).recordLoad r.port < 32

/-- The state that ACCEPTED leaves: one more operation runs for the port, and the reply is committed (R339, R343). -/
def State.accepts (s : State) (r : Req) (opcode : Nat) (own : Own) : State :=
  (s.modPort r.port fun x => { x with running := x.running + 1 }).commit r opcode own stAccepted false []

end Sys2Proof.Machine
end

