-- ==== Sys2Proof/Certificates/Slice0/Obligations.lean ====
section
/-! DEFINITION. The statements for the provers. -/
open Sys2Proof Sys2Proof.Machine

/-- Identity and register commands complete (R344, R348, R349). -/
def Obligations.RegisterCommandsAnswer : Prop :=
  (∀ (s : State) (r : Req), s.takes r .anyone (r.length = 2) →
    exec (.idGet r) s = .next (s.commit r 0x0000 .anyone stOk false
      [s.idDevice, wordOf s.sec.fuses.serial 0, wordOf s.sec.fuses.serial 1, s.lk.fwVersion, w32 s.lk.fwSlot.toNat,
        if s.img.st = CfgSt.noImage then 0 else s.actVer, w32 s.img.bootRole.toNat, w32 s.lnk.devNum.toNat])) ∧
  (∀ (s : State) (r : Req), s.takes r .anyone (r.length ≤ 1023) →
    exec (.ping r) s = .next (s.commit r 0x0001 .anyone stOk false r.params)) ∧
  (∀ (s : State) (r : Req), s.takes r .anyone (r.length = 4) → csrRangeBad (r.p 0).toNat (r.p 1).toNat = false →
    exec (.csrRead r) s = .next ((s.csrReads (r.p 0).toNat (r.p 1).toNat).1.commit r 0x0010 .anyone stOk false
      (s.csrReads (r.p 0).toNat (r.p 1).toNat).2)) ∧
  (∀ (s : State) (r : Req), s.takes r .owner (decide (4 ≤ r.length) && r.length = 4 + (r.p 1).toNat) →
    csrRangeBad (r.p 0).toNat (r.p 1).toNat = false →
    exec (.csrWrite r) s = .next ((s.csrWrites (r.p 0).toNat (r.params.drop 2) 0).1.commit r 0x0011 .owner stOk false
      [w32 (s.csrWrites (r.p 0).toNat (r.params.drop 2) 0).2]))

/-- Ownership commands complete (R332, R333, R334, R350, R351). -/
def Obligations.OwnershipCommandsMoveTheOwner : Prop :=
  (∀ (s : State) (r : Req), s.takes r .claim (r.length = 2) →
    exec (.claim r) s = .next ((s.setOwner r.port.num 0).commit r 0x0100 .claim stOk false
      [w32 (s.setOwner r.port.num 0).lk.owner.toNat, w32 s.lk.leaseLen.toNat])) ∧
  (∀ (s : State) (r : Req), s.takes r .owner (r.length = 2) →
    exec (.release r) s = .next (((s.setOwner 0 2).modLk fun k => { k with leaseTicks := 0 }).commit r 0x0101 .owner stOk false [])) ∧
  (∀ (s : State) (r : Req), s.takes r .owner (r.length = 3) → 1 ≤ (r.p 0).toNat → (r.p 0).toNat ≤ 4 →
    exec (.handover r) s = .next ((s.setOwner (r.p 0).toNat 1).renewLease.commit r 0x0102 .owner stOk false [])) ∧
  (∀ (s : State) (r : Req), s.takes r .owner (r.length = 3) → 1 ≤ (r.p 0).toNat → (r.p 0).toNat ≤ 3600 →
    exec (.leaseSet r) s = .next ((s.modLk fun k => { k with leaseLen := BitVec.ofNat 12 (r.p 0).toNat }).commit r 0x0103 .owner
      stOk false [])) ∧
  (∀ (s : State) (r : Req), s.takes r .anyone (r.length = 2) →
    exec (.ownerGet r) s = .next (s.commit r 0x0104 .anyone stOk false
      [w32 s.lk.owner.toNat, w32 s.leaseSeconds, w32 s.lk.leaseLen.toNat, w32 r.port.num])) ∧
  (∀ (s : State) (r : Req), s.takes r .owner (decide (5 ≤ r.length) && reqLength (r.p 1) = r.length - 3) → s.room r →
    only (r.p 0) 4 = true → r.port ≠ .array → (s.linkAt (r.p 0).toNat).valid = true → (s.linkAt (r.p 0).toNat).isUp = true →
    exec (.forward r) s = .next (((s.modLk fun k => { k with forwards := k.forwards ++
        [{ origin := r.origin 0x0105, link := (r.p 0).toNat }] }).modLink (r.p 0).toNat fun x =>
      { x with mgmtQ := x.mgmtQ ++ [.words (mgmtWord 0x10 (r.params.drop 1).length :: r.params.drop 1)] }).accepts r 0x0105 .owner))

/-- Staging commands complete (R231, R354). -/
def Obligations.StagingCommandsWriteTheStagedBank : Prop :=
  (∀ (s : State) (r : Req), s.takes r .owner (r.length = 3) → (r.p 0).toNat ≤ bankBytes → s.stagedTaken = false →
    exec (.stageBegin r) s = .next ((s.beginStaged.modImg fun x => { x with chunkLen := some (r.p 0).toNat }).commit r 0x0202
      .owner stOk false [])) ∧
  (∀ (s : State) (r : Req) (len : Nat), s.takes r .owner (decide (3 ≤ r.length)) → s.img.chunkLen = some len →
    (r.p 0).toNat % 4 = 0 → (r.p 0).toNat + 4 * (r.params.drop 1).length ≤ len → s.stagedTaken = false →
    exec (.stageChunk r) s = .next (((s.writeStaged (r.p 0).toNat (bytesOfWords (r.params.drop 1))).modBank s.img.stg fun x =>
      { x with mark := none }).commit r 0x0203 .owner stOk false [])) ∧
  (∀ (s : State) (r : Req) (len : Nat), s.takes r .owner (r.length = 2) → s.room r → s.img.chunkLen = some len →
    s.stagedTaken = false →
    exec (.stageEnd r) s = .next (((s.modBank s.img.stg fun x => { x with len := len }).modImg fun x =>
      { x with chunkLen := none, readback := some (r.origin 0x0204) }).accepts r 0x0204 .owner)) ∧
  (∀ (s : State) (r : Req), s.takes r .owner (r.length = 5) → s.room r → (r.p 2).toNat ≤ bankBytes → s.stagedTaken = false →
    exec (.stageHost r) s = .next (((s.beginStaged.modBank s.img.stg fun x => { x with len := (r.p 2).toNat }).modImg fun x =>
      { x with staging := some { origin := r.origin 0x0201, addr := (r.p 0).toNat + 2 ^ 32 * (r.p 1).toNat,
                                 len := (r.p 2).toNat } }).accepts r 0x0201 .owner).stageNext)

/-- Image commands complete (R243, R244, R353, R355). -/
def Obligations.ImageCommandsAnswer : Prop :=
  (∀ (s : State) (r : Req), s.takes r .anyone (r.length = 2) →
    exec (.imgStatus r) s = .next (s.commit r 0x0200 .anyone stOk false
      [s.cfgStatus, s.actVer, s.actBase, s.prevVer, s.stgVer, s.cfgSlots, s.cfgLevee, s.wearWord 0, s.wearWord 1, s.wearWord 2])) ∧
  (∀ (s : State) (r : Req), s.takes r .anyone (r.length = 3) → (r.p 0).toNat ≤ 2 →
    (s.img.bank (s.img.roleBank (r.p 0).toNat)).bytes ≠ [] →
    exec (.imgHeader r) s = .next (s.commit r 0x020B .anyone stOk false
      ((List.range 128).map fun i => (s.img.bank (s.img.roleBank (r.p 0).toNat)).base.hw i))) ∧
  (∀ (s : State) (r : Req), s.takes r .owner (r.length = 3) → s.room r → only (r.p 0) 1 = true →
    s.commitJudge (s.img.bank s.img.stg).base = 0 →
    exec (.imageCommit r) s = .next (((if (s.img.bank s.img.stg).base.partly then s.addPatch (s.img.bank s.img.stg).base else s).setPendOp
      { kind := if (s.img.bank s.img.stg).base.partly then .partialCommit else .full, atStart := decide (r.p 0 = 1),
        origin := some (r.origin 0x0205), fell := decide (s.img.bootRole = 1) }).accepts r 0x0205 .owner).pendNow) ∧
  (∀ (s : State) (r : Req), s.takes r .owner (r.length = 3) → s.room r → only (r.p 0) 1 = true → s.rollbackJudge = 0 →
    exec (.rollback r) s = .next ((s.setPendOp
      { kind := .rollback, atStart := decide (r.p 0 = 1), origin := some (r.origin 0x0206) }).accepts r 0x0206 .owner).pendNow) ∧
  (∀ (s : State) (r : Req), s.takes r .owner (r.length = 2) → s.room r → (s.fab.levees.any (·.awaitJoin)) = true →
    s.img.pend = none →
    exec (.join r) s = .next ((s.setPendOp
      { kind := .join, atStart := false, origin := some (r.origin 0x0207) }).accepts r 0x0207 .owner).pendNow) ∧
  (∀ (s : State) (r : Req) (p : PendOp), s.takes r .owner (r.length = 2) → s.img.pend = some p → s.pastStep6 p = false →
    exec (.cancel r) s = .next ((((if p.kind = OpKind.partialCommit then
        (s.modImg fun x => { x with pend := none }).modBank s.img.act fun b => { b with patches := b.patches.filter (·.applied) }
      else s.modImg fun x => { x with pend := none }).postRecord? p.origin stBusy [])).commit r 0x0208 .owner stOk false
        [w32 p.kind.opcode])) ∧
  (∀ (s : State) (r : Req), s.takes r .anyone (r.length = 3) → s.room r → (r.p 0).toNat ≤ 2 → s.img.verify = none →
    exec (.verify r) s = .next ((s.modImg fun x => { x with verify := some (r.origin 0x0209, (r.p 0).toNat) }).accepts r 0x0209
      .anyone)) ∧
  (∀ (s : State) (r : Req), s.takes r .owner (r.length = 2) → s.img.stepWait = true →
    exec (.releaseGo r) s = .next (s.releaseGo.commit r 0x020A .owner stOk false []))

/-- Window commands complete (R102, R279, R344, R356, R357). -/
def Obligations.WindowCommandsAnswer : Prop :=
  (∀ (s : State) (r : Req), s.takes r .anyone (r.length = 2) →
    exec (.winStatus r) s = .next (s.freshen.commit r 0x0300 .anyone stOk false
      ([s.freshen.winState, w32 s.win.hold.toNat, wordOf s.win.cnt 0, wordOf s.win.cnt 1, s.freshen.winReg 0x28,
        w32 s.win.horizon.toNat, s.win.minLen, w32 s.win.evt.toNat, s.win.lateCnt, s.win.stallPulses, s.win.slotPulses,
        s.win.bndTime, s.win.earlyCnt] ++ s.stamp.words))) ∧
  (∀ (s : State) (r : Req), s.takes r .owner (r.length = 3) → only (r.p 0) 1 = true →
    exec (.winHold r) s = .next ((s.winHold (decide (r.p 0 = 1))).commit r 0x0301 .owner stOk false [])) ∧
  (∀ (s : State) (r : Req), s.takes r .owner (r.length = 7) → (r.p 0).toNat ≤ 2 → only (r.p 3) 5 = true → only (r.p 4) 20 = true →
    exec (.winConfig r) s = .next (((((s.winMode (bitsOf 2 (r.p 0))).winLen (r.p 1)).modWin fun w =>
      { w with genPeriod := r.p 2, stallLimit := bitsOf 20 (r.p 4) }).winLead (bitsOf 5 (r.p 3))).commit r 0x0302 .owner stOk
        false [])) ∧
  (∀ (s : State) (r : Req), s.takes r .owner (r.length = 3) → s.room r → 2 ≤ (r.p 0).toNat → (r.p 0).toNat ≤ 32 →
    s.canStart = true → s.windowRunning = false → s.lnk.startOrigin = none →
    exec (.arrayStart r) s = .next ((s.accepts r 0x0303 .owner).arrayStart (r.origin 0x0303) (r.p 0).toNat)) ∧
  (∀ (s u : State) (r : Req), s.takes r .owner (r.length = 2) →
    u = (if (s.clearCause 3).laneBare then s.clearCause 3 else (s.clearCause 3).clearCause 2) →
    (w32 u.win.causes.toNat = 0 → exec (.faultClear r) s = .next (u.commit r 0x0304 .owner stOk false [0])) ∧
    (w32 u.win.causes.toNat ≠ 0 →
      exec (.faultClear r) s = .next (u.commit r 0x0304 .owner stHwFault false [w32 u.win.causes.toNat])))

/-- Power commands complete (R358, R413, R415, R420, R422, R425, R431, R434). -/
def Obligations.PowerCommandsAnswer : Prop :=
  (∀ (s : State) (r : Req), s.takes r .anyone (r.length = 2) →
    exec (.pwrStatus r) s = .next (s.commit r 0x0400 .anyone stOk false
      (((List.range 64).map fun d => w32 (s.domCode d)) ++ [s.wakeWord]))) ∧
  (∀ (s : State) (r : Req), s.takes r .owner (r.length = 4) → s.room r → only (r.p 0) 6 = true → only (r.p 1) 2 = true →
    s.domSetBad (r.p 0).toNat (pstateOf (r.p 1).toNat) = false → s.domTaken (r.p 0).toNat = false → s.pwr.dev ≠ .entering →
    (s.domSaved (r.p 0).toNat = true → exec (.domainSet r) s = .next ((s.modDom (r.p 0).toNat fun x =>
      { x with before := some (pstateOf (r.p 1).toNat), waking := some (r.origin 0x0401) }).accepts r 0x0401 .owner)) ∧
    (s.domSaved (r.p 0).toNat = false → s.domCode (r.p 0).toNat ≠ (pstateOf (r.p 1).toNat).code →
      exec (.domainSet r) s = .next ((s.accepts r 0x0401 .owner).domAsk (r.p 0).toNat (pstateOf (r.p 1).toNat)
        (r.origin 0x0401))) ∧
    (s.domSaved (r.p 0).toNat = false → s.domCode (r.p 0).toNat = (pstateOf (r.p 1).toNat).code →
      exec (.domainSet r) s = .next (((s.domStays (r.p 0).toNat (pstateOf (r.p 1).toNat)).accepts r 0x0401 .owner).postRecord
        (r.origin 0x0401) stOk [w32 (pstateOf (r.p 1).toNat).code]))) ∧
  (∀ (s : State) (r : Req), s.takes r .owner (r.length = 3) → s.room r → (r.p 0).toNat = 1 ∨ (r.p 0).toNat = 2 →
    s.pwr.dev = .run ∨ s.pwr.dev = .sleep ∨ s.pwr.dev = .deep →
    exec (.deviceSleep r) s = .next ((s.accepts r 0x0402 .owner).sleepRequest (BitVec.ofNat 2 (r.p 0).toNat)
      (some (r.origin 0x0402)))) ∧
  (∀ (s : State) (r : Req), s.takes r .owner (r.length = 4) → only (r.p 0) 6 = true →
    exec (.wakeConfig r) s = .next (((s.wakeEnable (bitsOf 6 (r.p 0))).modPwr fun p => { p with timer := r.p 1 }).commit r 0x0403
      .owner stOk false [])) ∧
  (∀ (s : State) (r : Req), s.takes r .owner (r.length = 2) → s.pwr.dev = .run →
    exec (.wake r) s = .next (s.sleepWithdraw.commit r 0x0404 .owner stOk false [])) ∧
  (∀ (s : State) (r : Req), s.takes r .owner (r.length = 2) → s.room r → s.pwr.dev ≠ .run →
    s.pwr.dev ≠ .thermal ∨ s.thm.hotStart = false → (∀ w, s.pwr.wake = some w → w.origin = none) →
    exec (.wake r) s = .next ((s.accepts r 0x0404 .owner).wakeBy 5 (some (r.origin 0x0404)))) ∧
  (∀ (s : State) (r : Req), s.takes r .owner (r.length = 3) → 70 ≤ (r.p 0).toNat → (r.p 0).toNat ≤ 100 →
    exec (.thermalSet r) s = .next ((s.thmStart (r.p 0).toNat).commit r 0x0405 .owner stOk false []))

/-- Clock and lane commands complete (R291, R359, R361, R396, R408). -/
def Obligations.ClockAndLaneCommandsAnswer : Prop :=
  (∀ (s : State) (r : Req), s.takes r .anyone (r.length = 2) →
    exec (.clkStatus r) s = .next (s.commit r 0x0500 .anyone stOk false
      [s.clkStatus &&& 3, w32 s.clk.lock.toNat, w32 s.clk.pulseNow])) ∧
  (∀ (s : State) (r : Req), s.takes r .owner (r.length = 3) → (r.p 0).toNat ≤ 2 →
    exec (.refSelect r) s = .next ((s.selectRef (bitsOf 2 (r.p 0))).commit r 0x0501 .owner stOk false [])) ∧
  (∀ (s : State) (r : Req), s.takes r .owner (r.length = 4) → (r.p 0).toNat ≤ 10 → (r.p 1).toNat ≤ 2 →
    (s.slcAt (r.p 0).toNat).waiter = none →
    (((s.slcRequest (r.p 0).toNat (bitsOf 2 (r.p 1))).slcAt (r.p 0).toNat).closing = false →
      exec (.sluiceSet r) s = .next ((s.slcRequest (r.p 0).toNat (bitsOf 2 (r.p 1))).commit r 0x0502 .owner stOk false
        [w32 ((s.slcRequest (r.p 0).toNat (bitsOf 2 (r.p 1))).slcAt (r.p 0).toNat).st.toNat])) ∧
    (((s.slcRequest (r.p 0).toNat (bitsOf 2 (r.p 1))).slcAt (r.p 0).toNat).closing = true →
      exec (.sluiceSet r) s = .next ((s.slcRequest (r.p 0).toNat (bitsOf 2 (r.p 1))).modSlc (r.p 0).toNat fun x =>
        { x with waiter := some r }))) ∧
  (∀ (s : State) (r : Req), s.takes r .anyone (r.length = 3) → (r.p 0).toNat ≤ 15 →
    exec (.linkStatus r) s = .next (s.commit r 0x0700 .anyone stOk false
      ([0x04, 0x08, 0x0C, 0x10, 0x14, 0x18, 0x1C, 0x20, 0x40].map fun (o : Nat) => s.linkReg (r.p 0).toNat o))) ∧
  (∀ (s : State) (r : Req), s.takes r .anyone (r.length = 3) → (r.p 0).toNat ≤ 15 →
    exec (.laneGroup r) s = .next (s.commit r 0x0701 .anyone stOk false
      (((List.range 9).map fun l => s.groupReg (r.p 0).toNat (4 * l))
        ++ ((List.range 9).map fun l => s.groupReg (r.p 0).toNat (0x40 + 4 * l)) ++ [s.groupReg (r.p 0).toNat 0x80]))) ∧
  (∀ (s : State) (r : Req), s.takes r .owner (r.length = 4) → (r.p 0).toNat ≤ 15 → only (r.p 1) 2 = true →
    exec (.linkSet r) s = .next ((s.lnkCtl (r.p 0).toNat ((r.p 1).getLsbD 0) ((r.p 1).getLsbD 1)).commit r 0x0702 .owner stOk
      false [])) ∧
  (∀ (s : State) (r : Req), s.takes r .anyone (r.length = 2) →
    exec (.arrayStatus r) s = .next (s.commit r 0x0703 .anyone stOk false [s.lnkId, s.arrayWord]))

/-- Sensor, splice and log commands complete (R90, R91, R323, R360). -/
def Obligations.LogAndSpliceCommandsAnswer : Prop :=
  (∀ (s : State) (r : Req), s.takes r .anyone (r.length = 2) →
    exec (.sensorRead r) s = .next (s.commit r 0x0600 .anyone stOk false s.sensorWords)) ∧
  (∀ (s : State) (r : Req), s.takes r .anyone (r.length = 2) →
    exec (.spliceSummary r) s = .next (s.commit r 0x0601 .anyone stOk false
      [w32 (655360 - spareTaken s.spl.spare 0), w32 (655360 - spareTaken s.spl.spare 1), w32 (40960 - spareTaken s.spl.pool 0),
        w32 (40960 - spareTaken s.spl.pool 1),
        w32 (s.spl.pairsIn .fallback).length ||| at_ (s.spl.pair.filter fun e => e.2.frozen).length 16, s.spl.weakCnt, s.spl.verrCnt,
        w32 s.spl.minPool.1 ||| at_ (pairPx s.spl.minPool.2) 8 ||| at_ (pairPy s.spl.minPool.2) 16])) ∧
  (∀ (s : State) (r : Req), s.takes r .anyone (r.length = 4) → (r.p 0).toNat ≤ 63 → (r.p 1).toNat ≤ 39 →
    exec (.splicePair r) s = .next (s.commit r 0x0602 .anyone stOk false
      (s.pairHead (64 * (r.p 1).toNat + (r.p 0).toNat)
        ++ ((List.range 256).map fun g => s.spl.groupWord ((64 * (r.p 1).toNat + (r.p 0).toNat) * 256 + g))
        ++ (List.range 32).map fun i => s.spl.poolWord (64 * (r.p 1).toNat + (r.p 0).toNat) (i / 16) (i % 16)))) ∧
  (∀ (s : State) (r : Req), s.takes r .anyone (r.length = 4) → 1 ≤ (r.p 1).toNat → (r.p 1).toNat ≤ 127 →
    exec (.logRead r) s = .next (s.commit r 0x0603 .anyone stOk false
      ((((s.lk.log.read (r.p 0).toNat (r.p 1).toNat).head?).map (·.index)).getD (r.p 0)
        :: w32 (s.lk.log.read (r.p 0).toNat (r.p 1).toNat).length
        :: (s.lk.log.read (r.p 0).toNat (r.p 1).toNat).flatMap LogEntry.words))) ∧
  (∀ (s : State) (r : Req), s.takes r .anyone (r.length = 2) →
    exec (.logInfo r) s = .next (s.freshen.commit r 0x0604 .anyone stOk false
      [((s.lk.log.held.getLast?).map (·.index)).getD (Config.freeWord s.freshen.fresh 0),
        ((s.lk.log.held.head?).map (·.index)).getD (Config.freeWord s.freshen.fresh 1), s.lk.log.dropped,
        w32 s.lk.log.queue.length]))

/-- Memory commands complete (R140, R141, R160, R362, R363). -/
def Obligations.MemoryCommandsAnswer : Prop :=
  (∀ (s : State) (r : Req), s.takes r .anyone (r.length = 3) → (r.p 0).toNat ≤ 39 →
    exec (.memStatus r) s = .next ((s.readLatch (0x1000000 + 0x10000 * (r.p 0).toNat + 0x30)).commit r 0x0800 .anyone stOk false
      (((List.range 19).map fun k => (s.readLatch (0x1000000 + 0x10000 * (r.p 0).toNat + 0x30)).ctlReg (r.p 0).toNat (4 * k))
        ++ [(s.readLatch (0x1000000 + 0x10000 * (r.p 0).toNat + 0x30)).ctlReg (r.p 0).toNat 0x80,
          (s.readLatch (0x1000000 + 0x10000 * (r.p 0).toNat + 0x30)).ctlReg (r.p 0).toNat 0x84]))) ∧
  (∀ (s : State) (r : Req), s.takes r .owner (r.length = 3) → s.room r → only (r.p 0) 9 = true → r.p 0 ≠ 0 →
    (fillCtls (r.p 0)).all (fun m => (s.ctlAt m).present m && !(s.ctlAt m).filling) = true → s.windowRunning = false →
    exec (.memFill r) s = .next ((((fillCtls (r.p 0)).foldl (fun (s : State) m => s.startFill m) s).modMem fun x =>
      { x with fills := x.fills ++ [{ origin := r.origin 0x0801, mask := r.p 0, left := fillCtls (r.p 0) }] }).accepts r 0x0801
        .owner)) ∧
  (∀ (s : State) (r : Req), s.takes r .owner (r.length = 5) → (r.p 0).toNat ≤ 39 → only (r.p 2) 1 = true →
    exec (.scrubSet r) s = .next ((s.modCtl (r.p 0).toNat fun c =>
      { c with period := if r.p 1 = 0 then 1 else r.p 1, patrolEn := decide (r.p 2 = 1) }).commit r 0x0802 .owner stOk false [])) ∧
  (∀ (s : State) (r : Req), s.takes r .owner (r.length = 5) → (r.p 0).toNat = 0xFF → only (r.p 2) 1 = true →
    exec (.scrubSet r) s = .next (((List.range 40).foldl (fun (s : State) m => s.modCtl m fun c =>
      { c with period := if r.p 1 = 0 then 1 else r.p 1, patrolEn := decide (r.p 2 = 1) }) s).commit r 0x0802 .owner stOk false [])) ∧
  (∀ (s : State) (r : Req), s.takes r .owner (r.length = 5) → (r.p 0).toNat = 0x100 → only (r.p 2) 1 = true →
    exec (.scrubSet r) s = .next ((s.modCst fun c => { c with period := if r.p 1 = 0 then 1 else r.p 1 }).commit r 0x0802 .owner
      stOk false [])) ∧
  (∀ (s : State) (r : Req), s.takes r .anyone (r.length = 2) →
    exec (.cisternEcc r) s = .next (s.commit r 0x0803 .anyone stOk false s.cst.eccWords)) ∧
  (∀ (s : State) (r : Req), s.takes r .anyone (r.length = 5) → only (r.p 1) 16 = true → 1 ≤ (r.p 2).toNat →
    (r.p 2).toNat ≤ 960 → s.deepRangeOk r.deep (r.p 2).toNat = true → s.deepOff r.deep = false →
    exec (.memRead r) s = .next (s.memBegin
      { id := s.lk.memNext, req := r, write := false, addr := r.deep, count := (r.p 2).toNat })) ∧
  (∀ (s : State) (r : Req), s.takes r .owner (decide (5 ≤ r.length) && r.length = 5 + (r.p 2).toNat) → s.room r →
    only (r.p 1) 16 = true → 1 ≤ (r.p 2).toNat → (r.p 2).toNat ≤ 1019 → ((r.params.drop 3).all fun w => only w 18) = true →
    s.deepRangeOk r.deep (r.p 2).toNat = true → s.deepOff r.deep = false →
    exec (.memWrite r) s = .next (s.memBegin
      { id := s.lk.memNext, req := r, write := true, addr := r.deep, count := (r.p 2).toNat,
        words := (r.params.drop 3).map fun (w : W32) => BitVec.ofNat 18 w.toNat }))

/-- Flume commands complete (R223, R226, R364). -/
def Obligations.FlumeCommandsAnswer : Prop :=
  (∀ (s : State) (r : Req), s.takes r .anyone (r.length = 3) → (r.p 0).toNat ≤ 31 →
    exec (.flmStatus r) s = .next (s.commit r 0x0900 .anyone stOk false
      ((List.range 11).map fun k => s.flmChReg (r.p 0).toNat (4 * k)))) ∧
  (∀ (s : State) (r : Req), s.takes r .owner (r.length = 6) → (r.p 0).toNat ≤ 31 → 1 ≤ (r.p 3).toNat → (r.p 3).toNat ≤ 12 →
    s.flmRingFree (r.p 0).toNat = true →
    exec (.flmRing r) s = .next ((((s.flmSize (r.p 0).toNat (r.p 3).toNat).flmRingHi (r.p 0).toNat (r.p 2)).flmRingLo
      (r.p 0).toNat (r.p 1)).commit r 0x0901 .owner stOk false [])) ∧
  (∀ (s : State) (r : Req), s.takes r .owner (r.length = 4) → (r.p 0).toNat ≤ 31 → only (r.p 1) 12 = true →
    exec (.flmTail r) s = .next ((s.flmTail (r.p 0).toNat (r.p 1).toNat).commit r 0x0902 .owner stOk false [])) ∧
  (∀ (s : State) (r : Req), s.takes r .owner (r.length = 4) → (r.p 0).toNat ≤ 31 → only (r.p 1) 2 = true →
    exec (.flmCtl r) s = .next ((s.flmCtl (r.p 0).toNat ((r.p 1).getLsbD 0) ((r.p 1).getLsbD 1)).commit r 0x0903 .owner stOk
      false []))

/-- Leat route commands complete (R191, R194, R204, R205, R344, R365). -/
def Obligations.RouteCommandsAnswer : Prop :=
  (∀ (s : State) (r : Req), s.takes r .anyone (r.length = 3) → (r.p 0).toNat ≤ 383 →
    exec (.horizon r) s = .next (s.commit r 0x0A00 .anyone stOk false
      [w32 s.win.horizon.toNat, if s.leat.checked then w32 s.leat.horizonStg.toNat else 0, s.commitWord, s.niReg (r.p 0).toNat 0x34])) ∧
  (∀ (s : State) (r : Req), s.takes r .anyone (r.length = 3) → (r.p 0).toNat = 0x1FF →
    exec (.horizon r) s = .next (s.commit r 0x0A00 .anyone stOk false
      [w32 s.win.horizon.toNat, if s.leat.checked then w32 s.leat.horizonStg.toNat else 0, s.commitWord, 0])) ∧
  (∀ (s : State) (r : Req), s.takes r .anyone (r.length = 3) → (r.p 0).toNat ≤ 383 →
    exec (.niStatus r) s = .next (s.commit r 0x0A01 .anyone stOk false
      (((List.range 18).map fun k => s.niReg (r.p 0).toNat (4 * k))
        ++ [s.niReg (r.p 0).toNat 0x80, s.niReg (r.p 0).toNat 0x84]))) ∧
  (∀ (s : State) (r : Req), s.takes r .owner (r.length = 7) → (r.p 0).toNat ≤ 351 → only (r.p 1) 2 = true → only (r.p 2) 24 = true →
    only (r.p 3) 12 = true → only (r.p 4) 24 = true →
    exec (.niSet r) s = .next (((((s.niWrite (r.p 0).toNat 0x04 (r.p 1)).niWrite (r.p 0).toNat 0x08 (r.p 2)).niWrite
      (r.p 0).toNat 0x10 (r.p 3)).niWrite (r.p 0).toNat 0x14 (r.p 4)).commit r 0x0A02 .owner stOk false [])) ∧
  (∀ (s : State) (r : Req), s.takes r .owner (r.length = 7) → 352 ≤ (r.p 0).toNat → (r.p 0).toNat ≤ 383 → only (r.p 1) 2 = true →
    exec (.niSet r) s = .next ((s.niWrite (r.p 0).toNat 0x04 (r.p 1)).commit r 0x0A02 .owner stOk false [])) ∧
  (∀ (s : State) (r : Req), s.takes r .owner (decide (5 ≤ r.length) && r.length = 5 + 2 * (r.p 2).toNat) → (r.p 0).toNat ≤ 351 →
    1 ≤ (r.p 2).toNat → (r.p 1).toNat + (r.p 2).toNat ≤ 256 →
    ((numbered (2 * (r.p 1).toNat) (r.params.drop 3)).any fun x => rteReserved x.1 x.2) = false →
    exec (.routeWrite r) s = .next (((numbered (2 * (r.p 1).toNat) (r.params.drop 3)).foldl
      (fun (s : State) (x : Nat × W32) => s.rteStage (r.p 0).toNat x.1 x.2) s).commit r 0x0A03 .owner stOk false [])) ∧
  (∀ (s : State) (r : Req), s.takes r .anyone (r.length = 6) → (r.p 0).toNat ≤ 351 → only (r.p 1) 1 = true → 1 ≤ (r.p 3).toNat →
    (r.p 2).toNat + (r.p 3).toNat ≤ 256 →
    exec (.routeRead r) s = .next (s.commit r 0x0A04 .anyone stOk false ((List.range (2 * (r.p 3).toNat)).map fun j =>
      s.niReg (r.p 0).toNat ((if r.p 1 = 1 then 0x2000 else 0x1000) + 8 * (r.p 2).toNat + 4 * j)))) ∧
  (∀ (s : State) (r : Req), s.takes r .owner (decide (5 ≤ r.length) && r.length = 5 + (r.p 2).toNat) → (r.p 0).toNat ≤ 319 →
    1 ≤ (r.p 2).toNat → (r.p 1).toNat + (r.p 2).toNat ≤ 64 →
    ((numbered (r.p 1).toNat (r.params.drop 3)).any fun x => decide (x.2 &&& 0x7FFFFE00 ≠ 0)) = false →
    exec (.otkRsvWrite r) s = .next (((numbered (r.p 1).toNat (r.params.drop 3)).foldl
      (fun (s : State) (x : Nat × W32) => s.otkStage (r.p 0).toNat x.1 x.2) s).commit r 0x0A05 .owner stOk false [])) ∧
  (∀ (s : State) (r : Req), s.takes r .owner (r.length = 2) → s.room r → s.leat.armOrigin = none →
    exec (.routeArm r) s = .next ((s.armCommit (some (r.origin 0x0A06))).accepts r 0x0A06 .owner)) ∧
  (∀ (s u : State) (r : Req), s.takes r .owner (r.length = 3) → r.p 0 &&& 0x7FFFFE00 = 0 →
    (r.p 0).getLsbD 31 = true ∨ (r.p 0).toNat ≤ 383 → u = s.isolClear (field (r.p 0) 0 9) ((r.p 0).getLsbD 31) →
    (u.opAtOnce = false → exec (.isolClear r) s = .next (u.commit r 0x0A07 .owner stOk false [])) ∧
    (u.opAtOnce = true → exec (.isolClear r) s = .next (u.clearIsolations.commit r 0x0A07 .owner stOk false [])))

/-- Attestation commands complete (R366, R386). -/
def Obligations.AttestationCommandsAnswer : Prop :=
  (∀ (s : State) (r : Req), s.takes r .anyone (r.length = 10) → s.room r →
    exec (.attest r) s = .next ((s.modSec fun x => { x with attests := x.attests ++ [{ origin := r.origin 0x0B00, nonce := r.params }] }).accepts
      r 0x0B00 .anyone)) ∧
  (∀ (s : State) (a : Attest) (rest : List Attest), s.sec.attests = a :: rest →
    exec .attestReportDone s = .next ((s.freshen.modSec fun x => { x with
        attests := rest, reports := tset x.reports [] a.origin.port.num (s.freshen.report a) }).postRecord a.origin stOk
      [w32 (s.freshen.report a).length])) ∧
  (∀ s : State, s.sec.attests = [] → exec .attestReportDone s = .next s) ∧
  (∀ (s : State) (r : Req), s.takes r .anyone (r.length = 3) → tget s.sec.reports [] r.port.num ≠ [] →
    exec (.attestGet r) s = .next (s.commit r 0x0B01 .anyone stOk false
      (((tget s.sec.reports [] r.port.num).drop (r.p 0).toNat).take 1021))) ∧
  (∀ (s : State) (r : Req), s.takes r .anyone (r.length = 3) → (r.p 0).toNat % 4 = 0 →
    exec (.certGet r) s = .next (s.commit r 0x0B02 .anyone stOk false
      (w32 s.sec.cert.length :: wordsFrom (((s.sec.cert.drop (r.p 0).toNat).take 4080).map (·.toNat))))) ∧
  (∀ (s : State) (r : Req), s.takes r .anyone (r.length = 2) →
    exec (.keyStatus r) s = .next (s.freshen.commit r 0x0B03 .anyone stOk false
      (((List.range 4).map fun i => w32 (s.sec.slot i).st.toNat) ++ (List.range 4).flatMap fun i => s.freshen.slotHash i)))

/-- Key and firmware commands complete (R366, R376, R377, R384). -/
def Obligations.KeyAndFirmwareCommandsAct : Prop :=
  (∀ (s : State) (r : Req) (st : Nat), s.takes r .owner true → r.length = 207 → (r.p 0).toNat ≤ 3 →
    st = s.authJudge ⟨r.params.drop 97⟩ (r.p 0).toNat 1 (beWord (bytesIn ((r.params.drop 1).take 96))) →
    exec (.keyInstall r) s = .next ((if st = 0 then s.authAct ⟨r.params.drop 97⟩ (r.p 0).toNat
        { st := 1, key := beWord (bytesIn ((r.params.drop 1).take 96)) } 0x0E01
      else if st = stSignatureFail then s.authFail ⟨r.params.drop 97⟩ 1 (r.p 0).toNat else s).commit r 0x0B04 .owner st false [])) ∧
  (∀ (s : State) (r : Req) (st : Nat), s.takes r .owner true → r.length = 111 → (r.p 0).toNat ≤ 3 →
    st = s.authJudge ⟨r.params.drop 1⟩ (r.p 0).toNat 2 0 →
    exec (.keyRevoke r) s = .next ((if st = 0 then s.authAct ⟨r.params.drop 1⟩ (r.p 0).toNat { st := 2, key := 0 } 0x0E02
      else if st = stSignatureFail then s.authFail ⟨r.params.drop 1⟩ 2 (r.p 0).toNat else s).commit r 0x0B05 .owner st false [])) ∧
  (∀ (s : State) (b : AuthBlock) (i : Nat) (k : KeySlot) (code : Nat), i ≤ 3 →
    (s.authAct b i k code).sec.slot i = k ∧ (s.authAct b i k code).sec.keyCtr = s.sec.keyCtr + 1 ∧
    ∀ j, j ≤ 3 → j ≠ i → (s.authAct b i k code).sec.slot j = s.sec.slot j) ∧
  (∀ (s : State) (r : Req), s.takes r .owner (decide (3 ≤ r.length)) → (r.p 0).toNat % 4 = 0 →
    (r.p 0).toNat + (bytesIn (r.params.drop 1)).length ≤ fwBankBytes → s.sec.switching = none →
    exec (.fwChunk r) s = .next ((s.fwWrite (~~~s.sec.fwNamed) (r.p 0).toNat (bytesIn (r.params.drop 1))).commit r 0x0B06 .owner
      stOk false [])) ∧
  (∀ (s : State) (r : Req), s.takes r .owner (r.length = 3) → s.room r → (r.p 0).toNat % 4 = 0 → (r.p 0).toNat ≤ fwBankBytes →
    s.sec.switching = none →
    exec (.fwSwitch r) s = .next ((s.modSec fun x => { x with switching := some (r.origin 0x0B07, (r.p 0).toNat) }).accepts r
      0x0B07 .owner)) ∧
  (∀ (s u : State) (o : Origin) (len : Nat), s.sec.switching = some (o, len) →
    (s.switchCause len = none → u = s.modSec (fun x =>
        { x with switching := none, fwNamed := ~~~s.sec.fwNamed, fwOk0 := x.fwOk0 || decide (~~~s.sec.fwNamed = 0),
                 fwOk1 := x.fwOk1 || decide (~~~s.sec.fwNamed = 1), switched := some o }) →
      exec .fwVerifyComplete s = .next ((u.log 0x0E04 true false (w32 (~~~s.sec.fwNamed).toNat)
        (fwWord (s.sec.fw (~~~s.sec.fwNamed)) 8) 0).secEvt 2).commandRestart) ∧
    (∀ c, s.switchCause len = some c → u = s.modSec (fun x => { x with switching := none, failCnt := satInc x.failCnt }) →
      exec .fwVerifyComplete s = .next (((u.log 0x0E05 true false (w32 c) 0 0).secEvt 3).postRecord o
        (if c = 3 then stVersionRejected else stSignatureFail) []))) ∧
  (∀ s : State, s.sec.switching = none → exec .fwVerifyComplete s = .next s)

/-- Capture and debug commands complete (R345, R369, R370, R371). -/
def Obligations.CaptureCommandsAnswer : Prop :=
  (∀ (s : State) (r : Req), s.takes r .owner (decide (5 ≤ r.length) && r.length = 5 + (r.p 2).toNat) → s.room r →
    only (r.p 1) 16 = true → (r.p 2).toNat ≤ 1019 → (r.params.drop 3).any cstLocBad = false →
    s.deepRoom r.capAddr (s.captureLen (r.p 2).toNat) = true → s.capTaken = false →
    exec (.capture r) s = .next ((s.accepts r 0x0E00 .owner).capAsk
      { restore := false, addr := r.capAddr, cisterns := (r.params.drop 3).map cstOfLoc, origin := some (r.origin 0x0E00) })) ∧
  (∀ (s : State) (r : Req), s.takes r .owner (r.length = 4) → s.room r → only (r.p 1) 16 = true →
    s.deepRoom r.capAddr (s.captureLen 0) = true → s.capTaken = false →
    exec (.restore r) s = .next ((s.accepts r 0x0E01 .owner).capAsk
      { restore := true, addr := r.capAddr, origin := some (r.origin 0x0E01) })) ∧
  (∀ (s : State) (r : Req), s.takes r .anyone (r.length = 3) → frameBad (r.p 0) = false →
    exec (.frameRead r) s = .next (s.freshen.commit r 0x0E02 .anyone stOk false (s.freshen.frameWords (frameAt (r.p 0))))) ∧
  (∀ (s : State) (r : Req), s.takes r .anyone (r.length = 3) → frameBad (r.p 0) = false → (r.p 0).getLsbD 0 = false →
    s.windowRunning = false →
    exec (.ffRead r) s = .next (s.commit r 0x0E03 .anyone stOk false
      ((s.hankWords (256 * (frameAt (r.p 0) / 257) + (frameAt (r.p 0) % 257 - 1))).map fun (w : Word18) => w32 w.toNat)))

/-- Self-test commands complete (R367, R451, R452, R454, R455, R457, R458, R459). -/
def Obligations.SelfTestCommandsRun : Prop :=
  (∀ (s : State) (r : Req), s.takes r .owner (r.length = 4) → s.room r → (r.p 0).toNat ≤ 4 → s.windowRunning = false →
    (bistDomains (r.p 0).toNat (r.p 1).toNat).all (fun d => s.domRun d) = true → s.bist.run = none →
    bistValid (r.p 0).toNat (r.p 1).toNat = true → s.freshen.bistCond = none →
    exec (.bistRun r) s = .next ((s.freshen.bistBegin (r.p 0).toNat (r.p 1).toNat (r.origin 0x0C00)).accepts r 0x0C00 .owner)) ∧
  (∀ (s : State) (r : Req), s.takes r .anyone (r.length = 2) →
    exec (.bistResult r) s = .next (s.commit r 0x0C01 .anyone stOk false
      (w32 s.bist.result.toNat :: sigWords s.bist.sig ++ [w32 s.bist.recKind.toNat]))) ∧
  (∀ (s : State) (b : BistRun) (o : BistObs) (sig : BitVec 128), s.bist.run = some b → s.slcOpen 10 = true →
    b.kind ≠ 4 ∨ s.leatEmpty = true → sig = misr (bistValues b.kind (plotPair (framePlot b.inst)) o) →
    ∃ t, exec (.bistTestComplete o) s = .next t ∧ t.bist.run = none ∧ t.bist.runs = satInc s.bist.runs ∧
      t.bist.sig = sig ∧ (t.bist.result.getLsbD 0 = true ↔ b.condLost = false ∧ sig = s.bistRef b.kind b.inst)) ∧
  (∀ (s : State) (o : BistObs), s.bist.run = none ∨ s.slcOpen 10 = false ∨
    (∃ b, s.bist.run = some b ∧ b.kind = 4 ∧ s.leatEmpty = false) → exec (.bistTestComplete o) s = .next s)

/-- Reset commands complete (R345, R368, R441, R444, R445). -/
def Obligations.ResetCommandsAnswer : Prop :=
  (∀ (s : State) (r : Req), s.takes r .owner (r.length = 4) → s.room r → (r.p 0).toNat ≤ 4 →
    (r.p 1 = 0 → s.opAtOnce = false → exec (.dieReset r) s = .next ((s.modRst fun x =>
      { x with dies := x.dies ++ [{ unit := (r.p 0).toNat, origin := r.origin 0x0D00 }] }).accepts r 0x0D00 .owner)) ∧
    (r.p 1 = 0 → s.opAtOnce = true → exec (.dieReset r) s = .next ((s.modRst fun x =>
      { x with dies := x.dies ++ [{ unit := (r.p 0).toNat, origin := r.origin 0x0D00 }] }).resetBegin.accepts r 0x0D00 .owner)) ∧
    (r.p 1 = 1 → (r.p 0).toNat = 0 → s.rst.forced = none →
      exec (.dieReset r) s = .next ((s.accepts r 0x0D00 .owner).forceSill (r.origin 0x0D00)))) ∧
  (∀ (s : State) (r : Req), s.takes r .owner (r.length = 3) → s.room r → 1 ≤ (r.p 0).toNat → (r.p 0).toNat ≤ 56 →
    s.laneDomJoined (r.p 0).toNat = false →
    (s.opAtOnce = false → exec (.domainReset r) s = .next ((s.modRst fun x =>
      { x with doms := x.doms ++ [{ unit := (r.p 0).toNat, origin := r.origin 0x0D01 }] }).accepts r 0x0D01 .owner)) ∧
    (s.opAtOnce = true → exec (.domainReset r) s = .next ((s.modRst fun x =>
      { x with doms := x.doms ++ [{ unit := (r.p 0).toNat, origin := r.origin 0x0D01 }] }).resetBegin.accepts r 0x0D01 .owner))) ∧
  (∀ (s : State) (r : Req), s.takes r .owner (r.length = 2) →
    exec (.deviceReset r) s = .next ((s.modRst fun x => { x with deviceReset := true }).commit r 0x0D02 .owner stOk false [])) ∧
  (∀ (s : State) (r : Req), s.takes r .owner (r.length = 2) →
    exec (.lkRestart r) s = .next (s.commit r 0x0D03 .owner stOk false []).commandRestart) ∧
  (∀ (s : State) (die : Fin 5), (∀ q, s.rst.dieRun.find? (fun q => q.unit = die.val) = some q →
      exec (.dieResetComplete die) s = .next (s.dieResetDone q).powerSettle.boundaryGoOn) ∧
    (s.rst.dieRun.find? (fun q => q.unit = die.val) = none → exec (.dieResetComplete die) s = .next s)) ∧
  (∀ (s : State) (d : Fin 64) (mv : Nat),
    (∀ q, s.rst.domRun.find? (fun q => q.unit = d.val) = some q →
      (s.ownReset d = true → isMemDom d = false ∨ d.val = 10 ∨ (s.ctlAt (32 + (d.val - 12))).ready = true →
        exec (.domainResetComplete d mv) s = .next (((s.domReset d mv).modRst fun x =>
          { x with domRun := x.domRun.filter fun y => y.unit ≠ d.val }).domResetDone q).powerSettle.boundaryGoOn) ∧
      (s.ownReset d = false ∨ (isMemDom d = true ∧ d.val ≠ 10 ∧ (s.ctlAt (32 + (d.val - 12))).ready = false) →
        exec (.domainResetComplete d mv) s = .next s)) ∧
    (s.rst.domRun.find? (fun q => q.unit = d.val) = none →
      (∀ q, s.rst.domLater.find? (fun q => q.unit = d.val) = some q → exec (.domainResetComplete d mv) s =
        .next (if s.domRun d then ((s.domReset d mv).modRst fun x =>
          { x with domLater := x.domLater.filter fun y => y.unit ≠ d.val }).domResetDone q else s)) ∧
      (s.rst.domLater.find? (fun q => q.unit = d.val) = none → exec (.domainResetComplete d mv) s = .next s)))

/-- PULSE executes, holds, waits for slots or idles (R48, R55, R83, R113, R114, R116, R118). -/
def Obligations.PulseExecutesOneStrand : Prop :=
  (∀ (s : State) (o : PulseObs), s.win.st = .running → s.fab.clockStop = [] → s.inArray = false → o.came = [] →
    (s.mustStall = false →
      exec (.pulse o) s = .next ((s.endStall.modWin fun w => { w with slotWait := false }).pulseRun o)) ∧
    (s.mustStall = true → s.win.stall = none → exec (.pulse o) s = .next s.beginStall.heldPulse) ∧
    (s.mustStall = true → s.win.stall.isSome = true → exec (.pulse o) s = .next s.heldPulse)) ∧
  (∀ (s : State) (o : PulseObs), s.win.st = .running → s.fab.clockStop = [] → s.inArray = false →
    (s.inputsCome o).mustStall = false →
    exec (.pulse o) s = .next (((s.inputsCome o).endStall.modWin fun w => { w with slotWait := false }).pulseRun o)) ∧
  (∀ (s : State) (o : PulseObs), s.win.st = .running → s.fab.clockStop = [] → s.inArray = true →
    ((s.inputsCome o).resumeOwn.mustStall = true → (s.inputsCome o).resumeOwn.win.stall = none →
      exec (.pulse o) s = .next (s.inputsCome o).resumeOwn.beginStall.heldPulse) ∧
    ((s.inputsCome o).resumeOwn.mustStall = true → (s.inputsCome o).resumeOwn.win.stall.isSome = true →
      exec (.pulse o) s = .next (s.inputsCome o).resumeOwn.heldPulse) ∧
    ((s.inputsCome o).resumeOwn.mustStall = false → (s.inputsCome o).resumeOwn.endStall.slotsReady = true →
      (s.inputsCome o).resumeOwn.endStall.paced = true → exec (.pulse o) s =
        .next (((s.inputsCome o).resumeOwn.endStall.modWin fun w => { w with slotWait := false }).pulseRun o)) ∧
    ((s.inputsCome o).resumeOwn.mustStall = false → (s.inputsCome o).resumeOwn.endStall.slotsReady = false ∨
        (s.inputsCome o).resumeOwn.endStall.paced = false →
      exec (.pulse o) s = .next (((s.inputsCome o).resumeOwn.endStall.cstPulseEnd []).modWin fun w =>
        { w with slotWait := true, slotNow := satInc w.slotNow }))) ∧
  (∀ (s : State) (o : PulseObs),
    ((s.pulseBody o).win.strand + 1 < (s.pulseBody o).fab.turnLen → s.pulseRun o =
      (s.pulseBody o).modWin fun w => { w with strand := w.strand + 1 }) ∧
    ((s.pulseBody o).fab.turnLen ≤ (s.pulseBody o).win.strand + 1 → s.pulseRun o = (s.pulseBody o).turnEnd)) ∧
  (∀ (s : State) (o : PulseObs), s.win.st ≠ .running ∨ s.fab.clockStop ≠ [] →
    (s.gated = true → exec (.pulse o) s = .next s) ∧
    (s.gated = false → s.img.load.isSome = true → exec (.pulse o) s = .next (s.loadRefresh o)) ∧
    (s.gated = false → s.img.load = none → exec (.pulse o) s = .next s.heldActs))

/-- A pulse makes D values pending, and at the turn end every flip-flop in use takes its own (R55, R57, R58). -/
def Obligations.TurnEndCommitsEveryFlipFlopAtOnce : Prop :=
  (∀ (s : State) (wrong : List Nat) (k : Nat), (tget s.fab.latch 0 (k * 8 + s.win.strand)) ≠ 0 → s.win.strand < 8 →
    s.plotRuns (k / 4096) = true →
    (kInUse (s.fab.latchAt k s.win.strand) 120 = true →
      tget (s.pulseKnots wrong).fab.pendA none (k * 8 + s.win.strand) = some (s.dValue wrong k 120)) ∧
    (kInUse (s.fab.latchAt k s.win.strand) 128 = true →
      tget (s.pulseKnots wrong).fab.pendB none (k * 8 + s.win.strand) = some (s.dValue wrong k 128))) ∧
  (∀ (s : State) (e : Nat × BitVec 160), s.fab.srFree = true → e ∈ s.fab.latch → e.1 % 8 < s.fab.turnLen →
    s.plotRuns (e.1 / 32768) = true →
    (kInUse e.2 120 = true → s.patternValue (e.1 / 32768) (e.2.toNat >>> 122 % 16) = true →
      tget s.commitTurn.fab.qa false e.1 = s.pendValue 120 e.1) ∧
    (kInUse e.2 128 = true → s.patternValue (e.1 / 32768) (e.2.toNat >>> 130 % 16) = true →
      tget s.commitTurn.fab.qb false e.1 = s.pendValue 128 e.1)) ∧
  (∀ (s : State) (k : Nat) (b : Bool), (tget s.fab.pendA none k = some b → s.pendValue 120 k = b) ∧
    (tget s.fab.pendB none k = some b → s.pendValue 128 k = b)) ∧
  (∀ (s : State) (k : Nat), (s.fab.srFree = false ∨ ∀ e ∈ s.fab.latch, e.1 = k → s.fab.turnLen ≤ k % 8 ∨
      s.plotRuns (k / 32768) = false ∨ kInUse e.2 120 = false ∨ s.patternValue (k / 32768) (e.2.toNat >>> 122 % 16) = false) →
    tget s.commitTurn.fab.qa false k = tget s.fab.qa false k) ∧
  (∀ (s : State) (k : Nat), (s.fab.srFree = false ∨ ∀ e ∈ s.fab.latch, e.1 = k → s.fab.turnLen ≤ k % 8 ∨
      s.plotRuns (k / 32768) = false ∨ kInUse e.2 128 = false ∨ s.patternValue (k / 32768) (e.2.toNat >>> 130 % 16) = false) →
    tget s.commitTurn.fab.qb false k = tget s.fab.qb false k) ∧
  (∀ s : State, s.commitTurn.fab.pendA = [] ∧ s.commitTurn.fab.pendB = [] ∧
    s.commitTurn = { s with fab := s.commitTurn.fab })

/-- CONFIGURATION_UPSET, STALL_END, LONG_STALL, IO_OUTPUT_FRAME, FR_INPUT_ENTRY and FR_OUTPUT_ENTRY act (R32, R42, R113, R116, R117, R119, R308, R309). -/
def Obligations.FabricEventsAct : Prop :=
  (∀ (s : State) (knot : Nat) (strand : Fin 8) (bit : Fin 160) (w : BitVec 160), knot < 20971520 →
    w = tget s.fab.latch 0 (knot * 8 + strand.val) ^^^ (1#160 <<< bit.val) →
    ∃ t, exec (.configurationUpset knot strand bit) s = .next t ∧
      (∀ k, tget t.fab.latch 0 k = if k = knot * 8 + strand.val then w else tget s.fab.latch 0 k) ∧
      (∀ k, tget t.fab.qa false k = if k = knot * 8 + strand.val ∧ kInUse w 120 = false then w.getLsbD 126 else tget s.fab.qa false k) ∧
      (∀ k, tget t.fab.qb false k = if k = knot * 8 + strand.val ∧ kInUse w 128 = false then w.getLsbD 134 else tget s.fab.qb false k) ∧
      t = { s with fab := { s.fab with latch := t.fab.latch, qa := t.fab.qa, qb := t.fab.qb } }) ∧
  (∀ (s : State), s.inArray = false → s.win.st = .running → s.win.stall.isSome = true → s.mustStall = false →
    exec .stallEnd s = .next s.endStall) ∧
  (∀ (s : State), s.inArray = true → s.win.st = .running → s.win.stall.isSome = true → s.resumeOwn.mustStall = false →
    exec .stallEnd s = .next s.resumeOwn.endStall) ∧
  (∀ (s : State) (x : Stall), s.win.stall = some x →
    (x.long = false → s.win.stallLimit ≠ 0 →
      exec .longStall s = .next (((s.log 0x0205 true false (w32 x.due.turn) 0 0).winEvt 5).modWin fun w =>
        { w with stall := some { x with long := true } })) ∧
    (x.long = true ∨ s.win.stallLimit = 0 → exec .longStall s = .next s)) ∧
  (∀ (s : State) (b : Fin 20) (f : OutFrame), s.io.frames.find? (fun f => f.bank = b.val && !f.here) = some f →
    (s.win.turnCount ≤ f.due →
      exec (.ioOutputFrame b) s = .next (s.modIo fun io =>
        { io with frames := io.frames.map fun x => if x = f then { x with here := true } else x })) ∧
    (f.due < s.win.turnCount →
      exec (.ioOutputFrame b) s = .next ((s.modIo fun io =>
        { io with frames := io.frames.map fun x => if x = f then { x with here := true } else x }).logLate (.ioBank b) 0))) ∧
  (∀ (s : State) (b : Fin 20), s.io.frames.find? (fun f => f.bank = b.val && !f.here) = none →
    exec (.ioOutputFrame b) s = .next s) ∧
  (∀ (s : State) (b : Fin 20) (bits : Nat), s.bankLive b = true → s.bankFree b = true →
    ((tget s.io.inF [] b.val).length < 512 →
      exec (.frInputEntry b bits) s = .next (s.modIo fun io =>
        { io with inF := tmod io.inF [] b.val fun l => l ++ [bits % 2 ^ frBits (s.bankCfg b)] })) ∧
    (512 ≤ (tget s.io.inF [] b.val).length → s.io.inDrop.contains b.val = false →
      exec (.frInputEntry b bits) s = .next ((s.log 0x0B02 false false (w32 b) 0 0).modIo fun io =>
        { io with inDrop := b.val :: io.inDrop })) ∧
    (512 ≤ (tget s.io.inF [] b.val).length → s.io.inDrop.contains b.val = true → exec (.frInputEntry b bits) s = .next s)) ∧
  (∀ (s : State) (b : Fin 20), s.bankLive b = true → s.bankFree b = true →
    (∀ e l, tget s.io.outF [] b.val = e :: l →
      exec (.frOutputEntry b) s = .next ((s.modIo fun io => { io with outF := tset io.outF [] b.val l }).emit (.frEntry b e))) ∧
    (tget s.io.outF [] b.val = [] → exec (.frOutputEntry b) s = .next s)) ∧
  (∀ (s : State) (b : Fin 20) (bits : Nat), s.bankLive b = false ∨ s.bankFree b = false →
    exec (.frInputEntry b bits) s = .next s ∧ exec (.frOutputEntry b) s = .next s)

/-- Splice, vertical channel and clock coupler events act (R18, R19, R20, R23, R79, R85, R86, R87, R183). -/
def Obligations.SpliceAndVerticalEventsAct : Prop :=
  (∀ (s : State) (c : Nat), (s.spl.chanAt c).st = .shadowed → (s.spl.chanAt c).due = true →
    exec (.spliceShadowTakeover c) s = .next (s.modSpl fun x => x.putChan c { x.chanAt c with taken := true })) ∧
  (∀ (s : State) (path : Fin 160) (dir : Fin 2) (p : Packet), s.nodeStill (fbReceiver path dir) = false →
    (s.nodeAt (fbReceiver path dir)).rxFb.find? (fun p => p.tag = (s.nodeAt (fbReceiver path dir)).fbNext) = some p →
    ∃ t, exec (.fallbackPacketReceive path dir) s = .next t ∧ t.spl = s.spl.storeFallback path dir (s.fbTurn p.addr) (p.words.map (·.data)) ∧
      (t.nodeAt (fbReceiver path dir)).rxFb = (s.nodeAt (fbReceiver path dir)).rxFb.erase p ∧
      (t.nodeAt (fbReceiver path dir)).fbNext = ((s.nodeAt (fbReceiver path dir)).fbNext + 1) % 128 ∧
      (t.nodeAt (fbReceiver path dir)).resp = (s.nodeAt (fbReceiver path dir)).resp ++
        (if (s.nodeAt (fbReceiver path dir)).isolated then [] else [creditOf p]) ∧
      (∀ k, k ≠ fbReceiver path dir → t.nodeAt k = s.nodeAt k) ∧ t = { s with spl := t.spl, leat := t.leat }) ∧
  (∀ (s : State) (v : VChan) (frame : BitVec 56) (r : VRec), v.present = true → r = (s.vert.chanRec v).sent frame →
    exec (.verticalFrameReceive v frame true) s = .next (s.modVert fun t => t.put { r with resend := false }) ∧
    (r.bare = true ∨ r.moved = true →
      exec (.verticalFrameReceive v frame false) s = .next (s.modVert fun t => t.put { r with resend := true })) ∧
    (r.bare = false → r.moved = false → r.rejects + 1 < 3 →
      exec (.verticalFrameReceive v frame false) s = .next (s.modVert fun t =>
        t.put { r with rejects := r.rejects + 1, resend := true })) ∧
    (r.bare = false → r.moved = false → 3 ≤ r.rejects + 1 →
      exec (.verticalFrameReceive v frame false) s = .next ((s.modVert fun t =>
        t.put { r with rejects := r.rejects + 1, resend := true }).vFail v))) ∧
  (∀ (s : State) (v : VChan), v.present = true → (s.vert.chanRec v).moved = false →
    ((s.vert.chanRec v).bare = true → exec (.frameAlignmentLoss v) s = .next s) ∧
    ((s.vert.chanRec v).bare = false → v.kind = .headgate →
      exec (.frameAlignmentLoss v) s = .next (s.vHeadgate (s.vert.chanRec v))) ∧
    (∀ k, (s.vert.chanRec v).bare = false → v.kind ≠ .headgate → s.vert.freeSpare v = some k →
      exec (.frameAlignmentLoss v) s = .next ((s.log 0x0401 false false (vP0 v k) (w32 v.ch.val) 0).modVert fun t =>
        t.put { s.vert.chanRec v with
          failed := true, rejects := 0, spare := some k, shadowing := false, swapped := false, late := s.pastItem .c,
          spent := (s.vert.chanRec v).spent ++ (s.vert.chanRec v).spare.toList })) ∧
    ((s.vert.chanRec v).bare = false → v.kind ≠ .headgate → s.vert.freeSpare v = none →
      exec (.frameAlignmentLoss v) s = .next (s.vNoSpare (s.vert.chanRec v)))) ∧
  (∀ (s : State) (v : VChan), (s.vert.chanRec v).failed = true → (s.vert.chanRec v).spare.isSome = true →
    (s.vert.chanRec v).swapped = false →
    exec (.verticalShadowStart v) s = .next (s.modVert fun t => t.put { s.vert.chanRec v with shadowing := true })) ∧
  (∀ (s : State) (k : Fin 6), k.val < 4 →
    (s.vert.sillA.getD k.val .failed = .standby → exec (.clockCouplerFail k) s = .next ((s.modVert fun v =>
      { v with sillA := v.sillA.set k.val .failed }).log 0x0C0A false false 0 (w32 k.val) 0)) ∧
    (s.vert.sillA.getD k.val .failed = .active → exec (.clockCouplerFail k) s = .next (s.modVert fun v =>
      { v with sillA := v.sillA.set k.val .failed, switchA := v.switchA + 1 }))) ∧
  (∀ (s : State) (k : Fin 6), 4 ≤ k.val →
    (s.vert.ab.getD (k.val - 4) .failed = .standby → exec (.clockCouplerFail k) s = .next ((s.modVert fun v =>
      { v with ab := v.ab.set (k.val - 4) .failed }).log 0x0C0A false false 1 (w32 (k.val - 4)) 0)) ∧
    (s.vert.ab.getD (k.val - 4) .failed = .active → exec (.clockCouplerFail k) s = .next (s.modVert fun v =>
      { v with ab := v.ab.set (k.val - 4) .failed, switchB := true }))) ∧
  (∀ (s : State), s.vert.switchA ≠ 0 →
    (∀ i, s.vert.sillA.findIdx? (· = .standby) = some i →
      exec (.clockCouplerSwitch false) s = .next ((s.modVert fun v =>
        { v with switchA := v.switchA - 1, sillA := v.sillA.set i .active }).log 0x0C0A false false 0 (w32 i) 0)) ∧
    (s.vert.sillA.findIdx? (· = .standby) = none → s.vert.sillA.any (· = .active) = false →
      exec (.clockCouplerSwitch false) s = .next ((s.modVert fun v =>
        { v with switchA := v.switchA - 1, holdA := true }).clockStop (stopCoupler 0)))) ∧
  (∀ (s : State), s.vert.switchB = true →
    (∀ i, s.vert.ab.findIdx? (· = .standby) = some i →
      exec (.clockCouplerSwitch true) s = .next ((s.modVert fun v =>
        { v with switchB := false, ab := v.ab.set i .active }).log 0x0C0A false false 1 (w32 i) 0)) ∧
    (s.vert.ab.findIdx? (· = .standby) = none → s.vert.ab.any (· = .active) = false →
      exec (.clockCouplerSwitch true) s = .next ((s.modVert fun v =>
        { v with switchB := false, holdB := true }).clockStop (stopCoupler 1))))

/-- A window starts with an edge, a pulse and an empty Leat (R94, R95, R98, R99, R100, R101, R103, R110). -/
def Obligations.WindowStartSequence : Prop :=
  (∀ (s : State), s.inReset = false → (s.wakeBy 2 none).win.mode = 0 → (s.wakeBy 2 none).lnk.array ≠ .notPart →
    ((s.wakeBy 2 none).win.st = .ready → (s.wakeBy 2 none).win.edgeAccepted = false → (s.wakeBy 2 none).clk.safe = false →
      exec .winEdge s = .next ((s.wakeBy 2 none).modWin fun w => { w with edgeAccepted := true })) ∧
    ((s.wakeBy 2 none).win.st ≠ .ready → (s.wakeBy 2 none).win.edgePending = false →
      ∃ t, exec .winEdge s = .next t ∧ t.win.edgePending = true ∧ t.win.earlyCnt = satInc (s.wakeBy 2 none).win.earlyCnt)) ∧
  (∀ (s : State), s.inReset = false → (s.wakeBy 2 none).win.mode ≠ 0 ∨ (s.wakeBy 2 none).lnk.array = .notPart →
    exec .winEdge s = .next (s.wakeBy 2 none)) ∧
  (∀ (s : State), s.win.mode = 1 ∨ s.win.mode = 2 → s.win.st = .ready → s.win.edgeAccepted = false → s.clk.safe = false →
    s.lnk.array ≠ .notPart →
    exec .generatorFire s = .next ((if s.win.mode = 2 then s.emit .winOut else s).modWin fun w => { w with edgeAccepted := true })) ∧
  (∀ (s u : State), s.win.edgeAccepted = true → s.fab.clockStop = [] → s.gated = false →
    u = ((s.modWin fun w =>
      { w with st := .starting, cnt := w.cnt + 1, edgeAccepted := false, hold := w.hold ||| holdBit holdRun }).newCounts.modLeat fun l =>
        { l with admission := false }).ctrlAll →
    (s.inArray = false → exec .edgePulse s = .next u) ∧
    (u.inArray = true → u.countMaster = true → exec .edgePulse s =
      .next (u.modLnk fun x => { x with mcnt := BitVec.ofNat 16 u.win.cnt.toNat })) ∧
    (u.inArray = true → u.countMaster = false → u.lnk.mcntNew = true → exec .edgePulse s =
      .next (u.modLnk fun x => { x with mcntNew := false }).compareCount) ∧
    (u.inArray = true → u.countMaster = false → u.lnk.mcntNew = false → exec .edgePulse s = .next u)) ∧
  (∀ (s : State), s.win.edgeAccepted = true → s.fab.clockStop = [] → s.gated = false → s.inArray = false →
    ∃ t, exec .edgePulse s = .next t ∧ t.win.st = .starting ∧ t.win.cnt = s.win.cnt + 1 ∧ t.win.edgeAccepted = false ∧
      t.leat.admission = false ∧ t.win.stallPulses = s.win.stallNow ∧ t.win.slotPulses = s.win.slotNow ∧
      t.win.stallNow = 0 ∧ t.win.slotNow = 0) ∧
  (∀ (s : State), s.win.st = .starting → s.leatEmpty = true → s.fab.clockStop = [] → s.gated = false →
    ∃ t, exec .windowStart s = .next t ∧ t.win.st = .running ∧ t.win.turn = 0 ∧ t.win.strand = 0 ∧ t.win.cnt = s.win.cnt)

/-- The boundary goes on step by step (R106, R107, R108, R154, R369, R371, R402, R433). -/
def Obligations.BoundarySequenceSteps : Prop :=
  (∀ (s : State), s.win.st = .boundary → s.win.step = 2 → s.win.paused = false → s.drained = true →
    exec .leatDrainComplete s = .next (s.releaseDynamic.modWin fun w => { w with step := 4 })) ∧
  (∀ (s : State), s.win.st ≠ .boundary → s.leat.swapWait = true → s.leatEmpty = true →
    (s.atOnce = true → s.leat.arm = true → s.leat.checked = true → exec .leatDrainComplete s = .next s.commitHeld) ∧
    (s.atOnce = false ∨ s.leat.arm = false ∨ s.leat.checked = false → exec .leatDrainComplete s =
      .next (s.modLeat fun l => { l with swapWait := false, admission := true }))) ∧
  (∀ (s : State), s.win.st = .boundary → s.win.step = 4 → s.win.paused = false →
    exec .ledgerFlushComplete s = .next ((s.flushLedgers.modWin fun w => { w with step := 5 }).routeStep).itemA) ∧
  (∀ (s : State) (q : CapReq), s.rst.capRun = some q → q.restore = false → s.win.paused = false → s.deepRuns q.addr = true →
    (q.origin.isSome = true →
      exec .captureCopyComplete s = .next (((((s.capture q).1.modRst fun r => { r with capRun := none }).clearHold
        holdCapture).postRecord? q.origin stOk (s.capture q).2).boundaryGoOn)) ∧
    (q.origin = none →
      exec .captureCopyComplete s = .next (((((s.capture q).1.modRst fun r => { r with capRun := none }).clearHold
        holdCapture).modThm fun t => { t with stopCaptured := true }).boundaryGoOn))) ∧
  (∀ (s : State) (q : CapReq), s.rst.capRun = some q → q.restore = true → s.win.paused = false → s.deepRuns q.addr = true →
    exec .restoreComplete s = .next (((((s.freshen.restoreAll q.addr).1.modRst fun r => { r with capRun := none }).clearHold
      holdCapture).postRecord? q.origin (s.freshen.restoreAll q.addr).2.1 (s.freshen.restoreAll q.addr).2.2).boundaryGoOn)) ∧
  (∀ (s : State) (k : Nat), s.rst.rate = some k → s.win.paused = false →
    exec .throttleRelockComplete s = .next ((((s.modClk fun c => { c with pulseNow := k }).modRst fun q =>
      { q with rate := none }).clearHold holdThrottle).boundaryGoOn))

/-- Cistern service and patrol act (R129, R132, R134, R135, R136, R195, R457). -/
def Obligations.CisternServiceActs : Prop :=
  (∀ (s u : State) (n : Fin 320) (p : Packet) (l : List Packet), s.gated = false → (s.nodeAt n).work = p :: l →
    u = s.modNode n (fun x => { x with work := l }) →
    (u.targetOff n p.addr = true → exec (.cisternServiceRequest n) s = .next (u.answerOff n p)) ∧
    (u.targetOff n p.addr = false → svcAddressOk p = false →
      exec (.cisternServiceRequest n) s = .next (u.answer n p .badAddress [])) ∧
    (u.targetOff n p.addr = false → svcAddressOk p = true →
      u.bistPlot ((svcPlace p 0).1 / 8) = true ∨ u.svcClosed p = true →
      exec (.cisternServiceRequest n) s = .next (u.answer n p .cisternClosed [])) ∧
    (u.targetOff n p.addr = false → svcAddressOk p = true → u.bistPlot ((svcPlace p 0).1 / 8) = false → u.svcClosed p = false →
      (p.len = 0 → exec (.cisternServiceRequest n) s = .next (u.answer n p .ok [])) ∧
      (p.len ≠ 0 → exec (.cisternServiceRequest n) s = .next (u.modCst fun c =>
        { c with service := c.service ++ [{ node := n, pkt := p }] })))) ∧
  (∀ (s : State) (i : Fin 40960) (v : Service), s.gated = false → s.cst.nextService i = some v → s.cstIdle i = true →
    (v.pkt.cmd ≠ .read → exec (.cisternServiceRow i) s = .next ((s.putRow i (svcPlace v.pkt v.done).2
      (lightEncode (v.pkt.words.getD v.done {}).data)).svcDone { v with done := v.done + 1 })) ∧
    (v.pkt.cmd = .read → exec (.cisternServiceRow i) s = .next ((s.cstRead i (svcPlace v.pkt v.done).2 2).1.svcDone
      { v with done := v.done + 1,
               got := v.got ++ [{ data := (s.cstRead i (svcPlace v.pkt v.done).2 2).2.data,
                                  poison := (s.cstRead i (svcPlace v.pkt v.done).2 2).2.poisoned }] }))) ∧
  (∀ (s : State) (i : Fin 40960) (v : Service) (rd : LightRead), s.gated = false → s.cst.nextService i = some v →
    s.cstIdle i = false → rd = lightDecode (s.cstRow i (svcPlace v.pkt v.done).2) →
    (v.pkt.cmd = .read → s.svcQualifies i false = true → exec (.cisternServiceRow i) s = .next ((s.modCst fun c =>
      { c with slot := tset c.slot none i (some { row := (svcPlace v.pkt v.done).2, write := none }) }).svcDone
        { v with done := v.done + 1, got := v.got ++ [{ data := rd.data, poison := rd.poisoned }] })) ∧
    (v.pkt.cmd ≠ .read → s.svcQualifies i true = true → exec (.cisternServiceRow i) s = .next ((s.modCst fun c =>
      { c with slot := tset c.slot none i (some { row := (svcPlace v.pkt v.done).2,
                                                   write := some (v.pkt.words.getD v.done {}).data }) }).svcDone
        { v with done := v.done + 1 }))) ∧
  (∀ (s : State) (i : Fin 40960), s.gated = false → s.cstIdle i = true →
    exec (.cisternPatrolRead i) s = .next ((s.cstRead i (tget s.cst.pos 0 i) 3).1.modCst fun c => c.patrolled i)) ∧
  (∀ (s : State) (i : Fin 40960), s.gated = false → s.cstIdle i = false → s.svcQualifies i false = true →
    exec (.cisternPatrolRead i) s = .next (s.modCst fun c =>
      ({ c with slot := tset c.slot none i (some { row := tget s.cst.pos 0 i, scrub := true }) }).patrolled i)) ∧
  (∀ (s : State) (i : Fin 40960),
    exec (.cisternScrubOverrun i) s = .next (s.log 0x0502 false false (w32 (cstLoc i 0)) 0 0))

/-- Memory controller events act (R145, R147, R150, R153, R158, R159, R160, R161). -/
def Obligations.MemoryControllerEventsAct : Prop :=
  (∀ (s : State) (m : Fin 40), (s.nodeAt (ctlNode m)).work ≠ [] → s.gated = false →
    ((s.ctlAt m).pstate ≠ .run → exec (.memoryRequest m) s = .next ((s.wakeMem m).memEvt m 6)) ∧
    (∀ p, (s.ctlAt m).pstate = .run → s.nextWork m = some p →
      (s.memRange p.addr p.len = false → exec (.memoryRequest m) s = .next (s.finishWork m p .badAddress [])) ∧
      (s.memRange p.addr p.len = true → p.cmd = .read → exec (.memoryRequest m) s = .next (s.serveRead m p)) ∧
      (s.memRange p.addr p.len = true → p.cmd ≠ .read → exec (.memoryRequest m) s = .next (s.serveWrite m p)))) ∧
  (∀ (s : State) (m : Fin 40) (page : Nat) (w : PathWhy), s.gated = false → (s.ctlAt m).path = some (page, w) →
    exec (.pagePathComplete m) s = .next ((s.endPath m page).serveAll m)) ∧
  (∀ (s : State) (m : Fin 40) (e : Ledger) (l : List Ledger), (s.ctlAt m).ledger = e :: l → (s.ctlAt m).path = none →
    (s.win.st = .boundary → s.win.step = 4 → exec (.ledgerEntryFlush m) s = .next (s.flushEntry m e false)) ∧
    (s.win.st ≠ .boundary → (s.ctlAt m).draining = true → (s.ctlAt m).drainOver = true →
      exec (.ledgerEntryFlush m) s = .next (s.modCtl m fun c => { c with draining := false })) ∧
    (s.win.st ≠ .boundary → (s.ctlAt m).draining = true → (s.ctlAt m).drainOver = false →
      (s.ctlAt m).flushed = false ∨ s.nextWork m = none →
      exec (.ledgerEntryFlush m) s = .next ((s.flushEntry m e true).modCtl m fun c =>
        { c with draining := c.draining && !c.drainOver, flushed := true }))) ∧
  (∀ (s : State) (m : Fin 40), (s.ctlAt m).patrolEn = true → (s.ctlAt m).valid = true →
    exec (.scrubOverrun m) s = .next ((s.log 0x0604 false false (w32 m) (w32 (s.ctlAt m).pos.toNat) 0).memEvt m 4)) ∧
  (∀ (s : State) (m : Fin 40), (s.ctlAt m).filling = true → m.val < 32 ∨ (s.ctlAt m).ready = true →
    exec (.fillDone m) s = .next (((((s.modMem fun x =>
      { x with words := tdrop (fun i => i / (240 * 2 ^ 28) = m.val) x.words }).modCtl m fun c =>
      { c with filling := false, valid := true, ledger := [], path := none, draining := false }).memEvt m 5).fillCounted m).serveAll
        m)) ∧
  (∀ (s : State) (d : Fin 9), s.domSt (memDomain d) = .waking → (s.pwr.changed.any fun q => q.dom = memDomain d) = false →
    exec (.memoryWakeComplete d) s = .next (s.memUp (memDomain d))) ∧
  (∀ (s : State) (d : Fin 9) (st : PState),
    ((domainCtls (memDomain d)).filterMap fun k => (s.ctlAt k).wokenFrom).head? = some st →
    (∀ k ∈ domainCtls (memDomain d), (s.ctlAt k).pstate = .run ∧ (s.nodeAt (ctlNode k)).work = [] ∧
      (s.nodeAt (ctlNode k)).rxReq = []) →
    exec (.memoryIdleReturn d) s = .next (s.memLeave (memDomain d) st)) ∧
  (∀ (s : State) (ch : Fin 8), exec (.caParityError ch true) s = .next s ∧
    exec (.caParityError ch false) s = .next (s.log 0x0606 true false (w32 ch) 0 0)) ∧
  (∀ (s : State) (ch : Fin 8) (spd : Spd), spd.supported = true →
    exec (.ddrTrainingComplete ch (some spd) none) s = .next (((s.modCtl (32 + ch.val) fun c =>
      { c with spd := some spd, ready := true, trainDone := true, trainFail := false, failLane := 0, failRank := 0 }).setRates
        (ch / 4)).serveAll (32 + ch.val)) ∧
    ∀ (lane : BitVec 4) (rank : BitVec 2),
      exec (.ddrTrainingComplete ch (some spd) (some (lane, rank))) s = .next (((s.modCtl (32 + ch.val) fun c =>
        { c with spd := some spd, ready := true, filling := false, trainDone := false, trainFail := true, failLane := lane,
                 failRank := rank }).setRates (ch / 4)).serveAll (32 + ch.val))) ∧
  (∀ (s : State) (ch : Fin 8) (spd : Option Spd), spd.any Spd.supported = false →
    exec (.ddrTrainingComplete ch spd none) s = .next (((s.modCtl (32 + ch.val) fun c =>
      { c with spd := none, ready := true, filling := false, trainDone := false, trainFail := false, failLane := 0,
               failRank := 0 }).setRates (ch / 4)).serveAll (32 + ch.val)))

/-- PATROL_SCRUB completes, and keeps stored data that reads clean (R149, R156, R159). -/
def Obligations.PatrolScrubAdvancesThePatrol : Prop :=
  (∀ (s u : State) (m : Fin 40) (ws : List LightRead), s.patrolRuns m = true → u = (s.ledgerRead m (s.ctlAt m).pos.toNat).1 →
    ws = u.pageRead m (s.ctlAt m).pos.toNat → ∀ v, v = ((u.putStored m (s.ctlAt m).pos.toNat (singleFixes 0 ws)).correct m
      (singleFixes 0 ws).length).poisonDelivered m reqPatrol
        (pageWhere m (s.ctlAt m).pos.toNat (fun r => r.kind = Light.poison) ws) →
    exec (.patrolScrub m) s = .next ((if (ws.any fun r => r.kind = .bad) ∨
        pageSyndrome ws ((s.ledgerRead m (s.ctlAt m).pos.toNat).2.getD []) = true then
      v.startPath m (s.ctlAt m).pos.toNat .patrol else v).modCtl m fun c => c.patrolled m)) ∧
  (∀ (s : State) (m : Fin 40), s.patrolRuns m = true → (s.ctlAt m).entry (s.ctlAt m).pos.toNat = none →
    (∀ r ∈ s.pageRead m (s.ctlAt m).pos.toNat, r.kind = .clean) → pageSyndrome (s.pageRead m (s.ctlAt m).pos.toNat) [] = false →
    ((s.ctlAt m).pos.toNat + 1 < (s.ctlAt m).pages m →
      exec (.patrolScrub m) s = .next (s.modCtl m fun c => { c with pos := c.pos + 1 })) ∧
    ((s.ctlAt m).pages m ≤ (s.ctlAt m).pos.toNat + 1 →
      exec (.patrolScrub m) s = .next (s.modCtl m fun c => { c with pos := 0, pass := satInc c.pass }))) ∧
  (∀ (s : State) (m : Fin 40), s.patrolRuns m = false → exec (.patrolScrub m) s = .next s)

/-- HOST_WINDOW_REQUEST, HOST_COMPLETION, COMPLETION_TIMEOUT, BAR4_READ and BAR4_WRITE act (R162, R163, R195, R197, R294, R298, R446). -/
def Obligations.HostMemoryEventsAct : Prop :=
  (∀ (s : State) (h : HostReq), s.nodeStill nodePcie = false →
    s.mem.host.find? (fun h => !h.stop && h.sent < 4 * h.pkt.len) = some h → exec .hostWindowRequest s = .next (s.hostReqSend h)) ∧
  (∀ (s : State), s.nodeStill nodePcie = true → exec .hostWindowRequest s = .next s) ∧
  (∀ (s u : State) (p : Packet) (l : List Packet), s.nodeStill nodePcie = false →
    s.mem.host.find? (fun h => !h.stop && h.sent < 4 * h.pkt.len) = none → (s.nodeAt nodePcie).work = p :: l →
    u = s.modNode nodePcie (fun x => { x with work := l }) →
    (s.hostOpen = false → exec .hostWindowRequest s = .next (u.answerOff nodePcie p)) ∧
    (s.hostOpen = true → s.mem.hwSize.toNat < hostWord p + p.len → exec .hostWindowRequest s =
      .next (u.hostAnswer p .badAddress [])) ∧
    (s.hostOpen = true → hostWord p + p.len ≤ s.mem.hwSize.toNat →
      (p.cmd = .read → p.len = 0 → exec .hostWindowRequest s = .next (u.hostAnswer p .ok [])) ∧
      (p.cmd = .read → p.len ≠ 0 → exec .hostWindowRequest s =
        .next ((u.modMem fun x => { x with host := x.host ++ [{ pkt := p }] }).hostReqSend { pkt := p })) ∧
      (p.cmd ≠ .read → exec .hostWindowRequest s = .next ((u.hostPut (u.mem.hwBase.toNat + 4 * hostWord p)
        (containerBytes (p.words.map (·.data)))).hostAnswer p .ok [])))) ∧
  (∀ (s : State) (r : HostRead) (ep : Bool) (bytes : List Byte), s.host.reads.find? (fun x => x.id = r.id) = some r →
    (r.got.length + bytes.length < r.len →
      exec (.hostCompletion r.id .sc ep bytes) s = .next (s.modHost fun h =>
        { h with reads := h.reads.map fun x => if x.id = r.id then { x with got := r.got ++ bytes.map fun b => (b, ep) } else x })) ∧
    (r.len ≤ r.got.length + bytes.length →
      exec (.hostCompletion r.id .sc ep bytes) s = .next (s.hostDeliver r ((r.got ++ bytes.map fun b => (b, ep)).take r.len))) ∧
    (∀ st, st ≠ .sc → exec (.hostCompletion r.id st ep bytes) s =
      .next ((s.modHost fun h => { h with aerErrors := h.aerErrors + 1 }).hostError r)) ∧
    exec (.completionTimeout r.id) s = .next ((s.modHost fun h => { h with aerTimeouts := h.aerTimeouts + 1 }).hostError r)) ∧
  (∀ (s : State) (id : Nat) (st : CplStatus) (ep : Bool) (bytes : List Byte), s.host.reads.find? (fun x => x.id = id) = none →
    exec (.hostCompletion id st ep bytes) s = .next s ∧ exec (.completionTimeout id) s = .next s) ∧
  (∀ (s : State) (off : Nat), s.bar4Open = true →
    (s.rst.forced.isSome = true → exec (.bar4Read off) s = .next (s.bar4ReadDone .pathLost [])) ∧
    (∀ d, s.rst.forced = none → s.sourceCheck nodePcie (s.bar4Word off) = .ok d →
      exec (.bar4Read off) s = .next (s.enqueue nodePcie
        { asker := .bar4Read, dest := d, cmd := .read, addr := s.bar4Word off, len := 1 })) ∧
    (∀ st, s.rst.forced = none → s.sourceCheck nodePcie (s.bar4Word off) = .error st →
      exec (.bar4Read off) s =
        .next ((s.niError nodePcie st ((destOf (s.bar4Word off)).getD 0) .read).bar4ReadDone st []))) ∧
  (∀ (s : State) (off : Nat) (be : BitVec 4) (data : W32), s.bar4Open = true →
    (s.lk.owner ≠ 1 → exec (.bar4Write off be data) s = .next (s.modHost fun h =>
      { h with csrErr := h.csrErr ||| 2, dropCnt := satInc h.dropCnt })) ∧
    (s.lk.owner = 1 → be &&& 7 ≠ 7 → exec (.bar4Write off be data) s = .next (s.modMem fun x =>
      { x with b4Drop := satInc x.b4Drop })) ∧
    (s.lk.owner = 1 → be &&& 7 = 7 → s.rst.forced.isSome = true → exec (.bar4Write off be data) s =
      .next (s.niError nodePcie .pathLost ((destOf (s.bar4Word off)).getD 0) .write)) ∧
    (∀ d, s.lk.owner = 1 → be &&& 7 = 7 → s.rst.forced = none → s.sourceCheck nodePcie (s.bar4Word off) = .ok d →
      exec (.bar4Write off be data) s = .next (s.enqueue nodePcie
        { asker := .bar4Write, dest := d, cmd := .write, addr := s.bar4Word off, len := 1,
          words := [{ data := BitVec.ofNat 18 data.toNat }] })) ∧
    (∀ st, s.lk.owner = 1 → be &&& 7 = 7 → s.rst.forced = none → s.sourceCheck nodePcie (s.bar4Word off) = .error st →
      exec (.bar4Write off be data) s = .next (s.niError nodePcie st ((destOf (s.bar4Word off)).getD 0) .write))) ∧
  (∀ (s : State) (off : Nat) (be : BitVec 4) (data : W32), s.bar4Open = false →
    exec (.bar4Read off) s = .next s ∧ exec (.bar4Write off be data) s = .next s)

/-- Leat network events act (R168, R171, R174, R175, R176, R177, R183, R185, R193, R199, R203). -/
def Obligations.LeatEventsAct : Prop :=
  (∀ (s : State) (n : Fin 384), s.nodeStill n = false → s.mayInject n = true →
    (∀ (p : Packet) (l : List Packet), (s.nodeAt n).resp = p :: l →
      exec (.trainInjection n) s = .next ((s.modNode n fun x => { x with resp := l }).inject n p)) ∧
    ((s.nodeAt n).resp = [] → (s.nodeAt n).isolated = true → exec (.trainInjection n) s = .next s) ∧
    (∀ p : Packet, (s.nodeAt n).resp = [] → (s.nodeAt n).isolated = false → s.fbSend n = some p →
      exec (.trainInjection n) s = .next ((s.modNode n fun x =>
        { x with fbOut := x.fbOut.drop 1, fbUsed := x.fbUsed + fbUnits, fbTag := (x.fbTag + 1) % 128 }).inject n
          { p with tag := (s.nodeAt n).fbTag })) ∧
    (∀ r : Request, (s.nodeAt n).resp = [] → (s.nodeAt n).isolated = false → s.fbSend n = none → s.nextSend n = some r →
      exec (.trainInjection n) s = .next (s.sendPiece n r)) ∧
    ((s.nodeAt n).resp = [] → s.fbSend n = none → s.nextSend n = none → exec (.trainInjection n) s = .next s)) ∧
  (∀ (s : State) (n : Fin 384), s.nodeStill n = true ∨ s.mayInject n = false → exec (.trainInjection n) s = .next s) ∧
  (∀ (s : State) (n : Fin 352) (held : BitVec 6), s.nodeStill n = false →
    exec (.weirHop n held) s = .next ((sortBy (fun t : Train => (511 - t.pkt.age) * 8 + t.port)
        (s.leat.net.filter fun t => t.weir = n.val)).foldl (fun (a : State × List Nat) t => a.1.hopOne n t a.2)
      (s.modLeat fun l => { l with net := l.net.filter fun t => t.weir ≠ n.val },
        (if s.columnFull n then [4] else []) ++ (List.range 6).filter fun p => held.getLsbD p)).1) ∧
  (∀ (s : State) (n : Fin 384) (p : Packet), s.nodeStill n = false →
    (s.nodeAt n).rxReq.find? (fun p => p.cmd = .reserved || (s.nodeAt n).inOrder p) = some p →
    (p.cmd = .reserved → ∃ t, exec (.leatRequestReceive n) s = .next t ∧ (t.nodeAt n).rxReq = (s.nodeAt n).rxReq.erase p ∧
      (t.nodeAt n).absCnt = satInc (s.nodeAt n).absCnt ∧ (t.nodeAt n).work = (s.nodeAt n).work) ∧
    (p.cmd ≠ .reserved → exec (.leatRequestReceive n) s = .next ((s.modNode n fun x =>
      { x with rxReq := x.rxReq.erase p }).modNode n fun x =>
        { x with tgt := tmod x.tgt none p.rsv fun o => o.map (TgtRsv.tagDone p.tag), work := x.work ++ [p] }))) ∧
  (∀ (s : State) (n : Fin 384), s.nodeStill n = false →
    (s.nodeAt n).rxReq.find? (fun p => p.cmd = .reserved || (s.nodeAt n).inOrder p) = none →
    exec (.leatRequestReceive n) s = .next s) ∧
  (∀ (s u : State) (n : Fin 384) (p : Packet) (l : List Packet) (r : Request), s.nodeStill n = false →
    (s.nodeAt n).rxResp = p :: l → (s.nodeAt n).reqs.find? (fun r => r.dest = p.src && r.lastTag = some p.tag) = some r →
    u = s.modNode n (fun x =>
      { x with
        rxResp := l, reqs := x.reqs.erase r, inflight := x.inflight - r.units,
        srcs := x.srcs.map fun v => if v.target = r.dest then { v with credit := min v.size (v.credit + r.units) } else v }) →
    (p.status = .ok → exec (.leatResponseReceive n) s = .next (u.finish n r .ok p.words)) ∧
    (p.status ≠ .ok → exec (.leatResponseReceive n) s =
      .next ((u.niError n p.status r.dest r.cmd).finish n r p.status p.words))) ∧
  (∀ (s : State) (n : Fin 384) (p : Packet) (l : List Packet), s.nodeStill n = false → (s.nodeAt n).rxResp = p :: l →
    (s.nodeAt n).reqs.find? (fun r => r.dest = p.src && r.lastTag = some p.tag) = none →
    exec (.leatResponseReceive n) s = .next (s.modNode n fun x => { x with rxResp := l })) ∧
  (∀ (s : State) (n : Fin 384) (p : Packet) (l : List Packet), s.nodeStill n = false → (s.nodeAt n).rxCredit = p :: l →
    (320 ≤ n.val ∨ p.rsv ≠ 0 ∨ p.src ≠ fbTwin n →
      ∃ t, exec (.creditReceive n) s = .next t ∧ (t.nodeAt n).rxCredit = l ∧
        (t.nodeAt n).inflight = (s.nodeAt n).inflight - p.len ∧
        (t.nodeAt n).srcs = (s.nodeAt n).srcs.map (fun v =>
          if v.target = p.src then { v with credit := min v.size (v.credit + p.len) } else v) ∧
        ∀ k, k ≠ n.val → t.nodeAt k = s.nodeAt k) ∧
    (n.val < 320 → p.rsv = 0 → p.src = fbTwin n →
      exec (.creditReceive n) s = .next (s.modNode n fun x => { x with rxCredit := l, fbUsed := x.fbUsed - p.len })))

/-- Reservation, timeout, isolation and route check events act (R182, R184, R190, R191, R193, R196). -/
def Obligations.ReservationAndTimeoutEventsAct : Prop :=
  (∀ (s u : State) (src tgt : Fin 384) (r : Request), s.gated = false → u.wantsRsv src tgt = some r →
    u = (if (s.nodeAt src).retry.contains tgt.val then
      s.modNode src fun x => { x with retry := x.retry.filter (· ≠ tgt.val) } else s) →
    ((u.grant src tgt false).2 = none →
      ((s.nodeAt src).retry.contains tgt.val = false → exec (.reservationRequest src tgt) s = .next (u.grant src tgt false).1) ∧
      ((s.nodeAt src).retry.contains tgt.val = true → exec (.reservationRetry src tgt) s = .next (u.grant src tgt false).1)) ∧
    ((u.grant src tgt false).2 = some .powerPending →
      ((s.nodeAt src).retry.contains tgt.val = false → exec (.reservationRequest src tgt) s =
        .next (((u.grant src tgt false).1.niEvt src 5).failRequest src r .domainOff)) ∧
      ((s.nodeAt src).retry.contains tgt.val = true → exec (.reservationRetry src tgt) s =
        .next (((u.grant src tgt false).1.niEvt src 5).failRequest src r .domainOff))) ∧
    (∀ why, (u.grant src tgt false).2 = some why → why ≠ .powerPending →
      ((s.nodeAt src).retry.contains tgt.val = false → ∃ t, exec (.reservationRequest src tgt) s = .next t ∧
        (t.nodeAt src).retry.contains tgt.val = true) ∧
      ((s.nodeAt src).retry.contains tgt.val = true → ∃ t, exec (.reservationRetry src tgt) s = .next t ∧
        (t.nodeAt src).retry.contains tgt.val = true))) ∧
  (∀ (s : State) (src tgt : Fin 384), s.gated = false →
    (s.nodeAt src).srcs.any (fun x => x.target = tgt.val && !x.standing) = true → s.rsvIdle src tgt = true →
    exec (.reservationIdleRelease src tgt) s = .next ((s.modNode src fun r =>
      { r with srcs := r.srcs.filter fun x => x.target ≠ tgt.val }).modNode tgt fun r =>
        { r with tgt := r.tgt.filter fun e => match e.2 with | some t => decide (t.src ≠ src.val) | none => true })) ∧
  (∀ (s u : State) (src tgt : Fin 384) (tag : Fin 128) (r : Request), s.gated = false →
    (s.nodeAt src).reqs.find? (fun r => decide (r.dest = tgt.val) && decide (r.lastTag = some tag.val)) = some r →
    u = ((s.failRequest src r .targetIsolated).modNode src fun x => { x with tmoCnt := satInc x.tmoCnt }).niEvt src 1 →
    ((u.nodeAt tgt).isolated = true → exec (.responseTimeout src tgt tag) s = .next u) ∧
    ((u.nodeAt tgt).isolated = false → exec (.responseTimeout src tgt tag) s =
      .next (u.modNode tgt fun x => { x with notice := some (src.val, tag.val) }))) ∧
  (∀ (s : State) (n : Fin 384) (src tag : Nat), s.gated = false → (s.nodeAt n).notice = some (src, tag) →
    exec (.isolation n) s = .next (((s.modNode n fun x =>
      { x with isolated := true, notice := none, resp := [] }).log 0x0701 true false (w32 (src + 2 ^ 16 * n)) (w32 tag)
        0).niEvt n 2)) ∧
  (∀ (s u : State), s.leat.arm = true → s.leat.checked = false →
    u = (s.checkStaged.modLeat fun l =>
      { l with checked := true, horizonStg := BitVec.ofNat 24 s.checkStaged.stagedState.computeHorizon.h, armOrigin := none }) →
    (∀ o, s.checkStaged.leat.armOrigin = some o → exec .routeCheckComplete s =
      .next (u.postRecord o stOk [u.commitWord, w32 u.leat.horizonStg.toNat]).commitHeld) ∧
    (s.checkStaged.leat.armOrigin = none → exec .routeCheckComplete s = .next u.commitHeld)) ∧
  (∀ s : State, s.atOnce = false → s.commitHeld = s)

/-- A BAR0 access is answered, applied or dropped as its judgement says (R294, R297). -/
def Obligations.Bar0AccessesAreJudged : Prop :=
  (∀ (s : State) (f : Func) (be : BitVec 4) (off : BitVec 26) (data : W32), s.funcOpen f = true → s.csrJudge f be off.toNat = none →
    exec (.bar0Write f be off data) s = .next (s.regWrite off.toNat data)) ∧
  (∀ (s : State) (f : Func) (be : BitVec 4) (off : BitVec 26) (data : W32) (kind : Nat) (err : BitVec 3), s.funcOpen f = true →
    s.csrJudge f be off.toNat = some (kind, err) →
    exec (.bar0Write f be off data) s = .next { s with host := { s.host with
      csrErr := s.host.csrErr ||| err, dropCnt := satInc s.host.dropCnt, lastOffset := off, lastKind := BitVec.ofNat 2 kind,
      lastFunc := match f with | .pf0 => 0 | .pf1 => 1 } }) ∧
  (∀ (s : State) (f : Func) (be : BitVec 4) (off : Nat),
    (f = .pf1 ∨ (s.lk.owner ≠ 1 ∧ inView off = false) → s.csrJudge f be off = some (2, 2)) ∧
    (f = .pf0 → s.lk.owner = 1 ∨ inView off = true → be ≠ 15 → s.csrJudge f be off = some (3, 4)) ∧
    (f = .pf0 → s.lk.owner = 1 ∨ inView off = true → be = 15 → s.offAt off = true → s.csrJudge f be off = some (1, 1)) ∧
    (f = .pf0 → s.lk.owner = 1 ∨ inView off = true → be = 15 → s.offAt off = false → s.csrJudge f be off = none)) ∧
  (∀ (s : State) (f : Func) (be : BitVec 4) (off : BitVec 26), s.funcOpen f = true →
    (s.offAt off.toNat = true → exec (.bar0ReadOffDomain f be off) s = .next ({ s with host := { s.host with
      csrErr := s.host.csrErr ||| 1, lastOffset := off, lastKind := 0,
      lastFunc := match f with | .pf0 => 0 | .pf1 => 1 } }.emit (.bar0Read f (bytesAsked be 0xFFFFFFFF)))) ∧
    (s.offAt off.toNat = false → exec (.bar0ReadOffDomain f be off) s =
      .next ((s.readLatch off.toNat).emit (.bar0Read f (bytesAsked be (s.regAt f.port off.toNat)))))) ∧
  (∀ (s : State) (f : Func) (be : BitVec 4) (off : BitVec 26) (data : W32), s.funcOpen f = false →
    exec (.bar0Write f be off data) s = .next s ∧ exec (.bar0ReadOffDomain f be off) s = .next s)

/-- The rows of window, memory, Leat, Flume and release registers act (R120, R160, R164, R189, R191, R194, R206, R209, R223, R226, R241, R258). -/
def Obligations.RegisterRowsReachTheirRegisters : Prop :=
  (∀ (s : State) (f : Func) (be : BitVec 4), s.funcOpen f = true →
    exec (.winStampRead f be) s = .next ((s.modWin fun w =>
      { w with stamp1 := s.stamp.words.getD 1 0, stamp2 := s.stamp.words.getD 2 0 }).emit
        (.bar0Read f (bytesAsked be (s.stamp.words.getD 0 0)))) ∧
    exec (.winCntLoRead f be) s = .next ((s.modWin fun w => { w with cntHi := BitVec.ofNat 16 (w.cnt.toNat >>> 32) }).emit
      (.bar0Read f (bytesAsked be (wordOf s.win.cnt 0)))) ∧
    ∀ m : Fin 40, exec (.memLastAddrRead f be m) s = .next ((s.modCtl m fun c =>
      { c with hiLatch := BitVec.ofNat 16 (c.lastAddr.toNat >>> 32) }).emit
        (.bar0Read f (bytesAsked be (wordOf (s.ctlAt m).lastAddr 0))))) ∧
  (∀ (s : State) (v : W32), s.funcOpen .pf0 = true → s.lk.owner = 1 →
    (∀ (m : Fin 40) (u : State), u = s.modCtl m (fun c => { c with patrolEn := v.getLsbD 0 }) →
      exec (.memChFill .pf0 15 m v) s = .next (if v.getLsbD 1 = true ∧ s.windowRunning = false ∧ (u.ctlAt m).present m = true ∧
        (u.ctlAt m).filling = false then u.startFill m else u)) ∧
    (s.domRun 1 = true → ∀ u : State, u = (if v.getLsbD 3 then s.modLeat fun l => { l with swapDone := false } else s) →
      exec (.leatCommitArm .pf0 15 v) s = .next (if v.getLsbD 0 = false then u.stagedWrite
        else if s.leat.arm = true then u
        else u.modLeat fun l =>
          { l with arm := true, checked := false, checkFail := false, horizonStg := 0, armOrigin := none })) ∧
    (s.domRun 1 = true → exec (.leatIsolClr .pf0 15 v) s = .next (s.isolClear (field v 0 9) (v.getLsbD 31)) ∧
      ∀ link : Bool, exec (.leatSvcWrite .pf0 15 link v) s = .next (s.svcWrite link (bitsOf 24 v))) ∧
    exec (.cfgReleaseGo .pf0 15 v) s = .next (if v.getLsbD 0 = true ∧ s.img.stepWait = true then
      s.modImg fun x => { x with go := true, stepWait := false } else s)) ∧
  (∀ (s : State) (c : Fin 32) (v : W32) (u : State), s.funcOpen .pf0 = true → s.lk.owner = 1 → s.domRun 1 = true →
    u = s.modFlmCh c (fun x => { x with run := v.getLsbD 0, halted := x.halted && !v.getLsbD 0 }) →
    exec (.flmChTailWrite .pf0 15 c v) s = .next (s.modFlmCh c fun x => { x with tail := BitVec.ofNat 12 (x.mask (field v 0 12)) }) ∧
    exec (.flmRun .pf0 15 c v) s = .next (if v.getLsbD 1 then u.flmAbort c else u) ∧
    exec (.flmAbort .pf0 15 c v) s = .next (if v.getLsbD 1 then u.flmAbort c else u) ∧
    exec (.flmRingLoWrite .pf0 15 c v) s = .next (if s.flmRingFree c then s.modFlmCh c fun x =>
      { x with ring := (x.ring &&& 0xFFFFFFFF00000000#64) ||| BitVec.ofNat 64 (v.toNat / 64 * 64), head := 0 } else s)) ∧
  (∀ (s : State) (f : Func) (be : BitVec 4) (v : W32) (m : Fin 40) (link : Bool) (c : Fin 32),
    ∀ p ∈ [(0x1000008 + m.val * 0x10000, Instr.memChFill f be m v), (0xE00000, .leatCommitArm f be v),
        (0xE00010, .leatIsolClr f be v), (if link then 0xE0000C else 0xE00008, .leatSvcWrite f be link v),
        (0x400014 + c.val * 0x100, .flmChTailWrite f be c v), (0x400000 + c.val * 0x100, .flmRun f be c v),
        (0x400000 + c.val * 0x100, .flmAbort f be c v), (0x400008 + c.val * 0x100, .flmRingLoWrite f be c v),
        (0x240001C, .cfgReleaseGo f be v)],
      (∀ (kind : Nat) (err : BitVec 3), s.funcOpen f = true → s.csrJudge f be p.1 = some (kind, err) →
        exec p.2 s = .next (s.csrDrop f kind p.1 err)) ∧
      (s.funcOpen f = false → exec p.2 s = .next s ∧ exec (.winStampRead f be) s = .next s ∧
        exec (.winCntLoRead f be) s = .next s ∧ exec (.memLastAddrRead f be m) s = .next s))

/-- The rows of link, clock and power registers act (R270, R291, R396, R408, R412, R420, R437). -/
def Obligations.LinkClockAndPowerRegisterRowsAct : Prop :=
  (∀ (s : State) (i : Fin 16) (v : W32) (u : State), s.funcOpen .pf0 = true → s.lk.owner = 1 →
    u = (if v.getLsbD 0 then
        (if ((s.modLink i fun x => { x with en := true }).linkAt i).st = .disabled ∧ s.released = true then
          (s.modLink i fun x => { x with en := true }).train i else s.modLink i fun x => { x with en := true })
      else s.modLink i fun x => { x with en := false, st := .disabled, active := false }) →
    ∀ i' ∈ [Instr.lnkCtlEn .pf0 15 i v, .lnkCtlRetrain .pf0 15 i v],
      exec i' s = .next (if v.getLsbD 1 = true ∧ (u.linkAt i).st ≠ .disabled then u.train i else u)) ∧
  (∀ (s : State) (v : W32), s.funcOpen .pf0 = true → s.lk.owner = 1 →
    (bitsOf 2 v = 3 → exec (.clkRefSelectWrite .pf0 15 v) s = .next s) ∧
    (∀ r, bitsOf 2 v ≠ 3 → s.clk.inUse = some r → refAllowed (bitsOf 2 v) r = true →
      exec (.clkRefSelectWrite .pf0 15 v) s = .next (s.modClk fun c => { c with select := bitsOf 2 v })) ∧
    (∀ r, bitsOf 2 v ≠ 3 → s.clk.inUse = some r → refAllowed (bitsOf 2 v) r = false → s.clk.valid r.other = true →
      exec (.clkRefSelectWrite .pf0 15 v) s =
        .next ((s.modClk fun c => { c.hold with select := bitsOf 2 v }).refSwitch r.other false)) ∧
    (∀ r, bitsOf 2 v ≠ 3 → s.clk.inUse = some r → refAllowed (bitsOf 2 v) r = false → s.clk.valid r.other = false →
      exec (.clkRefSelectWrite .pf0 15 v) s = .next (s.clkEvt 9)) ∧
    (bitsOf 2 v ≠ 3 → s.clk.inUse = none → ∀ u : State, u = s.modClk (fun c => { c with select := bitsOf 2 v }) →
      exec (.clkRefSelectWrite .pf0 15 v) s = .next (match u.clk.choose (bitsOf 2 v) with
        | some q => if u.clk.sw.any (fun m => m.mux = 0) then u else u.refSwitch q false
        | none => u))) ∧
  (∀ (s : State) (n : Fin 56) (v : W32) (u : State), s.funcOpen .pf0 = true → s.lk.owner = 1 →
    u = (if v.getLsbD 7 then s.modSlc n fun x => { x with fail := false } else s) →
    (10 < n.val ∨ bitsOf 2 v = 3 ∨ (bitsOf 2 v = 0 ∧ (u.slcAt n).req = 0) → exec (.sluiceReqWrite .pf0 15 n v) s = .next u) ∧
    (n.val ≤ 10 → bitsOf 2 v ≠ 3 → ¬(bitsOf 2 v = 0 ∧ (u.slcAt n).req = 0) → exec (.sluiceReqWrite .pf0 15 n v) s =
      .next (if ((u.slcRequest n (bitsOf 2 v)).slcAt n).closing then u.slcRequest n (bitsOf 2 v)
        else (u.slcRequest n (bitsOf 2 v)).slcAnswer n stOk))) ∧
  (∀ (s : State) (v : W32) (u : State), s.funcOpen .pf0 = true → s.lk.owner = 1 →
    u = (if v.getLsbD 1 = true ∧ ¬(s.win.st = .boundary ∧ 6 ≤ s.win.step) then s.sleepWithdraw else s) →
    ∀ i ∈ [Instr.pwrOffReq .pf0 15 v, .pwrCancel .pf0 15 v],
      exec i s = .next (if v.getLsbD 0 = true ∧ u.pwr.dev = .run then u.sleepRequest 3 none else u)) ∧
  (∀ (s : State) (f : Func) (be : BitVec 4) (v : W32) (i : Fin 16) (n : Fin 56),
    ∀ p ∈ [(0x1800000 + i.val * 0x100, Instr.lnkCtlEn f be i v), (0x1800000 + i.val * 0x100, .lnkCtlRetrain f be i v),
        (0x100008, .clkRefSelectWrite f be v), (0x100100 + 4 * n.val, .sluiceReqWrite f be n v), (0x200004, .pwrOffReq f be v),
        (0x200004, .pwrCancel f be v)],
      (∀ (kind : Nat) (err : BitVec 3), s.funcOpen f = true → s.csrJudge f be p.1 = some (kind, err) →
        exec p.2 s = .next (s.csrDrop f kind p.1 err)) ∧
      (s.funcOpen f = false → exec p.2 s = .next s))

/-- Flume engine events act (R209, R211, R214, R216, R217, R218, R219, R220, R222, R223). -/
def Obligations.FlumeEventsAct : Prop :=
  (∀ (s : State) (c : Fin 32), (s.flmAt c).run = true → (s.flmAt c).halted = false → (s.flmAt c).head ≠ (s.flmAt c).tail →
    (s.flmAt c).desc = none → (s.flmAt c).fetching = false → s.flmOpen = true → s.hostOpen = true →
    s.nodeStill nodeFlumeRead = false →
    exec (.descriptorFetch c) s = .next ((s.modFlmCh c fun x => { x with fetching := true }).emit
      (.hostRead (2 ^ 32 + c.val) (((s.flmAt c).ring.toNat + 64 * (s.flmAt c).head.toNat) % 2 ^ 64) 64))) ∧
  (∀ (s : State) (c : Fin 32), (s.flmAt c).run = false ∨ (s.flmAt c).halted = true ∨ (s.flmAt c).head = (s.flmAt c).tail ∨
    (s.flmAt c).desc.isSome = true ∨ (s.flmAt c).fetching = true ∨ s.flmOpen = false ∨ s.hostOpen = false ∨
    s.nodeStill nodeFlumeRead = true → exec (.descriptorFetch c) s = .next s) ∧
  (∀ (s u : State) (c : Fin 32) (words : List W32), (s.flmAt c).fetching = true →
    u = s.modFlmCh c (fun x => { x with fetching := false }) →
    exec (.descriptorArrival c words false) s = .next (u.ringErr c) ∧
    ∀ d : FDesc, d = { raw := words } → words.length = 16 →
      (d.bit 0 = false → exec (.descriptorArrival c words true) s = .next (u.ringErr c)) ∧
      (d.bit 0 = true → d.good = false → exec (.descriptorArrival c words true) s = .next (u.modFlmCh c fun x =>
        { x with desc := some { d with done := some 0x11 }, done := 0, crc := 0 })) ∧
      (d.bit 0 = true → d.good = true → d.overlaps = true → d.circ = true →
        exec (.descriptorArrival c words true) s = .next (u.modFlmCh c fun x =>
          { x with desc := some { d with done := some 0x12 }, done := 0, crc := 0 })) ∧
      (d.bit 0 = true → d.good = true → d.overlaps = false ∨ d.circ = false → ∀ down, down = (d.overlaps && decide (d.src < d.dst)) →
        exec (.descriptorArrival c words true) s = .next (u.modFlmCh c fun x =>
          if d.start = 0 ∧ s.flmOpen = true then
            ({ x with desc := some { d with overlap := d.overlaps, desc := down, cursor := if down then d.len else 0 },
                      done := 0, crc := 0 } : FChan).startDesc
          else { x with desc := some { d with overlap := d.overlaps, desc := down, cursor := if down then d.len else 0 },
                        done := 0, crc := 0 }))) ∧
  (∀ (s : State) (c : Fin 32) (words : List W32) (good : Bool), (s.flmAt c).fetching = false →
    exec (.descriptorArrival c words good) s = .next s) ∧
  (∀ (s : State) (c : Nat) (d : FDesc) (a n : Nat), s.flmOpen = true → s.nodeStill nodeFlumeRead = false →
    roundRobin s.flm.rdPtr.toNat (fun c => s.flmReadable c && s.flmReadCovered c) = some c → (s.flmAt c).desc = some d →
    d.nextBurst = some (a, n) →
    exec .readArbiterGrant s = .next (((s.modFlm fun f => { f with rdPtr := BitVec.ofNat 5 (c + 1) }).modFlmCh c fun x =>
      { x with desc := some { d with cursor := if d.desc then a else a + n } }).flmReadBurst c
        { d with cursor := if d.desc then a else a + n } a n)) ∧
  (∀ (s : State) (c : Nat) (d : FDesc) (b : FBurst), s.flmOpen = true → s.nodeStill nodeFlumeWrite = false →
    roundRobin s.flm.wrPtr.toNat (fun c => (s.flmAt c).desc.isSome && (s.flmAt c).nextWrite.isSome && s.flmWriteCovered c) = some c →
    (s.flmAt c).desc = some d → (s.flmAt c).nextWrite = some b →
    exec .writeArbiterGrant s = .next ((s.modFlm fun f => { f with wrPtr := BitVec.ofNat 5 (c + 1) }).flmWriteBurst c d b)) ∧
  (∀ s : State,
    (s.flmOpen = false ∨ s.nodeStill nodeFlumeRead = true ∨
      roundRobin s.flm.rdPtr.toNat (fun c => s.flmReadable c && s.flmReadCovered c) = none → exec .readArbiterGrant s = .next s) ∧
    (s.flmOpen = false ∨ s.nodeStill nodeFlumeWrite = true ∨
      roundRobin s.flm.wrPtr.toNat (fun c => (s.flmAt c).desc.isSome && (s.flmAt c).nextWrite.isSome && s.flmWriteCovered c) = none →
      exec .writeArbiterGrant s = .next s)) ∧
  (∀ (s u : State) (c : Fin 32) (d : FDesc) (st : Nat), s.nodeStill nodeFlumeWrite = false → (s.flmAt c).desc = some d →
    d.done = some st → u = s.flmWriteback c st d →
    ((u.flmAt c).desc = none ∧ (u.flmAt c).cnt = (s.flmAt c).cnt + 1 ∧
      (u.flmAt c).head = BitVec.ofNat 12 ((s.flmAt c).mask ((s.flmAt c).head.toNat + 1)) ∧
      (u.flmAt c).lastStatus = BitVec.ofNat 8 st) ∧
    (st = 0 → ∀ v w : State, v = (if d.evtFab then u.modFlmCh c fun x => { x with evtPend := true } else u) →
      w = (if d.evtTrig then v.flmTrigger d.trigCh else v) →
      exec (.descriptorWriteback c) s = .next (if d.aborting then (w.modFlmCh c fun x => { x with halted := true }).flmEvt c 2 else w)) ∧
    (st = 0x11 ∨ st = 0x12 → exec (.descriptorWriteback c) s = .next
      (if d.aborting then (u.modFlmCh c fun x => { x with halted := true }).flmEvt c 2 else u)) ∧
    (st = 0x10 → exec (.descriptorWriteback c) s = .next ((u.modFlmCh c fun x => { x with halted := true }).flmEvt c 2)) ∧
    (st ≠ 0 → st ≠ 0x10 → st ≠ 0x11 → st ≠ 0x12 → ∀ v : State, v = (u.modFlmCh c fun x => { x with halted := true }).flmEvt c 1 →
      exec (.descriptorWriteback c) s = .next (if d.aborting then v.flmEvt c 2 else v)))

/-- Image load, apply and check events act (R231, R239, R241, R243, R244, R246, R248, R249, R253, R254). -/
def Obligations.ConfigurationEventsAct : Prop :=
  (∀ (s : State) (l : Load), s.img.load = some l →
    exec .fullLoadComplete s = .next (if s.bankCheck l.bank = 0 then s.loadDone l else s.loadFails l (s.bankCheck l.bank)).afterLoad ∧
    exec .applyFail s = .next (s.loadFails l (if s.bankCheck l.bank = 0 then 5 else s.bankCheck l.bank)).afterLoad) ∧
  (∀ (s : State) (a : Apply), s.img.app = some a →
    (a.reload = true → exec .partialApplyComplete s = .next (s.applyReloaded a).afterLoad) ∧
    (a.reload = false → ∀ p, (s.img.bank s.img.act).pendingPatch = some p → exec .partialApplyComplete s = .next
      (if s.imgCheck p.img (some true) [1, 2, 3, 4, 5, 9] = 0 then s.applyDone a else s.applyFails a).afterLoad) ∧
    (s.img.load = none → exec .applyFail s = .next (if a.reload then s.reloadFails a 5 else s.applyFails a).afterLoad)) ∧
  (∀ s : State, (s.img.load = none → exec .fullLoadComplete s = .next s) ∧
    (s.img.app = none → exec .partialApplyComplete s = .next s) ∧
    (s.img.load = none → s.img.app = none → exec .applyFail s = .next s)) ∧
  (∀ (s u : State) (p : PendOp), s.img.pend = some p → u = s.modImg (fun x =>
      { x with pend := some { p with copied := true, missed := decide (s.win.st = .boundary ∧ 6 ≤ s.win.step) } }) →
    exec .patchCopyComplete s = .next (if p.kind = .partialCommit ∧ p.copied = false then
      (if p.atStart then u.startUp else u.applyPend) else s)) ∧
  (∀ s : State, s.img.pend = none → exec .patchCopyComplete s = .next s) ∧
  (∀ (s : State) (vccio : List Nat),
    (s.mayRelease = false ∨ (s.img.stepAt s.img.steps = 1 ∧ s.tapDrives = true) → exec (.releaseStep vccio) s = .next s) ∧
    (s.mayRelease = true → ¬(s.img.stepAt s.img.steps = 1 ∧ s.tapDrives = true) →
      (s.img.manual.getLsbD s.img.steps = false ∨ s.img.go = true → exec (.releaseStep vccio) s = .next (s.releaseStep vccio)) ∧
      (s.img.manual.getLsbD s.img.steps = true → s.img.go = false → exec (.releaseStep vccio) s =
        .next (if s.img.stepWait then s else (s.modImg fun x => { x with stepWait := true }).cfgEvt 8)))) ∧
  (∀ (s : State) (o : Origin) (row : Nat), s.img.readback = some o → row = s.imgCheck (s.img.bank s.img.stg).base none rowsStaged →
    ∀ u : State, u = s.modImg (fun x => { x with readback := none, stgValid := decide (row = 0) }) →
      exec .stageReadbackComplete s = .next ((if row = 0 then u.setMark s.img.stg true else u.sigFail s.img.stg row).postRecord o
        (rowStatus row) [(if row = 0 then u.setMark s.img.stg true else u.sigFail s.img.stg row).cfgSlots])) ∧
  (∀ (s : State) (o : Origin) (role row : Nat), s.img.verify = some (o, role) → row = s.verifyRow role →
    ∀ u : State, u = s.modImg (fun x => { x with verify := none }) →
      exec .verifyComplete s = .next ((((if row = 0 then u else u.sigFail (s.img.roleBank role) row).setMark (s.img.roleBank role)
        (decide (row = 0))).cfgEvt 7).postRecord o stOk [w32 row, w32 (rowStatus row)])) ∧
  (∀ s : State, (s.img.readback = none → exec .stageReadbackComplete s = .next s) ∧
    (s.img.verify = none → exec .verifyComplete s = .next s))

/-- Configuration scrubber events act (R253, R254, R255, R256, R257, R258). -/
def Obligations.ScrubberEventsAct : Prop :=
  (∀ s : State, s.img.scrubEn = true → s.img.halted = false → s.scrubPaused = false →
    ((∃ a, s.img.app = some a ∧ inRects a.rects (s.img.sweepPos / 257) = true) ∨ s.bistPlot (s.img.sweepPos / 257) = true →
      exec .scrubFrameRead s = .next s.sweepNext) ∧
    ((∀ a, s.img.app = some a → inRects a.rects (s.img.sweepPos / 257) = false) → s.bistPlot (s.img.sweepPos / 257) = false →
      (tget s.img.crc none s.img.sweepPos = some (w32 (frameCrc32 s.img.sweepPos (s.frameNow s.img.sweepPos))) →
        exec .scrubFrameRead s = .next (s.modImg fun x =>
          { x with reported := x.reported.filter (· ≠ s.img.sweepPos) }).sweepNext) ∧
      (tget s.img.crc none s.img.sweepPos ≠ some (w32 (frameCrc32 s.img.sweepPos (s.frameNow s.img.sweepPos))) →
        ∀ u : State, u = s.modImg (fun x => { x with mismatch := satInc x.mismatch, last := frameAddr s.img.sweepPos }) →
        (s.img.repairEn = true → exec .scrubFrameRead s = .next (u.modImg fun x =>
          { x with fixes := if x.fixes.any (fun r => r.frame = s.img.sweepPos) then x.fixes
                            else x.fixes ++ [{ frame := s.img.sweepPos }] }).sweepNext) ∧
        (s.img.repairEn = false → exec .scrubFrameRead s = .next (if s.img.reported.contains s.img.sweepPos then u else
          ((u.log 0x0909 true false (frameAddr s.img.sweepPos) 0 0).cfgEvt 10).modImg fun x =>
            { x with reported := s.img.sweepPos :: x.reported }).sweepNext)))) ∧
  (∀ s : State, s.img.scrubEn = false ∨ s.img.halted = true ∨ s.scrubPaused = true → exec .scrubFrameRead s = .next s ∧
    exec .scrubWdog s = .next s) ∧
  (∀ (s u : State) (r : Repair) (bad : Bool), s.img.fixes.find? (fun r => !r.arrived) = some r →
    u = s.modImg (fun x => { x with fixes := x.fixes.filter fun y => y.frame ≠ r.frame }) →
    (s.frameLoads r.frame = true → exec (.repairFrameArrival bad) s = .next u) ∧
    (s.frameLoads r.frame = false → bad = true →
      exec (.repairFrameArrival bad) s = .next (u.log 0x0905 false false (frameAddr r.frame) 0 0)) ∧
    (s.frameLoads r.frame = false → bad = false → exec (.repairFrameArrival bad) s = .next
      (if s.repairNow r.frame then s.repairFrame r.frame else s.modImg fun x =>
        { x with fixes := x.fixes.map fun y => if y.frame = r.frame then { y with arrived := true } else y }))) ∧
  (∀ (s : State) (bad : Bool), s.img.fixes.find? (fun r => !r.arrived) = none → exec (.repairFrameArrival bad) s = .next s) ∧
  (∀ (s u : State) (halt : Bool), s.img.scrubEn = true → s.img.halted = false → s.scrubPaused = false → s.lk.inService = true →
    halt = decide (3 ≤ s.img.wdogRun + 1) →
    u = s.modImg (fun x => { x with wdog := satInc x.wdog, wdogRun := x.wdogRun + 1, sweepPos := 0, halted := halt }) →
    exec .scrubWdog s = .next ((u.log 0x0907 true halt (w32 u.img.wdog.toNat) 0 0).cfgEvt 6)) ∧
  (∀ s : State, s.lk.inService = false → exec .scrubWdog s = .next s)

/-- Lane and link events act (R262, R264, R266, R267, R268, R269, R270, R274, R276, R278, R280). -/
def Obligations.LaneEventsAct : Prop :=
  (∀ (s : State) (g : Fin 16) (tx : Bool) (os : List LaneObs), exec (.laneDirectionFailing g tx os) s =
    .next ((sortBy (fun (o : LaneObs) => o.lane.val) os).foldl (fun (s : State) o => s.laneJudge g tx o) s)) ∧
  (∀ (s : State) (g : Fin 16) (o : LaneObs),
    (o.driver = true → exec (.laneDirectionFailing g true [o]) s = .next (s.laneFail g o.lane true)) ∧
    (o.driver = false → exec (.laneDirectionFailing g true [o]) s = .next s) ∧
    exec (.laneDirectionFailing g false [o]) s = .next (s.laneHear g o)) ∧
  (∀ (s : State) (i : Fin 16), exec (.linkDown i) s = .next (s.linkDown i) ∧
    exec (.replayTimeout i) s = .next (if (s.linkAt i).isUp then s.resendAll i else s)) ∧
  (∀ (s u : State) (g : Fin 16) (l : Fin 9) (payload : BitVec 64),
    (startField payload 0 8 = 0x1E ∨ startField payload 0 8 = 0x78 ∨ startField payload 0 8 = 0x87 →
      exec (.alignBlockReceive g l payload) s = .next s) ∧
    (startField payload 0 8 ≠ 0x1E → startField payload 0 8 ≠ 0x78 → startField payload 0 8 ≠ 0x87 → startField payload 0 8 ≠ 0x4B →
      exec (.alignBlockReceive g l payload) s = .next (s.laneBad g l 1)) ∧
    (startField payload 0 8 = 0x4B → u = s.modGroup g (fun x =>
        { x with lock := x.lock ||| (1#9 <<< l.val), align := tset x.align none l (some payload) }) →
      (l.val = 8 → exec (.alignBlockReceive g l payload) s = .next
        (if payload.getLsbD 15 = true ∧ (u.groupAt g).rx.spare = .shadowing ∧ (u.groupAt g).rx.taken = false ∧
            (u.groupAt g).rx.lane = startField payload 12 3 then
          (u.modHalf g false fun h => { h with taken := true }).laneShadowed g (u.groupAt g).rx.lane false else u)) ∧
      (l.val ≠ 8 → exec (.alignBlockReceive g l payload) s = .next (match u.linkOfLane g l with
        | some i => u.modLink i fun x => { x with partnerDev := BitVec.ofNat 5 (startField payload 16 5),
                                                  partnerLink := BitVec.ofNat 4 (startField payload 21 4) }
        | none => u)))) ∧
  (∀ (s : State) (i : Fin 16) (fill : Nat),
    ((s.linkAt i).isUp = true → (s.linkAt i).plesio = true → 12 < fill ∨ fill < 4 →
      exec (.idleColumnAdjust i fill) s = .next (s.modLink i fun x => { x with fillCnt := satInc x.fillCnt })) ∧
    ((s.linkAt i).isUp = false ∨ (s.linkAt i).plesio = false ∨ (4 ≤ fill ∧ fill ≤ 12) →
      exec (.idleColumnAdjust i fill) s = .next s)) ∧
  (∀ (s : State) (g : Fin 16) (n : Nat), n = (s.groupAt g).pllNo g →
    ((s.groupAt g).pll = 3 → exec (.lanePllUnlock g) s = .next s) ∧
    ((s.groupAt g).pll ≠ 3 → exec (.lanePllUnlock g) s = .next ((((s.modClk fun c =>
      { c with lock := c.lock &&& ~~~(1#25 <<< n) }).log 0x0C05 true false (w32 n) 0 0).clkEvt 4).groupUnlock g))) ∧
  (∀ (s : State) (g : Fin 16),
    (∀ k, s.freeStandbys.head? = some k → (s.groupAt g).sought = true → exec (.standbyPllTakeover g) s =
      .next ((s.modGroup g fun x => { x with pll := BitVec.ofNat 2 (1 + k), sought := false }).log 0x0A06 false false (w32 g) 0 0)) ∧
    (s.freeStandbys = [] ∨ (s.groupAt g).sought = false → exec (.standbyPllTakeover g) s = .next s)) ∧
  (∀ (s u v : State) (i : Fin 16) (o : LinkObs), (s.linkAt i).en = true → (s.linkAt i).valid = true →
    (s.linkAt i).st = .training ∨ (s.linkAt i).st = .down → s.domRun (20 + (s.linkAt i).group) = true →
    (s.groupAt (s.linkAt i).group).pll ≠ 3 → u = s.setLanes (s.linkAt i).group o.eyes →
    v = u.modLink i (fun x => { x with skew := BitVec.ofNat 6 (min o.skew 63) }) →
    ((s.linkAt i).tolerance < o.ppm → exec (.linkUp i o) s = .next (u.linkEvt i 8)) ∧
    (o.ppm ≤ (s.linkAt i).tolerance → u.aligned i = false → exec (.linkUp i o) s = .next u) ∧
    (o.ppm ≤ (s.linkAt i).tolerance → u.aligned i = true →
      (32 < o.skew → exec (.linkUp i o) s = .next (v.linkEvt i 6)) ∧
      (o.skew ≤ 32 → v.partnerOk i = false → exec (.linkUp i o) s = .next (v.linkEvt i 7)) ∧
      (o.skew ≤ 32 → v.partnerOk i = true → ∀ w : State, w = (v.modLink i fun x =>
          { x with st := .up, active := true, nbSlotOut := o.slotOut, resend := x.replay.length, tries := 0, ctrlDue := true,
                   mgmtQ := x.mgmtQ ++ [.slotOut (BitVec.ofNat 16 x.slotOutBits)] }).linkEvt i 5 →
        (w.lnk.array = .joined → ∀ d, o.ident = some d → d ≠ w.lnk.ident → exec (.linkUp i o) s =
          .next ((w.log 0x0A0A true false (w32 i) (w32 w.lnk.startDev.toNat) 0).linkEvt i 9)) ∧
        (w.lnk.array ≠ .joined ∨ o.ident = none ∨ o.ident = some w.lnk.ident → exec (.linkUp i o) s = .next w)))) ∧
  (∀ (s : State) (i : Fin 16) (o : LinkObs), (s.linkAt i).en = false ∨ (s.linkAt i).valid = false ∨
    ((s.linkAt i).st ≠ .training ∧ (s.linkAt i).st ≠ .down) ∨ s.domRun (20 + (s.linkAt i).group) = false ∨
    (s.groupAt (s.linkAt i).group).pll = 3 → exec (.linkUp i o) s = .next s)

/-- FRAME_SEND takes replay, CTRL, SLOT, MGMT, TXN in this order (R265, R267, R272, R274, R275). -/
def Obligations.FramesAreSentInOrder : Prop :=
  ∀ (s u : State) (i : Fin 16) (o : SendObs), u = s.sendFill i o →
    ((s.linkAt i).valid = false ∨ s.domRun (20 + (s.linkAt i).group) = false → u = s) ∧
    ((s.linkAt i).valid = true → s.domRun (20 + (s.linkAt i).group) = true → ∀ v : State,
      v = (if o.align then s.sendAlign i else s) → u = (if o.idle = true ∧ (v.linkAt i).plesio = true then v.emit (.linkIdle i) else v)) ∧
    ((u.linkAt i).isUp = false → exec (.frameSend i o) s = .next u) ∧
    ((u.linkAt i).isUp = true →
      (0 < (u.linkAt i).resend → exec (.frameSend i o) s = .next (u.sendReplay i)) ∧
      ((u.linkAt i).resend = 0 → 256 ≤ (u.linkAt i).replay.length → exec (.frameSend i o) s = .next u) ∧
      ((u.linkAt i).resend = 0 → (u.linkAt i).replay.length < 256 →
        (u.ctrlPending i = true → exec (.frameSend i o) s = .next (u.sendCtrl i)) ∧
        (∀ (v : SlotVal) (l : List SlotVal), u.ctrlPending i = false → (u.linkAt i).slotQ = v :: l →
          exec (.frameSend i o) s = .next ((u.modLink i fun x => { x with slotQ := l }).sendFrame i kindSlot
            (packSlot (slotBits u.fab.turnLen (u.linkAt i).slotOutBits v.strand).length v.bits)
            (2 ^ 42 * (v.turn % 2 ^ 16) + 2 ^ 58 * v.strand) none)) ∧
        (∀ (ws : List W32) (l : List Mgmt), u.ctrlPending i = false → (u.linkAt i).slotQ = [] →
          (u.linkAt i).mgmtQ = .words ws :: l →
          exec (.frameSend i o) s = .next ((u.modLink i fun x =>
            { x with mgmtQ := if 64 < ws.length then .words (ws.drop 64) :: l else l }).sendFrame i kindMgmt
            (packWords (ws.take 64)) 0 none)) ∧
        (∀ (m : Mgmt) (l : List Mgmt), u.ctrlPending i = false → (u.linkAt i).slotQ = [] → (u.linkAt i).mgmtQ = m :: l →
          m = .go ∨ (∃ b, m = .slotOut b) →
          exec (.frameSend i o) s = .next ((u.modLink i fun x => { x with mgmtQ := l }).sendFrame i kindMgmt [0] 0 (some m))) ∧
        (∀ (p : TxnPkt) (l : List TxnPkt), u.ctrlPending i = false → (u.linkAt i).slotQ = [] → (u.linkAt i).mgmtQ = [] →
          (u.linkAt i).txnQ = p :: l → exec (.frameSend i o) s =
            .next (if 0 < p.sent ∨ p.pkt.units.length ≤ (u.linkAt i).credit then u.sendTxn i p else u.sendCtrl i)) ∧
        (u.ctrlPending i = false → (u.linkAt i).slotQ = [] → (u.linkAt i).mgmtQ = [] → (u.linkAt i).txnQ = [] →
          exec (.frameSend i o) s = .next (u.sendCtrl i))))

/-- A received frame is accepted exactly once and in order (R273, R274). -/
def Obligations.AFrameIsAcceptedOnceAndInOrder : Prop :=
  (∀ (s u : State) (i : Nat) (f : RxFrame) (d : Nat), (s.linkAt i).isUp = true → f.bad = [] → frameKind f.start ≤ 3 →
    f.data.length = frameLen f.start → f.crc = frameCrc f.start f.data → d = (frameSeq f.start - (s.linkAt i).rxSeq).toNat →
    u = s.modLink i (fun x => { (x.acked (frameAck f.start)) with rxSeq := frameSeq f.start }) →
    (d = 1 → s.acceptFrame i f = (if frameNak f.start then u.resendAll i else u, true)) ∧
    (d = 0 ∨ 2048 ≤ d → s.acceptFrame i f = (s, false)) ∧
    (1 < d → d < 2048 → s.acceptFrame i f = (s.modLink i fun x => { x with crcCnt := satInc x.crcCnt, nak := true }, false))) ∧
  (∀ (s u : State) (i : Nat) (f : RxFrame),
    u = f.bad.foldl (fun (u : State) l => u.laneBad (s.linkAt i).group l 1) s →
    ((s.linkAt i).isUp = false → s.acceptFrame i f = (u, false)) ∧
    ((s.linkAt i).isUp = true →
      f.bad ≠ [] ∨ 3 < frameKind f.start ∨ f.data.length ≠ frameLen f.start ∨ f.crc ≠ frameCrc f.start f.data →
      s.acceptFrame i f = (u.modLink i fun x => { x with crcCnt := satInc x.crcCnt, nak := true }, false))) ∧
  (∀ (s : State) (i : Fin 16) (f : RxFrame), (s.acceptFrame i f).2 = false →
    exec (.slotFrameReceive i f) s = .next (s.acceptFrame i f).1 ∧ exec (.ctrlFrameReceive i f) s = .next (s.acceptFrame i f).1 ∧
    exec (.txnFrameReceive i f) s = .next (s.acceptFrame i f).1 ∧ exec (.startReceive i f) s = .next (s.acceptFrame i f).1 ∧
    exec (.startAckReceive i f) s = .next (s.acceptFrame i f).1 ∧ exec (.goReceive i f) s = .next (s.acceptFrame i f).1 ∧
    exec (.mgmtCommand i f) s = .next (s.acceptFrame i f).1 ∧ exec (.mgmtReply i f) s = .next (s.acceptFrame i f).1 ∧
    exec (.mgmtRecord i f) s = .next (s.acceptFrame i f).1)

/-- Accepted frames and Gwynior events act (R272, R273, R276, R279, R280, R283, R284, R286, R287, R330, R352). -/
def Obligations.ReceivedFramesAct : Prop :=
  (∀ (s u : State) (i : Fin 16) (f : RxFrame), s.acceptFrame i f = (u, true) →
    (frameKind f.start ≠ kindSlot → exec (.slotFrameReceive i f) s = .next u) ∧
    (frameKind f.start ≠ kindCtrl → exec (.ctrlFrameReceive i f) s = .next u) ∧
    (frameKind f.start ≠ kindTxn → exec (.txnFrameReceive i f) s = .next u) ∧
    (frameKind f.start = kindSlot →
      (startField f.start 42 16 = (u.linkAt i).slotTurn % 2 ^ 16 → startField f.start 58 3 = (u.linkAt i).slotStrand →
        ∀ t : State, t = u.modLink i (fun x =>
          { x with slotIn := x.slotIn ++ [{ turn := x.slotTurn, strand := x.slotStrand, bits := blocksNat f.data % 2 ^
                     (slotBits u.fab.turnLen (u.linkAt i).slotInBits (u.linkAt i).slotStrand).length }],
                   slotTurn := (u.nextSlot i).1, slotStrand := (u.nextSlot i).2 }) →
        exec (.slotFrameReceive i f) s = .next (if t.slotsReady then t.modWin fun w => { w with slotWait := false } else t)) ∧
      (startField f.start 42 16 ≠ (u.linkAt i).slotTurn % 2 ^ 16 ∨ startField f.start 58 3 ≠ (u.linkAt i).slotStrand →
        exec (.slotFrameReceive i f) s = .next (((u.log 0x0A08 true true (w32 i) (w32 (u.linkAt i).slotTurn) 0).linkEvt i
          10).modLnk fun l => { l with seqDue := true }))) ∧
    (frameKind f.start = kindCtrl →
      (f.data.length < 2 → exec (.ctrlFrameReceive i f) s = .next u) ∧
      (∀ (b0 b1 : BitVec 64) (es : List (BitVec 64)) (v w : State), f.data = b0 :: b1 :: es → v = (u.modLink i fun x =>
          { x with nbTurn := BitVec.ofNat 32 (startField b0 0 32), nbSeen := true, nbWcnt := BitVec.ofNat 16 (startField b0 32 16),
                   credit := min 4096 (x.credit + startField b1 0 16), drained := x.drained || b1.getLsbD 16 }).takeMcnt
          (BitVec.ofNat 16 (startField b0 48 16)) →
        w = (if b1.getLsbD 20 then v.laneFail (v.linkAt i).group (startField b1 17 3) true else v) →
        exec (.ctrlFrameReceive i f) s = .next ((es.take (startField b1 24 8)).foldl (fun s b => s.takeEntry b) w))) ∧
    (frameKind f.start = kindTxn → ∀ (us : List (BitVec 144)) (part : Nat), part = startField f.start 42 2 →
      us = (if part = 0 ∨ part = 1 then unpackUnits f.data else (u.linkAt i).txnIn ++ unpackUnits f.data) →
      (part = 1 ∨ part = 2 → exec (.txnFrameReceive i f) s = .next (u.modLink i fun x => { x with txnIn := us })) ∧
      (part = 0 ∨ part = 3 → exec (.txnFrameReceive i f) s = .next ((u.modLink i fun x => { x with txnIn := [] }).txnArrive i
        (packetOf us) (startField f.start 44 2) (f.start.getLsbD 46)))) ∧
    (frameKind f.start = kindMgmt ∧ u.lnk.array = .exchanging ∧ u.lnk.gone = false ∧ u.lnk.startLink.isSome = true →
      exec (.goReceive i f) s = .next (u.flood .go (some i.val)).go) ∧
    (¬(frameKind f.start = kindMgmt ∧ u.lnk.array = .exchanging ∧ u.lnk.gone = false ∧ u.lnk.startLink.isSome = true) →
      exec (.goReceive i f) s = .next u)) ∧
  (∀ (s u : State) (i : Fin 16) (f : RxFrame) (m : Option (List W32)), s.mgmtTake i f = (u, m) →
    (m = none → exec (.startReceive i f) s = .next u ∧ exec (.startAckReceive i f) s = .next u ∧
      exec (.mgmtCommand i f) s = .next u ∧ exec (.mgmtReply i f) s = .next u ∧ exec (.mgmtRecord i f) s = .next u) ∧
    (∀ ws, m = some ws →
      (mgmtType ws ≠ 1 ∨ (ws.getD 2 0 = u.lnk.ident ∧ u.lnk.array ≠ .alone) → exec (.startReceive i f) s = .next u) ∧
      (mgmtType ws = 1 → ws.getD 2 0 ≠ u.lnk.ident ∨ u.lnk.array = .alone →
        (u.lnk.array = .joined → u.windowRunning = true → exec (.startReceive i f) s =
          .next ((u.log 0x0A0A true false (w32 i) (w32 (ws.getD 1 0).toNat) 0).linkEvt i 9)) ∧
        (u.lnk.array = .exchanging → exec (.startReceive i f) s = .next (if (ws.getD 1 0).toNat < u.lnk.startDev.toNat then
            ((u.arrayIncomplete 0).log 0x0A09 false false (w32 ((u.lnk.startLink).getD 0)) (w32 u.lnk.startDev.toNat) 0).takeStart i ws
          else u.log 0x0A09 false false (w32 i) (w32 (ws.getD 1 0).toNat) 0)) ∧
        (u.lnk.array ≠ .exchanging → ¬(u.lnk.array = .joined ∧ u.windowRunning = true) →
          exec (.startReceive i f) s = .next (u.takeStart i ws))) ∧
      (mgmtType ws ≠ 2 ∨ ws.getD 2 0 ≠ u.lnk.ident ∨ (u.lnk.startOrigin = none ∧ u.lnk.startLink = none) →
        exec (.startAckReceive i f) s = .next u) ∧
      (mgmtType ws = 2 → ws.getD 2 0 = u.lnk.ident →
        (u.lnk.startOrigin.isSome = true → exec (.startAckReceive i f) s = .next (u.modLnk fun x => { x with acks := x.acks ++
          [{ dev := field (ws.getD 1 0) 0 5, reason := field (ws.getD 3 0) 0 4, neighbours := ws.getD 5 0 }] }).startDecide) ∧
        (∀ k, u.lnk.startOrigin = none → u.lnk.startLink = some k → exec (.startAckReceive i f) s = .next (u.modLink k fun x =>
          { x with mgmtQ := x.mgmtQ ++ [.words (startWord 2 (field (ws.getD 0 0) 8 8 + 1) 8 :: ws.drop 1)] }))) ∧
      (∀ w l, ws = w :: l →
        (mgmtType ws = 0x10 → u.lk.array.held = none →
          exec (.mgmtCommand i f) s = .next (u.modPort .array fun x => { x.hold l with link := i.val })) ∧
        (mgmtType ws = 0x10 → u.lk.array.held.isSome = true → ∀ r, r = replyWords u (l.getD 1 0) stBusy false true [] →
          exec (.mgmtCommand i f) s = .next (u.modLink i fun x =>
            { x with mgmtQ := x.mgmtQ ++ [.words (mgmtWord 0x11 r.length :: r)] })) ∧
        (mgmtType ws ≠ 0x10 → exec (.mgmtCommand i f) s = .next u) ∧
        (∀ fw, mgmtType ws = 0x11 → u.lk.forwards.find? (fun x => x.link = i.val && !x.replied) = some fw →
          exec (.mgmtReply i f) s = .next (u.forwarded fw (decide (field (l.headD 0) 0 16 = stAccepted)) l)) ∧
        (mgmtType ws ≠ 0x11 ∨ u.lk.forwards.find? (fun x => x.link = i.val && !x.replied) = none →
          exec (.mgmtReply i f) s = .next u) ∧
        (∀ fw, mgmtType ws = 0x12 → u.lk.forwards.find? (fun x => x.link = i.val && x.replied) = some fw →
          exec (.mgmtRecord i f) s = .next (u.forwarded fw false l)) ∧
        (mgmtType ws ≠ 0x12 ∨ u.lk.forwards.find? (fun x => x.link = i.val && x.replied) = none →
          exec (.mgmtRecord i f) s = .next u)))) ∧
  (∀ (s : State) (i : Fin 16), (∀ fw, s.lk.forwards.find? (fun x => x.link = i.val && !x.replied) = some fw →
      exec (.forwardTimeout i) s = .next ((s.modLk fun k => { k with forwards := k.forwards.erase fw }).postRecord fw.origin
        stHwFault [])) ∧
    (s.lk.forwards.find? (fun x => x.link = i.val && !x.replied) = none → exec (.forwardTimeout i) s = .next s)) ∧
  (∀ s : State, (s.lnk.array = .exchanging → exec .arrayStartTimeout s =
      .next (s.arrayIncomplete (((s.lnk.acks.find? fun a => a.reason ≠ 0).map (·.reason)).getD 0))) ∧
    (s.lnk.array ≠ .exchanging → exec .arrayStartTimeout s = .next s)) ∧
  (∀ (s : State) (i : Fin 16),
    (∀ p l, s.nodeStill (nodeLink i) = false → (s.nodeAt (nodeLink i)).work = p :: l →
      exec (.gwyniorEndpointRequest i) s = .next ((s.modNode (nodeLink i) fun x => { x with work := l }).modLink i fun x =>
        { x with txnQ := x.txnQ ++ [{ pkt := p, origin := originOf p, resp := false }], asked := x.asked ++ [p] })) ∧
    (s.nodeStill (nodeLink i) = true ∨ (s.nodeAt (nodeLink i)).work = [] → exec (.gwyniorEndpointRequest i) s = .next s))

/-- PCI Express endpoint events act (R292, R296, R297, R314, R448). -/
def Obligations.EndpointEventsAct : Prop :=
  (∀ (s : State) (k : PcieReset), exec (.pcieReset k) s = .next ((s.endpointReset.modHost fun h =>
    { h with perst := h.perst || decide (k = .perst) }).log 0x1005 false false
      (match k with | .perst => 0 | .hot => 1 | .linkDisable => 2) 0 0)) ∧
  (∀ (s : State) (f : Func), exec (.functionLevelReset f) s = .next (((s.modFunc f fun _ => {}).mailboxReset f.port).log 0x1005
    false false (match f with | .pf0 => 3 | .pf1 => 4) 0 0)) ∧
  (∀ (s : State) (f : Func), exec (.d3hotEntry f) s = .next (s.modFunc f fun x => { x with d3hot := true })) ∧
  (∀ s : State, (∀ f, (s.host.func f).d3hot = false → exec (.d3hotExit f) s = .next s) ∧
    ((s.host.func .pf1).d3hot = true → exec (.d3hotExit .pf1) s = .next ((s.modFunc .pf1 fun x => { x with d3hot := false }).sendPending .pf1)) ∧
    ((s.host.func .pf0).d3hot = true → ∀ u : State, u = (s.modFunc .pf0 fun x => { x with d3hot := false }).sendPending .pf0 →
      exec (.d3hotExit .pf0) s = .next (if u.pwr.dev = .off then u else u.wakeBy 1 none))) ∧
  (∀ s : State, (s.pwr.dev ≠ .off → exec .perstNRelease s = .next (s.modHost fun h => { h with perst := false })) ∧
    (s.pwr.dev = .off → exec .perstNRelease s = .next ((s.modHost fun h => { h with perst := false }).wakeBy 1 none))) ∧
  (∀ (s : State) (speed : BitVec 3) (width : BitVec 4) (c0 c1 : PcieCfg),
    (s.host.perst = false → s.domRun 36 = true → exec (.pcieLinkUp speed width c0 c1) s = .next (((s.modHost fun h =>
      { h with
        linkUp := true
        speed := speed
        width := width
        pf0 := { h.pf0 with bme := c0.bme, mse := c0.mse, msixEn := c0.msixEn, mrrs := c0.mrrs, mps := c0.mps }
        pf1 := { h.pf1 with bme := c1.bme, mse := c1.mse, msixEn := c1.msixEn, mrrs := c1.mrrs, mps := c1.mps } }).sendPending .pf0).sendPending .pf1)) ∧
    (s.host.perst = true ∨ s.domRun 36 = false → exec (.pcieLinkUp speed width c0 c1) s = .next s)) ∧
  (∀ (s : State) (f : Func) (v : Fin 32), exec (.msixUnmask f (some v)) s =
      .next ((s.modFunc f fun x => { x with msixMask := x.msixMask &&& ~~~(1#32 <<< v.val) }).sendPending f) ∧
    exec (.msixUnmask f none) s = .next ((s.modFunc f fun x => { x with msixEn := true }).sendPending f))

/-- Mailbox and SMBus events act (R299, R300, R301, R302, R313, R326, R327, R328). -/
def Obligations.MailboxAndSmbusEventsAct : Prop :=
  (∀ (s : State) (f : Func) (words : List W32) (tail : Option (BitVec 6)) (data : W32),
    (s.funcOpen f = true → exec (.mbxDoorbell f words tail data) s = .next (((s.mbxTail f tail).mbxWrite f 0 words).doorbell f data)) ∧
    (s.funcOpen f = false → exec (.mbxDoorbell f words tail data) s = .next s)) ∧
  (∀ (s : State) (f : Func) (data : W32), (data.getLsbD 0 = false → s.doorbell f data = s) ∧
    (data.getLsbD 0 = true → (s.lk.port f.port).held.isSome = true →
      s.doorbell f data = s.modPort f.port fun x => { x with overrun := true }) ∧
    (data.getLsbD 0 = true → (s.lk.port f.port).held = none → ∃ ws, ((s.doorbell f data).lk.port f.port).held = some ws ∧
      ws.headD 0 = tget (s.lk.port f.port).req 0 0 ∧ ((s.doorbell f data).lk.port f.port).replyReady = false)) ∧
  (∀ (s : State) (bytes : List Byte) (p : Option Byte), s.inReset = false →
    (s.lk.smbus.held.isSome = true →
      exec (.smbusReq bytes p) s = .next (s.emit .smbusNack) ∧ exec (.smbusReqEnd bytes p) s = .next (s.emit .smbusNack)) ∧
    (s.lk.smbus.held = none →
      (s.pecFails (0x40 :: BitVec.ofNat 8 bytes.length :: bytes) p = true →
        exec (.smbusReq bytes p) s = .next ((s.pecFailed p).modPort .smbus fun x => { x with chunkErr := true })) ∧
      (s.pecFails (0x41 :: BitVec.ofNat 8 bytes.length :: bytes) p = true →
        exec (.smbusReqEnd bytes p) s = .next ((s.pecFailed p).modPort .smbus fun x => { x with chunkErr := true })) ∧
      (s.pecFails (0x40 :: BitVec.ofNat 8 bytes.length :: bytes) p = false →
        exec (.smbusReq bytes p) s = .next (s.modPort .smbus fun x => x.chunk bytes)) ∧
      (s.pecFails (0x41 :: BitVec.ofNat 8 bytes.length :: bytes) p = false → ∀ all, all = s.lk.smbus.partialBytes ++ bytes →
        exec (.smbusReqEnd bytes p) s = .next (s.modPort .smbus fun x =>
          { (x.chunk bytes).hold (wordsOfBytes all) with
            partialBytes := []
            chunkErr := (x.chunk bytes).chunkErr || (decide (all.length ≠ 4 * reqLength ((wordsOfBytes all).headD 0)) ||
              decide (4096 < all.length)) }))) ∧
    (∀ data : Byte,
      (s.pecFails [0x42, data] p = true → exec (.smbusAbort data p) s = .next (s.pecFailed p)) ∧
      (s.pecFails [0x42, data] p = false → exec (.smbusAbort data p) s = .next (if data = 0 then s.modPort .smbus fun x =>
        { x with partialBytes := [], chunkErr := false } else s)))) ∧
  (∀ (s : State), s.inReset = false →
    (s.lk.smbus.replyReady = false → exec .smbusReply s = .next (s.smbSend 0x50 [0])) ∧
    (s.lk.smbus.replyReady = true → ∀ c pos, c = smbChunk s.lk.smbus.reply s.lk.smbus.replyPos →
      pos = s.lk.smbus.replyPos + (c.length - 1) → exec .smbusReply s = .next ((s.smbSend 0x50 c).modPort .smbus fun x =>
        { x with replyPos := pos, replyReady := decide (pos < 4 * x.reply.length) })) ∧
    (s.lk.smbus.records = [] → exec .smbusRecord s = .next (s.smbSend 0x51 [0])) ∧
    (∀ r l c pos, s.lk.smbus.records = r :: l → c = smbChunk r s.lk.smbus.recordPos →
      pos = s.lk.smbus.recordPos + (c.length - 1) → exec .smbusRecord s = .next ((s.smbSend 0x51 c).modPort .smbus fun x =>
        if pos < 4 * r.length then { x with recordPos := pos } else { x with records := l, recordPos := 0 })) ∧
    (∀ b : Byte, b = BitVec.ofNat 8 (bitAt s.lk.smbus.held.isSome 0 ||| bitAt s.lk.smbus.replyReady 1 |||
        bitAt (!s.lk.smbus.records.isEmpty) 2 ||| bitAt s.lk.smbus.hwReply 3 ||| bitAt s.lk.smbus.chunkErr 4 |||
        bitAt s.lk.inService 5).toNat → exec .smbusStatus s = .next (s.smbSend 0x60 [b])) ∧
    (s.alertOut = true → exec .smbusAlertResponse s = .next ((s.modHost fun h =>
      { h with alertArmed := false, logAlert := false }).emit (.smbusRead [BitVec.ofNat 8 (2 * s.smbAddr)]
        (pec [0x19, BitVec.ofNat 8 (2 * s.smbAddr)])))) ∧
    (s.alertOut = false → exec .smbusAlertResponse s = .next (s.emit .smbusNack))) ∧
  (∀ (s : State) (bytes : List Byte) (data : Byte) (p : Option Byte), s.inReset = true →
    exec (.smbusReq bytes p) s = .next s ∧ exec (.smbusReqEnd bytes p) s = .next s ∧ exec (.smbusAbort data p) s = .next s ∧
    exec .smbusReply s = .next s ∧ exec .smbusRecord s = .next s ∧ exec .smbusStatus s = .next s ∧
    exec .smbusAlertResponse s = .next s) ∧
  (∀ (s : State) (addr : BitVec 7),
    (addr.toNat = 0x5A + s.host.addrSel.toNat → exec (.smbusAddressMatch addr) s = .next (s.wakeBy 0 none)) ∧
    (addr.toNat ≠ 0x5A + s.host.addrSel.toNat → exec (.smbusAddressMatch addr) s = .next s) ∧
    exec .smbusTimeout s = .next s)

/-- JTAG instructions and command words act (R303, R304, R329). -/
def Obligations.JtagEventsAct : Prop :=
  (∀ (s : State) (code : Byte), (s.loadIr code).host.ir = code ∧
    (s.loadIr code).out = s.out ++ [.jtagIr (if s.win.shown = .notReleased then 1 else 5)]) ∧
  (∀ s : State,
    (s.win.shown = .notReleased → exec .extest s = .next (s.loadIr 0x00) ∧ exec .clamp s = .next (s.loadIr 0x04) ∧
      exec .highz s = .next (s.loadIr 0x05)) ∧
    (s.win.shown ≠ .notReleased → exec .extest s = .next (s.loadIr 0xFF) ∧ exec .clamp s = .next (s.loadIr 0xFF) ∧
      exec .highz s = .next (s.loadIr 0xFF)) ∧
    (∀ cells, exec (.samplePreload cells) s = .next ((s.loadIr 0x02).modHost fun h =>
      { h with boundary := tsetAll false h.boundary cells })) ∧
    exec .idcode s = .next ((s.loadIr 0x01).emit (.jtagDr 32 0x0B4EA0B3)) ∧
    exec .usercode s = .next ((s.loadIr 0x06).emit (.jtagDr 32 (if s.img.st = .noImage then 0 else s.actVer.toNat))) ∧
    (∀ code : Byte, tapCodes.contains code = false → exec (.bypass code) s = .next (s.loadIr code)) ∧
    exec .jtagCmd s = .next (s.loadIr 0x10) ∧
    exec .tapReset s = .next (s.modHost fun h => { h with ir := 0x01 })) ∧
  (∀ (s : State) (w : W32),
    (s.host.ir = 0x10 → s.inReset = false → s.lk.jtag.held = none →
      exec (.jtagRequestWord w) s = .next (s.modPort .jtag fun x => { x with partialWords := x.partialWords ++ [w] }) ∧
      exec (.jtagLastWord w) s = .next (s.modPort .jtag fun x => { x.hold (x.partialWords ++ [w]) with partialWords := [] })) ∧
    (s.host.ir ≠ 0x10 ∨ s.inReset = true ∨ s.lk.jtag.held.isSome = true →
      exec (.jtagRequestWord w) s = .next s ∧ exec (.jtagLastWord w) s = .next s)) ∧
  (∀ (s : State), s.host.ir = 0x10 →
    exec .jtagCapture s = .next ((s.freshen.modHost fun h =>
      { h with cmdDr := BitVec.ofNat 34 (2 ^ 32 * s.freshen.jtagPresent.1 + s.freshen.jtagPresent.2.toNat) }).emit
      (.jtagDr 34 (2 ^ 32 * s.freshen.jtagPresent.1 + s.freshen.jtagPresent.2.toNat))) ∧
    (s.host.cmdDr.toNat / 2 ^ 32 = 1 → exec .jtagAdvance s = .next (s.modPort .jtag fun x => if x.replyReady then
      { x with replyPos := x.replyPos + 1, replyReady := decide (x.replyPos + 1 < x.reply.length) } else x)) ∧
    (s.host.cmdDr.toNat / 2 ^ 32 = 2 → exec .jtagAdvance s = .next (s.modPort .jtag fun x => match x.records with
      | r :: l => if x.recordPos + 1 < r.length then { x with recordPos := x.recordPos + 1 }
        else { x with records := l, recordPos := 0 }
      | [] => x)) ∧
    (s.host.cmdDr.toNat / 2 ^ 32 ≠ 1 → s.host.cmdDr.toNat / 2 ^ 32 ≠ 2 → exec .jtagAdvance s = .next s)) ∧
  (∀ (s : State), s.host.ir ≠ 0x10 → exec .jtagCapture s = .next s ∧ exec .jtagAdvance s = .next s)

/-- Lockkeeper events act (R315, R317, R318, R319, R320, R324, R331, R333, R336, R337, R338). -/
def Obligations.LockkeeperEventsAct : Prop :=
  (∀ s : State, (s.lk.inService = false → s.rst.st ≠ .dead →
      exec .lockkeeperInService s = .next ((s.fwBoot.modLk fun k => { k with inService := true }).postDeferred).startUp) ∧
    (s.lk.inService = true ∨ s.rst.st = .dead → exec .lockkeeperInService s = .next s)) ∧
  (∀ (s : State) (l : List Nat), s.lk.inService = true →
    l = (s.lk.mismatches.filter fun t => decide (1000 * s.lk.seconds.toNat + s.lk.ms < t + 1000)) ++
      [1000 * s.lk.seconds.toNat + s.lk.ms] →
    (l.length < 3 → exec .lockstepMismatch s =
      .next ((s.modLk fun k => { k with mismatches := l }).log 0x0001 false false (w32 l.length) 0 0)) ∧
    (3 ≤ l.length → exec .lockstepMismatch s = .next (s.fullRestart 0)) ∧
    (∀ lo hi, exec (.fetchTrap lo hi false) s = .next (s.log 0x0003 false false lo hi 0) ∧
      exec (.fetchTrap lo hi true) s = .next (s.fullRestart 1)) ∧
    (s.pwr.railsGood = true →
      exec .logHeadgateWrite s = .next (s.modLk fun k => { k with log := k.log.writeBlock }).logSuppressed) ∧
    (s.pwr.railsGood = false → exec .logHeadgateWrite s = .next s) ∧
    exec .housekeeping s = .next s.memCut.logSuppressed ∧
    (∀ (opcode : BitVec 16) (r : Req),
      (r.badLength = true → exec (.badOpcode opcode r) s = .next (s.memCut.notCommand r stBadLength)) ∧
      (r.badLength = false → opcodes.contains opcode.toNat = false →
        exec (.badOpcode opcode r) s = .next (s.memCut.notCommand r stBadOpcode)))) ∧
  (∀ (s : State) (lo hi : W32) (data : Bool) (opcode : BitVec 16) (r : Req), s.lk.inService = false →
    exec .lockstepMismatch s = .next s ∧ exec (.fetchTrap lo hi data) s = .next s ∧ exec .logHeadgateWrite s = .next s ∧
    exec .housekeeping s = .next s ∧ exec (.badOpcode opcode r) s = .next (s.hwBusy r.port r.link r.tag)) ∧
  (∀ (s : State) (p : Port),
    (∀ o, s.lk.memOps.find? (fun o => o.req.port = p && !o.accepted && !o.mute) = some o →
      exec (.hwResponderCutoff p) s = .next (if o.write then s.memCut
        else (s.modLk fun k => { k with memOps := k.memOps.filter fun x => x.id ≠ o.id }).hwBusy p o.req.link o.req.tag)) ∧
    (s.lk.memOps.find? (fun o => o.req.port = p && !o.accepted && !o.mute) = none →
      (∀ n r, s.sluiceWaiting p = some (n, r) → exec (.hwResponderCutoff p) s = .next ((s.modSlc n fun x =>
        { x with waiter := none, closing := false, req := x.st }).hwBusy p r.link r.tag)) ∧
      (∀ ws, s.sluiceWaiting p = none → (s.lk.port p).held = some ws →
        exec (.hwResponderCutoff p) s = .next (s.hwBusy p (s.lk.port p).link (ws.getD 1 0))) ∧
      (s.sluiceWaiting p = none → (s.lk.port p).held = none → exec (.hwResponderCutoff p) s = .next s))) ∧
  (∀ (s : State), exec .leaseExpiry s = .next s.expireLease ∧ s.expireLease.lk.owner = 0) ∧
  (∀ (s : State) (v : VChan),
    (v.present = true → v.ring = true → exec (.controlRingSegmentFail v) s = .next ((s.modLk fun x =>
      { x with ringFailed := if x.ringFailed.contains (vP0 v 0).toNat then x.ringFailed
          else x.ringFailed ++ [(vP0 v 0).toNat] }).vFail v)) ∧
    (v.present = false ∨ v.ring = false → exec (.controlRingSegmentFail v) s = .next s))

/-- Reference, multiplexer, safe-state, PLL and sluice events act (R395, R396, R397, R399, R400, R401, R403, R404, R405, R406, R408, R409). -/
def Obligations.ClockEventsAct : Prop :=
  (∀ (s u : State) (r : RefIn), u = s.modClk (fun c => { c with validA := c.validA && decide (r ≠ .a), validB := c.validB && decide (r ≠ .b) }) →
    (s.clk.inUse = none → exec (.refLost r) s = .next u) ∧
    (∀ q, s.clk.inUse = some q → u.clk.valid q = true → exec (.refLost r) s = .next u) ∧
    (s.clk.inUse = some r → s.clk.select = 0 → u.clk.valid r.other = true → exec (.refLost r) s =
      .next ((u.modClk fun c => { c.hold with failingOver := true }).refSwitch r.other true)) ∧
    (∀ q, s.clk.inUse = some q → u.clk.valid q = false → q ≠ r ∨ s.clk.select ≠ 0 ∨ u.clk.valid r.other = false →
      exec (.refLost r) s = .next ((((u.modClk fun c =>
        { c.hold with inUse := none, fosc := 0, failingOver := false, sw := c.sw.filter fun m => m.mux ≠ 0 }).log 0x0C01 true false
          (w32 q.code) 0 0).clkEvt 0).clockStop stopRef))) ∧
  (∀ (s u : State) (r : RefIn), u = s.modClk (fun c =>
      { c with validA := c.validA || decide (r = .a), validB := c.validB || decide (r = .b), driftLogged := false }) →
    (s.refPresent r = false → exec (.refQualified r) s = .next s) ∧
    (s.refPresent r = true → exec (.refQualified r) s = .next
      (if s.clk.inUse = none ∧ (s.clk.sw.any fun m => m.mux = 0) = false then (match u.clk.choose s.clk.select with
        | some q => u.refSwitch q true
        | none => u) else u))) ∧
  (∀ (s : State) (ppm : Nat),
    (s.clk.validA = true → s.clk.validB = true → s.clk.driftLogged = false → 200 < ppm → exec (.refCompare ppm) s =
      .next (((s.modClk fun c => { c with driftLogged := true }).log 0x0C09 true false (w32 ppm) 0 0).clkEvt 8)) ∧
    (s.clk.validA = false ∨ s.clk.validB = false ∨ s.clk.driftLogged = true ∨ ppm ≤ 200 → exec (.refCompare ppm) s = .next s)) ∧
  (∀ (s : State) (m : Fin 6), (s.clk.current m = none → exec (.muxSwitchComplete m) s = .next s) ∧
    (∀ (x : MuxSwitch) (u : State), s.clk.current m = some x → u = s.modClk (fun c => { c with sw := c.sw.erase x }) →
      exec (.muxSwitchComplete m) s = .next (if x.mux = 0 then u.refTaken (if x.target = 0 then .a else .b)
        else if x.mux = 2 then u.modClk fun c => { c with lkFosc := decide (x.target = 1) } else u))) ∧
  (∀ (s : State) (m : Fin 6), (s.switching m = false → exec (.muxForced m) s = .next s ∧ exec (.muxAbandoned m) s = .next s) ∧
    (s.switching m = true → exec (.muxForced m) s = .next ((s.log 0x0C06 false false (w32 m) 0 0).clkEvt 5)) ∧
    (∀ u v : State, s.switching m = true →
      u = s.modClk (fun c => { c with sw := match c.current m with | some x => c.sw.erase x | none => c.sw }) →
      v = (if m.val = 3 then (List.range 16).foldl (fun (t : State) g => t.modGroup g fun x => { x with sought := false }) u else u) →
      ∀ w : State, w = ((v.modVert fun x =>
          { x with switchA := if m.val = 4 then 0 else x.switchA, switchB := x.switchB && decide (m.val ≠ 5) }).log 0x0C07 true false
            (w32 m) 0 0).clkEvt 6 →
      (∀ q, w.clk.inUse = some q → exec (.muxAbandoned m) s = .next (if m.val = 0 ∧ w.clk.valid q = false then w.refNone q else w)) ∧
      (w.clk.inUse = none → exec (.muxAbandoned m) s = .next w))) ∧
  (∀ s : State,
    (s.clk.holdover = true → s.clk.inUse = none → s.clk.safe = false → exec .safeEntered s =
      .next ((((s.modClk fun c => { c with safe := true, safeMs := 0 }).safeItems.log 0x0C03 true true 0 0 0).clkEvt 2))) ∧
    (s.clk.holdover = false ∨ s.clk.inUse.isSome = true ∨ s.clk.safe = true → exec .safeEntered s = .next s) ∧
    (∀ r, s.clk.inUse = some r → s.clk.safe = true → s.clk.resuming = true → s.coreLocked = true →
      exec .refRestored s = .next ((((((s.modClk fun c => { c with safe := false, resuming := false }).safeEnd).log 0x0C04 true false
        (w32 r.code) s.clk.safeMs 0).clkEvt 3).endStop stopRef))) ∧
    (s.clk.inUse = none ∨ s.clk.safe = false ∨ s.clk.resuming = false ∨ s.coreLocked = false → exec .refRestored s = .next s)) ∧
  (∀ (s : State) (p : Fin 25), exec (.pllLock p) s = .next (s.pllLock p) ∧
    (s.clk.lock.getLsbD p = false ∨ s.clk.inUse = none ∨ s.clk.holdover = true ∨ s.vert.held p = true →
      exec (.pllUnlock p) s = .next s) ∧
    (∀ u : State, s.clk.lock.getLsbD p = true → s.clk.inUse.isSome = true → s.clk.holdover = false → s.vert.held p = false →
      u = ((s.modClk fun c => { c with lock := c.lock &&& ~~~(1#25 <<< p.val), fosc := if p.val = 0 then 0 else c.fosc }).log 0x0C05
        true false (w32 p) 0 0).clkEvt 4 →
      (p.val = 0 → exec (.pllUnlock p) s = .next ((u.muxSwitch { mux := 2, target := 1, loss := true }).clockStop (stopPll 0))) ∧
      (1 ≤ p.val → p.val ≤ 4 → exec (.pllUnlock p) s = .next (u.clockStop (stopPll p))) ∧
      (5 ≤ p.val → p.val ≤ 6 → exec (.pllUnlock p) s = .next u) ∧
      (7 ≤ p.val → p.val ≤ 22 → exec (.pllUnlock p) s =
        .next (if (u.groupAt (p.val - 7)).pll = 0 then u.groupUnlock (p.val - 7) else u)) ∧
      (23 ≤ p.val → (∀ g, (List.range 16).find? (fun g => (u.groupAt g).pll.toNat = p.val - 22) = some g →
          exec (.pllUnlock p) s = .next (u.groupUnlock g)) ∧
        ((List.range 16).find? (fun g => (u.groupAt g).pll.toNat = p.val - 22) = none → exec (.pllUnlock p) s = .next u)))) ∧
  (∀ (s : State) (n : Fin 56),
    ((s.slcAt n).closing = true →
      (s.slcIdle n = true → exec (.sluiceClose n) s =
        .next ((((slcCtls n).foldl (fun (t : State) m => t.flushAll m) s).slcSet n (s.slcAt n).req).slcAnswer n stOk)) ∧
      (s.slcIdle n = false → exec (.sluiceClose n) s = .next s) ∧
      exec (.sluiceFail n) s = .next (((((s.modSlc n fun y => { y with closing := false, fail := true }).log 0x0C08 false false (w32 n)
        (w32 (s.slcAt n).req.toNat) 0).clkEvt 7).slcAnswer n stBusy))) ∧
    ((s.slcAt n).closing = false → exec (.sluiceClose n) s = .next s ∧ exec (.sluiceFail n) s = .next s) ∧
    (n.val ≤ 10 → s.slcOpen n = false → s.slcWork n = true → (slcCtls n).all (fun m => (s.ctlAt m).pstate = .run) = true →
      exec (.sluiceReopen n) s = .next ((slcCtls n).foldl (fun s m => s.serveAll m)
        ((s.modSlc n fun x => { x with reopen := satInc x.reopen }).slcSet n 0))) ∧
    (10 < n.val ∨ s.slcOpen n = true ∨ s.slcWork n = false ∨ (slcCtls n).all (fun m => (s.ctlAt m).pstate = .run) = false →
      exec (.sluiceReopen n) s = .next s))

/-- Sleep, wake and domain events act (R413, R415, R416, R420, R421, R422, R423, R424, R425, R434). -/
def Obligations.SleepAndWakeEventsAct : Prop :=
  (∀ (s : State) (d : Fin 64) (mv : Nat),
    (∀ q, s.pwr.changed.find? (fun q => q.dom = d.val) = some q → exec (.domainChangeComplete d mv) s = .next (s.domEnd q)) ∧
    (s.pwr.changed.find? (fun q => q.dom = d.val) = none →
      exec (.domainChangeComplete d mv) s = .next (if s.domSt d = .waking ∧ isQuad d = false then s.otherUp d mv else s))) ∧
  (∀ (s : State) (q : Fin 8) (banks : List Nat),
    (s.domSt (2 + q.val) = .waking → s.pwr.changed.any (fun r => r.dom = 2 + q.val) = false →
      exec (.quadrantWakeComplete q banks) s = .next (s.quadUp (2 + q.val) banks)) ∧
    (s.domSt (2 + q.val) ≠ .waking ∨ s.pwr.changed.any (fun r => r.dom = 2 + q.val) = true →
      exec (.quadrantWakeComplete q banks) s = .next s)) ∧
  (∀ s : State, (s.pwr.timer = 0 → exec .wakeTimer s = .next s) ∧
    (s.pwr.timer ≠ 0 → exec .wakeTimer s = .next (s.wakeBy 3 none))) ∧
  (∀ s : State, s.pwr.dev ≠ .entering ∨ s.pwr.entry = none → exec .sleepEntryComplete s = .next s) ∧
  (∀ (s u : State) (q : SleepReq), s.pwr.dev = .entering → s.pwr.entry = some q →
    u = s.pwr.changed.foldl (fun (s : State) c => s.domEnd c) s →
    ((List.range 9).any (fun n => (slcCtls n).any (fun m => u.domRun (ctlDomain m)) && !u.slcIdle n) = true →
      exec .sleepEntryComplete s = .next (u.entryFails q)) ∧
    ((List.range 9).any (fun n => (slcCtls n).any (fun m => u.domRun (ctlDomain m)) && !u.slcIdle n) = false →
      ∀ (v w : State) (dev : DevSt), v = (if q.st = 1 then u.domsDown false else (u.domsDown true).deepClocks) →
        w = (if q.st = 3 then (((([10, 12, 13, 14, 15, 16, 17, 18, 19] : List Nat).foldl (fun (s : State) d => s.memLeave d .off)
          v).modPwr fun p => { p with pwrEn := false, railsGood := false }).emit (.pwrEn false)) else v) →
        dev = (if q.st = 1 then .sleep else if q.st = 2 then .deep else .off) →
        exec .sleepEntryComplete s = .next (((((w.modPwr fun p => { p with dev := dev, entry := none }).log 0x0D01 false false
          (w32 dev.code) 0 0).pwrEvt 0).postRecord? q.origin stOk [w32 q.st.toNat]).wakeHeld))) ∧
  (∀ (s : State) (o : WakeObs), s.pwr.dev ≠ .waking ∨ s.pwr.wake = none → exec (.deviceWakeComplete o) s = .next s) ∧
  (∀ (s : State) (w : Wake) (o : WakeObs), s.pwr.dev = .waking → s.pwr.wake = some w →
    (w.left = .off → exec (.deviceWakeComplete o) s = .next (if s.img.st = .released then s.wakeEnd w o else s)) ∧
    (w.left = .thermal → exec (.deviceWakeComplete o) s = .next (s.thermalEnd.wakeEnd w o)) ∧
    (w.left ≠ .off → w.left ≠ .thermal → w.left ≠ .deep → exec (.deviceWakeComplete o) s =
      .next (((List.range 20).foldl (fun (s : State) d => s.domBack [] d) s).acquireStanding.wakeEnd w o)) ∧
    (w.left = .deep → ∀ (failing : List Nat) (u : State), failing = (o.banks.filter fun b => decide (b < 128) &&
        (List.range 8).any fun i => (quadBanks (2 + i)).contains b && decide ((s.domAt (2 + i)).deepest = .deep)) →
      u = (deepPlls.foldl (fun (s : State) p => s.pllLock p) s).safeEnd →
      exec (.deviceWakeComplete o) s = .next ((((List.range 20).foldl (fun (s : State) d => s.domBack failing d) u).retReport
        failing).acquireStanding.wakeEnd w o)))

/-- Sensor sample, orderly stop and hard trip act (R321, R428, R430, R431, R433, R435). -/
def Obligations.ThermalEventsAct : Prop :=
  (∀ (s : State) (o : SensorObs) (u : State), s.rst.st ≠ .dead →
    u = ((((s.tickMs.sampleDiodes o.diodes).sampleHot.sampleTarget.sampleMon o.mv).railWatch.sampleRest o).orderlyStop).bistSample →
    exec (.sensorSample o) s = .next (if u.pwr.dev = .thermal ∧ u.thm.hot ≠ 7 ∧
      u.thm.hotT.toInt ≤ 16 * ((u.thm.start.toNat : Int) - 10) then u.wakeBy 4 none else u)) ∧
  (∀ (s : State) (o : SensorObs), s.rst.st = .dead → exec (.sensorSample o) s = .next s) ∧
  (∀ s u : State, u = s.modThm (fun t => { t with stopMs := max t.stopMs 5 }) →
    (s.thm.stopping = false → exec .orderlyStopTimeout s = .next s) ∧
    (s.thm.stopping = true →
      (s.win.st = .running → exec .orderlyStopTimeout s = .next (if (u.clockStop stopThermal).fab.clockStop.contains stopThermal then
        (u.clockStop stopThermal).thermalStop true else u.clockStop stopThermal)) ∧
      (s.win.st = .boundary → exec .orderlyStopTimeout s = .next u.dropThermalCap.boundaryGoOn) ∧
      (s.win.st = .held ∨ s.win.st = .notReleased ∨ (s.win.st = .ready ∧ s.win.edgeAccepted = false) →
        exec .orderlyStopTimeout s = .next (u.thermalStop false)) ∧
      (s.win.st = .starting ∨ (s.win.st = .ready ∧ s.win.edgeAccepted = true) →
        exec .orderlyStopTimeout s = .next (u.thermalStop true)))) ∧
  (∀ (s u : State) (d : BitVec 6), d ≠ 0 → s.rst.st ≠ .dead →
    u = s.dropThermalCap.modThm (fun t => { t with stopping := false, shdn := true, tripped := t.tripped ||| d }) →
    (s.thm.shdn = false → exec (.hardTrip d) s = .next (((u.takeStop stopTrip).showPins.emit .thermShdn))) ∧
    (s.thm.shdn = true → exec (.hardTrip d) s = .next u)) ∧
  (∀ (s : State) (d : BitVec 6), d = 0 ∨ s.rst.st = .dead → exec (.hardTrip d) s = .next s)

/-- Power-on, warm and forced reset events act (R441, R443, R446, R448, R465, R467). -/
def Obligations.ResetEventsAct : Prop :=
  (∀ (s : State) (st : Straps), ∃ t, exec (.powerOn st) s = .next t ∧ t.rst.st = .held ∧ t.rst.cause = .powerOn ∧
    t.rst.resetN = true ∧ t.win.winMstr = st.winMstr ∧ t.host.addrSel = st.addrSel ∧ t.clk.modeA = st.refaMode ∧
    t.clk.modeB = st.refbMode ∧ t.fab = {} ∧ t.sec.fuses = s.sec.fuses ∧ t.img.bank0 = s.img.bank0) ∧
  (∀ s : State, ∃ t, exec .powerOff s = .next t ∧ t.rst.st = .dead ∧ t.mem = {} ∧ t.lk.log.area = s.lk.log.area ∧
    t.lk.log.queue = []) ∧
  (∀ s u : State, u = s.modRst (fun r => { r with resetN := true }) →
    (s.rst.st = .dead → exec .resetNAssert s = .next s) ∧
    (s.rst.st = .held ∨ s.rst.st = .quiescing → exec .resetNAssert s = .next u) ∧
    (s.rst.st ≠ .dead → s.rst.st ≠ .held → s.rst.st ≠ .quiescing → exec .resetNAssert s = .next (u.warmBegin .resetN))) ∧
  (∀ s : State,
    (s.rst.deviceReset = true → s.rst.st ≠ .dead → s.rst.st ≠ .held → s.rst.st ≠ .quiescing →
      exec .warmResetBegin s = .next (s.warmBegin .device)) ∧
    (s.rst.deviceReset = false ∨ s.rst.st = .dead ∨ s.rst.st = .held ∨ s.rst.st = .quiescing →
      exec .warmResetBegin s = .next (s.modRst fun r => { r with deviceReset := false }))) ∧
  (∀ (s : State) (ctls l : List Nat), l = (ctls.filter fun m => decide (m < 40)).eraseDups →
    (s.rst.st = .quiescing → exec .warmResetQuiesceDone s = .next (s.quiesced []) ∧
      exec (.resetTimeout ctls) s = .next ((s.log 0x1006 true true (w32 l.length) 0 0).quiesced l)) ∧
    (s.rst.st ≠ .quiescing → exec .warmResetQuiesceDone s = .next s ∧ exec (.resetTimeout ctls) s = .next s)) ∧
  (∀ (s : State) (w cool : Bool), (s.rst.st = .dead ∨ s.rst.resetN = false → exec (.resetNRelease w cool) s = .next s) ∧
    (∀ u v : State, s.rst.st ≠ .dead → s.rst.resetN = true → u = (s.modRst fun r => { r with resetN := false }).modWin (fun x =>
        { x with winMstr := w, modeReg := if w then 2 else 0, mode := if w then 2 else 0 }) →
      v = (if s.thm.shdn = true ∧ cool = true then
        (u.modThm fun t => { t with shdn := false }).modRst fun r => { r with cause := .trip } else u) →
      exec (.resetNRelease w cool) s = .next (if s.rst.st = .held then v.startBegin else v))) ∧
  (∀ s : State, (s.rst.st = .dead ∨ s.pwr.pwrEn = false ∨ s.pwr.railsGood = true → exec .powerGood s = .next s) ∧
    (∀ u : State, s.rst.st ≠ .dead → s.pwr.pwrEn = true → s.pwr.railsGood = false →
      u = s.modPwr (fun p => { p with railsGood := true, railMs := 0 }) →
      (s.pwr.dev = .waking ∧ (∃ w, s.pwr.wake = some w ∧ w.left = .off) ∧ s.rst.st = .none → exec .powerGood s = .next u.offStart) ∧
      (s.pwr.dev ≠ .waking ∨ (∀ w, s.pwr.wake = some w → w.left ≠ .off) ∨ s.rst.st ≠ .none → exec .powerGood s = .next u.startUp))) ∧
  (∀ (s : State) (q : Forced), s.rst.forced = some q →
    exec .sillResetHoldEnd s = .next (s.modRst fun r => { r with forced := some { q with released := true } }) ∧
    (q.released = false → exec .forcedResetComplete s = .next s) ∧
    (∀ u v : State, q.released = true → u = s.forcedEnd q → v = u.modWin (fun w => { w with paused := false }) →
      exec .forcedResetComplete s = .next (if u.win.st = .boundary ∧ u.win.paused = true then
        (if v.win.step = 2 then v.boundaryDrained else v.boundaryGoOn) else u))) ∧
  (∀ s : State, s.rst.forced = none → exec .sillResetHoldEnd s = .next s ∧ exec .forcedResetComplete s = .next s)

/-- A step executes the front command, and with none it idles (idling is the model's choice, log entry 8) (R326, R344). -/
def Obligations.StepExecutesTheFrontCommand : Prop :=
  (∀ (c : Instr) (s : State), step { s with pending := c :: s.pending } = exec c s) ∧
  (∀ s : State, s.pending = [] → step s = .next s)

/-- What the machine holds after power-on reset (R51, R102, R164, R332, R333, R374, R395, R443). -/
def Obligations.ResetHoldsTheStatedValues : Prop :=
  State.reset.pending = [] ∧ State.reset.out = [] ∧ State.reset.rst.st = .held ∧ State.reset.win.st = .notReleased ∧
  State.reset.win.hold = 0x400 ∧ State.reset.win.cnt = 0 ∧ State.reset.win.turnCount = 0 ∧ State.reset.lk.owner = 0 ∧
  State.reset.lk.leaseLen = 10 ∧ State.reset.lk.log.queue = [] ∧
  (∀ m : Nat, (State.reset.ctlAt m).limit = 4096 ∧ (State.reset.ctlAt m).patrolEn = true) ∧
  (∀ i : Nat, (State.reset.linkAt i).isUp = false) ∧ State.reset.clk.inUse = none ∧
  (∀ i : Nat, (State.reset.sec.slot i).st = 0)

/-- The state after reset meets the invariants (R148, R324, R332). -/
def Obligations.ResetMeetsTheInvariants : Prop :=
  State.reset.memWf ∧ State.reset.rowsWf ∧ State.reset.lk.legal

/-- Every step keeps memory canonical, the log queue within 512 entries and the owner legal (R148, R324, R332). -/
def Obligations.EveryStepKeepsTheInvariants : Prop :=
  ∀ s t : State, s.memWf → s.rowsWf → s.lk.legal → step s = .next t → t.memWf ∧ t.rowsWf ∧ t.lk.legal

/-- Every step completes, takes one command, takes nothing back and keeps what manufacture wrote (R316, R374, R388, R453). -/
def Obligations.EveryStepCompletesAndKeepsWhatManufactureWrote : Prop :=
  ∀ s : State, ∃ t, step s = .next t ∧ t.pending = s.pending.tail ∧ s.out <+: t.out ∧ t.made = s.made

/-- What refuses a command, in the order of the statuses (R336, R338, R344, R385). -/
def Obligations.RequestsAreJudgedInOrder : Prop :=
  (∀ (s : State) (r : Req), s.lk.inService = false →
    exec (.release r) s = .next (s.hwBusy r.port r.link r.tag) ∧ exec (.idGet r) s = .next (s.hwBusy r.port r.link r.tag)) ∧
  (∀ (s : State) (r : Req), s.lk.inService = true → s.lk.memOps = [] →
    (r.badLength = true → exec (.release r) s = .next (s.notCommand r stBadLength) ∧
      exec (.idGet r) s = .next (s.notCommand r stBadLength)) ∧
    (r.badLength = false → s.sec.recovery = true →
      exec (.release r) s = .next (s.commit r 0x0101 .owner stHwFault false [])) ∧
    (r.badLength = false → s.sec.recovery = false →
      (r.length ≠ 2 → exec (.release r) s = .next (s.commit r 0x0101 .owner stBadLength false [])) ∧
      (r.length = 2 → s.isOwner r.port = false → exec (.release r) s = .next (s.commit r 0x0101 .owner stNotOwner false [])) ∧
      (r.length = 2 → s.isOwner r.port = true → r.flags ≠ 0 →
        exec (.release r) s = .next (s.commit r 0x0101 .owner stBadParam false []))))

/-- What committing a reply on the mailbox of function 0 changes (R327, R333, R336, R341, R342). -/
def Obligations.ACommittedReplyStandsInTheMailbox : Prop :=
  ∀ (s : State) (r : Req) (opcode status : Nat) (own : Own) (payload : List W32), r.port = .pf0 →
    (s.commit r opcode own status false payload).lk.pf0.reply =
      w32 (status + 2 ^ 16 * (3 + payload.length)) :: r.tag :: BitVec.ofNat 32 s.win.cnt.toNat :: payload ∧
    (s.commit r opcode own status false payload).lk.pf0.replyReady = true ∧
    (s.commit r opcode own status false payload).lk.pf0.held = none ∧
    (s.commit r opcode own status false payload).lk.owner = s.lk.owner ∧
    (s.lk.owner = 1 → (s.commit r opcode own status false payload).lk.leaseTicks = s.lk.leaseLen.toNat * 100000) ∧
    (s.lk.owner ≠ 1 → (s.commit r opcode own status false payload).lk.leaseTicks = s.lk.leaseTicks) ∧
    (own = .anyone → (s.commit r opcode own status false payload).lk.log = s.lk.log) ∧
    s.commit r opcode own status false payload = { s with
      lk := (s.commit r opcode own status false payload).lk
      host := (s.commit r opcode own status false payload).host
      out := (s.commit r opcode own status false payload).out }

/-- A log entry is queued, dropped or displaces (R323, R324). -/
def Obligations.LogEntriesAreQueuedDroppedOrDisplace : Prop :=
  ∀ (s : State) (code : Nat) (int fault : Bool) (p0 p1 p2 : W32),
    (s.lk.log.queue.length < 512 →
      (s.log code int fault p0 p1 p2).lk.log.queue = s.lk.log.queue ++
        [{ index := s.lk.log.next, stamp := s.stamp, seconds := s.lk.seconds, code := BitVec.ofNat 16 code, int := int,
           fault := fault, p0 := p0, p1 := p1, p2 := p2 }] ∧
      (s.log code int fault p0 p1 p2).lk.log.next = s.lk.log.next + 1 ∧
      (s.log code int fault p0 p1 p2).lk.log.dropped = s.lk.log.dropped) ∧
    (512 ≤ s.lk.log.queue.length → fault = false →
      (s.log code int fault p0 p1 p2).lk.log.queue = s.lk.log.queue ∧
      (s.log code int fault p0 p1 p2).lk.log.dropped = satInc s.lk.log.dropped) ∧
    (512 ≤ s.lk.log.queue.length → fault = true → (s.lk.log.queue.any fun e => !e.fault) = true →
      (s.log code int fault p0 p1 p2).lk.log.queue.length = s.lk.log.queue.length ∧
      (s.log code int fault p0 p1 p2).lk.log.next = s.lk.log.next + 1 ∧
      (s.log code int fault p0 p1 p2).lk.log.dropped = satInc s.lk.log.dropped) ∧
    s.log code int fault p0 p1 p2 = { s with
      lk := { s.lk with log := (s.log code int fault p0 p1 p2).lk.log }
      host := (s.log code int fault p0 p1 p2).host
      out := (s.log code int fault p0 p1 p2).out }

/-- An enabled event bit raises its vector once (R295, R296). -/
def Obligations.EventBitsRaiseTheirVector : Prop :=
  (∀ (s : State) (f : Func) (v : Nat), (s.host.func f).msixEn = true → (s.host.func f).msixMask.getLsbD v = false →
    s.host.linkUp = true → (s.host.func f).bme = true → (s.host.func f).d3hot = false → s.raiseVec f v = (s.modHost fun h => { h with alertArmed := h.alertArmed || decide (f = .pf0) }).emit (.msix f v)) ∧
  (∀ (s : State) (f : Func) (v : Nat), v < 32 →
    (s.host.func f).msixEn = false ∨ (s.host.func f).msixMask.getLsbD v = true ∨ s.host.linkUp = false ∨
      (s.host.func f).bme = false ∨ (s.host.func f).d3hot = true →
    (s.raiseVec f v).out = s.out ∧ ((s.raiseVec f v).host.func f).pba.getLsbD v = true ∧
    s.raiseVec f v = { s with host := (s.raiseVec f v).host }) ∧
  (∀ (s : State) (w v i : Nat) (evt en : BitVec w), i < w →
    (en.getLsbD i = true → evt.getLsbD i = false → s.evtAssert v evt en (evt ||| (1#w <<< i)) en = s.raiseVec .pf0 v) ∧
    (en.getLsbD i = false ∨ evt.getLsbD i = true → s.evtAssert v evt en (evt ||| (1#w <<< i)) en = s))

/-- The light code returns what was stored, corrects every single bit and knows poison (R131, R133, R143, R148). -/
def Obligations.TheLightCodeCorrectsOneBit : Prop :=
  (∀ d : Word18, lightDecode (lightEncode d) = ⟨.clean, d⟩) ∧
  (∀ (d : Word18) (i : Nat), i < 24 → lightDecode (lightEncode d ^^^ (1#24 <<< i)) = ⟨.single, d⟩) ∧
  (∀ d : Word18, lightDecode (lightPoison d) = ⟨.poison, d⟩)

/-- The governing temperature is the highest reading among valid diodes (R430). -/
def Obligations.TheGoverningTemperatureIsTheHighestValid : Prop :=
  (∀ (s : State) (d : Nat), d < 6 → (s.diodeAt d).valid = true →
    s.sampleHot.thm.hot.toNat < 6 ∧ (s.diodeAt s.sampleHot.thm.hot.toNat).valid = true ∧
    s.sampleHot.thm.hotT = (s.diodeAt s.sampleHot.thm.hot.toNat).t ∧ (s.diodeAt d).t.toInt ≤ s.sampleHot.thm.hotT.toInt) ∧
  (∀ s : State, (∀ d, d < 6 → (s.diodeAt d).valid = false) →
    s.sampleHot.thm.hot = 7 ∧ s.sampleHot.sampleTarget.thm.target = 25 ∧ s.sampleHot.sampleTarget.thm.fixed = true) ∧
  (∀ s : State, s.thm.hot = 7 → s.orderlyStop = s)

/-- A firmware slot passes only if format, key, signature and version hold, and FW_MIN becomes the greater (R383). -/
def Obligations.AFirmwareSlotPassesOnlyIfEveryCheckHolds : Prop :=
  (∀ (s : State) (slot : BitVec 1) (body : Nat), s.fwCause slot body = none ↔
    fwFormat (s.sec.fw slot) body = true ∧ keyHash (beWord (fwRun (s.sec.fw slot) 64 384)) = s.sec.fuses.rootHash ∧
    pssVerify (beWord (fwRun (s.sec.fw slot) 64 384)) (fwRun (s.sec.fw slot) (512 + body) 384) (fwMeasure (s.sec.fw slot) body) = true ∧
    s.sec.fwMin.toNat ≤ (fwWord (s.sec.fw slot) 12).toNat) ∧
  (∀ (t : Tab Byte) (body : Nat), fwFormat t body = true → fwWord t 0 = 0x4C4B2080 ∧ fwWord t 4 = 1) ∧
  (∀ s : State, s.bootCause s.sec.fwNamed = none →
    s.fwBoot.sec.fwMin.toNat = max s.sec.fwMin.toNat (fwWord (s.sec.fw s.sec.fwNamed) 12).toNat) ∧
  (∀ (s : State) (c : Nat), s.bootCause s.sec.fwNamed = some c → s.bootCause (~~~s.sec.fwNamed) = none →
    s.fwBoot.sec.fwMin.toNat = max s.sec.fwMin.toNat (fwWord (s.sec.fw (~~~s.sec.fwNamed)) 12).toNat)

/-- The owner may hand ownership to a named party, or release it (R334). -/
def Obligations.TheOwnerMayHandOverOrRelease : Prop :=
  ∀ (s : State) (r : Req),
    (s.takes r .owner (r.length = 3) → 1 ≤ (r.p 0).toNat → (r.p 0).toNat ≤ 4 →
      ∃ t, exec (.handover r) s = .next t ∧ t.lk.owner.toNat = (r.p 0).toNat ∧ t.lk.leaseTicks = s.lk.leaseLen.toNat * 100000 ∧
        ((r.p 0).toNat = s.lk.owner.toNat → t = s.renewLease.commit r 0x0102 .owner stOk false [])) ∧
    (s.takes r .owner (r.length = 3) → (r.p 0).toNat = 0 ∨ 5 ≤ (r.p 0).toNat →
      exec (.handover r) s = .next (s.commit r 0x0102 .owner stBadParam false [])) ∧
    (s.takes r .owner (r.length = 2) → ∃ t, exec (.release r) s = .next t ∧ t.lk.owner = 0)

/-- What a warm reset keeps and what it clears (R332, R442, R443). -/
def Obligations.AWarmResetKeepsAndClears : Prop :=
  ∀ s : State, s.rst.st = .quiescing → s.rst.resetN = true →
    ∃ t, exec .warmResetQuiesceDone s = .next t ∧ t.rst.st = .held ∧ t.win.cnt = 0 ∧ t.lk.owner = 0 ∧ t.fab = {} ∧ t.leat = {} ∧
      t.io = {} ∧ t.img.bank0 = s.img.bank0 ∧ t.img.bank1 = s.img.bank1 ∧ t.img.bank2 = s.img.bank2 ∧ t.img.act = s.img.act ∧
      t.img.prev = s.img.prev ∧ t.img.stg = s.img.stg ∧ t.sec.slot0 = s.sec.slot0 ∧ t.sec.slot1 = s.sec.slot1 ∧
      t.sec.slot2 = s.sec.slot2 ∧ t.sec.slot3 = s.sec.slot3 ∧ t.sec.keyCtr = s.sec.keyCtr ∧ t.sec.fwMin = s.sec.fwMin ∧
      t.sec.fw0 = s.sec.fw0 ∧ t.sec.fw1 = s.sec.fw1 ∧ t.spl.chan = s.spl.warm.chan ∧ t.spl.spare = s.spl.spare ∧
      t.spl.pool = s.spl.pool ∧ t.vert.chans = s.vert.chans ∧
      t.pwr.wakeLast = s.pwr.wakeLast ∧ t.thm.diode = s.thm.diode ∧ t.clk.inUse = s.clk.inUse ∧ t.lk.leaseLen = 10
end

