-- ==== Sys2Proof/Laws/Serve.lean ====
section
/-! SUPPORT. What the two operations that every Lockkeeper command shares can do: the checks before an opcode's own (13 R344)
and the reply that leaves an operation running (13 R339, R343). -/
namespace Sys2Proof.Machine
variable {s : State} {r : Req} {own : Own} {ok : Bool}

theorem memCut_none (h : s.lk.memOps = []) : s.memCut = s := by simp [State.memCut, h]

theorem judge_badLength (h : s.judgeReq r own ok = none) : r.badLength = false := by
  unfold State.judgeReq at h
  by_cases hb : r.length < 2 ∨ 1024 < r.length ∨ r.length ≠ r.params.length + 2
  · rw [if_pos hb] at h; cases h
  · simpa [Req.badLength, and_assoc] using hb

/-- A request that the Lockkeeper takes to the opcode's own checks: the reply is what those checks answer. -/
theorem serve_takes (h : s.takes r own ok) (op ref body) :
    s.serve r op own ok ref body = match body s with
      | .ok s' p => s'.commit r op own stOk false p
      | .okPoison s' p => s'.commit r op own stOk true p
      | .okThen s' f => f (s'.commit r op own stOk false [])
      | .accept s' => s.accepted r op own s' (fun t => t)
      | .acceptThen s' f => s.accepted r op own s' f
      | .fail st => s.commit r op own st false []
      | .partly s' st p => s'.commit r op own st false p
      | .wait s' => s' := by
  obtain ⟨h1, h2, h3, h4⟩ := h
  simp only [State.serve, h1, memCut_none h3, judge_badLength h4, h2, h4]
  cases body s <;> simp

/-- ACCEPTED with room for the record: one more operation runs for the port, and the operation goes on. -/
theorem accepted_room (h : s.room r) (op own s' f) :
    s.accepted r op own s' f = f (State.accepts s' r op own) := by
  unfold State.room at h
  simp [State.accepted, Nat.not_le.2 h, State.accepts]

/-- What a request can come to: the hardware responder's BUSY, an answer that is no command, a reply that refuses it with
nothing else done, or the opcode's own checks. -/
theorem serve_cases (op ref body) :
    s.serve r op own ok ref body = s.hwBusy r.port r.link r.tag ∨
    s.serve r op own ok ref body = s.memCut.notCommand r stBadLength ∨
    (∃ st p, s.serve r op own ok ref body = s.memCut.commit r op own st false p) ∨
    (s.lk.inService = true ∧ s.memCut.judgeReq r own ok = none) := by
  unfold State.serve
  split
  · exact .inl rfl
  · rename_i h
    simp only
    split
    · exact .inr (.inl rfl)
    · split
      · exact .inr (.inr (.inl ⟨_, _, rfl⟩))
      · split
        · exact .inr (.inr (.inl ⟨_, _, rfl⟩))
        · rename_i hj
          exact .inr (.inr (.inr ⟨by simpa using h, hj⟩))

/-- ACCEPTED or, with the port's records full, BUSY. -/
theorem accepted_cases (op s' f) :
    s.accepted r op own s' f = s.commit r op own stBusy false [] ∨ s.accepted r op own s' f = f (State.accepts s' r op own) := by
  unfold State.accepted
  split
  · exact .inl rfl
  · exact .inr rfl

end Sys2Proof.Machine
end

