-- ==== Sys2Proof/Laws/Table.lean ====
section
/-! SUPPORT. What the sparse tables do: reading after writing, and the canonical form that every operation keeps. -/
namespace Sys2Proof.Machine

variable {α : Type}

@[simp] theorem tget_nil (d : α) (k : Nat) : tget ([] : Tab α) d k = d := rfl

theorem Tab.above_iff {b : Nat} {t : Tab α} : Tab.above b t = true ↔ ∀ e ∈ t, b < e.1 := by
  simp [Tab.above]

theorem tget_above {t : Tab α} {d : α} {k : Nat} (h : Tab.above k t = true) : tget t d k = d := by
  rw [Tab.above_iff] at h
  induction t with
  | nil => rfl
  | cons e t ih =>
    have h1 := h e (by simp)
    obtain ⟨k', v⟩ := e
    simp only [tget]
    rw [if_neg (by simp only at h1; omega), ih (fun e he => h e (by simp [he]))]

theorem tget_tdrop {t : Tab α} {d : α} {p : Nat → Bool} {k : Nat} :
    tget (tdrop p t) d k = if p k then d else tget t d k := by
  induction t with
  | nil => simp [tdrop]
  | cons x t ih =>
    obtain ⟨k', v'⟩ := x
    unfold tdrop at ih ⊢
    simp only [List.filter_cons]
    by_cases hk : k' = k
    · subst hk
      cases h : p k' <;> simp_all [tget]
    · split <;> simp_all [tget]

theorem tget_tins {t : Tab α} {d v : α} {k j : Nat} (h : ∀ e ∈ t, e.1 ≠ k) :
    tget (tins t k v) d j = if j = k then v else tget t d j := by
  induction t with
  | nil => simp [tins, tget, eq_comm]
  | cons x t ih =>
    obtain ⟨k', v'⟩ := x
    have hk : k' ≠ k := h (k', v') (by simp)
    have ih := ih fun e he => h e (by simp [he])
    simp only [tins]
    split
    · simp [tget, eq_comm]
    · simp only [tget, ih]
      by_cases hj : j = k
      · simp [hj, hk]
      · simp [hj]

theorem tins_mem {t : Tab α} {v : α} {k : Nat} {e : Nat × α} (h : e ∈ tins t k v) : e = (k, v) ∨ e ∈ t := by
  induction t with
  | nil => simp_all [tins]
  | cons x t ih =>
    simp only [tins] at h
    split at h
    · simpa using h
    · rcases List.mem_cons.1 h with h | h
      · exact .inr (by simp [h])
      · rcases ih h with h | h
        · exact .inl h
        · exact .inr (by simp [h])

theorem tdrop_mem {t : Tab α} {p : Nat → Bool} {e : Nat × α} : e ∈ tdrop p t ↔ e ∈ t ∧ p e.1 = false := by
  simp [tdrop]

variable [DecidableEq α]

theorem tdrop_wf {t : Tab α} {d : α} {p : Nat → Bool} (h : Tab.wf d t = true) : Tab.wf d (tdrop p t) = true := by
  induction t with
  | nil => rfl
  | cons x t ih =>
    obtain ⟨k', v'⟩ := x
    simp only [Tab.wf, Bool.and_eq_true, decide_eq_true_eq] at h
    obtain ⟨⟨ha, hv⟩, ht⟩ := h
    have hih := ih ht
    unfold tdrop at hih ⊢
    simp only [List.filter_cons]
    split
    · have hab : Tab.above k' (t.filter fun e => !p e.1) = true := Tab.above_iff.2 (by
        intro e he
        exact Tab.above_iff.1 ha e (List.mem_of_mem_filter he))
      simp [Tab.wf, hab, hv, hih]
    · exact hih

theorem tset_mem {t : Tab α} {d v : α} {k : Nat} {e : Nat × α} (h : e ∈ tset t d k v) : e = (k, v) ∨ e ∈ t := by
  unfold tset at h
  split at h
  · exact .inr (tdrop_mem.1 h).1
  · exact (tins_mem h).imp id fun h => (tdrop_mem.1 h).1

theorem tins_wf {t : Tab α} {d v : α} {k : Nat} (h : Tab.wf d t = true) (hv : v ≠ d) (hk : ∀ e ∈ t, e.1 ≠ k) :
    Tab.wf d (tins t k v) = true := by
  induction t with
  | nil => simp [tins, Tab.wf, Tab.above, hv]
  | cons x t ih =>
    obtain ⟨k', v'⟩ := x
    simp only [Tab.wf, Bool.and_eq_true, decide_eq_true_eq] at h
    obtain ⟨⟨ha, hv'⟩, ht⟩ := h
    have hk' : k' ≠ k := hk (k', v') (by simp)
    simp only [tins]
    split
    · rename_i hlt
      have hab : Tab.above k ((k', v') :: t) = true := Tab.above_iff.2 (by
        intro e he
        rcases List.mem_cons.1 he with rfl | he
        · exact hlt
        · exact Nat.lt_trans hlt (Tab.above_iff.1 ha e he))
      simp [Tab.wf, ha, hv, hv', ht, hab]
    · have hab : Tab.above k' (tins t k v) = true := Tab.above_iff.2 (by
        intro e he
        rcases tins_mem he with rfl | he
        · simp only; omega
        · exact Tab.above_iff.1 ha e he)
      simp [Tab.wf, hab, hv', ih ht fun e he => hk e (by simp [he])]

/-- Writing keeps the form. -/
theorem tset_wf {t : Tab α} {d v : α} {k : Nat} (h : Tab.wf d t = true) : Tab.wf d (tset t d k v) = true := by
  unfold tset
  split
  · exact tdrop_wf h
  · exact tins_wf (tdrop_wf h) (by assumption) fun e he => by simpa using (tdrop_mem.1 he).2

/-- What a key reads as after a write. -/
theorem tget_tset {t : Tab α} {d v : α} {k j : Nat} : tget (tset t d k v) d j = if j = k then v else tget t d j := by
  unfold tset
  split
  · subst_vars; rw [tget_tdrop]; simp
  · rw [tget_tins fun e he => by simpa using (tdrop_mem.1 he).2, tget_tdrop]
    by_cases h : j = k <;> simp [h]

/-- A read after a write to the same key gives what was written. -/
theorem tget_tset_same {t : Tab α} {d v : α} {k : Nat} : tget (tset t d k v) d k = v := by rw [tget_tset, if_pos rfl]

/-- A write leaves every other key alone. -/
theorem tget_tset_other {t : Tab α} {d v : α} {k j : Nat} (hj : j ≠ k) : tget (tset t d k v) d j = tget t d j := by
  rw [tget_tset, if_neg hj]

theorem tmod_wf {t : Tab α} {d : α} {k : Nat} {f : α → α} (h : Tab.wf d t = true) : Tab.wf d (tmod t d k f) = true :=
  tset_wf h

theorem tsetAll_wf {t : Tab α} {d : α} {l : List (Nat × α)} (h : Tab.wf d t = true) :
    Tab.wf d (tsetAll d t l) = true := by
  unfold tsetAll
  induction l generalizing t with
  | nil => exact h
  | cons e l ih => exact ih (tset_wf h)

theorem tmapListed_wf {t : Tab α} {d : α} {f : Nat → α → α} (h : Tab.wf d t = true) :
    Tab.wf d (tmapListed d f t) = true := by
  unfold tmapListed
  suffices H : ∀ (l : Tab α) (u : Tab α), Tab.wf d u = true →
      Tab.wf d (l.foldl (fun t e => tset t d e.1 (f e.1 e.2)) u) = true from H t t h
  intro l
  induction l with
  | nil => exact fun u hu => hu
  | cons e l ih => exact fun u hu => ih _ (tset_wf hu)

theorem tdrop_tins {t : Tab α} {k : Nat} {v : α} : tdrop (· = k) (tins t k v) = tdrop (· = k) t := by
  unfold tdrop
  induction t with
  | nil => simp [tins]
  | cons x t ih =>
    simp only [tins]
    split
    · simp
    · simp only [List.filter_cons, ih]

/-- The later of two writes to one key stands. -/
theorem tset_tset {t : Tab α} {d v w : α} {k : Nat} : tset (tset t d k v) d k w = tset t d k w := by
  have h : tdrop (· = k) (tdrop (· = k) t) = tdrop (· = k) t := by simp [tdrop]
  unfold tset
  split <;> split <;> simp only [tdrop_tins, h]

theorem tmod_tmod {t : Tab α} {d : α} {f g : α → α} {k : Nat} :
    tmod (tmod t d k f) d k g = tmod t d k (fun x => g (f x)) := by
  unfold tmod
  rw [tset_tset, tget_tset_same]

theorem tget_tmod {t : Tab α} {d : α} {f : α → α} {k j : Nat} :
    tget (tmod t d k f) d j = if j = k then f (tget t d k) else tget t d j := by
  unfold tmod
  rw [tget_tset]

/-- A key none of the writes names reads as before. -/
theorem tget_tsetAll_other {d : α} {k : Nat} {l : List (Nat × α)} :
    ∀ {t : Tab α}, (∀ e ∈ l, e.1 ≠ k) → tget (tsetAll d t l) d k = tget t d k := by
  unfold tsetAll
  induction l with
  | nil => intros; rfl
  | cons e l ih =>
    intro t h
    simp only [List.foldl_cons]
    rw [ih fun e he => h e (by simp [he]), tget_tset_other (Ne.symm (h e (by simp)))]

end Sys2Proof.Machine
end

