-- ==== Sys2Proof/Laws/State.lean ====
section
/-! SUPPORT. What each update of a part leaves in each field of the state, and what a record reads as after it is changed. -/
namespace Sys2Proof.Machine.State

variable (s : State)

@[simp] theorem modWin_win (f) : (s.modWin f).win = f s.win := rfl
@[simp] theorem modWin_fab (f) : (s.modWin f).fab = s.fab := rfl
@[simp] theorem modWin_spl (f) : (s.modWin f).spl = s.spl := rfl
@[simp] theorem modWin_vert (f) : (s.modWin f).vert = s.vert := rfl
@[simp] theorem modWin_cst (f) : (s.modWin f).cst = s.cst := rfl
@[simp] theorem modWin_mem (f) : (s.modWin f).mem = s.mem := rfl
@[simp] theorem modWin_leat (f) : (s.modWin f).leat = s.leat := rfl
@[simp] theorem modWin_flm (f) : (s.modWin f).flm = s.flm := rfl
@[simp] theorem modWin_sec (f) : (s.modWin f).sec = s.sec := rfl
@[simp] theorem modWin_img (f) : (s.modWin f).img = s.img := rfl
@[simp] theorem modWin_io (f) : (s.modWin f).io = s.io := rfl
@[simp] theorem modWin_lnk (f) : (s.modWin f).lnk = s.lnk := rfl
@[simp] theorem modWin_lk (f) : (s.modWin f).lk = s.lk := rfl
@[simp] theorem modWin_host (f) : (s.modWin f).host = s.host := rfl
@[simp] theorem modWin_pwr (f) : (s.modWin f).pwr = s.pwr := rfl
@[simp] theorem modWin_clk (f) : (s.modWin f).clk = s.clk := rfl
@[simp] theorem modWin_thm (f) : (s.modWin f).thm = s.thm := rfl
@[simp] theorem modWin_rst (f) : (s.modWin f).rst = s.rst := rfl
@[simp] theorem modWin_bist (f) : (s.modWin f).bist = s.bist := rfl
@[simp] theorem modWin_pending (f) : (s.modWin f).pending = s.pending := rfl
@[simp] theorem modWin_fresh (f) : (s.modWin f).fresh = s.fresh := rfl
@[simp] theorem modWin_out (f) : (s.modWin f).out = s.out := rfl

@[simp] theorem modFab_win (f) : (s.modFab f).win = s.win := rfl
@[simp] theorem modFab_fab (f) : (s.modFab f).fab = f s.fab := rfl
@[simp] theorem modFab_spl (f) : (s.modFab f).spl = s.spl := rfl
@[simp] theorem modFab_vert (f) : (s.modFab f).vert = s.vert := rfl
@[simp] theorem modFab_cst (f) : (s.modFab f).cst = s.cst := rfl
@[simp] theorem modFab_mem (f) : (s.modFab f).mem = s.mem := rfl
@[simp] theorem modFab_leat (f) : (s.modFab f).leat = s.leat := rfl
@[simp] theorem modFab_flm (f) : (s.modFab f).flm = s.flm := rfl
@[simp] theorem modFab_sec (f) : (s.modFab f).sec = s.sec := rfl
@[simp] theorem modFab_img (f) : (s.modFab f).img = s.img := rfl
@[simp] theorem modFab_io (f) : (s.modFab f).io = s.io := rfl
@[simp] theorem modFab_lnk (f) : (s.modFab f).lnk = s.lnk := rfl
@[simp] theorem modFab_lk (f) : (s.modFab f).lk = s.lk := rfl
@[simp] theorem modFab_host (f) : (s.modFab f).host = s.host := rfl
@[simp] theorem modFab_pwr (f) : (s.modFab f).pwr = s.pwr := rfl
@[simp] theorem modFab_clk (f) : (s.modFab f).clk = s.clk := rfl
@[simp] theorem modFab_thm (f) : (s.modFab f).thm = s.thm := rfl
@[simp] theorem modFab_rst (f) : (s.modFab f).rst = s.rst := rfl
@[simp] theorem modFab_bist (f) : (s.modFab f).bist = s.bist := rfl
@[simp] theorem modFab_pending (f) : (s.modFab f).pending = s.pending := rfl
@[simp] theorem modFab_fresh (f) : (s.modFab f).fresh = s.fresh := rfl
@[simp] theorem modFab_out (f) : (s.modFab f).out = s.out := rfl

@[simp] theorem modSpl_win (f) : (s.modSpl f).win = s.win := rfl
@[simp] theorem modSpl_fab (f) : (s.modSpl f).fab = s.fab := rfl
@[simp] theorem modSpl_spl (f) : (s.modSpl f).spl = f s.spl := rfl
@[simp] theorem modSpl_vert (f) : (s.modSpl f).vert = s.vert := rfl
@[simp] theorem modSpl_cst (f) : (s.modSpl f).cst = s.cst := rfl
@[simp] theorem modSpl_mem (f) : (s.modSpl f).mem = s.mem := rfl
@[simp] theorem modSpl_leat (f) : (s.modSpl f).leat = s.leat := rfl
@[simp] theorem modSpl_flm (f) : (s.modSpl f).flm = s.flm := rfl
@[simp] theorem modSpl_sec (f) : (s.modSpl f).sec = s.sec := rfl
@[simp] theorem modSpl_img (f) : (s.modSpl f).img = s.img := rfl
@[simp] theorem modSpl_io (f) : (s.modSpl f).io = s.io := rfl
@[simp] theorem modSpl_lnk (f) : (s.modSpl f).lnk = s.lnk := rfl
@[simp] theorem modSpl_lk (f) : (s.modSpl f).lk = s.lk := rfl
@[simp] theorem modSpl_host (f) : (s.modSpl f).host = s.host := rfl
@[simp] theorem modSpl_pwr (f) : (s.modSpl f).pwr = s.pwr := rfl
@[simp] theorem modSpl_clk (f) : (s.modSpl f).clk = s.clk := rfl
@[simp] theorem modSpl_thm (f) : (s.modSpl f).thm = s.thm := rfl
@[simp] theorem modSpl_rst (f) : (s.modSpl f).rst = s.rst := rfl
@[simp] theorem modSpl_bist (f) : (s.modSpl f).bist = s.bist := rfl
@[simp] theorem modSpl_pending (f) : (s.modSpl f).pending = s.pending := rfl
@[simp] theorem modSpl_fresh (f) : (s.modSpl f).fresh = s.fresh := rfl
@[simp] theorem modSpl_out (f) : (s.modSpl f).out = s.out := rfl

@[simp] theorem modVert_win (f) : (s.modVert f).win = s.win := rfl
@[simp] theorem modVert_fab (f) : (s.modVert f).fab = s.fab := rfl
@[simp] theorem modVert_spl (f) : (s.modVert f).spl = s.spl := rfl
@[simp] theorem modVert_vert (f) : (s.modVert f).vert = f s.vert := rfl
@[simp] theorem modVert_cst (f) : (s.modVert f).cst = s.cst := rfl
@[simp] theorem modVert_mem (f) : (s.modVert f).mem = s.mem := rfl
@[simp] theorem modVert_leat (f) : (s.modVert f).leat = s.leat := rfl
@[simp] theorem modVert_flm (f) : (s.modVert f).flm = s.flm := rfl
@[simp] theorem modVert_sec (f) : (s.modVert f).sec = s.sec := rfl
@[simp] theorem modVert_img (f) : (s.modVert f).img = s.img := rfl
@[simp] theorem modVert_io (f) : (s.modVert f).io = s.io := rfl
@[simp] theorem modVert_lnk (f) : (s.modVert f).lnk = s.lnk := rfl
@[simp] theorem modVert_lk (f) : (s.modVert f).lk = s.lk := rfl
@[simp] theorem modVert_host (f) : (s.modVert f).host = s.host := rfl
@[simp] theorem modVert_pwr (f) : (s.modVert f).pwr = s.pwr := rfl
@[simp] theorem modVert_clk (f) : (s.modVert f).clk = s.clk := rfl
@[simp] theorem modVert_thm (f) : (s.modVert f).thm = s.thm := rfl
@[simp] theorem modVert_rst (f) : (s.modVert f).rst = s.rst := rfl
@[simp] theorem modVert_bist (f) : (s.modVert f).bist = s.bist := rfl
@[simp] theorem modVert_pending (f) : (s.modVert f).pending = s.pending := rfl
@[simp] theorem modVert_fresh (f) : (s.modVert f).fresh = s.fresh := rfl
@[simp] theorem modVert_out (f) : (s.modVert f).out = s.out := rfl

@[simp] theorem modCst_win (f) : (s.modCst f).win = s.win := rfl
@[simp] theorem modCst_fab (f) : (s.modCst f).fab = s.fab := rfl
@[simp] theorem modCst_spl (f) : (s.modCst f).spl = s.spl := rfl
@[simp] theorem modCst_vert (f) : (s.modCst f).vert = s.vert := rfl
@[simp] theorem modCst_cst (f) : (s.modCst f).cst = f s.cst := rfl
@[simp] theorem modCst_mem (f) : (s.modCst f).mem = s.mem := rfl
@[simp] theorem modCst_leat (f) : (s.modCst f).leat = s.leat := rfl
@[simp] theorem modCst_flm (f) : (s.modCst f).flm = s.flm := rfl
@[simp] theorem modCst_sec (f) : (s.modCst f).sec = s.sec := rfl
@[simp] theorem modCst_img (f) : (s.modCst f).img = s.img := rfl
@[simp] theorem modCst_io (f) : (s.modCst f).io = s.io := rfl
@[simp] theorem modCst_lnk (f) : (s.modCst f).lnk = s.lnk := rfl
@[simp] theorem modCst_lk (f) : (s.modCst f).lk = s.lk := rfl
@[simp] theorem modCst_host (f) : (s.modCst f).host = s.host := rfl
@[simp] theorem modCst_pwr (f) : (s.modCst f).pwr = s.pwr := rfl
@[simp] theorem modCst_clk (f) : (s.modCst f).clk = s.clk := rfl
@[simp] theorem modCst_thm (f) : (s.modCst f).thm = s.thm := rfl
@[simp] theorem modCst_rst (f) : (s.modCst f).rst = s.rst := rfl
@[simp] theorem modCst_bist (f) : (s.modCst f).bist = s.bist := rfl
@[simp] theorem modCst_pending (f) : (s.modCst f).pending = s.pending := rfl
@[simp] theorem modCst_fresh (f) : (s.modCst f).fresh = s.fresh := rfl
@[simp] theorem modCst_out (f) : (s.modCst f).out = s.out := rfl

@[simp] theorem modMem_win (f) : (s.modMem f).win = s.win := rfl
@[simp] theorem modMem_fab (f) : (s.modMem f).fab = s.fab := rfl
@[simp] theorem modMem_spl (f) : (s.modMem f).spl = s.spl := rfl
@[simp] theorem modMem_vert (f) : (s.modMem f).vert = s.vert := rfl
@[simp] theorem modMem_cst (f) : (s.modMem f).cst = s.cst := rfl
@[simp] theorem modMem_mem (f) : (s.modMem f).mem = f s.mem := rfl
@[simp] theorem modMem_leat (f) : (s.modMem f).leat = s.leat := rfl
@[simp] theorem modMem_flm (f) : (s.modMem f).flm = s.flm := rfl
@[simp] theorem modMem_sec (f) : (s.modMem f).sec = s.sec := rfl
@[simp] theorem modMem_img (f) : (s.modMem f).img = s.img := rfl
@[simp] theorem modMem_io (f) : (s.modMem f).io = s.io := rfl
@[simp] theorem modMem_lnk (f) : (s.modMem f).lnk = s.lnk := rfl
@[simp] theorem modMem_lk (f) : (s.modMem f).lk = s.lk := rfl
@[simp] theorem modMem_host (f) : (s.modMem f).host = s.host := rfl
@[simp] theorem modMem_pwr (f) : (s.modMem f).pwr = s.pwr := rfl
@[simp] theorem modMem_clk (f) : (s.modMem f).clk = s.clk := rfl
@[simp] theorem modMem_thm (f) : (s.modMem f).thm = s.thm := rfl
@[simp] theorem modMem_rst (f) : (s.modMem f).rst = s.rst := rfl
@[simp] theorem modMem_bist (f) : (s.modMem f).bist = s.bist := rfl
@[simp] theorem modMem_pending (f) : (s.modMem f).pending = s.pending := rfl
@[simp] theorem modMem_fresh (f) : (s.modMem f).fresh = s.fresh := rfl
@[simp] theorem modMem_out (f) : (s.modMem f).out = s.out := rfl

@[simp] theorem modLeat_win (f) : (s.modLeat f).win = s.win := rfl
@[simp] theorem modLeat_fab (f) : (s.modLeat f).fab = s.fab := rfl
@[simp] theorem modLeat_spl (f) : (s.modLeat f).spl = s.spl := rfl
@[simp] theorem modLeat_vert (f) : (s.modLeat f).vert = s.vert := rfl
@[simp] theorem modLeat_cst (f) : (s.modLeat f).cst = s.cst := rfl
@[simp] theorem modLeat_mem (f) : (s.modLeat f).mem = s.mem := rfl
@[simp] theorem modLeat_leat (f) : (s.modLeat f).leat = f s.leat := rfl
@[simp] theorem modLeat_flm (f) : (s.modLeat f).flm = s.flm := rfl
@[simp] theorem modLeat_sec (f) : (s.modLeat f).sec = s.sec := rfl
@[simp] theorem modLeat_img (f) : (s.modLeat f).img = s.img := rfl
@[simp] theorem modLeat_io (f) : (s.modLeat f).io = s.io := rfl
@[simp] theorem modLeat_lnk (f) : (s.modLeat f).lnk = s.lnk := rfl
@[simp] theorem modLeat_lk (f) : (s.modLeat f).lk = s.lk := rfl
@[simp] theorem modLeat_host (f) : (s.modLeat f).host = s.host := rfl
@[simp] theorem modLeat_pwr (f) : (s.modLeat f).pwr = s.pwr := rfl
@[simp] theorem modLeat_clk (f) : (s.modLeat f).clk = s.clk := rfl
@[simp] theorem modLeat_thm (f) : (s.modLeat f).thm = s.thm := rfl
@[simp] theorem modLeat_rst (f) : (s.modLeat f).rst = s.rst := rfl
@[simp] theorem modLeat_bist (f) : (s.modLeat f).bist = s.bist := rfl
@[simp] theorem modLeat_pending (f) : (s.modLeat f).pending = s.pending := rfl
@[simp] theorem modLeat_fresh (f) : (s.modLeat f).fresh = s.fresh := rfl
@[simp] theorem modLeat_out (f) : (s.modLeat f).out = s.out := rfl

@[simp] theorem modLk_win (f) : (s.modLk f).win = s.win := rfl
@[simp] theorem modLk_fab (f) : (s.modLk f).fab = s.fab := rfl
@[simp] theorem modLk_spl (f) : (s.modLk f).spl = s.spl := rfl
@[simp] theorem modLk_vert (f) : (s.modLk f).vert = s.vert := rfl
@[simp] theorem modLk_cst (f) : (s.modLk f).cst = s.cst := rfl
@[simp] theorem modLk_mem (f) : (s.modLk f).mem = s.mem := rfl
@[simp] theorem modLk_leat (f) : (s.modLk f).leat = s.leat := rfl
@[simp] theorem modLk_flm (f) : (s.modLk f).flm = s.flm := rfl
@[simp] theorem modLk_sec (f) : (s.modLk f).sec = s.sec := rfl
@[simp] theorem modLk_img (f) : (s.modLk f).img = s.img := rfl
@[simp] theorem modLk_io (f) : (s.modLk f).io = s.io := rfl
@[simp] theorem modLk_lnk (f) : (s.modLk f).lnk = s.lnk := rfl
@[simp] theorem modLk_lk (f) : (s.modLk f).lk = f s.lk := rfl
@[simp] theorem modLk_host (f) : (s.modLk f).host = s.host := rfl
@[simp] theorem modLk_pwr (f) : (s.modLk f).pwr = s.pwr := rfl
@[simp] theorem modLk_clk (f) : (s.modLk f).clk = s.clk := rfl
@[simp] theorem modLk_thm (f) : (s.modLk f).thm = s.thm := rfl
@[simp] theorem modLk_rst (f) : (s.modLk f).rst = s.rst := rfl
@[simp] theorem modLk_bist (f) : (s.modLk f).bist = s.bist := rfl
@[simp] theorem modLk_pending (f) : (s.modLk f).pending = s.pending := rfl
@[simp] theorem modLk_fresh (f) : (s.modLk f).fresh = s.fresh := rfl
@[simp] theorem modLk_out (f) : (s.modLk f).out = s.out := rfl

@[simp] theorem modHost_win (f) : (s.modHost f).win = s.win := rfl
@[simp] theorem modHost_fab (f) : (s.modHost f).fab = s.fab := rfl
@[simp] theorem modHost_spl (f) : (s.modHost f).spl = s.spl := rfl
@[simp] theorem modHost_vert (f) : (s.modHost f).vert = s.vert := rfl
@[simp] theorem modHost_cst (f) : (s.modHost f).cst = s.cst := rfl
@[simp] theorem modHost_mem (f) : (s.modHost f).mem = s.mem := rfl
@[simp] theorem modHost_leat (f) : (s.modHost f).leat = s.leat := rfl
@[simp] theorem modHost_flm (f) : (s.modHost f).flm = s.flm := rfl
@[simp] theorem modHost_sec (f) : (s.modHost f).sec = s.sec := rfl
@[simp] theorem modHost_img (f) : (s.modHost f).img = s.img := rfl
@[simp] theorem modHost_io (f) : (s.modHost f).io = s.io := rfl
@[simp] theorem modHost_lnk (f) : (s.modHost f).lnk = s.lnk := rfl
@[simp] theorem modHost_lk (f) : (s.modHost f).lk = s.lk := rfl
@[simp] theorem modHost_host (f) : (s.modHost f).host = f s.host := rfl
@[simp] theorem modHost_pwr (f) : (s.modHost f).pwr = s.pwr := rfl
@[simp] theorem modHost_clk (f) : (s.modHost f).clk = s.clk := rfl
@[simp] theorem modHost_thm (f) : (s.modHost f).thm = s.thm := rfl
@[simp] theorem modHost_rst (f) : (s.modHost f).rst = s.rst := rfl
@[simp] theorem modHost_bist (f) : (s.modHost f).bist = s.bist := rfl
@[simp] theorem modHost_pending (f) : (s.modHost f).pending = s.pending := rfl
@[simp] theorem modHost_fresh (f) : (s.modHost f).fresh = s.fresh := rfl
@[simp] theorem modHost_out (f) : (s.modHost f).out = s.out := rfl

@[simp] theorem modPwr_win (f) : (s.modPwr f).win = s.win := rfl
@[simp] theorem modPwr_fab (f) : (s.modPwr f).fab = s.fab := rfl
@[simp] theorem modPwr_spl (f) : (s.modPwr f).spl = s.spl := rfl
@[simp] theorem modPwr_vert (f) : (s.modPwr f).vert = s.vert := rfl
@[simp] theorem modPwr_cst (f) : (s.modPwr f).cst = s.cst := rfl
@[simp] theorem modPwr_mem (f) : (s.modPwr f).mem = s.mem := rfl
@[simp] theorem modPwr_leat (f) : (s.modPwr f).leat = s.leat := rfl
@[simp] theorem modPwr_flm (f) : (s.modPwr f).flm = s.flm := rfl
@[simp] theorem modPwr_sec (f) : (s.modPwr f).sec = s.sec := rfl
@[simp] theorem modPwr_img (f) : (s.modPwr f).img = s.img := rfl
@[simp] theorem modPwr_io (f) : (s.modPwr f).io = s.io := rfl
@[simp] theorem modPwr_lnk (f) : (s.modPwr f).lnk = s.lnk := rfl
@[simp] theorem modPwr_lk (f) : (s.modPwr f).lk = s.lk := rfl
@[simp] theorem modPwr_host (f) : (s.modPwr f).host = s.host := rfl
@[simp] theorem modPwr_pwr (f) : (s.modPwr f).pwr = f s.pwr := rfl
@[simp] theorem modPwr_clk (f) : (s.modPwr f).clk = s.clk := rfl
@[simp] theorem modPwr_thm (f) : (s.modPwr f).thm = s.thm := rfl
@[simp] theorem modPwr_rst (f) : (s.modPwr f).rst = s.rst := rfl
@[simp] theorem modPwr_bist (f) : (s.modPwr f).bist = s.bist := rfl
@[simp] theorem modPwr_pending (f) : (s.modPwr f).pending = s.pending := rfl
@[simp] theorem modPwr_fresh (f) : (s.modPwr f).fresh = s.fresh := rfl
@[simp] theorem modPwr_out (f) : (s.modPwr f).out = s.out := rfl

@[simp] theorem modClk_win (f) : (s.modClk f).win = s.win := rfl
@[simp] theorem modClk_fab (f) : (s.modClk f).fab = s.fab := rfl
@[simp] theorem modClk_spl (f) : (s.modClk f).spl = s.spl := rfl
@[simp] theorem modClk_vert (f) : (s.modClk f).vert = s.vert := rfl
@[simp] theorem modClk_cst (f) : (s.modClk f).cst = s.cst := rfl
@[simp] theorem modClk_mem (f) : (s.modClk f).mem = s.mem := rfl
@[simp] theorem modClk_leat (f) : (s.modClk f).leat = s.leat := rfl
@[simp] theorem modClk_flm (f) : (s.modClk f).flm = s.flm := rfl
@[simp] theorem modClk_sec (f) : (s.modClk f).sec = s.sec := rfl
@[simp] theorem modClk_img (f) : (s.modClk f).img = s.img := rfl
@[simp] theorem modClk_io (f) : (s.modClk f).io = s.io := rfl
@[simp] theorem modClk_lnk (f) : (s.modClk f).lnk = s.lnk := rfl
@[simp] theorem modClk_lk (f) : (s.modClk f).lk = s.lk := rfl
@[simp] theorem modClk_host (f) : (s.modClk f).host = s.host := rfl
@[simp] theorem modClk_pwr (f) : (s.modClk f).pwr = s.pwr := rfl
@[simp] theorem modClk_clk (f) : (s.modClk f).clk = f s.clk := rfl
@[simp] theorem modClk_thm (f) : (s.modClk f).thm = s.thm := rfl
@[simp] theorem modClk_rst (f) : (s.modClk f).rst = s.rst := rfl
@[simp] theorem modClk_bist (f) : (s.modClk f).bist = s.bist := rfl
@[simp] theorem modClk_pending (f) : (s.modClk f).pending = s.pending := rfl
@[simp] theorem modClk_fresh (f) : (s.modClk f).fresh = s.fresh := rfl
@[simp] theorem modClk_out (f) : (s.modClk f).out = s.out := rfl

@[simp] theorem modThm_win (f) : (s.modThm f).win = s.win := rfl
@[simp] theorem modThm_fab (f) : (s.modThm f).fab = s.fab := rfl
@[simp] theorem modThm_spl (f) : (s.modThm f).spl = s.spl := rfl
@[simp] theorem modThm_vert (f) : (s.modThm f).vert = s.vert := rfl
@[simp] theorem modThm_cst (f) : (s.modThm f).cst = s.cst := rfl
@[simp] theorem modThm_mem (f) : (s.modThm f).mem = s.mem := rfl
@[simp] theorem modThm_leat (f) : (s.modThm f).leat = s.leat := rfl
@[simp] theorem modThm_flm (f) : (s.modThm f).flm = s.flm := rfl
@[simp] theorem modThm_sec (f) : (s.modThm f).sec = s.sec := rfl
@[simp] theorem modThm_img (f) : (s.modThm f).img = s.img := rfl
@[simp] theorem modThm_io (f) : (s.modThm f).io = s.io := rfl
@[simp] theorem modThm_lnk (f) : (s.modThm f).lnk = s.lnk := rfl
@[simp] theorem modThm_lk (f) : (s.modThm f).lk = s.lk := rfl
@[simp] theorem modThm_host (f) : (s.modThm f).host = s.host := rfl
@[simp] theorem modThm_pwr (f) : (s.modThm f).pwr = s.pwr := rfl
@[simp] theorem modThm_clk (f) : (s.modThm f).clk = s.clk := rfl
@[simp] theorem modThm_thm (f) : (s.modThm f).thm = f s.thm := rfl
@[simp] theorem modThm_rst (f) : (s.modThm f).rst = s.rst := rfl
@[simp] theorem modThm_bist (f) : (s.modThm f).bist = s.bist := rfl
@[simp] theorem modThm_pending (f) : (s.modThm f).pending = s.pending := rfl
@[simp] theorem modThm_fresh (f) : (s.modThm f).fresh = s.fresh := rfl
@[simp] theorem modThm_out (f) : (s.modThm f).out = s.out := rfl

@[simp] theorem modRst_win (f) : (s.modRst f).win = s.win := rfl
@[simp] theorem modRst_fab (f) : (s.modRst f).fab = s.fab := rfl
@[simp] theorem modRst_spl (f) : (s.modRst f).spl = s.spl := rfl
@[simp] theorem modRst_vert (f) : (s.modRst f).vert = s.vert := rfl
@[simp] theorem modRst_cst (f) : (s.modRst f).cst = s.cst := rfl
@[simp] theorem modRst_mem (f) : (s.modRst f).mem = s.mem := rfl
@[simp] theorem modRst_leat (f) : (s.modRst f).leat = s.leat := rfl
@[simp] theorem modRst_flm (f) : (s.modRst f).flm = s.flm := rfl
@[simp] theorem modRst_sec (f) : (s.modRst f).sec = s.sec := rfl
@[simp] theorem modRst_img (f) : (s.modRst f).img = s.img := rfl
@[simp] theorem modRst_io (f) : (s.modRst f).io = s.io := rfl
@[simp] theorem modRst_lnk (f) : (s.modRst f).lnk = s.lnk := rfl
@[simp] theorem modRst_lk (f) : (s.modRst f).lk = s.lk := rfl
@[simp] theorem modRst_host (f) : (s.modRst f).host = s.host := rfl
@[simp] theorem modRst_pwr (f) : (s.modRst f).pwr = s.pwr := rfl
@[simp] theorem modRst_clk (f) : (s.modRst f).clk = s.clk := rfl
@[simp] theorem modRst_thm (f) : (s.modRst f).thm = s.thm := rfl
@[simp] theorem modRst_rst (f) : (s.modRst f).rst = f s.rst := rfl
@[simp] theorem modRst_bist (f) : (s.modRst f).bist = s.bist := rfl
@[simp] theorem modRst_pending (f) : (s.modRst f).pending = s.pending := rfl
@[simp] theorem modRst_fresh (f) : (s.modRst f).fresh = s.fresh := rfl
@[simp] theorem modRst_out (f) : (s.modRst f).out = s.out := rfl

@[simp] theorem modBist_win (f) : (s.modBist f).win = s.win := rfl
@[simp] theorem modBist_fab (f) : (s.modBist f).fab = s.fab := rfl
@[simp] theorem modBist_spl (f) : (s.modBist f).spl = s.spl := rfl
@[simp] theorem modBist_vert (f) : (s.modBist f).vert = s.vert := rfl
@[simp] theorem modBist_cst (f) : (s.modBist f).cst = s.cst := rfl
@[simp] theorem modBist_mem (f) : (s.modBist f).mem = s.mem := rfl
@[simp] theorem modBist_leat (f) : (s.modBist f).leat = s.leat := rfl
@[simp] theorem modBist_flm (f) : (s.modBist f).flm = s.flm := rfl
@[simp] theorem modBist_sec (f) : (s.modBist f).sec = s.sec := rfl
@[simp] theorem modBist_img (f) : (s.modBist f).img = s.img := rfl
@[simp] theorem modBist_io (f) : (s.modBist f).io = s.io := rfl
@[simp] theorem modBist_lnk (f) : (s.modBist f).lnk = s.lnk := rfl
@[simp] theorem modBist_lk (f) : (s.modBist f).lk = s.lk := rfl
@[simp] theorem modBist_host (f) : (s.modBist f).host = s.host := rfl
@[simp] theorem modBist_pwr (f) : (s.modBist f).pwr = s.pwr := rfl
@[simp] theorem modBist_clk (f) : (s.modBist f).clk = s.clk := rfl
@[simp] theorem modBist_thm (f) : (s.modBist f).thm = s.thm := rfl
@[simp] theorem modBist_rst (f) : (s.modBist f).rst = s.rst := rfl
@[simp] theorem modBist_bist (f) : (s.modBist f).bist = f s.bist := rfl
@[simp] theorem modBist_pending (f) : (s.modBist f).pending = s.pending := rfl
@[simp] theorem modBist_fresh (f) : (s.modBist f).fresh = s.fresh := rfl
@[simp] theorem modBist_out (f) : (s.modBist f).out = s.out := rfl

@[simp] theorem modFlm_win (f) : (s.modFlm f).win = s.win := rfl
@[simp] theorem modFlm_fab (f) : (s.modFlm f).fab = s.fab := rfl
@[simp] theorem modFlm_spl (f) : (s.modFlm f).spl = s.spl := rfl
@[simp] theorem modFlm_vert (f) : (s.modFlm f).vert = s.vert := rfl
@[simp] theorem modFlm_cst (f) : (s.modFlm f).cst = s.cst := rfl
@[simp] theorem modFlm_mem (f) : (s.modFlm f).mem = s.mem := rfl
@[simp] theorem modFlm_leat (f) : (s.modFlm f).leat = s.leat := rfl
@[simp] theorem modFlm_flm (f) : (s.modFlm f).flm = f s.flm := rfl
@[simp] theorem modFlm_sec (f) : (s.modFlm f).sec = s.sec := rfl
@[simp] theorem modFlm_img (f) : (s.modFlm f).img = s.img := rfl
@[simp] theorem modFlm_io (f) : (s.modFlm f).io = s.io := rfl
@[simp] theorem modFlm_lnk (f) : (s.modFlm f).lnk = s.lnk := rfl
@[simp] theorem modFlm_lk (f) : (s.modFlm f).lk = s.lk := rfl
@[simp] theorem modFlm_host (f) : (s.modFlm f).host = s.host := rfl
@[simp] theorem modFlm_pwr (f) : (s.modFlm f).pwr = s.pwr := rfl
@[simp] theorem modFlm_clk (f) : (s.modFlm f).clk = s.clk := rfl
@[simp] theorem modFlm_thm (f) : (s.modFlm f).thm = s.thm := rfl
@[simp] theorem modFlm_rst (f) : (s.modFlm f).rst = s.rst := rfl
@[simp] theorem modFlm_bist (f) : (s.modFlm f).bist = s.bist := rfl
@[simp] theorem modFlm_pending (f) : (s.modFlm f).pending = s.pending := rfl
@[simp] theorem modFlm_fresh (f) : (s.modFlm f).fresh = s.fresh := rfl
@[simp] theorem modFlm_out (f) : (s.modFlm f).out = s.out := rfl

@[simp] theorem modSec_win (f) : (s.modSec f).win = s.win := rfl
@[simp] theorem modSec_fab (f) : (s.modSec f).fab = s.fab := rfl
@[simp] theorem modSec_spl (f) : (s.modSec f).spl = s.spl := rfl
@[simp] theorem modSec_vert (f) : (s.modSec f).vert = s.vert := rfl
@[simp] theorem modSec_cst (f) : (s.modSec f).cst = s.cst := rfl
@[simp] theorem modSec_mem (f) : (s.modSec f).mem = s.mem := rfl
@[simp] theorem modSec_leat (f) : (s.modSec f).leat = s.leat := rfl
@[simp] theorem modSec_flm (f) : (s.modSec f).flm = s.flm := rfl
@[simp] theorem modSec_sec (f) : (s.modSec f).sec = f s.sec := rfl
@[simp] theorem modSec_img (f) : (s.modSec f).img = s.img := rfl
@[simp] theorem modSec_io (f) : (s.modSec f).io = s.io := rfl
@[simp] theorem modSec_lnk (f) : (s.modSec f).lnk = s.lnk := rfl
@[simp] theorem modSec_lk (f) : (s.modSec f).lk = s.lk := rfl
@[simp] theorem modSec_host (f) : (s.modSec f).host = s.host := rfl
@[simp] theorem modSec_pwr (f) : (s.modSec f).pwr = s.pwr := rfl
@[simp] theorem modSec_clk (f) : (s.modSec f).clk = s.clk := rfl
@[simp] theorem modSec_thm (f) : (s.modSec f).thm = s.thm := rfl
@[simp] theorem modSec_rst (f) : (s.modSec f).rst = s.rst := rfl
@[simp] theorem modSec_bist (f) : (s.modSec f).bist = s.bist := rfl
@[simp] theorem modSec_pending (f) : (s.modSec f).pending = s.pending := rfl
@[simp] theorem modSec_fresh (f) : (s.modSec f).fresh = s.fresh := rfl
@[simp] theorem modSec_out (f) : (s.modSec f).out = s.out := rfl

@[simp] theorem modImg_win (f) : (s.modImg f).win = s.win := rfl
@[simp] theorem modImg_fab (f) : (s.modImg f).fab = s.fab := rfl
@[simp] theorem modImg_spl (f) : (s.modImg f).spl = s.spl := rfl
@[simp] theorem modImg_vert (f) : (s.modImg f).vert = s.vert := rfl
@[simp] theorem modImg_cst (f) : (s.modImg f).cst = s.cst := rfl
@[simp] theorem modImg_mem (f) : (s.modImg f).mem = s.mem := rfl
@[simp] theorem modImg_leat (f) : (s.modImg f).leat = s.leat := rfl
@[simp] theorem modImg_flm (f) : (s.modImg f).flm = s.flm := rfl
@[simp] theorem modImg_sec (f) : (s.modImg f).sec = s.sec := rfl
@[simp] theorem modImg_img (f) : (s.modImg f).img = f s.img := rfl
@[simp] theorem modImg_io (f) : (s.modImg f).io = s.io := rfl
@[simp] theorem modImg_lnk (f) : (s.modImg f).lnk = s.lnk := rfl
@[simp] theorem modImg_lk (f) : (s.modImg f).lk = s.lk := rfl
@[simp] theorem modImg_host (f) : (s.modImg f).host = s.host := rfl
@[simp] theorem modImg_pwr (f) : (s.modImg f).pwr = s.pwr := rfl
@[simp] theorem modImg_clk (f) : (s.modImg f).clk = s.clk := rfl
@[simp] theorem modImg_thm (f) : (s.modImg f).thm = s.thm := rfl
@[simp] theorem modImg_rst (f) : (s.modImg f).rst = s.rst := rfl
@[simp] theorem modImg_bist (f) : (s.modImg f).bist = s.bist := rfl
@[simp] theorem modImg_pending (f) : (s.modImg f).pending = s.pending := rfl
@[simp] theorem modImg_fresh (f) : (s.modImg f).fresh = s.fresh := rfl
@[simp] theorem modImg_out (f) : (s.modImg f).out = s.out := rfl

@[simp] theorem modIo_win (f) : (s.modIo f).win = s.win := rfl
@[simp] theorem modIo_fab (f) : (s.modIo f).fab = s.fab := rfl
@[simp] theorem modIo_spl (f) : (s.modIo f).spl = s.spl := rfl
@[simp] theorem modIo_vert (f) : (s.modIo f).vert = s.vert := rfl
@[simp] theorem modIo_cst (f) : (s.modIo f).cst = s.cst := rfl
@[simp] theorem modIo_mem (f) : (s.modIo f).mem = s.mem := rfl
@[simp] theorem modIo_leat (f) : (s.modIo f).leat = s.leat := rfl
@[simp] theorem modIo_flm (f) : (s.modIo f).flm = s.flm := rfl
@[simp] theorem modIo_sec (f) : (s.modIo f).sec = s.sec := rfl
@[simp] theorem modIo_img (f) : (s.modIo f).img = s.img := rfl
@[simp] theorem modIo_io (f) : (s.modIo f).io = f s.io := rfl
@[simp] theorem modIo_lnk (f) : (s.modIo f).lnk = s.lnk := rfl
@[simp] theorem modIo_lk (f) : (s.modIo f).lk = s.lk := rfl
@[simp] theorem modIo_host (f) : (s.modIo f).host = s.host := rfl
@[simp] theorem modIo_pwr (f) : (s.modIo f).pwr = s.pwr := rfl
@[simp] theorem modIo_clk (f) : (s.modIo f).clk = s.clk := rfl
@[simp] theorem modIo_thm (f) : (s.modIo f).thm = s.thm := rfl
@[simp] theorem modIo_rst (f) : (s.modIo f).rst = s.rst := rfl
@[simp] theorem modIo_bist (f) : (s.modIo f).bist = s.bist := rfl
@[simp] theorem modIo_pending (f) : (s.modIo f).pending = s.pending := rfl
@[simp] theorem modIo_fresh (f) : (s.modIo f).fresh = s.fresh := rfl
@[simp] theorem modIo_out (f) : (s.modIo f).out = s.out := rfl

@[simp] theorem modLnk_win (f) : (s.modLnk f).win = s.win := rfl
@[simp] theorem modLnk_fab (f) : (s.modLnk f).fab = s.fab := rfl
@[simp] theorem modLnk_spl (f) : (s.modLnk f).spl = s.spl := rfl
@[simp] theorem modLnk_vert (f) : (s.modLnk f).vert = s.vert := rfl
@[simp] theorem modLnk_cst (f) : (s.modLnk f).cst = s.cst := rfl
@[simp] theorem modLnk_mem (f) : (s.modLnk f).mem = s.mem := rfl
@[simp] theorem modLnk_leat (f) : (s.modLnk f).leat = s.leat := rfl
@[simp] theorem modLnk_flm (f) : (s.modLnk f).flm = s.flm := rfl
@[simp] theorem modLnk_sec (f) : (s.modLnk f).sec = s.sec := rfl
@[simp] theorem modLnk_img (f) : (s.modLnk f).img = s.img := rfl
@[simp] theorem modLnk_io (f) : (s.modLnk f).io = s.io := rfl
@[simp] theorem modLnk_lnk (f) : (s.modLnk f).lnk = f s.lnk := rfl
@[simp] theorem modLnk_lk (f) : (s.modLnk f).lk = s.lk := rfl
@[simp] theorem modLnk_host (f) : (s.modLnk f).host = s.host := rfl
@[simp] theorem modLnk_pwr (f) : (s.modLnk f).pwr = s.pwr := rfl
@[simp] theorem modLnk_clk (f) : (s.modLnk f).clk = s.clk := rfl
@[simp] theorem modLnk_thm (f) : (s.modLnk f).thm = s.thm := rfl
@[simp] theorem modLnk_rst (f) : (s.modLnk f).rst = s.rst := rfl
@[simp] theorem modLnk_bist (f) : (s.modLnk f).bist = s.bist := rfl
@[simp] theorem modLnk_pending (f) : (s.modLnk f).pending = s.pending := rfl
@[simp] theorem modLnk_fresh (f) : (s.modLnk f).fresh = s.fresh := rfl
@[simp] theorem modLnk_out (f) : (s.modLnk f).out = s.out := rfl

@[simp] theorem emit_win (o) : (s.emit o).win = s.win := rfl
@[simp] theorem emit_fab (o) : (s.emit o).fab = s.fab := rfl
@[simp] theorem emit_spl (o) : (s.emit o).spl = s.spl := rfl
@[simp] theorem emit_vert (o) : (s.emit o).vert = s.vert := rfl
@[simp] theorem emit_cst (o) : (s.emit o).cst = s.cst := rfl
@[simp] theorem emit_mem (o) : (s.emit o).mem = s.mem := rfl
@[simp] theorem emit_leat (o) : (s.emit o).leat = s.leat := rfl
@[simp] theorem emit_flm (o) : (s.emit o).flm = s.flm := rfl
@[simp] theorem emit_sec (o) : (s.emit o).sec = s.sec := rfl
@[simp] theorem emit_img (o) : (s.emit o).img = s.img := rfl
@[simp] theorem emit_io (o) : (s.emit o).io = s.io := rfl
@[simp] theorem emit_lnk (o) : (s.emit o).lnk = s.lnk := rfl
@[simp] theorem emit_lk (o) : (s.emit o).lk = s.lk := rfl
@[simp] theorem emit_host (o) : (s.emit o).host = s.host := rfl
@[simp] theorem emit_pwr (o) : (s.emit o).pwr = s.pwr := rfl
@[simp] theorem emit_clk (o) : (s.emit o).clk = s.clk := rfl
@[simp] theorem emit_thm (o) : (s.emit o).thm = s.thm := rfl
@[simp] theorem emit_rst (o) : (s.emit o).rst = s.rst := rfl
@[simp] theorem emit_bist (o) : (s.emit o).bist = s.bist := rfl
@[simp] theorem emit_pending (o) : (s.emit o).pending = s.pending := rfl
@[simp] theorem emit_fresh (o) : (s.emit o).fresh = s.fresh := rfl
@[simp] theorem emit_out (o) : (s.emit o).out = s.out ++ [o] := rfl

@[simp] theorem freshen_win : s.freshen.win = s.win := rfl
@[simp] theorem freshen_fab : s.freshen.fab = s.fab := rfl
@[simp] theorem freshen_spl : s.freshen.spl = s.spl := rfl
@[simp] theorem freshen_vert : s.freshen.vert = s.vert := rfl
@[simp] theorem freshen_cst : s.freshen.cst = s.cst := rfl
@[simp] theorem freshen_mem : s.freshen.mem = s.mem := rfl
@[simp] theorem freshen_leat : s.freshen.leat = s.leat := rfl
@[simp] theorem freshen_flm : s.freshen.flm = s.flm := rfl
@[simp] theorem freshen_sec : s.freshen.sec = s.sec := rfl
@[simp] theorem freshen_img : s.freshen.img = s.img := rfl
@[simp] theorem freshen_io : s.freshen.io = s.io := rfl
@[simp] theorem freshen_lnk : s.freshen.lnk = s.lnk := rfl
@[simp] theorem freshen_lk : s.freshen.lk = s.lk := rfl
@[simp] theorem freshen_host : s.freshen.host = s.host := rfl
@[simp] theorem freshen_pwr : s.freshen.pwr = s.pwr := rfl
@[simp] theorem freshen_clk : s.freshen.clk = s.clk := rfl
@[simp] theorem freshen_thm : s.freshen.thm = s.thm := rfl
@[simp] theorem freshen_rst : s.freshen.rst = s.rst := rfl
@[simp] theorem freshen_bist : s.freshen.bist = s.bist := rfl
@[simp] theorem freshen_pending : s.freshen.pending = s.pending := rfl
@[simp] theorem freshen_fresh : s.freshen.fresh = s.fresh + 1 := rfl
@[simp] theorem freshen_out : s.freshen.out = s.out := rfl

@[simp] theorem modLink_win (i f) : (s.modLink i f).win = s.win := rfl
@[simp] theorem modLink_fab (i f) : (s.modLink i f).fab = s.fab := rfl
@[simp] theorem modLink_spl (i f) : (s.modLink i f).spl = s.spl := rfl
@[simp] theorem modLink_vert (i f) : (s.modLink i f).vert = s.vert := rfl
@[simp] theorem modLink_cst (i f) : (s.modLink i f).cst = s.cst := rfl
@[simp] theorem modLink_mem (i f) : (s.modLink i f).mem = s.mem := rfl
@[simp] theorem modLink_leat (i f) : (s.modLink i f).leat = s.leat := rfl
@[simp] theorem modLink_flm (i f) : (s.modLink i f).flm = s.flm := rfl
@[simp] theorem modLink_sec (i f) : (s.modLink i f).sec = s.sec := rfl
@[simp] theorem modLink_img (i f) : (s.modLink i f).img = s.img := rfl
@[simp] theorem modLink_io (i f) : (s.modLink i f).io = s.io := rfl
@[simp] theorem modLink_lk (i f) : (s.modLink i f).lk = s.lk := rfl
@[simp] theorem modLink_host (i f) : (s.modLink i f).host = s.host := rfl
@[simp] theorem modLink_pwr (i f) : (s.modLink i f).pwr = s.pwr := rfl
@[simp] theorem modLink_clk (i f) : (s.modLink i f).clk = s.clk := rfl
@[simp] theorem modLink_thm (i f) : (s.modLink i f).thm = s.thm := rfl
@[simp] theorem modLink_rst (i f) : (s.modLink i f).rst = s.rst := rfl
@[simp] theorem modLink_bist (i f) : (s.modLink i f).bist = s.bist := rfl
@[simp] theorem modLink_pending (i f) : (s.modLink i f).pending = s.pending := rfl
@[simp] theorem modLink_fresh (i f) : (s.modLink i f).fresh = s.fresh := rfl
@[simp] theorem modLink_out (i f) : (s.modLink i f).out = s.out := rfl
/-- A record reads as changed, and every other one as before. -/
theorem linkAt_modLink (i j f) : (s.modLink i f).linkAt j = if j = i then f (s.linkAt i) else s.linkAt j := tget_tmod
theorem modLink_modLink (i f g) : (s.modLink i f).modLink i g = s.modLink i fun x => g (f x) := by
  simp [modLink, modLnk, tmod_tmod]

@[simp] theorem modGroup_win (i f) : (s.modGroup i f).win = s.win := rfl
@[simp] theorem modGroup_fab (i f) : (s.modGroup i f).fab = s.fab := rfl
@[simp] theorem modGroup_spl (i f) : (s.modGroup i f).spl = s.spl := rfl
@[simp] theorem modGroup_vert (i f) : (s.modGroup i f).vert = s.vert := rfl
@[simp] theorem modGroup_cst (i f) : (s.modGroup i f).cst = s.cst := rfl
@[simp] theorem modGroup_mem (i f) : (s.modGroup i f).mem = s.mem := rfl
@[simp] theorem modGroup_leat (i f) : (s.modGroup i f).leat = s.leat := rfl
@[simp] theorem modGroup_flm (i f) : (s.modGroup i f).flm = s.flm := rfl
@[simp] theorem modGroup_sec (i f) : (s.modGroup i f).sec = s.sec := rfl
@[simp] theorem modGroup_img (i f) : (s.modGroup i f).img = s.img := rfl
@[simp] theorem modGroup_io (i f) : (s.modGroup i f).io = s.io := rfl
@[simp] theorem modGroup_lk (i f) : (s.modGroup i f).lk = s.lk := rfl
@[simp] theorem modGroup_host (i f) : (s.modGroup i f).host = s.host := rfl
@[simp] theorem modGroup_pwr (i f) : (s.modGroup i f).pwr = s.pwr := rfl
@[simp] theorem modGroup_clk (i f) : (s.modGroup i f).clk = s.clk := rfl
@[simp] theorem modGroup_thm (i f) : (s.modGroup i f).thm = s.thm := rfl
@[simp] theorem modGroup_rst (i f) : (s.modGroup i f).rst = s.rst := rfl
@[simp] theorem modGroup_bist (i f) : (s.modGroup i f).bist = s.bist := rfl
@[simp] theorem modGroup_pending (i f) : (s.modGroup i f).pending = s.pending := rfl
@[simp] theorem modGroup_fresh (i f) : (s.modGroup i f).fresh = s.fresh := rfl
@[simp] theorem modGroup_out (i f) : (s.modGroup i f).out = s.out := rfl
/-- A record reads as changed, and every other one as before. -/
theorem groupAt_modGroup (i j f) : (s.modGroup i f).groupAt j = if j = i then f (s.groupAt i) else s.groupAt j := tget_tmod
theorem modGroup_modGroup (i f g) : (s.modGroup i f).modGroup i g = s.modGroup i fun x => g (f x) := by
  simp [modGroup, modLnk, tmod_tmod]

@[simp] theorem modFlmCh_win (i f) : (s.modFlmCh i f).win = s.win := rfl
@[simp] theorem modFlmCh_fab (i f) : (s.modFlmCh i f).fab = s.fab := rfl
@[simp] theorem modFlmCh_spl (i f) : (s.modFlmCh i f).spl = s.spl := rfl
@[simp] theorem modFlmCh_vert (i f) : (s.modFlmCh i f).vert = s.vert := rfl
@[simp] theorem modFlmCh_cst (i f) : (s.modFlmCh i f).cst = s.cst := rfl
@[simp] theorem modFlmCh_mem (i f) : (s.modFlmCh i f).mem = s.mem := rfl
@[simp] theorem modFlmCh_leat (i f) : (s.modFlmCh i f).leat = s.leat := rfl
@[simp] theorem modFlmCh_sec (i f) : (s.modFlmCh i f).sec = s.sec := rfl
@[simp] theorem modFlmCh_img (i f) : (s.modFlmCh i f).img = s.img := rfl
@[simp] theorem modFlmCh_io (i f) : (s.modFlmCh i f).io = s.io := rfl
@[simp] theorem modFlmCh_lnk (i f) : (s.modFlmCh i f).lnk = s.lnk := rfl
@[simp] theorem modFlmCh_lk (i f) : (s.modFlmCh i f).lk = s.lk := rfl
@[simp] theorem modFlmCh_host (i f) : (s.modFlmCh i f).host = s.host := rfl
@[simp] theorem modFlmCh_pwr (i f) : (s.modFlmCh i f).pwr = s.pwr := rfl
@[simp] theorem modFlmCh_clk (i f) : (s.modFlmCh i f).clk = s.clk := rfl
@[simp] theorem modFlmCh_thm (i f) : (s.modFlmCh i f).thm = s.thm := rfl
@[simp] theorem modFlmCh_rst (i f) : (s.modFlmCh i f).rst = s.rst := rfl
@[simp] theorem modFlmCh_bist (i f) : (s.modFlmCh i f).bist = s.bist := rfl
@[simp] theorem modFlmCh_pending (i f) : (s.modFlmCh i f).pending = s.pending := rfl
@[simp] theorem modFlmCh_fresh (i f) : (s.modFlmCh i f).fresh = s.fresh := rfl
@[simp] theorem modFlmCh_out (i f) : (s.modFlmCh i f).out = s.out := rfl
/-- A record reads as changed, and every other one as before. -/
theorem flmAt_modFlmCh (i j f) : (s.modFlmCh i f).flmAt j = if j = i then f (s.flmAt i) else s.flmAt j := tget_tmod
theorem modFlmCh_modFlmCh (i f g) : (s.modFlmCh i f).modFlmCh i g = s.modFlmCh i fun x => g (f x) := by
  simp [modFlmCh, modFlm, tmod_tmod]

@[simp] theorem modNode_win (i f) : (s.modNode i f).win = s.win := rfl
@[simp] theorem modNode_fab (i f) : (s.modNode i f).fab = s.fab := rfl
@[simp] theorem modNode_spl (i f) : (s.modNode i f).spl = s.spl := rfl
@[simp] theorem modNode_vert (i f) : (s.modNode i f).vert = s.vert := rfl
@[simp] theorem modNode_cst (i f) : (s.modNode i f).cst = s.cst := rfl
@[simp] theorem modNode_mem (i f) : (s.modNode i f).mem = s.mem := rfl
@[simp] theorem modNode_flm (i f) : (s.modNode i f).flm = s.flm := rfl
@[simp] theorem modNode_sec (i f) : (s.modNode i f).sec = s.sec := rfl
@[simp] theorem modNode_img (i f) : (s.modNode i f).img = s.img := rfl
@[simp] theorem modNode_io (i f) : (s.modNode i f).io = s.io := rfl
@[simp] theorem modNode_lnk (i f) : (s.modNode i f).lnk = s.lnk := rfl
@[simp] theorem modNode_lk (i f) : (s.modNode i f).lk = s.lk := rfl
@[simp] theorem modNode_host (i f) : (s.modNode i f).host = s.host := rfl
@[simp] theorem modNode_pwr (i f) : (s.modNode i f).pwr = s.pwr := rfl
@[simp] theorem modNode_clk (i f) : (s.modNode i f).clk = s.clk := rfl
@[simp] theorem modNode_thm (i f) : (s.modNode i f).thm = s.thm := rfl
@[simp] theorem modNode_rst (i f) : (s.modNode i f).rst = s.rst := rfl
@[simp] theorem modNode_bist (i f) : (s.modNode i f).bist = s.bist := rfl
@[simp] theorem modNode_pending (i f) : (s.modNode i f).pending = s.pending := rfl
@[simp] theorem modNode_fresh (i f) : (s.modNode i f).fresh = s.fresh := rfl
@[simp] theorem modNode_out (i f) : (s.modNode i f).out = s.out := rfl
/-- A record reads as changed, and every other one as before. -/
theorem nodeAt_modNode (i j f) : (s.modNode i f).nodeAt j = if j = i then f (s.nodeAt i) else s.nodeAt j := tget_tmod
theorem modNode_modNode (i f g) : (s.modNode i f).modNode i g = s.modNode i fun x => g (f x) := by
  simp [modNode, modLeat, tmod_tmod]

@[simp] theorem modCtl_win (i f) : (s.modCtl i f).win = s.win := rfl
@[simp] theorem modCtl_fab (i f) : (s.modCtl i f).fab = s.fab := rfl
@[simp] theorem modCtl_spl (i f) : (s.modCtl i f).spl = s.spl := rfl
@[simp] theorem modCtl_vert (i f) : (s.modCtl i f).vert = s.vert := rfl
@[simp] theorem modCtl_cst (i f) : (s.modCtl i f).cst = s.cst := rfl
@[simp] theorem modCtl_leat (i f) : (s.modCtl i f).leat = s.leat := rfl
@[simp] theorem modCtl_flm (i f) : (s.modCtl i f).flm = s.flm := rfl
@[simp] theorem modCtl_sec (i f) : (s.modCtl i f).sec = s.sec := rfl
@[simp] theorem modCtl_img (i f) : (s.modCtl i f).img = s.img := rfl
@[simp] theorem modCtl_io (i f) : (s.modCtl i f).io = s.io := rfl
@[simp] theorem modCtl_lnk (i f) : (s.modCtl i f).lnk = s.lnk := rfl
@[simp] theorem modCtl_lk (i f) : (s.modCtl i f).lk = s.lk := rfl
@[simp] theorem modCtl_host (i f) : (s.modCtl i f).host = s.host := rfl
@[simp] theorem modCtl_pwr (i f) : (s.modCtl i f).pwr = s.pwr := rfl
@[simp] theorem modCtl_clk (i f) : (s.modCtl i f).clk = s.clk := rfl
@[simp] theorem modCtl_thm (i f) : (s.modCtl i f).thm = s.thm := rfl
@[simp] theorem modCtl_rst (i f) : (s.modCtl i f).rst = s.rst := rfl
@[simp] theorem modCtl_bist (i f) : (s.modCtl i f).bist = s.bist := rfl
@[simp] theorem modCtl_pending (i f) : (s.modCtl i f).pending = s.pending := rfl
@[simp] theorem modCtl_fresh (i f) : (s.modCtl i f).fresh = s.fresh := rfl
@[simp] theorem modCtl_out (i f) : (s.modCtl i f).out = s.out := rfl
/-- A record reads as changed, and every other one as before. -/
theorem ctlAt_modCtl (i j f) : (s.modCtl i f).ctlAt j = if j = i then f (s.ctlAt i) else s.ctlAt j := tget_tmod
theorem modCtl_modCtl (i f g) : (s.modCtl i f).modCtl i g = s.modCtl i fun x => g (f x) := by
  simp [modCtl, modMem, tmod_tmod]

@[simp] theorem modSlc_win (i f) : (s.modSlc i f).win = s.win := rfl
@[simp] theorem modSlc_fab (i f) : (s.modSlc i f).fab = s.fab := rfl
@[simp] theorem modSlc_spl (i f) : (s.modSlc i f).spl = s.spl := rfl
@[simp] theorem modSlc_vert (i f) : (s.modSlc i f).vert = s.vert := rfl
@[simp] theorem modSlc_cst (i f) : (s.modSlc i f).cst = s.cst := rfl
@[simp] theorem modSlc_mem (i f) : (s.modSlc i f).mem = s.mem := rfl
@[simp] theorem modSlc_leat (i f) : (s.modSlc i f).leat = s.leat := rfl
@[simp] theorem modSlc_flm (i f) : (s.modSlc i f).flm = s.flm := rfl
@[simp] theorem modSlc_sec (i f) : (s.modSlc i f).sec = s.sec := rfl
@[simp] theorem modSlc_img (i f) : (s.modSlc i f).img = s.img := rfl
@[simp] theorem modSlc_io (i f) : (s.modSlc i f).io = s.io := rfl
@[simp] theorem modSlc_lnk (i f) : (s.modSlc i f).lnk = s.lnk := rfl
@[simp] theorem modSlc_lk (i f) : (s.modSlc i f).lk = s.lk := rfl
@[simp] theorem modSlc_host (i f) : (s.modSlc i f).host = s.host := rfl
@[simp] theorem modSlc_pwr (i f) : (s.modSlc i f).pwr = s.pwr := rfl
@[simp] theorem modSlc_thm (i f) : (s.modSlc i f).thm = s.thm := rfl
@[simp] theorem modSlc_rst (i f) : (s.modSlc i f).rst = s.rst := rfl
@[simp] theorem modSlc_bist (i f) : (s.modSlc i f).bist = s.bist := rfl
@[simp] theorem modSlc_pending (i f) : (s.modSlc i f).pending = s.pending := rfl
@[simp] theorem modSlc_fresh (i f) : (s.modSlc i f).fresh = s.fresh := rfl
@[simp] theorem modSlc_out (i f) : (s.modSlc i f).out = s.out := rfl
/-- A record reads as changed, and every other one as before. -/
theorem slcAt_modSlc (i j f) : (s.modSlc i f).slcAt j = if j = i then f (s.slcAt i) else s.slcAt j := tget_tmod
theorem modSlc_modSlc (i f g) : (s.modSlc i f).modSlc i g = s.modSlc i fun x => g (f x) := by
  simp [modSlc, modClk, tmod_tmod]

@[simp] theorem modPort_win (p f) : (s.modPort p f).win = s.win := by cases p <;> rfl
@[simp] theorem modPort_fab (p f) : (s.modPort p f).fab = s.fab := by cases p <;> rfl
@[simp] theorem modPort_spl (p f) : (s.modPort p f).spl = s.spl := by cases p <;> rfl
@[simp] theorem modPort_vert (p f) : (s.modPort p f).vert = s.vert := by cases p <;> rfl
@[simp] theorem modPort_cst (p f) : (s.modPort p f).cst = s.cst := by cases p <;> rfl
@[simp] theorem modPort_mem (p f) : (s.modPort p f).mem = s.mem := by cases p <;> rfl
@[simp] theorem modPort_leat (p f) : (s.modPort p f).leat = s.leat := by cases p <;> rfl
@[simp] theorem modPort_flm (p f) : (s.modPort p f).flm = s.flm := by cases p <;> rfl
@[simp] theorem modPort_sec (p f) : (s.modPort p f).sec = s.sec := by cases p <;> rfl
@[simp] theorem modPort_img (p f) : (s.modPort p f).img = s.img := by cases p <;> rfl
@[simp] theorem modPort_io (p f) : (s.modPort p f).io = s.io := by cases p <;> rfl
@[simp] theorem modPort_lnk (p f) : (s.modPort p f).lnk = s.lnk := by cases p <;> rfl
@[simp] theorem modPort_host (p f) : (s.modPort p f).host = s.host := by cases p <;> rfl
@[simp] theorem modPort_pwr (p f) : (s.modPort p f).pwr = s.pwr := by cases p <;> rfl
@[simp] theorem modPort_clk (p f) : (s.modPort p f).clk = s.clk := by cases p <;> rfl
@[simp] theorem modPort_thm (p f) : (s.modPort p f).thm = s.thm := by cases p <;> rfl
@[simp] theorem modPort_rst (p f) : (s.modPort p f).rst = s.rst := by cases p <;> rfl
@[simp] theorem modPort_bist (p f) : (s.modPort p f).bist = s.bist := by cases p <;> rfl
@[simp] theorem modPort_pending (p f) : (s.modPort p f).pending = s.pending := by cases p <;> rfl
@[simp] theorem modPort_fresh (p f) : (s.modPort p f).fresh = s.fresh := by cases p <;> rfl
@[simp] theorem modPort_out (p f) : (s.modPort p f).out = s.out := by cases p <;> rfl
@[simp] theorem port_modPort (p f) : (s.modPort p f).lk.port p = f (s.lk.port p) := by cases p <;> rfl

@[simp] theorem modFunc_win (p f) : (s.modFunc p f).win = s.win := rfl
@[simp] theorem modFunc_fab (p f) : (s.modFunc p f).fab = s.fab := rfl
@[simp] theorem modFunc_spl (p f) : (s.modFunc p f).spl = s.spl := rfl
@[simp] theorem modFunc_vert (p f) : (s.modFunc p f).vert = s.vert := rfl
@[simp] theorem modFunc_cst (p f) : (s.modFunc p f).cst = s.cst := rfl
@[simp] theorem modFunc_mem (p f) : (s.modFunc p f).mem = s.mem := rfl
@[simp] theorem modFunc_leat (p f) : (s.modFunc p f).leat = s.leat := rfl
@[simp] theorem modFunc_flm (p f) : (s.modFunc p f).flm = s.flm := rfl
@[simp] theorem modFunc_sec (p f) : (s.modFunc p f).sec = s.sec := rfl
@[simp] theorem modFunc_img (p f) : (s.modFunc p f).img = s.img := rfl
@[simp] theorem modFunc_io (p f) : (s.modFunc p f).io = s.io := rfl
@[simp] theorem modFunc_lnk (p f) : (s.modFunc p f).lnk = s.lnk := rfl
@[simp] theorem modFunc_lk (p f) : (s.modFunc p f).lk = s.lk := rfl
@[simp] theorem modFunc_pwr (p f) : (s.modFunc p f).pwr = s.pwr := rfl
@[simp] theorem modFunc_clk (p f) : (s.modFunc p f).clk = s.clk := rfl
@[simp] theorem modFunc_thm (p f) : (s.modFunc p f).thm = s.thm := rfl
@[simp] theorem modFunc_rst (p f) : (s.modFunc p f).rst = s.rst := rfl
@[simp] theorem modFunc_bist (p f) : (s.modFunc p f).bist = s.bist := rfl
@[simp] theorem modFunc_pending (p f) : (s.modFunc p f).pending = s.pending := rfl
@[simp] theorem modFunc_fresh (p f) : (s.modFunc p f).fresh = s.fresh := rfl
@[simp] theorem modFunc_out (p f) : (s.modFunc p f).out = s.out := rfl
@[simp] theorem func_modFunc (p f) : (s.modFunc p f).host.func p = f (s.host.func p) := by cases p <;> rfl

end Sys2Proof.Machine.State
end

