-- ==== Sys2Proof/Laws/Frames.lean ====
section
/-! SUPPORT. What the shared operations leave as it is: raising a vector, setting an event bit, logging, replying, posting a record. -/
namespace Sys2Proof.Machine.State

variable (s : State)

/-- A vector is sent or stands pending (12 R296). -/
theorem raiseVec_cases (f v) :
    s.raiseVec f v = (s.modHost fun h => { h with alertArmed := h.alertArmed || decide (f = .pf0) }).emit (.msix f v) ∨
    s.raiseVec f v = (s.modHost fun h => { h with alertArmed := h.alertArmed || decide (f = .pf0) }).modFunc f fun x => { x with pba := x.pba ||| (1#32 <<< v) } := by
  unfold raiseVec
  simp only
  split
  · exact .inl rfl
  · exact .inr rfl

/-- An event raises its vector or nothing (12 R295, R296). -/
theorem evtAssert_cases {w : Nat} (v) (a b c d : BitVec w) : s.evtAssert v a b c d = s ∨ s.evtAssert v a b c d = s.raiseVec .pf0 v := by
  unfold evtAssert
  split
  · exact .inl rfl
  · exact .inr rfl

/-- An event is logged, and where its interrupt is asked for both functions' vectors 1 are raised (13 R323). -/
theorem logAt_cases (t code int fault p0 p1 p2) : ∃ l, s.logAt t code int fault p0 p1 p2 = s.modLk (fun k => { k with log := l }) ∨
    s.logAt t code int fault p0 p1 p2 =
      (((s.modLk fun k => { k with log := l }).modHost fun h => { h with logAlert := true }).raiseVec .pf0 1).raiseVec .pf1 1 := by
  refine ⟨(s.lk.log.add ⟨0, t, s.lk.seconds, BitVec.ofNat 16 code, int, fault, p0, p1, p2⟩).1, ?_⟩
  simp only [logAt]
  split
  · exact .inr rfl
  · exact .inl rfl

@[simp] theorem raiseVec_win (f v) : (s.raiseVec f v).win = s.win := by
  rcases s.raiseVec_cases f v with h | h <;> rw [h] <;> rfl
@[simp] theorem raiseVec_fab (f v) : (s.raiseVec f v).fab = s.fab := by
  rcases s.raiseVec_cases f v with h | h <;> rw [h] <;> rfl
@[simp] theorem raiseVec_spl (f v) : (s.raiseVec f v).spl = s.spl := by
  rcases s.raiseVec_cases f v with h | h <;> rw [h] <;> rfl
@[simp] theorem raiseVec_vert (f v) : (s.raiseVec f v).vert = s.vert := by
  rcases s.raiseVec_cases f v with h | h <;> rw [h] <;> rfl
@[simp] theorem raiseVec_cst (f v) : (s.raiseVec f v).cst = s.cst := by
  rcases s.raiseVec_cases f v with h | h <;> rw [h] <;> rfl
@[simp] theorem raiseVec_mem (f v) : (s.raiseVec f v).mem = s.mem := by
  rcases s.raiseVec_cases f v with h | h <;> rw [h] <;> rfl
@[simp] theorem raiseVec_leat (f v) : (s.raiseVec f v).leat = s.leat := by
  rcases s.raiseVec_cases f v with h | h <;> rw [h] <;> rfl
@[simp] theorem raiseVec_flm (f v) : (s.raiseVec f v).flm = s.flm := by
  rcases s.raiseVec_cases f v with h | h <;> rw [h] <;> rfl
@[simp] theorem raiseVec_sec (f v) : (s.raiseVec f v).sec = s.sec := by
  rcases s.raiseVec_cases f v with h | h <;> rw [h] <;> rfl
@[simp] theorem raiseVec_img (f v) : (s.raiseVec f v).img = s.img := by
  rcases s.raiseVec_cases f v with h | h <;> rw [h] <;> rfl
@[simp] theorem raiseVec_io (f v) : (s.raiseVec f v).io = s.io := by
  rcases s.raiseVec_cases f v with h | h <;> rw [h] <;> rfl
@[simp] theorem raiseVec_lnk (f v) : (s.raiseVec f v).lnk = s.lnk := by
  rcases s.raiseVec_cases f v with h | h <;> rw [h] <;> rfl
@[simp] theorem raiseVec_lk (f v) : (s.raiseVec f v).lk = s.lk := by
  rcases s.raiseVec_cases f v with h | h <;> rw [h] <;> rfl
@[simp] theorem raiseVec_pwr (f v) : (s.raiseVec f v).pwr = s.pwr := by
  rcases s.raiseVec_cases f v with h | h <;> rw [h] <;> rfl
@[simp] theorem raiseVec_clk (f v) : (s.raiseVec f v).clk = s.clk := by
  rcases s.raiseVec_cases f v with h | h <;> rw [h] <;> rfl
@[simp] theorem raiseVec_thm (f v) : (s.raiseVec f v).thm = s.thm := by
  rcases s.raiseVec_cases f v with h | h <;> rw [h] <;> rfl
@[simp] theorem raiseVec_rst (f v) : (s.raiseVec f v).rst = s.rst := by
  rcases s.raiseVec_cases f v with h | h <;> rw [h] <;> rfl
@[simp] theorem raiseVec_bist (f v) : (s.raiseVec f v).bist = s.bist := by
  rcases s.raiseVec_cases f v with h | h <;> rw [h] <;> rfl
@[simp] theorem raiseVec_pending (f v) : (s.raiseVec f v).pending = s.pending := by
  rcases s.raiseVec_cases f v with h | h <;> rw [h] <;> rfl
@[simp] theorem raiseVec_fresh (f v) : (s.raiseVec f v).fresh = s.fresh := by
  rcases s.raiseVec_cases f v with h | h <;> rw [h] <;> rfl

@[simp] theorem evtAssert_win {w : Nat} (v) (a b c d : BitVec w) : (s.evtAssert v a b c d).win = s.win := by
  rcases s.evtAssert_cases v a b c d with h | h <;> simp [h]
@[simp] theorem evtAssert_fab {w : Nat} (v) (a b c d : BitVec w) : (s.evtAssert v a b c d).fab = s.fab := by
  rcases s.evtAssert_cases v a b c d with h | h <;> simp [h]
@[simp] theorem evtAssert_spl {w : Nat} (v) (a b c d : BitVec w) : (s.evtAssert v a b c d).spl = s.spl := by
  rcases s.evtAssert_cases v a b c d with h | h <;> simp [h]
@[simp] theorem evtAssert_vert {w : Nat} (v) (a b c d : BitVec w) : (s.evtAssert v a b c d).vert = s.vert := by
  rcases s.evtAssert_cases v a b c d with h | h <;> simp [h]
@[simp] theorem evtAssert_cst {w : Nat} (v) (a b c d : BitVec w) : (s.evtAssert v a b c d).cst = s.cst := by
  rcases s.evtAssert_cases v a b c d with h | h <;> simp [h]
@[simp] theorem evtAssert_mem {w : Nat} (v) (a b c d : BitVec w) : (s.evtAssert v a b c d).mem = s.mem := by
  rcases s.evtAssert_cases v a b c d with h | h <;> simp [h]
@[simp] theorem evtAssert_leat {w : Nat} (v) (a b c d : BitVec w) : (s.evtAssert v a b c d).leat = s.leat := by
  rcases s.evtAssert_cases v a b c d with h | h <;> simp [h]
@[simp] theorem evtAssert_flm {w : Nat} (v) (a b c d : BitVec w) : (s.evtAssert v a b c d).flm = s.flm := by
  rcases s.evtAssert_cases v a b c d with h | h <;> simp [h]
@[simp] theorem evtAssert_sec {w : Nat} (v) (a b c d : BitVec w) : (s.evtAssert v a b c d).sec = s.sec := by
  rcases s.evtAssert_cases v a b c d with h | h <;> simp [h]
@[simp] theorem evtAssert_img {w : Nat} (v) (a b c d : BitVec w) : (s.evtAssert v a b c d).img = s.img := by
  rcases s.evtAssert_cases v a b c d with h | h <;> simp [h]
@[simp] theorem evtAssert_io {w : Nat} (v) (a b c d : BitVec w) : (s.evtAssert v a b c d).io = s.io := by
  rcases s.evtAssert_cases v a b c d with h | h <;> simp [h]
@[simp] theorem evtAssert_lnk {w : Nat} (v) (a b c d : BitVec w) : (s.evtAssert v a b c d).lnk = s.lnk := by
  rcases s.evtAssert_cases v a b c d with h | h <;> simp [h]
@[simp] theorem evtAssert_lk {w : Nat} (v) (a b c d : BitVec w) : (s.evtAssert v a b c d).lk = s.lk := by
  rcases s.evtAssert_cases v a b c d with h | h <;> simp [h]
@[simp] theorem evtAssert_pwr {w : Nat} (v) (a b c d : BitVec w) : (s.evtAssert v a b c d).pwr = s.pwr := by
  rcases s.evtAssert_cases v a b c d with h | h <;> simp [h]
@[simp] theorem evtAssert_clk {w : Nat} (v) (a b c d : BitVec w) : (s.evtAssert v a b c d).clk = s.clk := by
  rcases s.evtAssert_cases v a b c d with h | h <;> simp [h]
@[simp] theorem evtAssert_thm {w : Nat} (v) (a b c d : BitVec w) : (s.evtAssert v a b c d).thm = s.thm := by
  rcases s.evtAssert_cases v a b c d with h | h <;> simp [h]
@[simp] theorem evtAssert_rst {w : Nat} (v) (a b c d : BitVec w) : (s.evtAssert v a b c d).rst = s.rst := by
  rcases s.evtAssert_cases v a b c d with h | h <;> simp [h]
@[simp] theorem evtAssert_bist {w : Nat} (v) (a b c d : BitVec w) : (s.evtAssert v a b c d).bist = s.bist := by
  rcases s.evtAssert_cases v a b c d with h | h <;> simp [h]
@[simp] theorem evtAssert_pending {w : Nat} (v) (a b c d : BitVec w) : (s.evtAssert v a b c d).pending = s.pending := by
  rcases s.evtAssert_cases v a b c d with h | h <;> simp [h]
@[simp] theorem evtAssert_fresh {w : Nat} (v) (a b c d : BitVec w) : (s.evtAssert v a b c d).fresh = s.fresh := by
  rcases s.evtAssert_cases v a b c d with h | h <;> simp [h]

@[simp] theorem logAt_win (t c i f p q r) : (s.logAt t c i f p q r).win = s.win := by
  obtain ⟨l, h | h⟩ := s.logAt_cases t c i f p q r <;> simp [h]
@[simp] theorem logAt_fab (t c i f p q r) : (s.logAt t c i f p q r).fab = s.fab := by
  obtain ⟨l, h | h⟩ := s.logAt_cases t c i f p q r <;> simp [h]
@[simp] theorem logAt_spl (t c i f p q r) : (s.logAt t c i f p q r).spl = s.spl := by
  obtain ⟨l, h | h⟩ := s.logAt_cases t c i f p q r <;> simp [h]
@[simp] theorem logAt_vert (t c i f p q r) : (s.logAt t c i f p q r).vert = s.vert := by
  obtain ⟨l, h | h⟩ := s.logAt_cases t c i f p q r <;> simp [h]
@[simp] theorem logAt_cst (t c i f p q r) : (s.logAt t c i f p q r).cst = s.cst := by
  obtain ⟨l, h | h⟩ := s.logAt_cases t c i f p q r <;> simp [h]
@[simp] theorem logAt_mem (t c i f p q r) : (s.logAt t c i f p q r).mem = s.mem := by
  obtain ⟨l, h | h⟩ := s.logAt_cases t c i f p q r <;> simp [h]
@[simp] theorem logAt_leat (t c i f p q r) : (s.logAt t c i f p q r).leat = s.leat := by
  obtain ⟨l, h | h⟩ := s.logAt_cases t c i f p q r <;> simp [h]
@[simp] theorem logAt_flm (t c i f p q r) : (s.logAt t c i f p q r).flm = s.flm := by
  obtain ⟨l, h | h⟩ := s.logAt_cases t c i f p q r <;> simp [h]
@[simp] theorem logAt_sec (t c i f p q r) : (s.logAt t c i f p q r).sec = s.sec := by
  obtain ⟨l, h | h⟩ := s.logAt_cases t c i f p q r <;> simp [h]
@[simp] theorem logAt_img (t c i f p q r) : (s.logAt t c i f p q r).img = s.img := by
  obtain ⟨l, h | h⟩ := s.logAt_cases t c i f p q r <;> simp [h]
@[simp] theorem logAt_io (t c i f p q r) : (s.logAt t c i f p q r).io = s.io := by
  obtain ⟨l, h | h⟩ := s.logAt_cases t c i f p q r <;> simp [h]
@[simp] theorem logAt_lnk (t c i f p q r) : (s.logAt t c i f p q r).lnk = s.lnk := by
  obtain ⟨l, h | h⟩ := s.logAt_cases t c i f p q r <;> simp [h]
@[simp] theorem logAt_pwr (t c i f p q r) : (s.logAt t c i f p q r).pwr = s.pwr := by
  obtain ⟨l, h | h⟩ := s.logAt_cases t c i f p q r <;> simp [h]
@[simp] theorem logAt_clk (t c i f p q r) : (s.logAt t c i f p q r).clk = s.clk := by
  obtain ⟨l, h | h⟩ := s.logAt_cases t c i f p q r <;> simp [h]
@[simp] theorem logAt_thm (t c i f p q r) : (s.logAt t c i f p q r).thm = s.thm := by
  obtain ⟨l, h | h⟩ := s.logAt_cases t c i f p q r <;> simp [h]
@[simp] theorem logAt_rst (t c i f p q r) : (s.logAt t c i f p q r).rst = s.rst := by
  obtain ⟨l, h | h⟩ := s.logAt_cases t c i f p q r <;> simp [h]
@[simp] theorem logAt_bist (t c i f p q r) : (s.logAt t c i f p q r).bist = s.bist := by
  obtain ⟨l, h | h⟩ := s.logAt_cases t c i f p q r <;> simp [h]
@[simp] theorem logAt_pending (t c i f p q r) : (s.logAt t c i f p q r).pending = s.pending := by
  obtain ⟨l, h | h⟩ := s.logAt_cases t c i f p q r <;> simp [h]
@[simp] theorem logAt_fresh (t c i f p q r) : (s.logAt t c i f p q r).fresh = s.fresh := by
  obtain ⟨l, h | h⟩ := s.logAt_cases t c i f p q r <;> simp [h]

@[simp] theorem log_win (c i f p q r) : (s.log c i f p q r).win = s.win := by simp [log]
@[simp] theorem log_fab (c i f p q r) : (s.log c i f p q r).fab = s.fab := by simp [log]
@[simp] theorem log_spl (c i f p q r) : (s.log c i f p q r).spl = s.spl := by simp [log]
@[simp] theorem log_vert (c i f p q r) : (s.log c i f p q r).vert = s.vert := by simp [log]
@[simp] theorem log_cst (c i f p q r) : (s.log c i f p q r).cst = s.cst := by simp [log]
@[simp] theorem log_mem (c i f p q r) : (s.log c i f p q r).mem = s.mem := by simp [log]
@[simp] theorem log_leat (c i f p q r) : (s.log c i f p q r).leat = s.leat := by simp [log]
@[simp] theorem log_flm (c i f p q r) : (s.log c i f p q r).flm = s.flm := by simp [log]
@[simp] theorem log_sec (c i f p q r) : (s.log c i f p q r).sec = s.sec := by simp [log]
@[simp] theorem log_img (c i f p q r) : (s.log c i f p q r).img = s.img := by simp [log]
@[simp] theorem log_io (c i f p q r) : (s.log c i f p q r).io = s.io := by simp [log]
@[simp] theorem log_lnk (c i f p q r) : (s.log c i f p q r).lnk = s.lnk := by simp [log]
@[simp] theorem log_pwr (c i f p q r) : (s.log c i f p q r).pwr = s.pwr := by simp [log]
@[simp] theorem log_clk (c i f p q r) : (s.log c i f p q r).clk = s.clk := by simp [log]
@[simp] theorem log_thm (c i f p q r) : (s.log c i f p q r).thm = s.thm := by simp [log]
@[simp] theorem log_rst (c i f p q r) : (s.log c i f p q r).rst = s.rst := by simp [log]
@[simp] theorem log_bist (c i f p q r) : (s.log c i f p q r).bist = s.bist := by simp [log]
@[simp] theorem log_pending (c i f p q r) : (s.log c i f p q r).pending = s.pending := by simp [log]
@[simp] theorem log_fresh (c i f p q r) : (s.log c i f p q r).fresh = s.fresh := by simp [log]

@[simp] theorem putReply_win (p k ws hw) : (s.putReply p k ws hw).win = s.win := by cases p <;> simp [putReply]
@[simp] theorem putReply_fab (p k ws hw) : (s.putReply p k ws hw).fab = s.fab := by cases p <;> simp [putReply]
@[simp] theorem putReply_spl (p k ws hw) : (s.putReply p k ws hw).spl = s.spl := by cases p <;> simp [putReply]
@[simp] theorem putReply_vert (p k ws hw) : (s.putReply p k ws hw).vert = s.vert := by cases p <;> simp [putReply]
@[simp] theorem putReply_cst (p k ws hw) : (s.putReply p k ws hw).cst = s.cst := by cases p <;> simp [putReply]
@[simp] theorem putReply_mem (p k ws hw) : (s.putReply p k ws hw).mem = s.mem := by cases p <;> simp [putReply]
@[simp] theorem putReply_leat (p k ws hw) : (s.putReply p k ws hw).leat = s.leat := by cases p <;> simp [putReply]
@[simp] theorem putReply_flm (p k ws hw) : (s.putReply p k ws hw).flm = s.flm := by cases p <;> simp [putReply]
@[simp] theorem putReply_sec (p k ws hw) : (s.putReply p k ws hw).sec = s.sec := by cases p <;> simp [putReply]
@[simp] theorem putReply_img (p k ws hw) : (s.putReply p k ws hw).img = s.img := by cases p <;> simp [putReply]
@[simp] theorem putReply_io (p k ws hw) : (s.putReply p k ws hw).io = s.io := by cases p <;> simp [putReply]
@[simp] theorem putReply_pwr (p k ws hw) : (s.putReply p k ws hw).pwr = s.pwr := by cases p <;> simp [putReply]
@[simp] theorem putReply_clk (p k ws hw) : (s.putReply p k ws hw).clk = s.clk := by cases p <;> simp [putReply]
@[simp] theorem putReply_thm (p k ws hw) : (s.putReply p k ws hw).thm = s.thm := by cases p <;> simp [putReply]
@[simp] theorem putReply_rst (p k ws hw) : (s.putReply p k ws hw).rst = s.rst := by cases p <;> simp [putReply]
@[simp] theorem putReply_bist (p k ws hw) : (s.putReply p k ws hw).bist = s.bist := by cases p <;> simp [putReply]
@[simp] theorem putReply_pending (p k ws hw) : (s.putReply p k ws hw).pending = s.pending := by cases p <;> simp [putReply]
@[simp] theorem putReply_fresh (p k ws hw) : (s.putReply p k ws hw).fresh = s.fresh := by cases p <;> simp [putReply]

@[simp] theorem commit_win (r op own st b ws) : (s.commit r op own st b ws).win = s.win := by
  simp only [commit, logCommand, renewLease]; split <;> split <;> simp
@[simp] theorem commit_fab (r op own st b ws) : (s.commit r op own st b ws).fab = s.fab := by
  simp only [commit, logCommand, renewLease]; split <;> split <;> simp
@[simp] theorem commit_spl (r op own st b ws) : (s.commit r op own st b ws).spl = s.spl := by
  simp only [commit, logCommand, renewLease]; split <;> split <;> simp
@[simp] theorem commit_vert (r op own st b ws) : (s.commit r op own st b ws).vert = s.vert := by
  simp only [commit, logCommand, renewLease]; split <;> split <;> simp
@[simp] theorem commit_cst (r op own st b ws) : (s.commit r op own st b ws).cst = s.cst := by
  simp only [commit, logCommand, renewLease]; split <;> split <;> simp
@[simp] theorem commit_mem (r op own st b ws) : (s.commit r op own st b ws).mem = s.mem := by
  simp only [commit, logCommand, renewLease]; split <;> split <;> simp
@[simp] theorem commit_leat (r op own st b ws) : (s.commit r op own st b ws).leat = s.leat := by
  simp only [commit, logCommand, renewLease]; split <;> split <;> simp
@[simp] theorem commit_flm (r op own st b ws) : (s.commit r op own st b ws).flm = s.flm := by
  simp only [commit, logCommand, renewLease]; split <;> split <;> simp
@[simp] theorem commit_sec (r op own st b ws) : (s.commit r op own st b ws).sec = s.sec := by
  simp only [commit, logCommand, renewLease]; split <;> split <;> simp
@[simp] theorem commit_img (r op own st b ws) : (s.commit r op own st b ws).img = s.img := by
  simp only [commit, logCommand, renewLease]; split <;> split <;> simp
@[simp] theorem commit_io (r op own st b ws) : (s.commit r op own st b ws).io = s.io := by
  simp only [commit, logCommand, renewLease]; split <;> split <;> simp
@[simp] theorem commit_pwr (r op own st b ws) : (s.commit r op own st b ws).pwr = s.pwr := by
  simp only [commit, logCommand, renewLease]; split <;> split <;> simp
@[simp] theorem commit_clk (r op own st b ws) : (s.commit r op own st b ws).clk = s.clk := by
  simp only [commit, logCommand, renewLease]; split <;> split <;> simp
@[simp] theorem commit_thm (r op own st b ws) : (s.commit r op own st b ws).thm = s.thm := by
  simp only [commit, logCommand, renewLease]; split <;> split <;> simp
@[simp] theorem commit_rst (r op own st b ws) : (s.commit r op own st b ws).rst = s.rst := by
  simp only [commit, logCommand, renewLease]; split <;> split <;> simp
@[simp] theorem commit_bist (r op own st b ws) : (s.commit r op own st b ws).bist = s.bist := by
  simp only [commit, logCommand, renewLease]; split <;> split <;> simp
@[simp] theorem commit_pending (r op own st b ws) : (s.commit r op own st b ws).pending = s.pending := by
  simp only [commit, logCommand, renewLease]; split <;> split <;> simp
@[simp] theorem commit_fresh (r op own st b ws) : (s.commit r op own st b ws).fresh = s.fresh := by
  simp only [commit, logCommand, renewLease]; split <;> split <;> simp

@[simp] theorem postNow_win (o st ws) : (s.postNow o st ws).win = s.win := by
  unfold postNow; split <;> (try split) <;> simp
@[simp] theorem postNow_fab (o st ws) : (s.postNow o st ws).fab = s.fab := by
  unfold postNow; split <;> (try split) <;> simp
@[simp] theorem postNow_spl (o st ws) : (s.postNow o st ws).spl = s.spl := by
  unfold postNow; split <;> (try split) <;> simp
@[simp] theorem postNow_vert (o st ws) : (s.postNow o st ws).vert = s.vert := by
  unfold postNow; split <;> (try split) <;> simp
@[simp] theorem postNow_cst (o st ws) : (s.postNow o st ws).cst = s.cst := by
  unfold postNow; split <;> (try split) <;> simp
@[simp] theorem postNow_mem (o st ws) : (s.postNow o st ws).mem = s.mem := by
  unfold postNow; split <;> (try split) <;> simp
@[simp] theorem postNow_leat (o st ws) : (s.postNow o st ws).leat = s.leat := by
  unfold postNow; split <;> (try split) <;> simp
@[simp] theorem postNow_flm (o st ws) : (s.postNow o st ws).flm = s.flm := by
  unfold postNow; split <;> (try split) <;> simp
@[simp] theorem postNow_sec (o st ws) : (s.postNow o st ws).sec = s.sec := by
  unfold postNow; split <;> (try split) <;> simp
@[simp] theorem postNow_img (o st ws) : (s.postNow o st ws).img = s.img := by
  unfold postNow; split <;> (try split) <;> simp
@[simp] theorem postNow_io (o st ws) : (s.postNow o st ws).io = s.io := by
  unfold postNow; split <;> (try split) <;> simp
@[simp] theorem postNow_pwr (o st ws) : (s.postNow o st ws).pwr = s.pwr := by
  unfold postNow; split <;> (try split) <;> simp
@[simp] theorem postNow_clk (o st ws) : (s.postNow o st ws).clk = s.clk := by
  unfold postNow; split <;> (try split) <;> simp
@[simp] theorem postNow_thm (o st ws) : (s.postNow o st ws).thm = s.thm := by
  unfold postNow; split <;> (try split) <;> simp
@[simp] theorem postNow_rst (o st ws) : (s.postNow o st ws).rst = s.rst := by
  unfold postNow; split <;> (try split) <;> simp
@[simp] theorem postNow_bist (o st ws) : (s.postNow o st ws).bist = s.bist := by
  unfold postNow; split <;> (try split) <;> simp
@[simp] theorem postNow_pending (o st ws) : (s.postNow o st ws).pending = s.pending := by
  unfold postNow; split <;> (try split) <;> simp
@[simp] theorem postNow_fresh (o st ws) : (s.postNow o st ws).fresh = s.fresh := by
  unfold postNow; split <;> (try split) <;> simp

@[simp] theorem postRecord_win (o st ws) : (s.postRecord o st ws).win = s.win := by unfold postRecord; split <;> simp
@[simp] theorem postRecord_fab (o st ws) : (s.postRecord o st ws).fab = s.fab := by unfold postRecord; split <;> simp
@[simp] theorem postRecord_spl (o st ws) : (s.postRecord o st ws).spl = s.spl := by unfold postRecord; split <;> simp
@[simp] theorem postRecord_vert (o st ws) : (s.postRecord o st ws).vert = s.vert := by unfold postRecord; split <;> simp
@[simp] theorem postRecord_cst (o st ws) : (s.postRecord o st ws).cst = s.cst := by unfold postRecord; split <;> simp
@[simp] theorem postRecord_mem (o st ws) : (s.postRecord o st ws).mem = s.mem := by unfold postRecord; split <;> simp
@[simp] theorem postRecord_leat (o st ws) : (s.postRecord o st ws).leat = s.leat := by unfold postRecord; split <;> simp
@[simp] theorem postRecord_flm (o st ws) : (s.postRecord o st ws).flm = s.flm := by unfold postRecord; split <;> simp
@[simp] theorem postRecord_sec (o st ws) : (s.postRecord o st ws).sec = s.sec := by unfold postRecord; split <;> simp
@[simp] theorem postRecord_img (o st ws) : (s.postRecord o st ws).img = s.img := by unfold postRecord; split <;> simp
@[simp] theorem postRecord_io (o st ws) : (s.postRecord o st ws).io = s.io := by unfold postRecord; split <;> simp
@[simp] theorem postRecord_pwr (o st ws) : (s.postRecord o st ws).pwr = s.pwr := by unfold postRecord; split <;> simp
@[simp] theorem postRecord_clk (o st ws) : (s.postRecord o st ws).clk = s.clk := by unfold postRecord; split <;> simp
@[simp] theorem postRecord_thm (o st ws) : (s.postRecord o st ws).thm = s.thm := by unfold postRecord; split <;> simp
@[simp] theorem postRecord_rst (o st ws) : (s.postRecord o st ws).rst = s.rst := by unfold postRecord; split <;> simp
@[simp] theorem postRecord_bist (o st ws) : (s.postRecord o st ws).bist = s.bist := by unfold postRecord; split <;> simp
@[simp] theorem postRecord_pending (o st ws) : (s.postRecord o st ws).pending = s.pending := by unfold postRecord; split <;> simp
@[simp] theorem postRecord_fresh (o st ws) : (s.postRecord o st ws).fresh = s.fresh := by unfold postRecord; split <;> simp

end Sys2Proof.Machine.State
end

