-- ==== Sys2Proof/Laws/Keeps.lean ====
section
/-! SUPPORT. What every operation of the model keeps: the relation, and what it needs of each part of the state. -/
namespace Sys2Proof.Machine

/-- `s` comes after `k`: the queue of commands and what manufacture wrote stand, the stored words and the rows of the cisterns keep
their canonical form, the Lockkeeper stays legal, and what has been sent is not taken back. -/
structure Keeps (k s : State) : Prop where
  pending : s.pending = k.pending
  made : s.made = k.made
  words : k.memWf → s.memWf
  rows : k.rowsWf → s.rowsWf
  legal : k.lk.legal → s.lk.legal
  out : k.out <+: s.out
  fresh : k.fresh ≤ s.fresh

theorem Keeps.refl (s : State) : Keeps s s := ⟨rfl, rfl, id, id, id, List.prefix_refl _, le_refl _⟩

variable {k s t : State}

theorem Keeps.trans (h : Keeps k s) (g : Keeps s t) : Keeps k t :=
  ⟨g.pending.trans h.pending, g.made.trans h.made, g.words ∘ h.words, g.rows ∘ h.rows, g.legal ∘ h.legal, h.out.trans g.out,
    h.fresh.trans g.fresh⟩

/-- A change that touches none of the fields of the relation but those named. -/
theorem Keeps.to (h : Keeps k s) (hp : t.pending = s.pending) (hm : t.made = s.made) (hw : s.memWf → t.memWf)
    (hr : s.rowsWf → t.rowsWf) (hl : s.lk.legal → t.lk.legal) (ho : t.out = s.out) (hf : t.fresh = s.fresh) : Keeps k t :=
  h.trans ⟨hp, hm, hw, hr, hl, by rw [ho], by rw [hf]⟩

theorem Keeps.cut {x y : State} (h : Keeps k x) (g : Keeps k x → Keeps k y) : Keeps k y := g h

theorem modWin_keeps (h : Keeps k s) (f) : Keeps k (s.modWin f) := h.to rfl rfl id id id rfl rfl
theorem modFab_keeps (h : Keeps k s) (f) : Keeps k (s.modFab f) := h.to rfl rfl id id id rfl rfl
theorem modSpl_keeps (h : Keeps k s) (f) : Keeps k (s.modSpl f) := h.to rfl rfl id id id rfl rfl
theorem modVert_keeps (h : Keeps k s) (f) : Keeps k (s.modVert f) := h.to rfl rfl id id id rfl rfl
theorem modLeat_keeps (h : Keeps k s) (f) : Keeps k (s.modLeat f) := h.to rfl rfl id id id rfl rfl
theorem modHost_keeps (h : Keeps k s) (f) : Keeps k (s.modHost f) := h.to rfl rfl id id id rfl rfl
theorem modPwr_keeps (h : Keeps k s) (f) : Keeps k (s.modPwr f) := h.to rfl rfl id id id rfl rfl
theorem modClk_keeps (h : Keeps k s) (f) : Keeps k (s.modClk f) := h.to rfl rfl id id id rfl rfl
theorem modThm_keeps (h : Keeps k s) (f) : Keeps k (s.modThm f) := h.to rfl rfl id id id rfl rfl
theorem modRst_keeps (h : Keeps k s) (f) : Keeps k (s.modRst f) := h.to rfl rfl id id id rfl rfl
theorem modFlm_keeps (h : Keeps k s) (f) : Keeps k (s.modFlm f) := h.to rfl rfl id id id rfl rfl
theorem modImg_keeps (h : Keeps k s) (f) : Keeps k (s.modImg f) := h.to rfl rfl id id id rfl rfl
theorem modIo_keeps (h : Keeps k s) (f) : Keeps k (s.modIo f) := h.to rfl rfl id id id rfl rfl
theorem modLnk_keeps (h : Keeps k s) (f) : Keeps k (s.modLnk f) := h.to rfl rfl id id id rfl rfl

theorem modMem_keeps (h : Keeps k s) (f) (hf : Memory.wf s.mem.words = true → Memory.wf (f s.mem).words = true) :
    Keeps k (s.modMem f) := h.to rfl rfl hf id id rfl rfl
theorem modCst_keeps (h : Keeps k s) (f) (hf : Memory.wf s.cst.rows = true → Memory.wf (f s.cst).rows = true) :
    Keeps k (s.modCst f) := h.to rfl rfl id hf id rfl rfl
theorem modLk_keeps (h : Keeps k s) (f) (hf : s.lk.legal → (f s.lk).legal) : Keeps k (s.modLk f) :=
  h.to rfl rfl id id hf rfl rfl
theorem modSec_keeps (h : Keeps k s) (f) (h1 : (f s.sec).fuses = s.sec.fuses) (h2 : (f s.sec).idN = s.sec.idN)
    (h3 : (f s.sec).idD = s.sec.idD) (h4 : (f s.sec).cert = s.sec.cert) : Keeps k (s.modSec f) :=
  h.to rfl (by simp [State.made, State.modSec, h1, h2, h3, h4]) id id id rfl rfl
theorem modBist_keeps (h : Keeps k s) (f) (h1 : (f s.bist).refs = s.bist.refs) : Keeps k (s.modBist f) :=
  h.to rfl (by simp [State.made, State.modBist, h1]) id id id rfl rfl

theorem emit_keeps (h : Keeps k s) (o) : Keeps k (s.emit o) :=
  h.trans ⟨rfl, rfl, id, id, id, List.prefix_append _ _, le_refl _⟩
theorem freshen_keeps (h : Keeps k s) : Keeps k s.freshen :=
  h.trans ⟨rfl, rfl, id, id, id, List.prefix_refl _, Nat.le_succ _⟩

theorem modPort_keeps (h : Keeps k s) (p f) : Keeps k (s.modPort p f) := by
  refine modLk_keeps h _ fun hl => ?_
  cases p <;> exact hl

theorem ite_keeps {c : Prop} [Decidable c] {x y : State} (hx : Keeps k x) (hy : Keeps k y) : Keeps k (if c then x else y) := by
  split <;> assumption

theorem dite_keeps {c : Prop} [Decidable c] {x : c → State} {y : ¬c → State} (hx : ∀ h, Keeps k (x h)) (hy : ∀ h, Keeps k (y h)) :
    Keeps k (if h : c then x h else y h) := by
  split
  · exact hx _
  · exact hy _

theorem ite_fst {β : Type} {c : Prop} [Decidable c] {x y : State × β} (hx : Keeps k x.1) (hy : Keeps k y.1) :
    Keeps k (if c then x else y).1 := by
  split <;> assumption

theorem foldl_keeps {α : Type} {f : State → α → State} {l : List α} (h : Keeps k s)
    (hf : ∀ u a, Keeps k u → Keeps k (f u a)) : Keeps k (l.foldl f s) := by
  induction l generalizing s with
  | nil => exact h
  | cons a l ih => exact ih (hf s a h)

theorem foldl_pair {α β : Type} {f : State × β → α → State × β} {l : List α} {x : State × β} (h : Keeps k x.1)
    (hf : ∀ u a, Keeps k u.1 → Keeps k (f u a).1) : Keeps k (l.foldl f x).1 := by
  induction l generalizing x with
  | nil => exact h
  | cons a l ih => exact ih (hf x a h)

theorem wf_tset {t : Tab Stored} {i v} (h : Memory.wf t = true) : Memory.wf (tset t 0 i v) = true := tset_wf h
theorem wf_tsetAll {t : Tab Stored} {l} (h : Memory.wf t = true) : Memory.wf (tsetAll 0 t l) = true := tsetAll_wf h
theorem wf_tdrop {t : Tab Stored} {p} (h : Memory.wf t = true) : Memory.wf (tdrop p t) = true := tdrop_wf h

/-- A function that gives a state and more. -/
theorem keeps_fst {β : Type} {p : State × β} {x : β} (e : p = (s, x)) (h : Keeps k p.1) : Keeps k s := by
  rw [e] at h; exact h

/-- An outcome is a next state that comes after `k`. -/
def OutKeeps (k : State) (o : Host.Outcome State Fault Refusal) : Prop := ∃ t, o = .next t ∧ Keeps k t

theorem next_keeps (h : Keeps k t) : OutKeeps k (.next t) := ⟨t, rfl, h⟩

/-- Every state that a command's execution comes to comes after `k`. -/
def ResKeeps (k : State) : Res → Prop
  | .ok s _ => Keeps k s
  | .okPoison s _ => Keeps k s
  | .accept s => Keeps k s
  | .okThen s f => Keeps k s ∧ ∀ u, Keeps k u → Keeps k (f u)
  | .acceptThen s f => Keeps k s ∧ ∀ u, Keeps k u → Keeps k (f u)
  | .fail _ => True
  | .partly s _ _ => Keeps k s
  | .wait s => Keeps k s

theorem ite_res {c : Prop} [Decidable c] {x y : Res} (hx : ResKeeps k x) (hy : ResKeeps k y) :
    ResKeeps k (if c then x else y) := by
  split <;> assumption

theorem ok_keeps (h : Keeps k s) (p) : ResKeeps k (.ok s p) := h
theorem okPoison_keeps (h : Keeps k s) (p) : ResKeeps k (.okPoison s p) := h
theorem accept_keeps (h : Keeps k s) : ResKeeps k (.accept s) := h
theorem okThen_keeps (h : Keeps k s) {f : State → State} (hf : ∀ u, Keeps k u → Keeps k (f u)) : ResKeeps k (.okThen s f) := ⟨h, hf⟩
theorem acceptThen_keeps (h : Keeps k s) {f : State → State} (hf : ∀ u, Keeps k u → Keeps k (f u)) :
    ResKeeps k (.acceptThen s f) := ⟨h, hf⟩
theorem fail_keeps (n) : ResKeeps k (.fail n) := trivial
theorem partly_keeps (h : Keeps k s) (n p) : ResKeeps k (.partly s n p) := h
theorem wait_keeps (h : Keeps k s) : ResKeeps k (.wait s) := h

end Sys2Proof.Machine
end

