-- ==== Sys2Proof/Laws/KeepsParts.lean ====
section
/-! SUPPORT. What the operations of Parts.lean keep (Keeps.lean). -/
set_option linter.unusedTactic false
set_option linter.unreachableTactic false
set_option linter.unusedVariables false
namespace Sys2Proof.Machine

theorem State.modLink_keeps {k s : State} (hs : Keeps k s) (a1 a2) :
    Keeps k (State.modLink a1 a2 s) := by
  unfold State.modLink
  repeat' first
    | with_reducible assumption
    | with_reducible
      first | apply modLnk_keeps

theorem State.modNode_keeps {k s : State} (hs : Keeps k s) (a1 a2) :
    Keeps k (State.modNode a1 a2 s) := by
  unfold State.modNode
  repeat' first
    | with_reducible assumption
    | with_reducible
      first | apply modLeat_keeps

theorem State.modFlmCh_keeps {k s : State} (hs : Keeps k s) (a1 a2) :
    Keeps k (State.modFlmCh a1 a2 s) := by
  unfold State.modFlmCh
  repeat' first
    | with_reducible assumption
    | with_reducible
      first | apply modFlm_keeps

theorem State.modCtl_keeps {k s : State} (hs : Keeps k s) (a1 a2) :
    Keeps k (State.modCtl a1 a2 s) := by
  unfold State.modCtl
  repeat' first
    | with_reducible assumption
    | intro _
    | with_reducible
      first | apply modMem_keeps

theorem State.modGroup_keeps {k s : State} (hs : Keeps k s) (a1 a2) :
    Keeps k (State.modGroup a1 a2 s) := by
  unfold State.modGroup
  repeat' first
    | with_reducible assumption
    | with_reducible
      first | apply modLnk_keeps

theorem State.setDom_keeps {k s : State} (hs : Keeps k s) (a1 a2) :
    Keeps k (State.setDom a1 a2 s) := by
  unfold State.setDom
  repeat' first
    | with_reducible assumption
    | (intro st; refine Keeps.cut (x := st) ?_ ?_; (focus (unfold st; try clear st)); rotate_left; intro hst; clear_value st)
    | (intro st; clear_value st)
    | exact id
    | intro _
    | with_reducible
      first | apply modPwr_keeps | apply modClk_keeps | apply ite_keeps | apply dite_keeps | apply ite_fst | apply foldl_keeps
            | apply foldl_pair
    | (lift_lets; intro st; refine Keeps.cut (x := st) ?_ ?_; (focus (unfold st; try clear st)); rotate_left; intro hst; clear_value st)
    | (lift_lets; intro st; clear_value st)
    | split
    | exact rfl
    | ((try dsimp only); with_reducible first | apply wf_tset | apply wf_tsetAll | apply wf_tdrop)
    | exact Nat.zero_le _
    | (refine keeps_fst (by with_reducible assumption) ?_)

end Sys2Proof.Machine
end

