-- ==== Sys2Proof/Laws/KeepsFlags.lean ====
section
/-! SUPPORT. What the operations of Flags.lean keep (Keeps.lean). -/
set_option linter.unusedTactic false
set_option linter.unreachableTactic false
set_option linter.unusedVariables false
namespace Sys2Proof.Machine

theorem State.modFunc_keeps {k s : State} (hs : Keeps k s) (a1 a2) :
    Keeps k (State.modFunc a1 a2 s) := by
  unfold State.modFunc
  repeat' first
    | with_reducible assumption
    | with_reducible
      first | apply modHost_keeps

theorem State.raiseVec_keeps {k s : State} (hs : Keeps k s) (a1 a2) :
    Keeps k (State.raiseVec a1 a2 s) := by
  unfold State.raiseVec
  repeat' first
    | with_reducible assumption
    | with_reducible
      first | apply modHost_keeps | apply emit_keeps | apply State.modFunc_keeps | apply ite_keeps

theorem State.evtAssert_keeps {k s : State} (hs : Keeps k s) {w : Nat} (a1 : Nat) (a2 a3 a4 a5 : BitVec w) :
    Keeps k (State.evtAssert a1 a2 a3 a4 a5 s) := by
  unfold State.evtAssert
  exact ite_keeps hs (State.raiseVec_keeps hs _ _)

theorem State.clkEvt_keeps {k s : State} (hs : Keeps k s) (a1) :
    Keeps k (State.clkEvt a1 s) := by
  unfold State.clkEvt
  repeat' first
    | with_reducible assumption
    | with_reducible
      first | apply modClk_keeps | apply State.evtAssert_keeps

theorem State.pwrEvt_keeps {k s : State} (hs : Keeps k s) (a1) :
    Keeps k (State.pwrEvt a1 s) := by
  unfold State.pwrEvt
  repeat' first
    | with_reducible assumption
    | with_reducible
      first | apply modPwr_keeps | apply State.evtAssert_keeps

theorem State.flmEvt_keeps {k s : State} (hs : Keeps k s) (a1 a2) :
    Keeps k (State.flmEvt a1 a2 s) := by
  unfold State.flmEvt
  repeat' first
    | with_reducible assumption
    | with_reducible
      first | apply State.modFlmCh_keeps | apply State.evtAssert_keeps

theorem State.winEvt_keeps {k s : State} (hs : Keeps k s) (a1) :
    Keeps k (State.winEvt a1 s) := by
  unfold State.winEvt
  repeat' first
    | with_reducible assumption
    | with_reducible
      first | apply modWin_keeps | apply State.evtAssert_keeps

theorem State.bistEvt_keeps {k s : State} (hs : Keeps k s) (a1) :
    Keeps k (State.bistEvt a1 s) := by
  unfold State.bistEvt
  repeat' first
    | with_reducible assumption
    | with_reducible
      first | apply modBist_keeps | apply State.evtAssert_keeps
    | exact rfl

theorem State.memEvt_keeps {k s : State} (hs : Keeps k s) (a1 a2) :
    Keeps k (State.memEvt a1 a2 s) := by
  unfold State.memEvt
  repeat' first
    | with_reducible assumption
    | with_reducible
      first | apply State.modCtl_keeps | apply State.evtAssert_keeps

theorem State.niEvt_keeps {k s : State} (hs : Keeps k s) (a1 a2) :
    Keeps k (State.niEvt a1 a2 s) := by
  unfold State.niEvt
  repeat' first
    | with_reducible assumption
    | with_reducible
      first | apply State.modNode_keeps | apply State.evtAssert_keeps

theorem State.linkEvt_keeps {k s : State} (hs : Keeps k s) (a1 a2) :
    Keeps k (State.linkEvt a1 a2 s) := by
  unfold State.linkEvt
  repeat' first
    | with_reducible assumption
    | with_reducible
      first | apply State.modLink_keeps | apply State.evtAssert_keeps

theorem State.thmEvt_keeps {k s : State} (hs : Keeps k s) (a1) :
    Keeps k (State.thmEvt a1 s) := by
  unfold State.thmEvt
  repeat' first
    | with_reducible assumption
    | with_reducible
      first | apply modThm_keeps | apply State.evtAssert_keeps

theorem State.cfgEvt_keeps {k s : State} (hs : Keeps k s) (a1) :
    Keeps k (State.cfgEvt a1 s) := by
  unfold State.cfgEvt
  repeat' first
    | with_reducible assumption
    | with_reducible
      first | apply modImg_keeps | apply State.evtAssert_keeps

theorem State.secEvt_keeps {k s : State} (hs : Keeps k s) (a1) :
    Keeps k (State.secEvt a1 s) := by
  unfold State.secEvt
  repeat' first
    | with_reducible assumption
    | with_reducible
      first | apply modSec_keeps | apply State.evtAssert_keeps
    | exact rfl

end Sys2Proof.Machine
end

