-- ==== Sys2Proof/Laws/KeepsOps.lean ====
section
/-! SUPPORT. What the operations of Ops.lean keep (Keeps.lean). -/
set_option linter.unusedTactic false
set_option linter.unreachableTactic false
set_option linter.unusedVariables false
namespace Sys2Proof.Machine

/-- Taking one entry out leaves one less. -/
theorem dropNewest_length : ∀ {l : List LogEntry} {d : LogEntry} {q : List LogEntry}, dropNewest l = some (d, q) →
    q.length + 1 = l.length
  | e :: t, d, q, h => by
    simp only [dropNewest] at h
    split at h
    · rename_i d' t' ht
      have := dropNewest_length ht
      simp only [Option.some.injEq, Prod.mk.injEq] at h
      rw [← h.2]
      simp only [List.length_cons]; omega
    · split at h
      · simp at h
      · simp only [Option.some.injEq, Prod.mk.injEq] at h
        rw [← h.2]
        simp
theorem State.modSlc_keeps {k s : State} (hs : Keeps k s) (a1 a2) :
    Keeps k (State.modSlc a1 a2 s) := by
  unfold State.modSlc
  repeat' first
    | with_reducible assumption
    | with_reducible
      first | apply modClk_keeps

/-- The queue of the log stays within its 512 entries (R324). -/
theorem LogState.add_length (e : LogEntry) (l : LogState) (h : l.queue.length ≤ 512) : (l.add e).1.queue.length ≤ 512 := by
  unfold LogState.add
  split
  · simp only [LogState.push, List.length_append, List.length_singleton]; omega
  · split
    · split
      · rename_i d q hd
        have := dropNewest_length hd
        simp only [LogState.push, LogState.countDrop, List.length_append, List.length_singleton]; omega
      · exact h
    · exact h

theorem State.logAt_keeps {k s : State} (hs : Keeps k s) (a1 a2 a3 a4 a5 a6 a7) :
    Keeps k (State.logAt a1 a2 a3 a4 a5 a6 a7 s) := by
  unfold State.logAt
  have h : Keeps k (s.modLk fun k => { k with log := (s.lk.log.add { stamp := a1, seconds := s.lk.seconds, code := BitVec.ofNat 16 a2, int := a3, fault := a4, p0 := a5, p1 := a6, p2 := a7 }).1 }) :=
    modLk_keeps hs _ fun hl => ⟨LogState.add_length _ _ hl.1, hl.2⟩
  exact ite_keeps (State.raiseVec_keeps (State.raiseVec_keeps (modHost_keeps h _) _ _) _ _) h


theorem State.log_keeps {k s : State} (hs : Keeps k s) (a1 a2 a3 a4 a5 a6) :
    Keeps k (State.log a1 a2 a3 a4 a5 a6 s) := by
  unfold State.log
  repeat' first
    | with_reducible assumption
    | with_reducible
      first | apply State.logAt_keeps

theorem State.setHold_keeps {k s : State} (hs : Keeps k s) (a1) :
    Keeps k (State.setHold a1 s) := by
  unfold State.setHold
  repeat' first
    | with_reducible assumption
    | with_reducible
      first | apply modWin_keeps

theorem State.clearHold_keeps {k s : State} (hs : Keeps k s) (a1) :
    Keeps k (State.clearHold a1 s) := by
  unfold State.clearHold
  repeat' first
    | with_reducible assumption
    | with_reducible
      first | apply modWin_keeps

theorem State.lengthHold_keeps {k s : State} (hs : Keeps k s) (a1 a2 a3 a4 a5) :
    Keeps k (State.lengthHold a1 a2 a3 a4 a5 s) := by
  unfold State.lengthHold
  repeat' first
    | with_reducible assumption
    | with_reducible
      first | apply State.setHold_keeps | apply State.winEvt_keeps | apply State.log_keeps | apply State.clearHold_keeps
            | apply ite_keeps

theorem State.lengthCheck_keeps {k s : State} (hs : Keeps k s) :
    Keeps k (State.lengthCheck s) := by
  unfold State.lengthCheck
  repeat' first
    | with_reducible assumption
    | with_reducible
      first | apply State.lengthHold_keeps

theorem State.reconfigEnd_keeps {k s : State} (hs : Keeps k s) :
    Keeps k (State.reconfigEnd s) := by
  unfold State.reconfigEnd
  repeat' first
    | with_reducible assumption
    | with_reducible
      first | apply State.clearHold_keeps | apply ite_keeps

theorem State.setCause_keeps {k s : State} (hs : Keeps k s) (a1) :
    Keeps k (State.setCause a1 s) := by
  unfold State.setCause
  repeat' first
    | with_reducible assumption
    | with_reducible
      first | apply State.setHold_keeps | apply modWin_keeps

theorem State.clearCause_keeps {k s : State} (hs : Keeps k s) (a1) :
    Keeps k (State.clearCause a1 s) := by
  unfold State.clearCause
  repeat' first
    | with_reducible assumption
    | with_reducible
      first | apply modWin_keeps | apply State.clearHold_keeps | apply ite_keeps

end Sys2Proof.Machine
end

