-- ==== Sys2Proof/Laws/KeepsHalves.lean ====
section
/-! SUPPORT. What the operations of Halves.lean keep (Keeps.lean). -/
set_option linter.unusedTactic false
set_option linter.unreachableTactic false
set_option linter.unusedVariables false
namespace Sys2Proof.Machine

theorem State.linkDown_keeps {k s : State} (hs : Keeps k s) (a1) :
    Keeps k (State.linkDown a1 s) := by
  unfold State.linkDown
  repeat' first
    | with_reducible assumption
    | with_reducible
      first | apply State.linkEvt_keeps | apply State.log_keeps | apply State.modGroup_keeps | apply State.modLink_keeps
            | apply ite_keeps

theorem State.laneEvt_keeps {k s : State} (hs : Keeps k s) (a1 a2) :
    Keeps k (State.laneEvt a1 a2 s) := by
  unfold State.laneEvt
  repeat' first
    | with_reducible assumption
    | with_reducible
      first | apply State.linkEvt_keeps
    | split

theorem State.modHalf_keeps {k s : State} (hs : Keeps k s) (a1 a2 a3) :
    Keeps k (State.modHalf a1 a2 a3 s) := by
  unfold State.modHalf
  repeat' first
    | with_reducible assumption
    | with_reducible
      first | apply State.modGroup_keeps

theorem State.laneNoSpare_keeps {k s : State} (hs : Keeps k s) (a1 a2 a3) :
    Keeps k (State.laneNoSpare a1 a2 a3 s) := by
  unfold State.laneNoSpare
  repeat' first
    | with_reducible assumption
    | with_reducible
      first | apply modLnk_keeps | apply State.laneEvt_keeps | apply State.log_keeps

theorem State.laneShadowed_keeps {k s : State} (hs : Keeps k s) (a1 a2 a3) :
    Keeps k (State.laneShadowed a1 a2 a3 s) := by
  unfold State.laneShadowed
  repeat' first
    | with_reducible assumption
    | with_reducible
      first | apply State.laneEvt_keeps | apply State.log_keeps

theorem State.laneFail_keeps {k s : State} (hs : Keeps k s) (a1 a2 a3) :
    Keeps k (State.laneFail a1 a2 a3 s) := by
  unfold State.laneFail
  repeat' first
    | with_reducible assumption
    | (intro st; refine Keeps.cut (x := st) ?_ ?_; (focus (unfold st; try clear st)); rotate_left; intro hst; clear_value st)
    | (intro st; clear_value st)
    | exact id
    | intro _
    | with_reducible
      first | apply State.modHalf_keeps | apply State.log_keeps | apply State.laneNoSpare_keeps | apply State.laneEvt_keeps
            | apply State.modLink_keeps | apply State.laneShadowed_keeps | apply ite_keeps | apply dite_keeps
            | apply ite_fst | apply foldl_keeps | apply foldl_pair
    | (lift_lets; intro st; refine Keeps.cut (x := st) ?_ ?_; (focus (unfold st; try clear st)); rotate_left; intro hst; clear_value st)
    | (lift_lets; intro st; clear_value st)
    | split
    | exact rfl
    | ((try dsimp only); with_reducible first | apply wf_tset | apply wf_tsetAll | apply wf_tdrop)
    | exact Nat.zero_le _
    | (refine keeps_fst (by with_reducible assumption) ?_)

theorem State.laneBad_keeps {k s : State} (hs : Keeps k s) (a1 a2 a3) :
    Keeps k (State.laneBad a1 a2 a3 s) := by
  unfold State.laneBad
  repeat' first
    | with_reducible assumption
    | (intro st; refine Keeps.cut (x := st) ?_ ?_; (focus (unfold st; try clear st)); rotate_left; intro hst; clear_value st)
    | (intro st; clear_value st)
    | exact id
    | intro _
    | with_reducible
      first | apply State.modLink_keeps | apply State.modGroup_keeps | apply State.laneFail_keeps | apply ite_keeps
            | apply dite_keeps | apply ite_fst | apply foldl_keeps | apply foldl_pair
    | (lift_lets; intro st; refine Keeps.cut (x := st) ?_ ?_; (focus (unfold st; try clear st)); rotate_left; intro hst; clear_value st)
    | (lift_lets; intro st; clear_value st)
    | split
    | exact rfl
    | ((try dsimp only); with_reducible first | apply wf_tset | apply wf_tsetAll | apply wf_tdrop)
    | exact Nat.zero_le _
    | (refine keeps_fst (by with_reducible assumption) ?_)

theorem State.laneUnlock_keeps {k s : State} (hs : Keeps k s) (a1 a2) :
    Keeps k (State.laneUnlock a1 a2 s) := by
  unfold State.laneUnlock
  repeat' first
    | with_reducible assumption
    | (intro st; refine Keeps.cut (x := st) ?_ ?_; (focus (unfold st; try clear st)); rotate_left; intro hst; clear_value st)
    | (intro st; clear_value st)
    | exact id
    | intro _
    | with_reducible
      first | apply State.modGroup_keeps | apply State.linkDown_keeps | apply ite_keeps | apply dite_keeps | apply ite_fst
            | apply foldl_keeps | apply foldl_pair
    | (lift_lets; intro st; refine Keeps.cut (x := st) ?_ ?_; (focus (unfold st; try clear st)); rotate_left; intro hst; clear_value st)
    | (lift_lets; intro st; clear_value st)
    | split
    | exact rfl
    | ((try dsimp only); with_reducible first | apply wf_tset | apply wf_tsetAll | apply wf_tdrop)
    | exact Nat.zero_le _
    | (refine keeps_fst (by with_reducible assumption) ?_)

theorem State.laneHear_keeps {k s : State} (hs : Keeps k s) (a1 a2) :
    Keeps k (State.laneHear a1 a2 s) := by
  unfold State.laneHear
  repeat' first
    | with_reducible assumption
    | (intro st; refine Keeps.cut (x := st) ?_ ?_; (focus (unfold st; try clear st)); rotate_left; intro hst; clear_value st)
    | (intro st; clear_value st)
    | exact id
    | intro _
    | with_reducible
      first | apply State.modGroup_keeps | apply State.laneBad_keeps | apply State.laneFail_keeps | apply State.laneUnlock_keeps
            | apply ite_keeps | apply dite_keeps | apply ite_fst | apply foldl_keeps | apply foldl_pair
    | (lift_lets; intro st; refine Keeps.cut (x := st) ?_ ?_; (focus (unfold st; try clear st)); rotate_left; intro hst; clear_value st)
    | (lift_lets; intro st; clear_value st)
    | split
    | exact rfl
    | ((try dsimp only); with_reducible first | apply wf_tset | apply wf_tsetAll | apply wf_tdrop)
    | exact Nat.zero_le _
    | (refine keeps_fst (by with_reducible assumption) ?_)

theorem State.laneJudge_keeps {k s : State} (hs : Keeps k s) (a1 a2 a3) :
    Keeps k (State.laneJudge a1 a2 a3 s) := by
  unfold State.laneJudge
  repeat' first
    | with_reducible assumption
    | (intro st; refine Keeps.cut (x := st) ?_ ?_; (focus (unfold st; try clear st)); rotate_left; intro hst; clear_value st)
    | (intro st; clear_value st)
    | exact id
    | intro _
    | with_reducible
      first | apply State.laneFail_keeps | apply State.laneHear_keeps | apply ite_keeps | apply dite_keeps | apply ite_fst
            | apply foldl_keeps | apply foldl_pair
    | (lift_lets; intro st; refine Keeps.cut (x := st) ?_ ?_; (focus (unfold st; try clear st)); rotate_left; intro hst; clear_value st)
    | (lift_lets; intro st; clear_value st)
    | split
    | exact rfl
    | ((try dsimp only); with_reducible first | apply wf_tset | apply wf_tsetAll | apply wf_tdrop)
    | exact Nat.zero_le _
    | (refine keeps_fst (by with_reducible assumption) ?_)

end Sys2Proof.Machine
end

