-- ==== Sys2Proof/Laws/KeepsLeatNet.lean ====
section
/-! SUPPORT. What the operations of LeatNet.lean keep (Keeps.lean). -/
set_option linter.unusedTactic false
set_option linter.unreachableTactic false
set_option linter.unusedVariables false
namespace Sys2Proof.Machine

theorem State.releaseRsv_keeps {k s : State} (hs : Keeps k s) (a1 a2) :
    Keeps k (State.releaseRsv a1 a2 s) := by
  unfold State.releaseRsv
  repeat' first
    | with_reducible assumption
    | with_reducible
      first | apply State.modNode_keeps

theorem State.refreshHorizon_keeps {k s : State} (hs : Keeps k s) :
    Keeps k (State.refreshHorizon s) := by
  unfold State.refreshHorizon
  repeat' first
    | with_reducible assumption
    | intro _
    | with_reducible
      first | apply modWin_keeps | apply State.modNode_keeps | apply modSpl_keeps | apply foldl_keeps

theorem State.isolClear_keeps {k s : State} (hs : Keeps k s) (a1 a2) :
    Keeps k (State.isolClear a1 a2 s) := by
  unfold State.isolClear
  repeat' first
    | with_reducible assumption
    | intro _
    | with_reducible
      first | apply State.modNode_keeps | apply ite_keeps | apply foldl_keeps

theorem State.returnUnits_keeps {k s : State} (hs : Keeps k s) (a1 a2 a3) :
    Keeps k (State.returnUnits a1 a2 a3 s) := by
  unfold State.returnUnits
  repeat' first
    | with_reducible assumption
    | with_reducible
      first | apply State.modNode_keeps

theorem State.answer_keeps {k s : State} (hs : Keeps k s) (a1 a2 a3 a4) :
    Keeps k (State.answer a1 a2 a3 a4 s) := by
  unfold State.answer
  repeat' first
    | with_reducible assumption
    | with_reducible
      first | apply State.returnUnits_keeps | apply State.modNode_keeps | apply ite_keeps

theorem State.answerOff_keeps {k s : State} (hs : Keeps k s) (a1 a2) :
    Keeps k (State.answerOff a1 a2 s) := by
  unfold State.answerOff
  repeat' first
    | with_reducible assumption
    | (intro st; refine Keeps.cut (x := st) ?_ ?_; (focus (unfold st; try clear st)); rotate_left; intro hst; clear_value st)
    | (intro st; clear_value st)
    | exact id
    | intro _
    | with_reducible
      first | apply State.answer_keeps | apply State.niEvt_keeps | apply State.modNode_keeps | apply ite_keeps | apply dite_keeps
            | apply ite_fst | apply foldl_keeps | apply foldl_pair
    | (lift_lets; intro st; refine Keeps.cut (x := st) ?_ ?_; (focus (unfold st; try clear st)); rotate_left; intro hst; clear_value st)
    | (lift_lets; intro st; clear_value st)
    | split
    | exact rfl
    | ((try dsimp only); with_reducible first | apply wf_tset | apply wf_tsetAll | apply wf_tdrop)
    | exact Nat.zero_le _
    | (refine keeps_fst (by with_reducible assumption) ?_)

theorem State.niError_keeps {k s : State} (hs : Keeps k s) (a1 a2 a3 a4) :
    Keeps k (State.niError a1 a2 a3 a4 s) := by
  unfold State.niError
  repeat' first
    | with_reducible assumption
    | with_reducible
      first | apply State.modNode_keeps

theorem State.enqueue_keeps {k s : State} (hs : Keeps k s) (a1 a2) :
    Keeps k (State.enqueue a1 a2 s) := by
  unfold State.enqueue
  repeat' first
    | with_reducible assumption
    | with_reducible
      first | apply State.modNode_keeps

theorem State.linkCredit_keeps {k s : State} (hs : Keeps k s) (a1 a2) :
    Keeps k (State.linkCredit a1 a2 s) := by
  unfold State.linkCredit
  repeat' first
    | with_reducible assumption
    | (intro st; refine Keeps.cut (x := st) ?_ ?_; (focus (unfold st; try clear st)); rotate_left; intro hst; clear_value st)
    | (intro st; clear_value st)
    | exact id
    | intro _
    | with_reducible
      first | apply State.modLink_keeps | apply ite_keeps | apply dite_keeps | apply ite_fst | apply foldl_keeps | apply foldl_pair
    | (lift_lets; intro st; refine Keeps.cut (x := st) ?_ ?_; (focus (unfold st; try clear st)); rotate_left; intro hst; clear_value st)
    | (lift_lets; intro st; clear_value st)
    | split
    | exact rfl
    | ((try dsimp only); with_reducible first | apply wf_tset | apply wf_tsetAll | apply wf_tdrop)
    | exact Nat.zero_le _
    | (refine keeps_fst (by with_reducible assumption) ?_)

theorem State.takeResponse_keeps {k s : State} (hs : Keeps k s) (a1) :
    Keeps k (State.takeResponse a1 s).1 := by
  unfold State.takeResponse
  repeat' first
    | with_reducible assumption
    | with_reducible
      first | apply State.modNode_keeps | apply State.niError_keeps | apply ite_keeps
    | (lift_lets; intro st; clear_value st)
    | split

theorem State.grant_keeps {k s : State} (hs : Keeps k s) (a1 a2 a3) :
    Keeps k (State.grant a1 a2 a3 s).1 := by
  unfold State.grant
  repeat' first
    | with_reducible assumption
    | with_reducible
      first | apply State.modNode_keeps
    | (lift_lets; intro st; clear_value st)
    | split

theorem State.dropServed_keeps {k s : State} (hs : Keeps k s) (a1) :
    Keeps k (State.dropServed a1 s) := by
  unfold State.dropServed
  repeat' first
    | with_reducible assumption
    | (intro st; refine Keeps.cut (x := st) ?_ ?_; (focus (unfold st; try clear st)); rotate_left; intro hst; clear_value st)
    | (intro st; clear_value st)
    | exact id
    | intro _
    | with_reducible
      first | apply modCst_keeps | apply modMem_keeps | apply State.modLink_keeps | apply ite_keeps | apply dite_keeps
            | apply ite_fst | apply foldl_keeps | apply foldl_pair
    | (lift_lets; intro st; refine Keeps.cut (x := st) ?_ ?_; (focus (unfold st; try clear st)); rotate_left; intro hst; clear_value st)
    | (lift_lets; intro st; clear_value st)
    | split
    | exact rfl
    | ((try dsimp only); with_reducible first | apply wf_tset | apply wf_tsetAll | apply wf_tdrop)
    | exact Nat.zero_le _
    | (refine keeps_fst (by with_reducible assumption) ?_)

theorem State.unisolate_keeps {k s : State} (hs : Keeps k s) (a1) :
    Keeps k (State.unisolate a1 s) := by
  unfold State.unisolate
  repeat' first
    | with_reducible assumption
    | (intro st; refine Keeps.cut (x := st) ?_ ?_; (focus (unfold st; try clear st)); rotate_left; intro hst; clear_value st)
    | (intro st; clear_value st)
    | exact id
    | intro _
    | with_reducible
      first | apply State.modNode_keeps | apply State.dropServed_keeps | apply ite_keeps | apply dite_keeps | apply ite_fst
            | apply foldl_keeps | apply foldl_pair
    | (lift_lets; intro st; refine Keeps.cut (x := st) ?_ ?_; (focus (unfold st; try clear st)); rotate_left; intro hst; clear_value st)
    | (lift_lets; intro st; clear_value st)
    | split
    | exact rfl
    | ((try dsimp only); with_reducible first | apply wf_tset | apply wf_tsetAll | apply wf_tdrop)
    | exact Nat.zero_le _
    | (refine keeps_fst (by with_reducible assumption) ?_)

theorem State.clearIsolations_keeps {k s : State} (hs : Keeps k s) :
    Keeps k (State.clearIsolations s) := by
  unfold State.clearIsolations
  repeat' first
    | with_reducible assumption
    | intro _
    | with_reducible
      first | apply State.unisolate_keeps | apply ite_keeps | apply foldl_keeps

theorem State.swapOfftake_keeps {k s : State} (hs : Keeps k s) (a1) :
    Keeps k (State.swapOfftake a1 s) := by
  unfold State.swapOfftake
  repeat' first
    | with_reducible assumption
    | intro _
    | with_reducible
      first | apply State.releaseRsv_keeps | apply State.grant_keeps | apply State.modNode_keeps | apply State.niEvt_keeps
            | apply ite_keeps | apply foldl_keeps

theorem State.swapAll_keeps {k s : State} (hs : Keeps k s) :
    Keeps k (State.swapAll s) := by
  unfold State.swapAll
  repeat' first
    | with_reducible assumption
    | (intro st; refine Keeps.cut (x := st) ?_ ?_; (focus (unfold st; try clear st)); rotate_left; intro hst; clear_value st)
    | (intro st; clear_value st)
    | exact id
    | intro _
    | with_reducible
      first | apply State.modNode_keeps | apply State.swapOfftake_keeps | apply ite_keeps | apply dite_keeps | apply ite_fst
            | apply foldl_keeps | apply foldl_pair
    | (lift_lets; intro st; refine Keeps.cut (x := st) ?_ ?_; (focus (unfold st; try clear st)); rotate_left; intro hst; clear_value st)
    | (lift_lets; intro st; clear_value st)
    | split
    | exact rfl
    | ((try dsimp only); with_reducible first | apply wf_tset | apply wf_tsetAll | apply wf_tdrop)
    | exact Nat.zero_le _
    | (refine keeps_fst (by with_reducible assumption) ?_)

theorem State.swapRoutes_keeps {k s : State} (hs : Keeps k s) :
    Keeps k (State.swapRoutes s) := by
  unfold State.swapRoutes
  repeat' first
    | with_reducible assumption
    | intro _
    | with_reducible
      first | apply modLeat_keeps | apply State.swapAll_keeps | apply ite_keeps | apply foldl_keeps

theorem State.routeStep_keeps {k s : State} (hs : Keeps k s) :
    Keeps k (State.routeStep s) := by
  unfold State.routeStep
  repeat' first
    | with_reducible assumption
    | intro _
    | with_reducible
      first | apply State.clearIsolations_keeps | apply State.swapRoutes_keeps | apply State.modNode_keeps
            | apply State.refreshHorizon_keeps | apply ite_keeps | apply foldl_keeps

theorem State.releaseDynamic_keeps {k s : State} (hs : Keeps k s) :
    Keeps k (State.releaseDynamic s) := by
  unfold State.releaseDynamic
  repeat' first
    | with_reducible assumption
    | intro _
    | with_reducible
      first | apply State.modNode_keeps | apply foldl_keeps

theorem State.stagedState_keeps {k s : State} (hs : Keeps k s) :
    Keeps k (State.stagedState s) := by
  unfold State.stagedState
  repeat' first
    | with_reducible assumption
    | (intro st; refine Keeps.cut (x := st) ?_ ?_; (focus (unfold st; try clear st)); rotate_left; intro hst; clear_value st)
    | (intro st; clear_value st)
    | exact id
    | intro _
    | with_reducible
      first | apply State.swapAll_keeps | apply State.releaseDynamic_keeps | apply ite_keeps | apply dite_keeps | apply ite_fst
            | apply foldl_keeps | apply foldl_pair
    | (lift_lets; intro st; refine Keeps.cut (x := st) ?_ ?_; (focus (unfold st; try clear st)); rotate_left; intro hst; clear_value st)
    | (lift_lets; intro st; clear_value st)
    | split
    | exact rfl
    | ((try dsimp only); with_reducible first | apply wf_tset | apply wf_tsetAll | apply wf_tdrop)
    | exact Nat.zero_le _
    | (refine keeps_fst (by with_reducible assumption) ?_)

theorem State.checkStaged_keeps {k s : State} (hs : Keeps k s) :
    Keeps k (State.checkStaged s) := by
  unfold State.checkStaged
  repeat' first
    | with_reducible assumption
    | intro _
    | with_reducible
      first | apply State.stagedState_keeps | apply State.niEvt_keeps | apply State.log_keeps | apply modLeat_keeps
            | apply ite_keeps | apply foldl_keeps

theorem execFallbackPacketReceive_keeps {k s : State} (hs : Keeps k s) (a1 a2) :
    OutKeeps k (execFallbackPacketReceive a1 a2 s) := by
  unfold execFallbackPacketReceive
  repeat' first
    | with_reducible assumption
    | (intro st; refine Keeps.cut (x := st) ?_ ?_; (focus (unfold st; try clear st)); rotate_left; intro hst; clear_value st)
    | (intro st; clear_value st)
    | exact id
    | intro _
    | with_reducible
      first | apply next_keeps | apply ok_keeps | apply okPoison_keeps | apply accept_keeps | apply okThen_keeps
            | apply acceptThen_keeps | apply fail_keeps | apply partly_keeps | apply wait_keeps | apply State.modNode_keeps
            | apply modSpl_keeps | apply ite_res | apply ite_keeps | apply dite_keeps | apply ite_fst | apply foldl_keeps
            | apply foldl_pair
    | (lift_lets; intro st; refine Keeps.cut (x := st) ?_ ?_; (focus (unfold st; try clear st)); rotate_left; intro hst; clear_value st)
    | (lift_lets; intro st; clear_value st)
    | split
    | exact rfl
    | ((try dsimp only); with_reducible first | apply wf_tset | apply wf_tsetAll | apply wf_tdrop)
    | exact Nat.zero_le _
    | (refine keeps_fst (by with_reducible assumption) ?_)

theorem State.countAbsorbed_keeps {k s : State} (hs : Keeps k s) (a1 a2) :
    Keeps k (State.countAbsorbed a1 a2 s) := by
  unfold State.countAbsorbed
  repeat' first
    | with_reducible assumption
    | (intro st; refine Keeps.cut (x := st) ?_ ?_; (focus (unfold st; try clear st)); rotate_left; intro hst; clear_value st)
    | (intro st; clear_value st)
    | exact id
    | intro _
    | with_reducible
      first | apply State.niEvt_keeps | apply State.modNode_keeps | apply ite_keeps | apply dite_keeps | apply ite_fst
            | apply foldl_keeps | apply foldl_pair
    | (lift_lets; intro st; refine Keeps.cut (x := st) ?_ ?_; (focus (unfold st; try clear st)); rotate_left; intro hst; clear_value st)
    | (lift_lets; intro st; clear_value st)
    | split
    | exact rfl
    | ((try dsimp only); with_reducible first | apply wf_tset | apply wf_tsetAll | apply wf_tdrop)
    | exact Nat.zero_le _
    | (refine keeps_fst (by with_reducible assumption) ?_)

theorem State.absorb_keeps {k s : State} (hs : Keeps k s) (a1 a2 a3) :
    Keeps k (State.absorb a1 a2 a3 s) := by
  unfold State.absorb
  repeat' first
    | with_reducible assumption
    | with_reducible
      first | apply State.modNode_keeps | apply State.countAbsorbed_keeps

theorem State.deliver_keeps {k s : State} (hs : Keeps k s) (a1 a2) :
    Keeps k (State.deliver a1 a2 s) := by
  unfold State.deliver
  repeat' first
    | with_reducible assumption
    | (intro st; refine Keeps.cut (x := st) ?_ ?_; (focus (unfold st; try clear st)); rotate_left; intro hst; clear_value st)
    | (intro st; clear_value st)
    | exact id
    | intro _
    | with_reducible
      first | apply State.absorb_keeps | apply State.modNode_keeps | apply ite_keeps | apply dite_keeps | apply ite_fst
            | apply foldl_keeps | apply foldl_pair
    | (lift_lets; intro st; refine Keeps.cut (x := st) ?_ ?_; (focus (unfold st; try clear st)); rotate_left; intro hst; clear_value st)
    | (lift_lets; intro st; clear_value st)
    | split
    | exact rfl
    | ((try dsimp only); with_reducible first | apply wf_tset | apply wf_tsetAll | apply wf_tdrop)
    | exact Nat.zero_le _
    | (refine keeps_fst (by with_reducible assumption) ?_)

theorem State.gateAbsorb_keeps {k s : State} (hs : Keeps k s) (a1 a2) :
    Keeps k (State.gateAbsorb a1 a2 s) := by
  unfold State.gateAbsorb
  repeat' first
    | with_reducible assumption
    | (intro st; refine Keeps.cut (x := st) ?_ ?_; (focus (unfold st; try clear st)); rotate_left; intro hst; clear_value st)
    | (intro st; clear_value st)
    | exact id
    | intro _
    | with_reducible
      first | apply modLeat_keeps | apply State.countAbsorbed_keeps | apply ite_keeps | apply dite_keeps | apply ite_fst
            | apply foldl_keeps | apply foldl_pair
    | (lift_lets; intro st; refine Keeps.cut (x := st) ?_ ?_; (focus (unfold st; try clear st)); rotate_left; intro hst; clear_value st)
    | (lift_lets; intro st; clear_value st)
    | split
    | exact rfl
    | ((try dsimp only); with_reducible first | apply wf_tset | apply wf_tsetAll | apply wf_tdrop)
    | exact Nat.zero_le _
    | (refine keeps_fst (by with_reducible assumption) ?_)

theorem State.hopOne_keeps {k s : State} (hs : Keeps k s) (a1 a2 a3) :
    Keeps k (State.hopOne a1 a2 a3 s).1 := by
  unfold State.hopOne
  repeat' first
    | with_reducible assumption
    | with_reducible
      first | apply modLeat_keeps | apply State.deliver_keeps | apply State.gateAbsorb_keeps
    | split

theorem execWeirHop_keeps {k s : State} (hs : Keeps k s) (a1 a2) :
    OutKeeps k (execWeirHop a1 a2 s) := by
  unfold execWeirHop
  repeat' first
    | with_reducible assumption
    | intro _
    | with_reducible
      first | apply next_keeps | apply modLeat_keeps | apply State.hopOne_keeps | apply ite_keeps | apply foldl_pair

theorem State.inject_keeps {k s : State} (hs : Keeps k s) (a1 a2) :
    Keeps k (State.inject a1 a2 s) := by
  unfold State.inject
  repeat' first
    | with_reducible assumption
    | with_reducible
      first | apply modLeat_keeps

theorem State.sendPiece_keeps {k s : State} (hs : Keeps k s) (a1 a2) :
    Keeps k (State.sendPiece a1 a2 s) := by
  unfold State.sendPiece
  repeat' first
    | with_reducible assumption
    | with_reducible
      first | apply State.modNode_keeps | apply State.linkCredit_keeps | apply State.inject_keeps
    | (lift_lets; intro st; clear_value st)
    | split

theorem State.injectOne_keeps {k s : State} (hs : Keeps k s) (a1) :
    Keeps k (State.injectOne a1 s) := by
  unfold State.injectOne
  repeat' first
    | with_reducible assumption
    | (intro st; refine Keeps.cut (x := st) ?_ ?_; (focus (unfold st; try clear st)); rotate_left; intro hst; clear_value st)
    | (intro st; clear_value st)
    | exact id
    | intro _
    | with_reducible
      first | apply State.inject_keeps | apply State.modNode_keeps | apply State.sendPiece_keeps | apply ite_keeps
            | apply dite_keeps | apply ite_fst | apply foldl_keeps | apply foldl_pair
    | (lift_lets; intro st; refine Keeps.cut (x := st) ?_ ?_; (focus (unfold st; try clear st)); rotate_left; intro hst; clear_value st)
    | (lift_lets; intro st; clear_value st)
    | split
    | exact rfl
    | ((try dsimp only); with_reducible first | apply wf_tset | apply wf_tsetAll | apply wf_tdrop)
    | exact Nat.zero_le _
    | (refine keeps_fst (by with_reducible assumption) ?_)

theorem execTrainInjection_keeps {k s : State} (hs : Keeps k s) (a1) :
    OutKeeps k (execTrainInjection a1 s) := by
  unfold execTrainInjection
  repeat' first
    | with_reducible assumption
    | with_reducible
      first | apply next_keeps | apply State.injectOne_keeps
    | split

theorem execLeatRequestReceive_keeps {k s : State} (hs : Keeps k s) (a1) :
    OutKeeps k (execLeatRequestReceive a1 s) := by
  unfold execLeatRequestReceive
  repeat' first
    | with_reducible assumption
    | with_reducible
      first | apply next_keeps | apply State.modNode_keeps | apply State.niEvt_keeps | apply State.log_keeps
    | split

theorem execCreditReceive_keeps {k s : State} (hs : Keeps k s) (a1) :
    OutKeeps k (execCreditReceive a1 s) := by
  unfold execCreditReceive
  repeat' first
    | with_reducible assumption
    | with_reducible
      first | apply next_keeps | apply State.modNode_keeps
    | split

theorem execReservationIdleRelease_keeps {k s : State} (hs : Keeps k s) (a1 a2) :
    OutKeeps k (execReservationIdleRelease a1 a2 s) := by
  unfold execReservationIdleRelease
  repeat' first
    | with_reducible assumption
    | with_reducible
      first | apply next_keeps | apply State.releaseRsv_keeps | apply ite_keeps

theorem State.isolate_keeps {k s : State} (hs : Keeps k s) (a1) :
    Keeps k (State.isolate a1 s) := by
  unfold State.isolate
  repeat' first
    | with_reducible assumption
    | with_reducible
      first | apply State.modNode_keeps | apply State.niEvt_keeps | apply State.log_keeps
    | (lift_lets; intro st; refine Keeps.cut (x := st) ?_ ?_; (focus (unfold st; try clear st)); rotate_left; intro hst; clear_value st)
    | split

theorem execIsolation_keeps {k s : State} (hs : Keeps k s) (a1) :
    OutKeeps k (execIsolation a1 s) := by
  unfold execIsolation
  repeat' first
    | with_reducible assumption
    | with_reducible
      first | apply next_keeps | apply State.isolate_keeps | apply ite_keeps

end Sys2Proof.Machine
end

