-- ==== Sys2Proof/Laws/KeepsMemoryOps.lean ====
section
/-! SUPPORT. What the operations of MemoryOps.lean keep (Keeps.lean). -/
set_option linter.unusedTactic false
set_option linter.unreachableTactic false
set_option linter.unusedVariables false
namespace Sys2Proof.Machine

theorem State.ddrPllFollow_keeps {k s : State} (hs : Keeps k s) (a1) :
    Keeps k (State.ddrPllFollow a1 s) := by
  unfold State.ddrPllFollow
  repeat' first
    | with_reducible assumption
    | with_reducible
      first | apply modClk_keeps | apply ite_keeps

theorem State.slcSet_keeps {k s : State} (hs : Keeps k s) (a1 a2) :
    Keeps k (State.slcSet a1 a2 s) := by
  unfold State.slcSet
  repeat' first
    | with_reducible assumption
    | with_reducible
      first | apply State.modSlc_keeps | apply modClk_keeps | apply State.ddrPllFollow_keeps | apply ite_keeps

theorem State.filled_keeps {k s : State} (hs : Keeps k s) (a1) :
    Keeps k (State.filled a1 s) := by
  unfold State.filled
  repeat' first
    | with_reducible assumption
    | (intro st; refine Keeps.cut (x := st) ?_ ?_; (focus (unfold st; try clear st)); rotate_left; intro hst; clear_value st)
    | (intro st; clear_value st)
    | exact id
    | intro _
    | with_reducible
      first | apply modMem_keeps | apply State.memEvt_keeps | apply State.modCtl_keeps | apply ite_keeps | apply dite_keeps
            | apply ite_fst | apply foldl_keeps | apply foldl_pair
    | (lift_lets; intro st; refine Keeps.cut (x := st) ?_ ?_; (focus (unfold st; try clear st)); rotate_left; intro hst; clear_value st)
    | (lift_lets; intro st; clear_value st)
    | split
    | exact rfl
    | ((try dsimp only); with_reducible first | apply wf_tset | apply wf_tsetAll | apply wf_tdrop)
    | exact Nat.zero_le _
    | (refine keeps_fst (by with_reducible assumption) ?_)

theorem State.finishWork_keeps {k s : State} (hs : Keeps k s) (a1 a2 a3 a4) :
    Keeps k (State.finishWork a1 a2 a3 a4 s) := by
  unfold State.finishWork
  repeat' first
    | with_reducible assumption
    | with_reducible
      first | apply State.answer_keeps | apply State.modNode_keeps | apply State.modCtl_keeps

theorem State.startPath_keeps {k s : State} (hs : Keeps k s) (a1 a2 a3) :
    Keeps k (State.startPath a1 a2 a3 s) := by
  unfold State.startPath
  repeat' first
    | with_reducible assumption
    | with_reducible
      first | apply State.modCtl_keeps

theorem State.correct_keeps {k s : State} (hs : Keeps k s) (a1 a2) :
    Keeps k (State.correct a1 a2 s) := by
  unfold State.correct
  repeat' first
    | with_reducible assumption
    | with_reducible
      first | apply State.modCtl_keeps

theorem State.putStored_keeps {k s : State} (hs : Keeps k s) (a1 a2 a3) :
    Keeps k (State.putStored a1 a2 a3 s) := by
  unfold State.putStored
  repeat' first
    | with_reducible assumption
    | with_reducible
      first | apply modMem_keeps
    | ((try dsimp only); with_reducible first | apply wf_tset | apply wf_tsetAll | apply wf_tdrop)

theorem State.readRun_keeps {k s : State} (hs : Keeps k s) (a1 a2 a3 a4) :
    Keeps k (State.readRun a1 a2 a3 a4 s).1 := by
  unfold State.readRun
  repeat' first
    | with_reducible assumption
    | with_reducible
      first | apply State.correct_keeps | apply State.putStored_keeps

theorem State.poisonDelivered_keeps {k s : State} (hs : Keeps k s) (a1 a2 a3) :
    Keeps k (State.poisonDelivered a1 a2 a3 s) := by
  unfold State.poisonDelivered
  repeat' first
    | with_reducible assumption
    | (intro st; refine Keeps.cut (x := st) ?_ ?_; (focus (unfold st; try clear st)); rotate_left; intro hst; clear_value st)
    | (intro st; clear_value st)
    | exact id
    | intro _
    | with_reducible
      first | apply State.modCtl_keeps | apply State.log_keeps | apply State.memEvt_keeps | apply ite_keeps | apply dite_keeps
            | apply ite_fst | apply foldl_keeps | apply foldl_pair
    | (lift_lets; intro st; refine Keeps.cut (x := st) ?_ ?_; (focus (unfold st; try clear st)); rotate_left; intro hst; clear_value st)
    | (lift_lets; intro st; clear_value st)
    | split
    | exact rfl
    | ((try dsimp only); with_reducible first | apply wf_tset | apply wf_tsetAll | apply wf_tdrop)
    | exact Nat.zero_le _
    | (refine keeps_fst (by with_reducible assumption) ?_)

theorem State.serveRead_keeps {k s : State} (hs : Keeps k s) (a1 a2) :
    Keeps k (State.serveRead a1 a2 s) := by
  unfold State.serveRead
  repeat' first
    | with_reducible assumption
    | intro _
    | with_reducible
      first | apply State.startPath_keeps | apply State.readRun_keeps | apply State.finishWork_keeps
            | apply State.poisonDelivered_keeps | apply foldl_pair
    | split

theorem State.ledgerLost_keeps {k s : State} (hs : Keeps k s) (a1 a2) :
    Keeps k (State.ledgerLost a1 a2 s) := by
  unfold State.ledgerLost
  repeat' first
    | with_reducible assumption
    | with_reducible
      first | apply State.memEvt_keeps | apply State.log_keeps | apply State.correct_keeps | apply State.putStored_keeps
            | apply State.modCtl_keeps

theorem State.ledgerRead_keeps {k s : State} (hs : Keeps k s) (a1 a2) :
    Keeps k (State.ledgerRead a1 a2 s).1 := by
  unfold State.ledgerRead
  repeat' first
    | with_reducible assumption
    | (intro st; refine Keeps.cut (x := st) ?_ ?_; (focus (unfold st; try clear st)); rotate_left; intro hst; clear_value st)
    | (intro st; clear_value st)
    | exact id
    | intro _
    | with_reducible
      first | apply State.ledgerLost_keeps | apply State.modCtl_keeps | apply State.correct_keeps | apply ite_keeps
            | apply dite_keeps | apply ite_fst | apply foldl_keeps | apply foldl_pair
    | (lift_lets; intro st; refine Keeps.cut (x := st) ?_ ?_; (focus (unfold st; try clear st)); rotate_left; intro hst; clear_value st)
    | (lift_lets; intro st; clear_value st)
    | split
    | exact rfl
    | ((try dsimp only); with_reducible first | apply wf_tset | apply wf_tsetAll | apply wf_tdrop)
    | exact Nat.zero_le _
    | (refine keeps_fst (by with_reducible assumption) ?_)

theorem State.flushEntry_keeps {k s : State} (hs : Keeps k s) (a1 a2 a3) : Keeps k (State.flushEntry a1 a2 a3 s) := by
  have h : Keeps k (if a3 then (s.modCtl a1 fun c => { c with early := satInc c.early }).memEvt a1 3 else s) :=
    ite_keeps (State.memEvt_keeps (State.modCtl_keeps hs _ _) _ _) hs
  unfold State.flushEntry
  dsimp only
  generalize (if a3 then (s.modCtl a1 fun c => { c with early := satInc c.early }).memEvt a1 3 else s) = u at h ⊢
  have g := State.ledgerRead_keeps h a1 a2.page
  generalize u.ledgerRead a1 a2.page = x at g ⊢
  obtain ⟨v, d⟩ := x
  cases d with
  | none => exact g
  | some d =>
    dsimp only
    exact ite_keeps (State.startPath_keeps g _ _ _)
      (State.modCtl_keeps (State.putStored_keeps (State.correct_keeps g _ _) _ _ _) _ _)

theorem State.flushOldest_keeps {k s : State} (hs : Keeps k s) (a1) :
    Keeps k (State.flushOldest a1 s) := by
  unfold State.flushOldest
  repeat' first
    | with_reducible assumption
    | with_reducible
      first | apply State.modCtl_keeps | apply State.flushEntry_keeps
    | split


theorem State.writeRun_keeps {k s : State} (hs : Keeps k s) (a1 a2 a3 a4) :
    Keeps k (State.writeRun a1 a2 a3 a4 s) := by
  unfold State.writeRun
  repeat' first
    | with_reducible assumption
    | with_reducible
      first | apply State.modCtl_keeps | apply State.putStored_keeps | apply State.readRun_keeps | apply State.ledgerRead_keeps
            | apply ite_keeps

theorem State.makeRoom_keeps {k s : State} (hs : Keeps k s) (a1 a2 a3 a4 a5) : Keeps k (State.makeRoom a1 a2 a3 a4 a5 s) := by
  induction a5 generalizing s with
  | zero => exact hs
  | succ n ih =>
    unfold State.makeRoom
    exact ite_keeps (ih (State.flushOldest_keeps hs _)) hs

theorem State.writeSeg_keeps {k : State} {a : State × List MWord × Bool} (h : Keeps k a.1) (a1 a2) :
    Keeps k (State.writeSeg a1 a2 a).1 := by
  obtain ⟨s, ws, waits⟩ := a
  have g := State.makeRoom_keeps h a1 a2.1 a2.2.1 a2.2.2 ((s.ctlAt a1).ledger.length + 1)
  unfold State.writeSeg
  dsimp only
  split
  · exact h
  · split
    · exact g
    · exact State.writeRun_keeps g _ _ _ _

theorem State.serveWrite_keeps {k s : State} (hs : Keeps k s) (a1 a2) :
    Keeps k (State.serveWrite a1 a2 s) := by
  unfold State.serveWrite
  repeat' first
    | with_reducible assumption
    | (intro st; refine Keeps.cut (x := st) ?_ ?_; (focus (unfold st; try clear st)); rotate_left; intro hst; clear_value st)
    | (intro st; clear_value st)
    | exact id
    | intro _
    | with_reducible
      first | apply State.startPath_keeps | apply State.writeSeg_keeps | apply State.finishWork_keeps | apply ite_keeps
            | apply dite_keeps | apply ite_fst | apply foldl_keeps | apply foldl_pair
    | (lift_lets; intro st; refine Keeps.cut (x := st) ?_ ?_; (focus (unfold st; try clear st)); rotate_left; intro hst; clear_value st)
    | (lift_lets; intro st; clear_value st)
    | split
    | exact rfl
    | ((try dsimp only); with_reducible first | apply wf_tset | apply wf_tsetAll | apply wf_tdrop)
    | exact Nat.zero_le _
    | (refine keeps_fst (by with_reducible assumption) ?_)

theorem State.serveOne_keeps {k s : State} (hs : Keeps k s) (a1) :
    Keeps k (State.serveOne a1 s) := by
  unfold State.serveOne
  repeat' first
    | with_reducible assumption
    | with_reducible
      first | apply State.finishWork_keeps | apply State.serveRead_keeps | apply State.serveWrite_keeps | apply ite_keeps
    | split

theorem State.serveAll_keeps {k s : State} (hs : Keeps k s) (a1) :
    Keeps k (State.serveAll a1 s) := by
  unfold State.serveAll
  repeat' first
    | with_reducible assumption
    | intro _
    | with_reducible
      first | apply State.serveOne_keeps | apply foldl_keeps

theorem State.wakeMem_keeps {k s : State} (hs : Keeps k s) (a1) :
    Keeps k (State.wakeMem a1 s) := by
  unfold State.wakeMem
  repeat' first
    | with_reducible assumption
    | intro _
    | with_reducible
      first | apply State.modCtl_keeps | apply State.setDom_keeps | apply ite_keeps | apply foldl_keeps

theorem State.endPath_keeps {k s : State} (hs : Keeps k s) (a1 a2) : Keeps k (State.endPath a1 a2 s) := by
  have g := State.ledgerRead_keeps hs a1 a2
  unfold State.endPath
  generalize s.ledgerRead a1 a2 = x at g ⊢
  obtain ⟨v, d⟩ := x
  dsimp only
  have c (n) : Keeps k ((v.correct a1 n).modCtl a1 fun c => { c.dropEntry a2 with path := none }) :=
    State.modCtl_keeps (State.correct_keeps g _ _) _ _
  split
  · exact State.memEvt_keeps (State.log_keeps (State.modCtl_keeps (State.putStored_keeps (c _) _ _ _) _ _) _ _ _ _ _ _) _ _
  · have e (n ds o p) := State.memEvt_keeps (State.log_keeps (State.modCtl_keeps (State.putStored_keeps (c n) a1 a2 ds) a1
      (fun c => { c with failCnt := satInc c.failCnt })) 0x0602 true false (w32 a1) (w32 a2) p) a1 o
    exact ite_keeps (State.poisonDelivered_keeps (e _ _ _ _) _ _ _) (e _ _ _ _)


theorem State.endRunning_keeps {k s : State} (hs : Keeps k s) (a1) :
    Keeps k (State.endRunning a1 s) := by
  unfold State.endRunning
  repeat' first
    | with_reducible assumption
    | (intro st; refine Keeps.cut (x := st) ?_ ?_; (focus (unfold st; try clear st)); rotate_left; intro hst; clear_value st)
    | (intro st; clear_value st)
    | exact id
    | intro _
    | with_reducible
      first | apply State.endPath_keeps | apply ite_keeps | apply dite_keeps | apply ite_fst | apply foldl_keeps | apply foldl_pair
    | (lift_lets; intro st; refine Keeps.cut (x := st) ?_ ?_; (focus (unfold st; try clear st)); rotate_left; intro hst; clear_value st)
    | (lift_lets; intro st; clear_value st)
    | split
    | exact rfl
    | ((try dsimp only); with_reducible first | apply wf_tset | apply wf_tsetAll | apply wf_tdrop)
    | exact Nat.zero_le _
    | (refine keeps_fst (by with_reducible assumption) ?_)

theorem State.flushAll_keeps {k s : State} (hs : Keeps k s) (a1) :
    Keeps k (State.flushAll a1 s) := by
  unfold State.flushAll
  repeat' first
    | with_reducible assumption
    | intro _
    | with_reducible
      first | apply State.endRunning_keeps | apply State.flushEntry_keeps | apply foldl_keeps
    | (lift_lets; intro st; refine Keeps.cut (x := st) ?_ ?_; (focus (unfold st; try clear st)); rotate_left; intro hst; clear_value st)
    | split

theorem State.setRates_keeps {k s : State} (hs : Keeps k s) (a1) :
    Keeps k (State.setRates a1 s) := by
  unfold State.setRates
  repeat' first
    | with_reducible assumption
    | intro _
    | with_reducible
      first | apply State.modCtl_keeps | apply foldl_keeps

theorem State.memLeave_keeps {k s : State} (hs : Keeps k s) (a1 a2) :
    Keeps k (State.memLeave a1 a2 s) := by
  unfold State.memLeave
  repeat' first
    | with_reducible assumption
    | intro _
    | with_reducible
      first | apply State.slcSet_keeps | apply State.flushAll_keeps | apply modMem_keeps | apply State.modCtl_keeps
            | apply State.setDom_keeps | apply ite_keeps | apply foldl_keeps
    | ((try dsimp only); with_reducible first | apply wf_tset | apply wf_tsetAll | apply wf_tdrop)

theorem State.flushLedgers_keeps {k s : State} (hs : Keeps k s) :
    Keeps k (State.flushLedgers s) := by
  unfold State.flushLedgers
  repeat' first
    | with_reducible assumption
    | intro _
    | with_reducible
      first | apply State.flushAll_keeps | apply foldl_keeps

theorem State.memRun_keeps {k s : State} (hs : Keeps k s) (a1) :
    Keeps k (State.memRun a1 s) := by
  unfold State.memRun
  repeat' first
    | with_reducible assumption
    | intro _
    | with_reducible
      first | apply State.modCtl_keeps | apply State.slcSet_keeps | apply State.modSlc_keeps | apply State.setDom_keeps
            | apply foldl_keeps

theorem State.ctlReset_keeps {k s : State} (hs : Keeps k s) (a1) :
    Keeps k (State.ctlReset a1 s) := by
  unfold State.ctlReset
  repeat' first
    | with_reducible assumption
    | (intro st; refine Keeps.cut (x := st) ?_ ?_; (focus (unfold st; try clear st)); rotate_left; intro hst; clear_value st)
    | (intro st; clear_value st)
    | exact id
    | intro _
    | with_reducible
      first | apply State.modCtl_keeps | apply State.flushAll_keeps | apply ite_keeps | apply dite_keeps | apply ite_fst
            | apply foldl_keeps | apply foldl_pair
    | (lift_lets; intro st; refine Keeps.cut (x := st) ?_ ?_; (focus (unfold st; try clear st)); rotate_left; intro hst; clear_value st)
    | (lift_lets; intro st; clear_value st)
    | split
    | exact rfl
    | ((try dsimp only); with_reducible first | apply wf_tset | apply wf_tsetAll | apply wf_tdrop)
    | exact Nat.zero_le _
    | (refine keeps_fst (by with_reducible assumption) ?_)

end Sys2Proof.Machine
end

