-- ==== Sys2Proof/Laws/KeepsPorts.lean ====
section
/-! SUPPORT. What the operations of Ports.lean keep (Keeps.lean). -/
set_option linter.unusedTactic false
set_option linter.unreachableTactic false
set_option linter.unusedVariables false
namespace Sys2Proof.Machine

theorem State.putReply_keeps {k s : State} (hs : Keeps k s) (a1 a2 a3 a4) :
    Keeps k (State.putReply a1 a2 a3 a4 s) := by
  unfold State.putReply
  repeat' first
    | with_reducible assumption
    | with_reducible
      first | apply modPort_keeps | apply State.raiseVec_keeps | apply State.modLink_keeps | apply modHost_keeps
    | (lift_lets; intro st; refine Keeps.cut (x := st) ?_ ?_; (focus (unfold st; try clear st)); rotate_left; intro hst; clear_value st)
    | split

theorem State.renewLease_keeps {k s : State} (hs : Keeps k s) :
    Keeps k (State.renewLease s) := by
  unfold State.renewLease
  repeat' first
    | with_reducible assumption
    | exact id
    | with_reducible
      first | apply modLk_keeps

theorem State.logCommand_keeps {k s : State} (hs : Keeps k s) (a1 a2 a3 a4) :
    Keeps k (State.logCommand a1 a2 a3 a4 s) := by
  unfold State.logCommand
  repeat' first
    | with_reducible assumption
    | with_reducible
      first | apply State.log_keeps | apply ite_keeps

theorem State.commit_keeps {k s : State} (hs : Keeps k s) (a1 a2 a3 a4 a5 a6) :
    Keeps k (State.commit a1 a2 a3 a4 a5 a6 s) := by
  unfold State.commit
  repeat' first
    | with_reducible assumption
    | with_reducible
      first | apply State.putReply_keeps | apply State.renewLease_keeps | apply State.logCommand_keeps | apply ite_keeps

theorem State.postNow_keeps {k s : State} (hs : Keeps k s) (a1 a2 a3) :
    Keeps k (State.postNow a1 a2 a3 s) := by
  unfold State.postNow
  repeat' first
    | with_reducible assumption
    | with_reducible
      first | apply modPort_keeps | apply State.raiseVec_keeps | apply State.modLink_keeps | apply modHost_keeps
    | split

theorem State.postRecord_keeps {k s : State} (hs : Keeps k s) (a1 a2 a3) :
    Keeps k (State.postRecord a1 a2 a3 s) := by
  unfold State.postRecord
  repeat' first
    | with_reducible assumption
    | exact id
    | with_reducible
      first | apply modLk_keeps | apply State.postNow_keeps | apply ite_keeps

theorem State.postRecord?_keeps {k s : State} (hs : Keeps k s) (a1 a2 a3) :
    Keeps k (State.postRecord? a1 a2 a3 s) := by
  unfold State.postRecord?
  repeat' first
    | with_reducible assumption
    | with_reducible
      first | apply State.postRecord_keeps
    | split

theorem State.hwBusy_keeps {k s : State} (hs : Keeps k s) (a1 a2 a3) :
    Keeps k (State.hwBusy a1 a2 a3 s) := by
  unfold State.hwBusy
  repeat' first
    | with_reducible assumption
    | with_reducible
      first | apply State.putReply_keeps

theorem State.memCut_keeps {k s : State} (hs : Keeps k s) :
    Keeps k (State.memCut s) := by
  unfold State.memCut
  repeat' first
    | with_reducible assumption
    | exact id
    | intro _
    | with_reducible
      first | apply State.commit_keeps | apply modPort_keeps | apply modLk_keeps | apply ite_keeps | apply foldl_keeps

theorem State.notCommand_keeps {k s : State} (hs : Keeps k s) (a1 a2) :
    Keeps k (State.notCommand a1 a2 s) := by
  unfold State.notCommand
  repeat' first
    | with_reducible assumption
    | with_reducible
      first | apply State.putReply_keeps

theorem State.accepted_keeps {k s s1 : State} {a6 : State → State} (hs : Keeps k s) (hs1 : Keeps k s1) (ha6 : ∀ u, Keeps k u → Keeps k (a6 u)) (a2 a3 a4) :
    Keeps k (State.accepted s a2 a3 a4 s1 a6) := by
  unfold State.accepted
  repeat' first
    | with_reducible assumption
    | with_reducible
      first | apply ha6 | apply State.commit_keeps | apply modPort_keeps | apply ite_keeps

theorem resOk_keeps {k s : State} {r : Res} {p} (h : ResKeeps k r) (e : r = .ok s p) : Keeps k s := by subst e; exact h
theorem resOkPoison_keeps {k s : State} {r : Res} {p} (h : ResKeeps k r) (e : r = .okPoison s p) : Keeps k s := by subst e; exact h
theorem resPartly_keeps {k s : State} {r : Res} {n p} (h : ResKeeps k r) (e : r = .partly s n p) : Keeps k s := by subst e; exact h
theorem resWait_keeps {k s : State} {r : Res} (h : ResKeeps k r) (e : r = .wait s) : Keeps k s := by subst e; exact h
theorem resAccept_keeps {k s : State} {r : Res} (h : ResKeeps k r) (e : r = .accept s) : Keeps k s := by subst e; exact h
theorem resOkThen_keeps {k s : State} {r : Res} {f} (h : ResKeeps k r) (e : r = .okThen s f) :
    Keeps k s ∧ ∀ u, Keeps k u → Keeps k (f u) := by subst e; exact h
theorem resAcceptThen_keeps {k s : State} {r : Res} {f} (h : ResKeeps k r) (e : r = .acceptThen s f) :
    Keeps k s ∧ ∀ u, Keeps k u → Keeps k (f u) := by subst e; exact h

theorem State.serve_judged {k s : State} {body : State → Res} {r : Req} {own : Own} {lenOk : Bool}
    (hb : ∀ u : State, Keeps k u → u.judgeReq r own lenOk = none → ResKeeps k (body u)) (hs : Keeps k s)
    (opcode refused) : Keeps k (State.serve r opcode own lenOk refused body s) := by
  unfold State.serve
  split
  · exact State.hwBusy_keeps hs _ _ _
  · have hm := State.memCut_keeps hs
    dsimp only
    split
    · exact State.notCommand_keeps hm _ _
    · split
      · exact State.commit_keeps hm _ _ _ _ _ _
      · split
        · exact State.commit_keeps hm _ _ _ _ _ _
        · rename_i hj
          have hr := hb _ hm hj
          split <;> rename_i e
          · exact State.commit_keeps (resOk_keeps hr e) _ _ _ _ _ _
          · exact State.commit_keeps (resOkPoison_keeps hr e) _ _ _ _ _ _
          · exact (resOkThen_keeps hr e).2 _ (State.commit_keeps (resOkThen_keeps hr e).1 _ _ _ _ _ _)
          · exact State.accepted_keeps hm (resAccept_keeps hr e) (fun _ h => h) _ _ _
          · exact State.accepted_keeps hm (resAcceptThen_keeps hr e).1 (resAcceptThen_keeps hr e).2 _ _ _
          · exact State.commit_keeps hm _ _ _ _ _ _
          · exact State.commit_keeps (resPartly_keeps hr e) _ _ _ _ _ _
          · exact resWait_keeps hr e

theorem State.serve_keeps {k s : State} {body : State → Res} (hb : ∀ u, Keeps k u → ResKeeps k (body u)) (hs : Keeps k s)
    (r opcode own lenOk refused) : Keeps k (State.serve r opcode own lenOk refused body s) :=
  State.serve_judged (fun u hu _ => hb u hu) hs opcode refused

theorem State.serveCmd_keeps {k s : State} {a5 : State → Res} (ha5 : ∀ u, Keeps k u → ResKeeps k (a5 u)) (hs : Keeps k s) (a1 a2 a3 a4) :
    Keeps k (State.serveCmd a1 a2 a3 a4 a5 s) := by
  unfold State.serveCmd
  repeat' first
    | with_reducible assumption
    | with_reducible
      first | apply ha5 | apply ok_keeps | apply State.serve_keeps

theorem State.setOwner_keeps {k s : State} (hs : Keeps k s) (a1 a2) (h4 : a1 ≤ 4) : Keeps k (State.setOwner a1 a2 s) := by
  unfold State.setOwner
  refine ite_keeps hs (State.log_keeps (modLk_keeps hs _ fun hl => ⟨hl.1, ?_⟩) _ _ _ _ _ _)
  simp only [BitVec.toNat_ofNat]; omega


theorem State.expireLease_keeps {k s : State} (hs : Keeps k s) :
    Keeps k (State.expireLease s) := by
  unfold State.expireLease
  repeat' first
    | with_reducible assumption
    | exact id
    | with_reducible
      first | apply modLk_keeps | apply State.setOwner_keeps | apply ite_keeps
    | exact Nat.zero_le _

end Sys2Proof.Machine
end

