-- ==== Sys2Proof/Laws/KeepsClockOps.lean ====
section
/-! SUPPORT. What the operations of ClockOps.lean keep (Keeps.lean). -/
set_option linter.unusedTactic false
set_option linter.unreachableTactic false
set_option linter.unusedVariables false
namespace Sys2Proof.Machine

theorem State.muxSwitch_keeps {k s : State} (hs : Keeps k s) (a1) :
    Keeps k (State.muxSwitch a1 s) := by
  unfold State.muxSwitch
  repeat' first
    | with_reducible assumption
    | with_reducible
      first | apply modClk_keeps

theorem State.slcRequest_keeps {k s : State} (hs : Keeps k s) (a1 a2) :
    Keeps k (State.slcRequest a1 a2 s) := by
  unfold State.slcRequest
  repeat' first
    | with_reducible assumption
    | with_reducible
      first | apply State.slcSet_keeps | apply State.modSlc_keeps | apply ite_keeps

theorem State.slcAnswer_keeps {k s : State} (hs : Keeps k s) (a1 a2) :
    Keeps k (State.slcAnswer a1 a2 s) := by
  unfold State.slcAnswer
  repeat' first
    | with_reducible assumption
    | with_reducible
      first | apply State.commit_keeps | apply State.modSlc_keeps
    | split

theorem State.takeStop_keeps {k s : State} (hs : Keeps k s) (a1) :
    Keeps k (State.takeStop a1 s) := by
  unfold State.takeStop
  repeat' first
    | with_reducible assumption
    | with_reducible
      first | apply modFab_keeps | apply modClk_keeps | apply ite_keeps

theorem State.clockStop_keeps {k s : State} (hs : Keeps k s) (a1) :
    Keeps k (State.clockStop a1 s) := by
  unfold State.clockStop
  repeat' first
    | with_reducible assumption
    | with_reducible
      first | apply modFab_keeps | apply State.takeStop_keeps | apply ite_keeps

theorem State.endStop_keeps {k s : State} (hs : Keeps k s) (a1) :
    Keeps k (State.endStop a1 s) := by
  unfold State.endStop
  repeat' first
    | with_reducible assumption
    | with_reducible
      first | apply modFab_keeps

theorem State.takeStops_keeps {k s : State} (hs : Keeps k s) :
    Keeps k (State.takeStops s) := by
  unfold State.takeStops
  repeat' first
    | with_reducible assumption
    | intro _
    | with_reducible
      first | apply State.takeStop_keeps | apply modFab_keeps | apply foldl_keeps

theorem State.showPins_keeps {k s : State} (hs : Keeps k s) :
    Keeps k (State.showPins s) := by
  unfold State.showPins
  repeat' first
    | with_reducible assumption
    | intro _
    | with_reducible
      first | apply emit_keeps | apply ite_keeps | apply foldl_keeps

theorem State.dropLinks_keeps {k s : State} (hs : Keeps k s) :
    Keeps k (State.dropLinks s) := by
  unfold State.dropLinks
  repeat' first
    | with_reducible assumption
    | intro _
    | with_reducible
      first | apply State.linkDown_keeps | apply foldl_keeps

theorem State.safeItems_keeps {k s : State} (hs : Keeps k s) :
    Keeps k (State.safeItems s) := by
  unfold State.safeItems
  repeat' first
    | with_reducible assumption
    | intro _
    | with_reducible
      first | apply modClk_keeps | apply State.dropLinks_keeps | apply State.modGroup_keeps | apply State.muxSwitch_keeps
            | apply State.showPins_keeps | apply ite_keeps | apply foldl_keeps

theorem State.thermalStop_keeps {k s : State} (hs : Keeps k s) (a1) :
    Keeps k (State.thermalStop a1 s) := by
  unfold State.thermalStop
  repeat' first
    | with_reducible assumption
    | with_reducible
      first | apply modPwr_keeps | apply modThm_keeps | apply State.setHold_keeps | apply State.safeItems_keeps
            | apply State.takeStop_keeps | apply State.thmEvt_keeps | apply State.log_keeps

theorem State.slcClose_keeps {k s : State} (hs : Keeps k s) (a1) :
    Keeps k (State.slcClose a1 s) := by
  unfold State.slcClose
  repeat' first
    | with_reducible assumption
    | intro _
    | with_reducible
      first | apply State.slcAnswer_keeps | apply State.slcSet_keeps | apply State.flushAll_keeps | apply ite_keeps
            | apply foldl_keeps

theorem State.slcFail_keeps {k s : State} (hs : Keeps k s) (a1) :
    Keeps k (State.slcFail a1 s) := by
  unfold State.slcFail
  repeat' first
    | with_reducible assumption
    | with_reducible
      first | apply State.slcAnswer_keeps | apply State.clkEvt_keeps | apply State.log_keeps | apply State.modSlc_keeps
            | apply ite_keeps

end Sys2Proof.Machine
end

