-- ==== Sys2Proof/Laws/KeepsFrames.lean ====
section
/-! SUPPORT. What the operations of Frames.lean keep (Keeps.lean). -/
set_option linter.unusedTactic false
set_option linter.unreachableTactic false
set_option linter.unusedVariables false
namespace Sys2Proof.Machine

theorem State.ctrlAll_keeps {k s : State} (hs : Keeps k s) :
    Keeps k (State.ctrlAll s) := by
  unfold State.ctrlAll
  repeat' first
    | with_reducible assumption
    | (intro st; refine Keeps.cut (x := st) ?_ ?_; (focus (unfold st; try clear st)); rotate_left; intro hst; clear_value st)
    | (intro st; clear_value st)
    | exact id
    | intro _
    | with_reducible
      first | apply State.modLink_keeps | apply ite_keeps | apply dite_keeps | apply ite_fst | apply foldl_keeps | apply foldl_pair
    | (lift_lets; intro st; refine Keeps.cut (x := st) ?_ ?_; (focus (unfold st; try clear st)); rotate_left; intro hst; clear_value st)
    | (lift_lets; intro st; clear_value st)
    | split
    | exact rfl
    | ((try dsimp only); with_reducible first | apply wf_tset | apply wf_tsetAll | apply wf_tdrop)
    | exact Nat.zero_le _
    | (refine keeps_fst (by with_reducible assumption) ?_)

theorem State.sendReplay_keeps {k s : State} (hs : Keeps k s) (a1) :
    Keeps k (State.sendReplay a1 s) := by
  unfold State.sendReplay
  repeat' first
    | with_reducible assumption
    | with_reducible
      first | apply State.modLink_keeps | apply emit_keeps
    | (lift_lets; intro st; clear_value st)
    | split

theorem State.sendFrame_keeps {k s : State} (hs : Keeps k s) (a1 a2 a3 a4 a5) :
    Keeps k (State.sendFrame a1 a2 a3 a4 a5 s) := by
  unfold State.sendFrame
  repeat' first
    | with_reducible assumption
    | with_reducible
      first | apply emit_keeps | apply State.modLink_keeps | apply ite_keeps

theorem State.sendCtrl_keeps {k s : State} (hs : Keeps k s) (a1) :
    Keeps k (State.sendCtrl a1 s) := by
  unfold State.sendCtrl
  repeat' first
    | with_reducible assumption
    | with_reducible
      first | apply State.modLink_keeps | apply State.sendFrame_keeps

theorem State.sendTxn_keeps {k s : State} (hs : Keeps k s) (a1 a2) :
    Keeps k (State.sendTxn a1 a2 s) := by
  unfold State.sendTxn
  repeat' first
    | with_reducible assumption
    | with_reducible
      first | apply State.modLink_keeps | apply State.sendFrame_keeps

theorem State.sendNext_keeps {k s : State} (hs : Keeps k s) (a1) :
    Keeps k (State.sendNext a1 s) := by
  unfold State.sendNext
  repeat' first
    | with_reducible assumption
    | (intro st; refine Keeps.cut (x := st) ?_ ?_; (focus (unfold st; try clear st)); rotate_left; intro hst; clear_value st)
    | (intro st; clear_value st)
    | exact id
    | intro _
    | with_reducible
      first | apply State.sendReplay_keeps | apply State.sendCtrl_keeps | apply State.sendFrame_keeps | apply State.modLink_keeps
            | apply State.sendTxn_keeps | apply ite_keeps | apply dite_keeps | apply ite_fst | apply foldl_keeps
            | apply foldl_pair
    | (lift_lets; intro st; refine Keeps.cut (x := st) ?_ ?_; (focus (unfold st; try clear st)); rotate_left; intro hst; clear_value st)
    | (lift_lets; intro st; clear_value st)
    | split
    | exact rfl
    | ((try dsimp only); with_reducible first | apply wf_tset | apply wf_tsetAll | apply wf_tdrop)
    | exact Nat.zero_le _
    | (refine keeps_fst (by with_reducible assumption) ?_)

theorem State.sendAlign_keeps {k s : State} (hs : Keeps k s) (a1) :
    Keeps k (State.sendAlign a1 s) := by
  unfold State.sendAlign
  repeat' first
    | with_reducible assumption
    | (intro st; refine Keeps.cut (x := st) ?_ ?_; (focus (unfold st; try clear st)); rotate_left; intro hst; clear_value st)
    | (intro st; clear_value st)
    | exact id
    | intro _
    | with_reducible
      first | apply emit_keeps | apply State.modLink_keeps | apply ite_keeps | apply dite_keeps | apply ite_fst | apply foldl_keeps
            | apply foldl_pair
    | (lift_lets; intro st; refine Keeps.cut (x := st) ?_ ?_; (focus (unfold st; try clear st)); rotate_left; intro hst; clear_value st)
    | (lift_lets; intro st; clear_value st)
    | split
    | exact rfl
    | ((try dsimp only); with_reducible first | apply wf_tset | apply wf_tsetAll | apply wf_tdrop)
    | exact Nat.zero_le _
    | (refine keeps_fst (by with_reducible assumption) ?_)

theorem State.sendFill_keeps {k s : State} (hs : Keeps k s) (a1 a2) :
    Keeps k (State.sendFill a1 a2 s) := by
  unfold State.sendFill
  repeat' first
    | with_reducible assumption
    | (intro st; refine Keeps.cut (x := st) ?_ ?_; (focus (unfold st; try clear st)); rotate_left; intro hst; clear_value st)
    | (intro st; clear_value st)
    | exact id
    | intro _
    | with_reducible
      first | apply State.sendAlign_keeps | apply emit_keeps | apply ite_keeps | apply dite_keeps | apply ite_fst
            | apply foldl_keeps | apply foldl_pair
    | (lift_lets; intro st; refine Keeps.cut (x := st) ?_ ?_; (focus (unfold st; try clear st)); rotate_left; intro hst; clear_value st)
    | (lift_lets; intro st; clear_value st)
    | split
    | exact rfl
    | ((try dsimp only); with_reducible first | apply wf_tset | apply wf_tsetAll | apply wf_tdrop)
    | exact Nat.zero_le _
    | (refine keeps_fst (by with_reducible assumption) ?_)

theorem execFrameSend_keeps {k s : State} (hs : Keeps k s) (a1 a2) :
    OutKeeps k (execFrameSend a1 a2 s) := by
  unfold execFrameSend
  repeat' first
    | with_reducible assumption
    | with_reducible
      first | apply next_keeps | apply State.sendNext_keeps | apply State.sendFill_keeps
    | split

theorem State.resendAll_keeps {k s : State} (hs : Keeps k s) (a1) :
    Keeps k (State.resendAll a1 s) := by
  unfold State.resendAll
  repeat' first
    | with_reducible assumption
    | with_reducible
      first | apply State.linkDown_keeps | apply State.modLink_keeps | apply ite_keeps

theorem State.acceptFrame_keeps {k s : State} (hs : Keeps k s) (a1 a2) :
    Keeps k (State.acceptFrame a1 a2 s).1 := by
  unfold State.acceptFrame
  repeat' first
    | with_reducible assumption
    | (intro st; refine Keeps.cut (x := st) ?_ ?_; (focus (unfold st; try clear st)); rotate_left; intro hst; clear_value st)
    | (intro st; clear_value st)
    | exact id
    | intro _
    | with_reducible
      first | apply State.laneBad_keeps | apply State.modLink_keeps | apply State.resendAll_keeps | apply ite_keeps
            | apply dite_keeps | apply ite_fst | apply foldl_keeps | apply foldl_pair
    | (lift_lets; intro st; refine Keeps.cut (x := st) ?_ ?_; (focus (unfold st; try clear st)); rotate_left; intro hst; clear_value st)
    | (lift_lets; intro st; clear_value st)
    | split
    | exact rfl
    | ((try dsimp only); with_reducible first | apply wf_tset | apply wf_tsetAll | apply wf_tdrop)
    | exact Nat.zero_le _
    | (refine keeps_fst (by with_reducible assumption) ?_)

end Sys2Proof.Machine
end

