-- ==== Sys2Proof/Laws/KeepsLanes.lean ====
section
/-! SUPPORT. What the operations of Lanes.lean keep (Keeps.lean). -/
set_option linter.unusedTactic false
set_option linter.unreachableTactic false
set_option linter.unusedVariables false
namespace Sys2Proof.Machine

theorem State.train_keeps {k s : State} (hs : Keeps k s) (a1) :
    Keeps k (State.train a1 s) := by
  unfold State.train
  repeat' first
    | with_reducible assumption
    | with_reducible
      first | apply State.modGroup_keeps | apply State.modLink_keeps | apply ite_keeps

theorem State.linkEn_keeps {k s : State} (hs : Keeps k s) (a1 a2) :
    Keeps k (State.linkEn a1 a2 s) := by
  unfold State.linkEn
  repeat' first
    | with_reducible assumption
    | with_reducible
      first | apply State.modLink_keeps | apply State.train_keeps | apply ite_keeps

theorem State.linkRetrain_keeps {k s : State} (hs : Keeps k s) (a1) :
    Keeps k (State.linkRetrain a1 s) := by
  unfold State.linkRetrain
  repeat' first
    | with_reducible assumption
    | with_reducible
      first | apply State.train_keeps | apply ite_keeps

theorem State.groupUnlock_keeps {k s : State} (hs : Keeps k s) (a1) :
    Keeps k (State.groupUnlock a1 s) := by
  unfold State.groupUnlock
  repeat' first
    | with_reducible assumption
    | intro _
    | with_reducible
      first | apply State.modGroup_keeps | apply State.linkDown_keeps | apply ite_keeps | apply foldl_keeps

theorem State.slotRestart_keeps {k s : State} (hs : Keeps k s) :
    Keeps k (State.slotRestart s) := by
  unfold State.slotRestart
  repeat' first
    | with_reducible assumption
    | intro _
    | with_reducible
      first | apply State.modLink_keeps | apply ite_keeps | apply foldl_keeps

theorem State.trainAll_keeps {k s : State} (hs : Keeps k s) :
    Keeps k (State.trainAll s) := by
  unfold State.trainAll
  repeat' first
    | with_reducible assumption
    | intro _
    | with_reducible
      first | apply State.train_keeps | apply ite_keeps | apply foldl_keeps

theorem State.laneSwapHalf_keeps {k s : State} (hs : Keeps k s) (a1 a2) :
    Keeps k (State.laneSwapHalf a1 a2 s) := by
  unfold State.laneSwapHalf
  repeat' first
    | with_reducible assumption
    | with_reducible
      first | apply State.laneEvt_keeps | apply State.log_keeps | apply State.modHalf_keeps | apply ite_keeps

theorem State.laneSwapAll_keeps {k s : State} (hs : Keeps k s) :
    Keeps k (State.laneSwapAll s) := by
  unfold State.laneSwapAll
  repeat' first
    | with_reducible assumption
    | intro _
    | with_reducible
      first | apply State.laneSwapHalf_keeps | apply foldl_keeps

theorem execLaneDirectionFailing_keeps {k s : State} (hs : Keeps k s) (a1 a2 a3) :
    OutKeeps k (execLaneDirectionFailing a1 a2 a3 s) := by
  unfold execLaneDirectionFailing
  repeat' first
    | with_reducible assumption
    | (intro st; refine Keeps.cut (x := st) ?_ ?_; (focus (unfold st; try clear st)); rotate_left; intro hst; clear_value st)
    | (intro st; clear_value st)
    | exact id
    | intro _
    | with_reducible
      first | apply next_keeps | apply ok_keeps | apply okPoison_keeps | apply accept_keeps | apply okThen_keeps
            | apply acceptThen_keeps | apply fail_keeps | apply partly_keeps | apply wait_keeps
            | apply State.laneJudge_keeps | apply ite_res | apply ite_keeps | apply dite_keeps | apply ite_fst
            | apply foldl_keeps | apply foldl_pair
    | (lift_lets; intro st; refine Keeps.cut (x := st) ?_ ?_; (focus (unfold st; try clear st)); rotate_left; intro hst; clear_value st)
    | (lift_lets; intro st; clear_value st)
    | split
    | exact rfl
    | ((try dsimp only); with_reducible first | apply wf_tset | apply wf_tsetAll | apply wf_tdrop)
    | exact Nat.zero_le _
    | (refine keeps_fst (by with_reducible assumption) ?_)

theorem execAlignBlockReceive_keeps {k s : State} (hs : Keeps k s) (a1 a2 a3) :
    OutKeeps k (execAlignBlockReceive a1 a2 a3 s) := by
  unfold execAlignBlockReceive
  repeat' first
    | with_reducible assumption
    | with_reducible
      first | apply next_keeps | apply State.laneBad_keeps | apply State.modGroup_keeps | apply State.laneShadowed_keeps
            | apply State.modHalf_keeps | apply State.modLink_keeps | apply ite_keeps
    | split

theorem execIdleColumnAdjust_keeps {k s : State} (hs : Keeps k s) (a1 a2) :
    OutKeeps k (execIdleColumnAdjust a1 a2 s) := by
  unfold execIdleColumnAdjust
  repeat' first
    | with_reducible assumption
    | with_reducible
      first | apply next_keeps | apply State.modLink_keeps | apply ite_keeps

theorem execLanePllUnlock_keeps {k s : State} (hs : Keeps k s) (a1) :
    OutKeeps k (execLanePllUnlock a1 s) := by
  unfold execLanePllUnlock
  repeat' first
    | with_reducible assumption
    | with_reducible
      first | apply next_keeps | apply State.groupUnlock_keeps | apply State.clkEvt_keeps | apply State.log_keeps
            | apply modClk_keeps | apply ite_keeps

theorem execStandbyPllTakeover_keeps {k s : State} (hs : Keeps k s) (a1) :
    OutKeeps k (execStandbyPllTakeover a1 s) := by
  unfold execStandbyPllTakeover
  repeat' first
    | with_reducible assumption
    | with_reducible
      first | apply next_keeps | apply State.log_keeps | apply State.modGroup_keeps
    | split

theorem execSlotFrameReceive_keeps {k s : State} (hs : Keeps k s) (a1 a2) :
    OutKeeps k (execSlotFrameReceive a1 a2 s) := by
  unfold execSlotFrameReceive
  repeat' first
    | with_reducible assumption
    | with_reducible
      first | apply next_keeps | apply State.acceptFrame_keeps | apply State.modLink_keeps | apply modWin_keeps | apply modLnk_keeps
            | apply State.linkEvt_keeps | apply State.log_keeps | apply ite_keeps

theorem execReplayTimeout_keeps {k s : State} (hs : Keeps k s) (a1) :
    OutKeeps k (execReplayTimeout a1 s) := by
  unfold execReplayTimeout
  repeat' first
    | with_reducible assumption
    | with_reducible
      first | apply next_keeps | apply State.resendAll_keeps | apply ite_keeps

theorem execLinkDown_keeps {k s : State} (hs : Keeps k s) (a1) :
    OutKeeps k (execLinkDown a1 s) := by
  unfold execLinkDown
  repeat' first
    | with_reducible assumption
    | with_reducible
      first | apply next_keeps | apply State.linkDown_keeps

theorem State.setLanes_keeps {k s : State} (hs : Keeps k s) (a1 a2) :
    Keeps k (State.setLanes a1 a2 s) := by
  unfold State.setLanes
  repeat' first
    | with_reducible assumption
    | intro _
    | with_reducible
      first | apply State.modGroup_keeps | apply foldl_keeps

theorem execLinkUp_keeps {k s : State} (hs : Keeps k s) (a1 a2) :
    OutKeeps k (execLinkUp a1 a2 s) := by
  unfold execLinkUp
  repeat' first
    | with_reducible assumption
    | with_reducible
      first | apply next_keeps | apply State.setLanes_keeps | apply State.linkEvt_keeps | apply State.modLink_keeps
            | apply State.log_keeps
    | (lift_lets; intro st; refine Keeps.cut (x := st) ?_ ?_; (focus (unfold st; try clear st)); rotate_left; intro hst; clear_value st)
    | split

end Sys2Proof.Machine
end

