-- ==== Sys2Proof/Laws/KeepsClocks.lean ====
section
/-! SUPPORT. What the operations of Clocks.lean keep (Keeps.lean). -/
set_option linter.unusedTactic false
set_option linter.unreachableTactic false
set_option linter.unusedVariables false
namespace Sys2Proof.Machine

theorem State.refSwitch_keeps {k s : State} (hs : Keeps k s) (a1 a2) :
    Keeps k (State.refSwitch a1 a2 s) := by
  unfold State.refSwitch
  repeat' first
    | with_reducible assumption
    | with_reducible
      first | apply State.muxSwitch_keeps

theorem State.selectRef_keeps {k s : State} (hs : Keeps k s) (a1) :
    Keeps k (State.selectRef a1 s) := by
  unfold State.selectRef
  repeat' first
    | with_reducible assumption
    | with_reducible
      first | apply modClk_keeps | apply State.refSwitch_keeps | apply State.clkEvt_keeps
    | (lift_lets; intro st; refine Keeps.cut (x := st) ?_ ?_; (focus (unfold st; try clear st)); rotate_left; intro hst; clear_value st)
    | split

theorem State.refNone_keeps {k s : State} (hs : Keeps k s) (a1) :
    Keeps k (State.refNone a1 s) := by
  unfold State.refNone
  repeat' first
    | with_reducible assumption
    | (intro st; refine Keeps.cut (x := st) ?_ ?_; (focus (unfold st; try clear st)); rotate_left; intro hst; clear_value st)
    | (intro st; clear_value st)
    | exact id
    | intro _
    | with_reducible
      first | apply State.clockStop_keeps | apply State.clkEvt_keeps | apply State.log_keeps | apply modClk_keeps | apply ite_keeps
            | apply dite_keeps | apply ite_fst | apply foldl_keeps | apply foldl_pair
    | (lift_lets; intro st; refine Keeps.cut (x := st) ?_ ?_; (focus (unfold st; try clear st)); rotate_left; intro hst; clear_value st)
    | (lift_lets; intro st; clear_value st)
    | split
    | exact rfl
    | ((try dsimp only); with_reducible first | apply wf_tset | apply wf_tsetAll | apply wf_tdrop)
    | exact Nat.zero_le _
    | (refine keeps_fst (by with_reducible assumption) ?_)

theorem State.refLost_keeps {k s : State} (hs : Keeps k s) (a1) :
    Keeps k (State.refLost a1 s) := by
  unfold State.refLost
  repeat' first
    | with_reducible assumption
    | (intro st; refine Keeps.cut (x := st) ?_ ?_; (focus (unfold st; try clear st)); rotate_left; intro hst; clear_value st)
    | (intro st; clear_value st)
    | exact id
    | intro _
    | with_reducible
      first | apply State.refSwitch_keeps | apply modClk_keeps | apply State.refNone_keeps | apply ite_keeps | apply dite_keeps
            | apply ite_fst | apply foldl_keeps | apply foldl_pair
    | (lift_lets; intro st; refine Keeps.cut (x := st) ?_ ?_; (focus (unfold st; try clear st)); rotate_left; intro hst; clear_value st)
    | (lift_lets; intro st; clear_value st)
    | split
    | exact rfl
    | ((try dsimp only); with_reducible first | apply wf_tset | apply wf_tsetAll | apply wf_tdrop)
    | exact Nat.zero_le _
    | (refine keeps_fst (by with_reducible assumption) ?_)

theorem execRefLost_keeps {k s : State} (hs : Keeps k s) (a1) :
    OutKeeps k (execRefLost a1 s) := by
  unfold execRefLost
  repeat' first
    | with_reducible assumption
    | with_reducible
      first | apply next_keeps | apply State.refLost_keeps | apply modClk_keeps | apply ite_keeps

theorem execRefQualified_keeps {k s : State} (hs : Keeps k s) (a1) :
    OutKeeps k (execRefQualified a1 s) := by
  unfold execRefQualified
  repeat' first
    | with_reducible assumption
    | with_reducible
      first | apply next_keeps | apply modClk_keeps | apply State.refSwitch_keeps | apply ite_keeps
    | split

theorem execRefCompare_keeps {k s : State} (hs : Keeps k s) (a1) :
    OutKeeps k (execRefCompare a1 s) := by
  unfold execRefCompare
  repeat' first
    | with_reducible assumption
    | with_reducible
      first | apply next_keeps | apply State.clkEvt_keeps | apply State.log_keeps | apply modClk_keeps | apply ite_keeps

theorem State.refTaken_keeps {k s : State} (hs : Keeps k s) (a1) :
    Keeps k (State.refTaken a1 s) := by
  unfold State.refTaken
  repeat' first
    | with_reducible assumption
    | with_reducible
      first | apply modClk_keeps

theorem execMuxSwitchComplete_keeps {k s : State} (hs : Keeps k s) (a1) :
    OutKeeps k (execMuxSwitchComplete a1 s) := by
  unfold execMuxSwitchComplete
  repeat' first
    | with_reducible assumption
    | with_reducible
      first | apply next_keeps | apply modClk_keeps | apply State.refTaken_keeps
    | split

theorem execMuxForced_keeps {k s : State} (hs : Keeps k s) (a1) :
    OutKeeps k (execMuxForced a1 s) := by
  unfold execMuxForced
  repeat' first
    | with_reducible assumption
    | with_reducible
      first | apply next_keeps | apply State.clkEvt_keeps | apply State.log_keeps | apply ite_keeps

theorem execMuxAbandoned_keeps {k s : State} (hs : Keeps k s) (a1) :
    OutKeeps k (execMuxAbandoned a1 s) := by
  unfold execMuxAbandoned
  repeat' first
    | with_reducible assumption
    | (intro st; refine Keeps.cut (x := st) ?_ ?_; (focus (unfold st; try clear st)); rotate_left; intro hst; clear_value st)
    | (intro st; clear_value st)
    | exact id
    | intro _
    | with_reducible
      first | apply next_keeps | apply ok_keeps | apply okPoison_keeps | apply accept_keeps | apply okThen_keeps
            | apply acceptThen_keeps | apply fail_keeps | apply partly_keeps | apply wait_keeps | apply modClk_keeps
            | apply State.modGroup_keeps | apply modVert_keeps | apply State.clkEvt_keeps | apply State.log_keeps
            | apply State.refNone_keeps | apply ite_res | apply ite_keeps | apply dite_keeps | apply ite_fst
            | apply foldl_keeps | apply foldl_pair
    | (lift_lets; intro st; refine Keeps.cut (x := st) ?_ ?_; (focus (unfold st; try clear st)); rotate_left; intro hst; clear_value st)
    | (lift_lets; intro st; clear_value st)
    | split
    | exact rfl
    | ((try dsimp only); with_reducible first | apply wf_tset | apply wf_tsetAll | apply wf_tdrop)
    | exact Nat.zero_le _
    | (refine keeps_fst (by with_reducible assumption) ?_)

theorem execSafeEntered_keeps {k s : State} (hs : Keeps k s) :
    OutKeeps k (execSafeEntered s) := by
  unfold execSafeEntered
  repeat' first
    | with_reducible assumption
    | with_reducible
      first | apply next_keeps | apply State.clkEvt_keeps | apply State.log_keeps | apply State.safeItems_keeps | apply modClk_keeps
            | apply ite_keeps

theorem State.safeEnd_keeps {k s : State} (hs : Keeps k s) :
    Keeps k (State.safeEnd s) := by
  unfold State.safeEnd
  repeat' first
    | with_reducible assumption
    | with_reducible
      first | apply State.muxSwitch_keeps | apply State.showPins_keeps | apply ite_keeps

theorem execRefRestored_keeps {k s : State} (hs : Keeps k s) :
    OutKeeps k (execRefRestored s) := by
  unfold execRefRestored
  repeat' first
    | with_reducible assumption
    | with_reducible
      first | apply next_keeps | apply State.safeEnd_keeps | apply modClk_keeps | apply State.endStop_keeps
            | apply State.clkEvt_keeps | apply State.log_keeps
    | split

theorem State.ddrServe_keeps {k s : State} (hs : Keeps k s) (a1) :
    Keeps k (State.ddrServe a1 s) := by
  unfold State.ddrServe
  repeat' first
    | with_reducible assumption
    | intro _
    | with_reducible
      first | apply State.serveAll_keeps | apply ite_keeps | apply foldl_keeps

theorem State.pllLock_keeps {k s : State} (hs : Keeps k s) (a1) :
    Keeps k (State.pllLock a1 s) := by
  unfold State.pllLock
  repeat' first
    | with_reducible assumption
    | (intro st; refine Keeps.cut (x := st) ?_ ?_; (focus (unfold st; try clear st)); rotate_left; intro hst; clear_value st)
    | with_reducible
      first | apply modClk_keeps | apply State.clkEvt_keeps | apply State.log_keeps | apply State.endStop_keeps
            | apply State.muxSwitch_keeps | apply State.ddrServe_keeps | apply State.modGroup_keeps | apply ite_keeps
    | (lift_lets; intro st; clear_value st)
    | split

theorem execPllLock_keeps {k s : State} (hs : Keeps k s) (a1) :
    OutKeeps k (execPllLock a1 s) := by
  unfold execPllLock
  repeat' first
    | with_reducible assumption
    | with_reducible
      first | apply next_keeps | apply State.pllLock_keeps

theorem execPllUnlock_keeps {k s : State} (hs : Keeps k s) (a1) :
    OutKeeps k (execPllUnlock a1 s) := by
  unfold execPllUnlock
  repeat' first
    | with_reducible assumption
    | with_reducible
      first | apply next_keeps | apply modClk_keeps | apply State.clkEvt_keeps | apply State.log_keeps | apply State.clockStop_keeps
            | apply State.muxSwitch_keeps | apply State.groupUnlock_keeps | apply ite_keeps
    | split

theorem execSluiceClose_keeps {k s : State} (hs : Keeps k s) (a1) :
    OutKeeps k (execSluiceClose a1 s) := by
  unfold execSluiceClose
  repeat' first
    | with_reducible assumption
    | with_reducible
      first | apply next_keeps | apply State.slcClose_keeps

theorem execSluiceFail_keeps {k s : State} (hs : Keeps k s) (a1) :
    OutKeeps k (execSluiceFail a1 s) := by
  unfold execSluiceFail
  repeat' first
    | with_reducible assumption
    | with_reducible
      first | apply next_keeps | apply State.slcFail_keeps

theorem execSluiceReopen_keeps {k s : State} (hs : Keeps k s) (a1) :
    OutKeeps k (execSluiceReopen a1 s) := by
  unfold execSluiceReopen
  repeat' first
    | with_reducible assumption
    | intro _
    | with_reducible
      first | apply next_keeps | apply State.slcSet_keeps | apply State.modSlc_keeps | apply State.serveAll_keeps | apply ite_keeps
            | apply foldl_keeps

theorem execClockCouplerFail_keeps {k s : State} (hs : Keeps k s) (a1) :
    OutKeeps k (execClockCouplerFail a1 s) := by
  unfold execClockCouplerFail
  repeat' first
    | with_reducible assumption
    | with_reducible
      first | apply next_keeps | apply modVert_keeps | apply State.log_keeps
    | split

theorem State.couplersLost_keeps {k s : State} (hs : Keeps k s) (a1) :
    Keeps k (State.couplersLost a1 s) := by
  unfold State.couplersLost
  repeat' first
    | with_reducible assumption
    | (intro st; refine Keeps.cut (x := st) ?_ ?_; (focus (unfold st; try clear st)); rotate_left; intro hst; clear_value st)
    | (intro st; clear_value st)
    | exact id
    | intro _
    | with_reducible
      first | apply State.clockStop_keeps | apply modVert_keeps | apply ite_keeps | apply dite_keeps | apply ite_fst
            | apply foldl_keeps | apply foldl_pair
    | (lift_lets; intro st; refine Keeps.cut (x := st) ?_ ?_; (focus (unfold st; try clear st)); rotate_left; intro hst; clear_value st)
    | (lift_lets; intro st; clear_value st)
    | split
    | exact rfl
    | ((try dsimp only); with_reducible first | apply wf_tset | apply wf_tsetAll | apply wf_tdrop)
    | exact Nat.zero_le _
    | (refine keeps_fst (by with_reducible assumption) ?_)

theorem execClockCouplerSwitch_keeps {k s : State} (hs : Keeps k s) (a1) :
    OutKeeps k (execClockCouplerSwitch a1 s) := by
  unfold execClockCouplerSwitch
  repeat' first
    | with_reducible assumption
    | with_reducible
      first | apply next_keeps | apply modVert_keeps | apply State.log_keeps | apply State.couplersLost_keeps
    | (lift_lets; intro st; refine Keeps.cut (x := st) ?_ ?_; (focus (unfold st; try clear st)); rotate_left; intro hst; clear_value st)
    | split

end Sys2Proof.Machine
end

