-- ==== Sys2Proof/Laws/KeepsDeepMemory.lean ====
section
/-! SUPPORT. What the operations of DeepMemory.lean keep (Keeps.lean). -/
set_option linter.unusedTactic false
set_option linter.unreachableTactic false
set_option linter.unusedVariables false
namespace Sys2Proof.Machine

theorem State.startFill_keeps {k s : State} (hs : Keeps k s) (a1) :
    Keeps k (State.startFill a1 s) := by
  unfold State.startFill
  repeat' first
    | with_reducible assumption
    | with_reducible
      first | apply State.modCtl_keeps

theorem State.bar4ReadDone_keeps {k s : State} (hs : Keeps k s) (a1 a2) :
    Keeps k (State.bar4ReadDone a1 a2 s) := by
  unfold State.bar4ReadDone
  repeat' first
    | with_reducible assumption
    | with_reducible
      first | apply emit_keeps | apply modHost_keeps | apply ite_keeps

theorem execMemoryRequest_keeps {k s : State} (hs : Keeps k s) (a1) :
    OutKeeps k (execMemoryRequest a1 s) := by
  unfold execMemoryRequest
  repeat' first
    | with_reducible assumption
    | with_reducible
      first | apply next_keeps | apply State.serveOne_keeps | apply State.memEvt_keeps | apply State.wakeMem_keeps | apply ite_keeps

theorem execPagePathComplete_keeps {k s : State} (hs : Keeps k s) (a1) :
    OutKeeps k (execPagePathComplete a1 s) := by
  unfold execPagePathComplete
  repeat' first
    | with_reducible assumption
    | with_reducible
      first | apply next_keeps | apply State.serveAll_keeps | apply State.endPath_keeps
    | split

theorem execLedgerEntryFlush_keeps {k s : State} (hs : Keeps k s) (a1) :
    OutKeeps k (execLedgerEntryFlush a1 s) := by
  unfold execLedgerEntryFlush
  repeat' first
    | with_reducible assumption
    | with_reducible
      first | apply next_keeps | apply State.modCtl_keeps | apply State.flushEntry_keeps
    | split

theorem execPatrolScrub_keeps {k s : State} (hs : Keeps k s) (a1) :
    OutKeeps k (execPatrolScrub a1 s) := by
  unfold execPatrolScrub
  repeat' first
    | with_reducible assumption
    | with_reducible
      first | apply next_keeps | apply State.ledgerRead_keeps | apply State.correct_keeps | apply State.putStored_keeps
            | apply State.poisonDelivered_keeps | apply State.startPath_keeps | apply State.modCtl_keeps | apply ite_keeps
    | split

theorem execScrubOverrun_keeps {k s : State} (hs : Keeps k s) (a1) :
    OutKeeps k (execScrubOverrun a1 s) := by
  unfold execScrubOverrun
  repeat' first
    | with_reducible assumption
    | with_reducible
      first | apply next_keeps | apply State.memEvt_keeps | apply State.log_keeps | apply ite_keeps

theorem State.fillCounted_keeps {k s : State} (hs : Keeps k s) (a1) :
    Keeps k (State.fillCounted a1 s) := by
  unfold State.fillCounted
  repeat' first
    | with_reducible assumption
    | intro _
    | with_reducible
      first | apply State.postRecord_keeps | apply modMem_keeps | apply ite_keeps | apply foldl_keeps

theorem execFillDone_keeps {k s : State} (hs : Keeps k s) (a1) :
    OutKeeps k (execFillDone a1 s) := by
  unfold execFillDone
  repeat' first
    | with_reducible assumption
    | with_reducible
      first | apply next_keeps | apply State.serveAll_keeps | apply State.fillCounted_keeps | apply State.filled_keeps
            | apply ite_keeps
    | ((try dsimp only); with_reducible first | apply wf_tset | apply wf_tsetAll | apply wf_tdrop)

theorem execMemoryIdleReturn_keeps {k s : State} (hs : Keeps k s) (a1) :
    OutKeeps k (execMemoryIdleReturn a1 s) := by
  unfold execMemoryIdleReturn
  repeat' first
    | with_reducible assumption
    | with_reducible
      first | apply next_keeps | apply State.memLeave_keeps
    | split

theorem execCaParityError_keeps {k s : State} (hs : Keeps k s) (a1 a2) :
    OutKeeps k (execCaParityError a1 a2 s) := by
  unfold execCaParityError
  repeat' first
    | with_reducible assumption
    | with_reducible
      first | apply next_keeps | apply State.log_keeps | apply ite_keeps

theorem execDdrTrainingComplete_keeps {k s : State} (hs : Keeps k s) (a1 a2 a3) :
    OutKeeps k (execDdrTrainingComplete a1 a2 a3 s) := by
  unfold execDdrTrainingComplete
  repeat' first
    | with_reducible assumption
    | with_reducible
      first | apply next_keeps | apply State.modCtl_keeps | apply State.serveAll_keeps | apply State.setRates_keeps

theorem execBar4Read_keeps {k s : State} (hs : Keeps k s) (a1) :
    OutKeeps k (execBar4Read a1 s) := by
  unfold execBar4Read
  repeat' first
    | with_reducible assumption
    | with_reducible
      first | apply next_keeps | apply State.bar4ReadDone_keeps | apply State.niError_keeps | apply State.enqueue_keeps
    | split

theorem execBar4Write_keeps {k s : State} (hs : Keeps k s) (a1 a2 a3) :
    OutKeeps k (execBar4Write a1 a2 a3 s) := by
  unfold execBar4Write
  repeat' first
    | with_reducible assumption
    | intro _
    | with_reducible
      first | apply next_keeps | apply modHost_keeps | apply modMem_keeps | apply State.niError_keeps | apply State.enqueue_keeps
    | split

end Sys2Proof.Machine
end

