-- ==== Sys2Proof/Laws/KeepsHostPath.lean ====
section
/-! SUPPORT. What the operations of HostPath.lean keep (Keeps.lean). -/
set_option linter.unusedTactic false
set_option linter.unreachableTactic false
set_option linter.unusedVariables false
namespace Sys2Proof.Machine

theorem State.hostAnswer_keeps {k s : State} (hs : Keeps k s) (a1 a2 a3) :
    Keeps k (State.hostAnswer a1 a2 a3 s) := by
  unfold State.hostAnswer
  repeat' first
    | with_reducible assumption
    | with_reducible
      first | apply State.answer_keeps

theorem State.hostReqDone_keeps {k s : State} (hs : Keeps k s) (a1) :
    Keeps k (State.hostReqDone a1 s) := by
  unfold State.hostReqDone
  repeat' first
    | with_reducible assumption
    | intro _
    | with_reducible
      first | apply State.hostAnswer_keeps | apply modMem_keeps

theorem State.windowReset_keeps {k s : State} (hs : Keeps k s) :
    Keeps k (State.windowReset s) := by
  unfold State.windowReset
  repeat' first
    | with_reducible assumption
    | intro _
    | with_reducible
      first | apply State.hostReqDone_keeps | apply State.hostAnswer_keeps | apply modMem_keeps | apply ite_keeps
            | apply foldl_keeps

theorem State.hostGet_keeps {k s : State} (hs : Keeps k s) (a1 a2 a3 a4) :
    Keeps k (State.hostGet a1 a2 a3 a4 s) := by
  unfold State.hostGet
  repeat' first
    | with_reducible assumption
    | with_reducible
      first | apply emit_keeps | apply modHost_keeps

theorem State.hostReqPut_keeps {k s : State} (hs : Keeps k s) (a1 a2) :
    Keeps k (State.hostReqPut a1 a2 s) := by
  unfold State.hostReqPut
  repeat' first
    | with_reducible assumption
    | intro _
    | with_reducible
      first | apply modMem_keeps | apply State.hostReqDone_keeps | apply ite_keeps

theorem State.hostReqSend_keeps {k s : State} (hs : Keeps k s) (a1) :
    Keeps k (State.hostReqSend a1 s) := by
  unfold State.hostReqSend
  repeat' first
    | with_reducible assumption
    | intro _
    | with_reducible
      first | apply State.hostGet_keeps | apply modMem_keeps | apply State.hostReqPut_keeps
    | (lift_lets; intro st; clear_value st)
    | split

theorem State.hostPut_keeps {k s : State} (hs : Keeps k s) (a1 a2) :
    Keeps k (State.hostPut a1 a2 s) := by
  unfold State.hostPut
  repeat' first
    | with_reducible assumption
    | intro _
    | with_reducible
      first | apply emit_keeps | apply foldl_keeps

theorem execHostWindowRequest_keeps {k s : State} (hs : Keeps k s) :
    OutKeeps k (execHostWindowRequest s) := by
  unfold execHostWindowRequest
  repeat' first
    | with_reducible assumption
    | intro _
    | with_reducible
      first | apply next_keeps | apply State.hostReqSend_keeps | apply State.modNode_keeps | apply State.answerOff_keeps
            | apply State.hostAnswer_keeps | apply modMem_keeps | apply State.hostPut_keeps | apply ite_keeps
    | split

theorem State.windowBytes_keeps {k s : State} (hs : Keeps k s) (a1 a2 a3) :
    Keeps k (State.windowBytes a1 a2 a3 s) := by
  unfold State.windowBytes
  repeat' first
    | with_reducible assumption
    | with_reducible
      first | apply State.hostReqPut_keeps
    | split

theorem State.hostGetAll_keeps {k s : State} (hs : Keeps k s) (a1 a2 a3) :
    Keeps k (State.hostGetAll a1 a2 a3 s) := by
  unfold State.hostGetAll
  repeat' first
    | with_reducible assumption
    | intro _
    | with_reducible
      first | apply State.hostGet_keeps | apply foldl_keeps

end Sys2Proof.Machine
end

