-- ==== Sys2Proof/Laws/KeepsFlumeDma.lean ====
section
/-! SUPPORT. What the operations of FlumeDma.lean keep (Keeps.lean). -/
set_option linter.unusedTactic false
set_option linter.unreachableTactic false
set_option linter.unusedVariables false
namespace Sys2Proof.Machine

theorem State.flmAbort_keeps {k s : State} (hs : Keeps k s) (a1) :
    Keeps k (State.flmAbort a1 s) := by
  unfold State.flmAbort
  repeat' first
    | with_reducible assumption
    | with_reducible
      first | apply State.flmEvt_keeps | apply State.modFlmCh_keeps
    | split

theorem State.flmCtl_keeps {k s : State} (hs : Keeps k s) (a1 a2 a3) :
    Keeps k (State.flmCtl a1 a2 a3 s) := by
  unfold State.flmCtl
  repeat' first
    | with_reducible assumption
    | with_reducible
      first | apply State.modFlmCh_keeps | apply State.flmAbort_keeps | apply ite_keeps

theorem State.flmRingLo_keeps {k s : State} (hs : Keeps k s) (a1 a2) :
    Keeps k (State.flmRingLo a1 a2 s) := by
  unfold State.flmRingLo
  repeat' first
    | with_reducible assumption
    | with_reducible
      first | apply State.modFlmCh_keeps | apply ite_keeps

theorem State.flmRingHi_keeps {k s : State} (hs : Keeps k s) (a1 a2) :
    Keeps k (State.flmRingHi a1 a2 s) := by
  unfold State.flmRingHi
  repeat' first
    | with_reducible assumption
    | with_reducible
      first | apply State.modFlmCh_keeps | apply ite_keeps

theorem State.flmSize_keeps {k s : State} (hs : Keeps k s) (a1 a2) :
    Keeps k (State.flmSize a1 a2 s) := by
  unfold State.flmSize
  repeat' first
    | with_reducible assumption
    | with_reducible
      first | apply State.modFlmCh_keeps | apply ite_keeps

theorem State.flmTail_keeps {k s : State} (hs : Keeps k s) (a1 a2) :
    Keeps k (State.flmTail a1 a2 s) := by
  unfold State.flmTail
  repeat' first
    | with_reducible assumption
    | with_reducible
      first | apply State.modFlmCh_keeps

theorem State.flumeReadDone_keeps {k s : State} (hs : Keeps k s) (a1 a2 a3 a4 a5 a6) :
    Keeps k (State.flumeReadDone a1 a2 a3 a4 a5 a6 s) := by
  unfold State.flumeReadDone
  repeat' first
    | with_reducible assumption
    | with_reducible
      first | apply State.modFlmCh_keeps

theorem State.flumeWriteDone_keeps {k s : State} (hs : Keeps k s) (a1 a2 a3 a4) :
    Keeps k (State.flumeWriteDone a1 a2 a3 a4 s) := by
  unfold State.flumeWriteDone
  repeat' first
    | with_reducible assumption
    | with_reducible
      first | apply State.modFlmCh_keeps

theorem State.ringErr_keeps {k s : State} (hs : Keeps k s) (a1) :
    Keeps k (State.ringErr a1 s) := by
  unfold State.ringErr
  repeat' first
    | with_reducible assumption
    | with_reducible
      first | apply State.flmEvt_keeps | apply State.modFlmCh_keeps

theorem State.flumeHostReset_keeps {k s : State} (hs : Keeps k s) :
    Keeps k (State.flumeHostReset s) := by
  unfold State.flumeHostReset
  repeat' first
    | with_reducible assumption
    | intro _
    | with_reducible
      first | apply State.ringErr_keeps | apply State.modFlmCh_keeps | apply ite_keeps | apply foldl_keeps

theorem State.flumeWindowStart_keeps {k s : State} (hs : Keeps k s) :
    Keeps k (State.flumeWindowStart s) := by
  unfold State.flumeWindowStart
  repeat' first
    | with_reducible assumption
    | intro _
    | with_reducible
      first | apply State.modFlmCh_keeps | apply foldl_keeps

theorem State.flumeBytes_keeps {k s : State} (hs : Keeps k s) (a1 a2 a3 a4) :
    Keeps k (State.flumeBytes a1 a2 a3 a4 s) := by
  unfold State.flumeBytes
  repeat' first
    | with_reducible assumption
    | with_reducible
      first | apply State.modFlmCh_keeps

theorem execDescriptorFetch_keeps {k s : State} (hs : Keeps k s) (a1) :
    OutKeeps k (execDescriptorFetch a1 s) := by
  unfold execDescriptorFetch
  repeat' first
    | with_reducible assumption
    | with_reducible
      first | apply next_keeps | apply emit_keeps | apply State.modFlmCh_keeps | apply ite_keeps

theorem execDescriptorArrival_keeps {k s : State} (hs : Keeps k s) (a1 a2 a3) :
    OutKeeps k (execDescriptorArrival a1 a2 a3 s) := by
  unfold execDescriptorArrival
  repeat' first
    | with_reducible assumption
    | with_reducible
      first | apply next_keeps | apply State.modFlmCh_keeps | apply State.ringErr_keeps | apply ite_keeps

theorem State.flmIssue_keeps {k s : State} (hs : Keeps k s) (a1 a2 a3) :
    Keeps k (State.flmIssue a1 a2 a3 s).1 := by
  unfold State.flmIssue
  repeat' first
    | with_reducible assumption
    | with_reducible
      first | apply State.modNode_keeps | apply State.enqueue_keeps | apply State.niError_keeps
    | split

theorem State.finishFlume_keeps {k s : State} (hs : Keeps k s) (a1 a2) :
    Keeps k (State.finishFlume a1 a2 s) := by
  unfold State.finishFlume
  repeat' first
    | with_reducible assumption
    | (intro st; refine Keeps.cut (x := st) ?_ ?_; (focus (unfold st; try clear st)); rotate_left; intro hst; clear_value st)
    | (intro st; clear_value st)
    | exact id
    | intro _
    | with_reducible
      first | apply State.flumeReadDone_keeps | apply State.flumeWriteDone_keeps | apply ite_keeps | apply dite_keeps
            | apply ite_fst | apply foldl_keeps | apply foldl_pair
    | (lift_lets; intro st; refine Keeps.cut (x := st) ?_ ?_; (focus (unfold st; try clear st)); rotate_left; intro hst; clear_value st)
    | (lift_lets; intro st; clear_value st)
    | split
    | exact rfl
    | ((try dsimp only); with_reducible first | apply wf_tset | apply wf_tsetAll | apply wf_tdrop)
    | exact Nat.zero_le _
    | (refine keeps_fst (by with_reducible assumption) ?_)

theorem State.flmReadBurst_keeps {k s : State} (hs : Keeps k s) (a1 a2 a3 a4) :
    Keeps k (State.flmReadBurst a1 a2 a3 a4 s) := by
  unfold State.flmReadBurst
  repeat' first
    | with_reducible assumption
    | intro _
    | with_reducible
      first | apply State.modFlmCh_keeps | apply State.hostGetAll_keeps | apply State.flmIssue_keeps | apply State.finishFlume_keeps
            | apply ite_keeps | apply foldl_keeps

theorem execReadArbiterGrant_keeps {k s : State} (hs : Keeps k s) :
    OutKeeps k (execReadArbiterGrant s) := by
  unfold execReadArbiterGrant
  repeat' first
    | with_reducible assumption
    | with_reducible
      first | apply next_keeps | apply modFlm_keeps | apply State.flmReadBurst_keeps | apply State.modFlmCh_keeps
    | (lift_lets; intro st; refine Keeps.cut (x := st) ?_ ?_; (focus (unfold st; try clear st)); rotate_left; intro hst; clear_value st)
    | split

theorem State.flmWriteBurst_keeps {k s : State} (hs : Keeps k s) (a1 a2 a3) :
    Keeps k (State.flmWriteBurst a1 a2 a3 s) := by
  unfold State.flmWriteBurst
  repeat' first
    | with_reducible assumption
    | intro _
    | with_reducible
      first | apply State.modFlmCh_keeps | apply State.flumeWriteDone_keeps | apply freshen_keeps | apply State.hostPut_keeps
            | apply State.flmIssue_keeps | apply State.finishFlume_keeps | apply ite_keeps | apply foldl_keeps

theorem execWriteArbiterGrant_keeps {k s : State} (hs : Keeps k s) :
    OutKeeps k (execWriteArbiterGrant s) := by
  unfold execWriteArbiterGrant
  repeat' first
    | with_reducible assumption
    | with_reducible
      first | apply next_keeps | apply modFlm_keeps | apply State.flmWriteBurst_keeps
    | (lift_lets; intro st; refine Keeps.cut (x := st) ?_ ?_; (focus (unfold st; try clear st)); rotate_left; intro hst; clear_value st)
    | split

theorem State.flmWriteback_keeps {k s : State} (hs : Keeps k s) (a1 a2 a3) :
    Keeps k (State.flmWriteback a1 a2 a3 s) := by
  unfold State.flmWriteback
  repeat' first
    | with_reducible assumption
    | with_reducible
      first | apply emit_keeps | apply State.modFlmCh_keeps | apply ite_keeps

theorem State.flmTrigger_keeps {k s : State} (hs : Keeps k s) (a1) :
    Keeps k (State.flmTrigger a1 s) := by
  unfold State.flmTrigger
  repeat' first
    | with_reducible assumption
    | with_reducible
      first | apply modFlm_keeps | apply State.modFlmCh_keeps | apply ite_keeps

theorem execDescriptorWriteback_keeps {k s : State} (hs : Keeps k s) (a1) :
    OutKeeps k (execDescriptorWriteback a1 s) := by
  unfold execDescriptorWriteback
  repeat' first
    | with_reducible assumption
    | with_reducible
      first | apply next_keeps | apply State.flmWriteback_keeps | apply State.modFlmCh_keeps | apply State.flmTrigger_keeps
            | apply State.flmEvt_keeps
    | split

theorem State.flumeForced_keeps {k s : State} (hs : Keeps k s) :
    Keeps k (State.flumeForced s).1 := by
  unfold State.flumeForced
  repeat' first
    | with_reducible assumption
    | intro _
    | with_reducible
      first | apply State.flmEvt_keeps | apply State.modFlmCh_keeps | apply State.flmWriteback_keeps | apply foldl_pair
    | split

end Sys2Proof.Machine
end

