-- ==== Sys2Proof/Laws/KeepsGwynior.lean ====
section
/-! SUPPORT. What the operations of Gwynior.lean keep (Keeps.lean). -/
set_option linter.unusedTactic false
set_option linter.unreachableTactic false
set_option linter.unusedVariables false
namespace Sys2Proof.Machine

theorem State.linkRespond_keeps {k s : State} (hs : Keeps k s) (a1 a2 a3 a4) :
    Keeps k (State.linkRespond a1 a2 a3 a4 s) := by
  unfold State.linkRespond
  repeat' first
    | with_reducible assumption
    | with_reducible
      first | apply State.modLink_keeps

theorem State.linkServed_keeps {k s : State} (hs : Keeps k s) (a1 a2 a3 a4 a5) :
    Keeps k (State.linkServed a1 a2 a3 a4 a5 s) := by
  unfold State.linkServed
  repeat' first
    | with_reducible assumption
    | with_reducible
      first | apply State.linkRespond_keeps | apply State.modLink_keeps
    | split

theorem State.mergeNotice_keeps {k s : State} (hs : Keeps k s) (a1 a2 a3) :
    Keeps k (State.mergeNotice a1 a2 a3 s) := by
  unfold State.mergeNotice
  repeat' first
    | with_reducible assumption
    | with_reducible
      first | apply modWin_keeps | apply ite_keeps

theorem State.sendDrains_keeps {k s : State} (hs : Keeps k s) :
    Keeps k (State.sendDrains s) := by
  unfold State.sendDrains
  repeat' first
    | with_reducible assumption
    | intro _
    | with_reducible
      first | apply State.modLink_keeps | apply foldl_keeps

theorem State.compareCount_keeps {k s : State} (hs : Keeps k s) :
    Keeps k (State.compareCount s) := by
  unfold State.compareCount
  repeat' first
    | with_reducible assumption
    | with_reducible
      first | apply modWin_keeps | apply State.winEvt_keeps | apply State.log_keeps | apply ite_keeps

theorem State.linkServe_keeps {k s : State} (hs : Keeps k s) (a1 a2) :
    Keeps k (State.linkServe a1 a2 s) := by
  unfold State.linkServe
  repeat' first
    | with_reducible assumption
    | with_reducible
      first | apply State.linkRespond_keeps | apply State.linkCredit_keeps | apply State.niError_keeps | apply State.enqueue_keeps
            | apply State.modLink_keeps | apply ite_keeps
    | split

theorem State.linkWindowStart_keeps {k s : State} (hs : Keeps k s) (a1) :
    Keeps k (State.linkWindowStart a1 s) := by
  unfold State.linkWindowStart
  repeat' first
    | with_reducible assumption
    | (intro st; refine Keeps.cut (x := st) ?_ ?_; (focus (unfold st; try clear st)); rotate_left; intro hst; clear_value st)
    | (intro st; clear_value st)
    | exact id
    | intro _
    | with_reducible
      first | apply State.modLink_keeps | apply State.modNode_keeps | apply State.linkServe_keeps | apply ite_keeps
            | apply dite_keeps | apply ite_fst | apply foldl_keeps | apply foldl_pair
    | (lift_lets; intro st; refine Keeps.cut (x := st) ?_ ?_; (focus (unfold st; try clear st)); rotate_left; intro hst; clear_value st)
    | (lift_lets; intro st; clear_value st)
    | split
    | exact rfl
    | ((try dsimp only); with_reducible first | apply wf_tset | apply wf_tsetAll | apply wf_tdrop)
    | exact Nat.zero_le _
    | (refine keeps_fst (by with_reducible assumption) ?_)

theorem State.linksWindowStart_keeps {k s : State} (hs : Keeps k s) :
    Keeps k (State.linksWindowStart s) := by
  unfold State.linksWindowStart
  repeat' first
    | with_reducible assumption
    | intro _
    | with_reducible
      first | apply State.linkWindowStart_keeps | apply ite_keeps | apply foldl_keeps

theorem execGwyniorEndpointRequest_keeps {k s : State} (hs : Keeps k s) (a1) :
    OutKeeps k (execGwyniorEndpointRequest a1 s) := by
  unfold execGwyniorEndpointRequest
  repeat' first
    | with_reducible assumption
    | with_reducible
      first | apply next_keeps | apply State.modLink_keeps | apply State.modNode_keeps
    | split

theorem State.takeMcnt_keeps {k s : State} (hs : Keeps k s) (a1) :
    Keeps k (State.takeMcnt a1 s) := by
  unfold State.takeMcnt
  repeat' first
    | with_reducible assumption
    | intro _
    | with_reducible
      first | apply modLnk_keeps | apply State.ctrlAll_keeps | apply State.compareCount_keeps | apply ite_keeps | apply foldl_keeps

theorem State.takeEntry_keeps {k s : State} (hs : Keeps k s) (a1) :
    Keeps k (State.takeEntry a1 s) := by
  unfold State.takeEntry
  repeat' first
    | with_reducible assumption
    | with_reducible
      first | apply State.mergeNotice_keeps

theorem execCtrlFrameReceive_keeps {k s : State} (hs : Keeps k s) (a1 a2) :
    OutKeeps k (execCtrlFrameReceive a1 a2 s) := by
  unfold execCtrlFrameReceive
  repeat' first
    | with_reducible assumption
    | intro _
    | with_reducible
      first | apply next_keeps | apply State.acceptFrame_keeps | apply State.modLink_keeps | apply State.takeMcnt_keeps
            | apply State.laneFail_keeps | apply State.takeEntry_keeps | apply foldl_keeps
    | split

theorem State.txnArrive_keeps {k s : State} (hs : Keeps k s) (a1 a2 a3 a4) :
    Keeps k (State.txnArrive a1 a2 a3 a4 s) := by
  unfold State.txnArrive
  repeat' first
    | with_reducible assumption
    | with_reducible
      first | apply State.linkCredit_keeps | apply State.answer_keeps | apply State.modLink_keeps | apply State.linkServe_keeps
    | (lift_lets; intro st; refine Keeps.cut (x := st) ?_ ?_; (focus (unfold st; try clear st)); rotate_left; intro hst; clear_value st)
    | split

theorem execTxnFrameReceive_keeps {k s : State} (hs : Keeps k s) (a1 a2) :
    OutKeeps k (execTxnFrameReceive a1 a2 s) := by
  unfold execTxnFrameReceive
  repeat' first
    | with_reducible assumption
    | with_reducible
      first | apply next_keeps | apply State.acceptFrame_keeps | apply State.modLink_keeps | apply State.txnArrive_keeps
            | apply ite_keeps

theorem State.mgmtTake_keeps {k s : State} (hs : Keeps k s) (a1 a2) :
    Keeps k (State.mgmtTake a1 a2 s).1 := by
  unfold State.mgmtTake
  repeat' first
    | with_reducible assumption
    | intro _
    | with_reducible
      first | apply State.acceptFrame_keeps | apply State.modLink_keeps
    | (lift_lets; intro st; clear_value st)
    | split
    | (refine keeps_fst (by with_reducible assumption) ?_)

theorem State.flood_keeps {k s : State} (hs : Keeps k s) (a1 a2) :
    Keeps k (State.flood a1 a2 s) := by
  unfold State.flood
  repeat' first
    | with_reducible assumption
    | intro _
    | with_reducible
      first | apply State.modLink_keeps | apply ite_keeps | apply foldl_keeps

theorem State.takeStart_keeps {k s : State} (hs : Keeps k s) (a1 a2) :
    Keeps k (State.takeStart a1 a2 s) := by
  unfold State.takeStart
  repeat' first
    | with_reducible assumption
    | with_reducible
      first | apply modLnk_keeps | apply State.clearCause_keeps | apply State.setHold_keeps | apply modWin_keeps
            | apply State.flood_keeps | apply State.modLink_keeps | apply ite_keeps

theorem State.arrayIncomplete_keeps {k s : State} (hs : Keeps k s) (a1) :
    Keeps k (State.arrayIncomplete a1 s) := by
  unfold State.arrayIncomplete
  repeat' first
    | with_reducible assumption
    | with_reducible
      first | apply State.log_keeps | apply modLnk_keeps | apply State.postRecord_keeps
    | split

theorem execStartReceive_keeps {k s : State} (hs : Keeps k s) (a1 a2) :
    OutKeeps k (execStartReceive a1 a2 s) := by
  unfold execStartReceive
  repeat' first
    | with_reducible assumption
    | with_reducible
      first | apply next_keeps | apply State.mgmtTake_keeps | apply State.linkEvt_keeps | apply State.log_keeps
            | apply State.takeStart_keeps | apply State.arrayIncomplete_keeps | apply ite_keeps
    | split

theorem State.go_keeps {k s : State} (hs : Keeps k s) :
    Keeps k (State.go s) := by
  unfold State.go
  repeat' first
    | with_reducible assumption
    | with_reducible
      first | apply modLnk_keeps | apply modWin_keeps | apply State.clearHold_keeps | apply State.lengthCheck_keeps
            | apply ite_keeps

theorem State.startDecide_keeps {k s : State} (hs : Keeps k s) :
    Keeps k (State.startDecide s) := by
  unfold State.startDecide
  repeat' first
    | with_reducible assumption
    | with_reducible
      first | apply State.arrayIncomplete_keeps | apply modLnk_keeps | apply State.go_keeps | apply State.flood_keeps
            | apply State.postRecord_keeps | apply ite_keeps
    | (lift_lets; intro st; clear_value st)
    | split

theorem execStartAckReceive_keeps {k s : State} (hs : Keeps k s) (a1 a2) :
    OutKeeps k (execStartAckReceive a1 a2 s) := by
  unfold execStartAckReceive
  repeat' first
    | with_reducible assumption
    | with_reducible
      first | apply next_keeps | apply State.mgmtTake_keeps | apply State.startDecide_keeps | apply modLnk_keeps
            | apply State.modLink_keeps
    | split

theorem execGoReceive_keeps {k s : State} (hs : Keeps k s) (a1 a2) :
    OutKeeps k (execGoReceive a1 a2 s) := by
  unfold execGoReceive
  repeat' first
    | with_reducible assumption
    | with_reducible
      first | apply next_keeps | apply State.acceptFrame_keeps | apply State.go_keeps | apply State.flood_keeps | apply ite_keeps

theorem execArrayStartTimeout_keeps {k s : State} (hs : Keeps k s) :
    OutKeeps k (execArrayStartTimeout s) := by
  unfold execArrayStartTimeout
  repeat' first
    | with_reducible assumption
    | with_reducible
      first | apply next_keeps | apply State.arrayIncomplete_keeps | apply ite_keeps

theorem State.arrayStart_keeps {k s : State} (hs : Keeps k s) (a1 a2) :
    Keeps k (State.arrayStart a1 a2 s) := by
  unfold State.arrayStart
  repeat' first
    | with_reducible assumption
    | with_reducible
      first | apply modLnk_keeps | apply State.setHold_keeps | apply State.clearCause_keeps | apply freshen_keeps
            | apply modWin_keeps | apply State.flood_keeps

end Sys2Proof.Machine
end

