-- ==== Sys2Proof/Laws/KeepsCompletion.lean ====
section
/-! SUPPORT. What the operations of Completion.lean keep (Keeps.lean). -/
set_option linter.unusedTactic false
set_option linter.unreachableTactic false
set_option linter.unusedVariables false
namespace Sys2Proof.Machine

theorem State.stagedWrite_keeps {k s : State} (hs : Keeps k s) :
    Keeps k (State.stagedWrite s) := by
  unfold State.stagedWrite
  repeat' first
    | with_reducible assumption
    | with_reducible
      first | apply State.postRecord?_keeps | apply modLeat_keeps | apply ite_keeps

theorem State.armCommit_keeps {k s : State} (hs : Keeps k s) (a1) :
    Keeps k (State.armCommit a1 s) := by
  unfold State.armCommit
  repeat' first
    | with_reducible assumption
    | with_reducible
      first | apply modLeat_keeps

theorem State.recheck_keeps {k s : State} (hs : Keeps k s) :
    Keeps k (State.recheck s) := by
  unfold State.recheck
  repeat' first
    | with_reducible assumption
    | with_reducible
      first | apply State.lengthCheck_keeps | apply ite_keeps

theorem State.svcWrite_keeps {k s : State} (hs : Keeps k s) (a1 a2) :
    Keeps k (State.svcWrite a1 a2 s) := by
  unfold State.svcWrite
  repeat' first
    | with_reducible assumption
    | with_reducible
      first | apply modLeat_keeps | apply State.recheck_keeps | apply State.refreshHorizon_keeps | apply ite_keeps

theorem State.memFinish_keeps {k s : State} (hs : Keeps k s) (a1 a2) :
    Keeps k (State.memFinish a1 a2 s) := by
  unfold State.memFinish
  repeat' first
    | with_reducible assumption
    | exact id
    | with_reducible
      first | apply modLk_keeps | apply State.postRecord_keeps | apply State.commit_keeps | apply ite_keeps

theorem State.memSend_keeps {k s : State} (hs : Keeps k s) (a1) :
    Keeps k (State.memSend a1 s) := by
  unfold State.memSend
  repeat' first
    | with_reducible assumption
    | with_reducible
      first | apply State.memFinish_keeps | apply State.niError_keeps | apply State.enqueue_keeps
    | (lift_lets; intro st; clear_value st)
    | split

theorem State.memPacketDone_keeps {k s : State} (hs : Keeps k s) (a1 a2 a3 a4) :
    Keeps k (State.memPacketDone a1 a2 a3 a4 s) := by
  unfold State.memPacketDone
  repeat' first
    | with_reducible assumption
    | exact id
    | with_reducible
      first | apply modLk_keeps | apply State.memSend_keeps | apply State.memFinish_keeps | apply ite_keeps
    | split

theorem State.otkWriteDone_keeps {k s : State} (hs : Keeps k s) (a1 a2 a3) :
    Keeps k (State.otkWriteDone a1 a2 a3 s) := by
  unfold State.otkWriteDone
  repeat' first
    | with_reducible assumption
    | with_reducible
      first | apply State.modNode_keeps | apply State.log_keeps | apply ite_keeps

theorem State.finish_keeps {k s : State} (hs : Keeps k s) (a1 a2 a3 a4) :
    Keeps k (State.finish a1 a2 a3 a4 s) := by
  unfold State.finish
  repeat' first
    | with_reducible assumption
    | with_reducible
      first | apply State.modNode_keeps | apply State.otkWriteDone_keeps | apply State.flumeReadDone_keeps
            | apply State.flumeWriteDone_keeps | apply State.bar4ReadDone_keeps | apply State.memPacketDone_keeps
            | apply State.linkServed_keeps | apply State.linkCredit_keeps
    | split

theorem execLeatResponseReceive_keeps {k s : State} (hs : Keeps k s) (a1) :
    OutKeeps k (execLeatResponseReceive a1 s) := by
  unfold execLeatResponseReceive
  repeat' first
    | with_reducible assumption
    | with_reducible
      first | apply next_keeps | apply State.takeResponse_keeps | apply State.finish_keeps
    | split
    | (refine keeps_fst (by with_reducible assumption) ?_)

theorem State.failRequest_keeps {k s : State} (hs : Keeps k s) (a1 a2 a3) :
    Keeps k (State.failRequest a1 a2 a3 s) := by
  unfold State.failRequest
  repeat' first
    | with_reducible assumption
    | with_reducible
      first | apply State.finish_keeps | apply State.niError_keeps | apply State.modNode_keeps

theorem execResponseTimeout_keeps {k s : State} (hs : Keeps k s) (a1 a2 a3) :
    OutKeeps k (execResponseTimeout a1 a2 a3 s) := by
  unfold execResponseTimeout
  repeat' first
    | with_reducible assumption
    | with_reducible
      first | apply next_keeps | apply State.modNode_keeps | apply State.failRequest_keeps | apply State.niEvt_keeps
            | apply ite_keeps
    | split

theorem State.askRsv_keeps {k s : State} (hs : Keeps k s) (a1 a2) :
    Keeps k (State.askRsv a1 a2 s) := by
  unfold State.askRsv
  repeat' first
    | with_reducible assumption
    | with_reducible
      first | apply State.grant_keeps | apply State.failRequest_keeps | apply State.niEvt_keeps | apply State.modNode_keeps
    | split
    | (refine keeps_fst (by with_reducible assumption) ?_)

theorem execReservationRequest_keeps {k s : State} (hs : Keeps k s) (a1 a2) :
    OutKeeps k (execReservationRequest a1 a2 s) := by
  unfold execReservationRequest
  repeat' first
    | with_reducible assumption
    | with_reducible
      first | apply next_keeps | apply State.askRsv_keeps | apply ite_keeps

theorem execReservationRetry_keeps {k s : State} (hs : Keeps k s) (a1 a2) :
    OutKeeps k (execReservationRetry a1 a2 s) := by
  unfold execReservationRetry
  repeat' first
    | with_reducible assumption
    | with_reducible
      first | apply next_keeps | apply State.askRsv_keeps | apply State.modNode_keeps | apply ite_keeps

theorem State.commitHeld_keeps {k s : State} (hs : Keeps k s) :
    Keeps k (State.commitHeld s) := by
  unfold State.commitHeld
  repeat' first
    | with_reducible assumption
    | with_reducible
      first | apply modLeat_keeps | apply State.recheck_keeps | apply State.routeStep_keeps | apply State.releaseDynamic_keeps
            | apply ite_keeps

theorem execRouteCheckComplete_keeps {k s : State} (hs : Keeps k s) :
    OutKeeps k (execRouteCheckComplete s) := by
  unfold execRouteCheckComplete
  repeat' first
    | with_reducible assumption
    | with_reducible
      first | apply next_keeps | apply State.checkStaged_keeps | apply State.stagedState_keeps | apply modLeat_keeps
            | apply State.commitHeld_keeps | apply State.postRecord?_keeps | apply ite_keeps

end Sys2Proof.Machine
end

