-- ==== Sys2Proof/Laws/KeepsImages.lean ====
section
/-! SUPPORT. What the operations of Images.lean keep (Keeps.lean). -/
set_option linter.unusedTactic false
set_option linter.unreachableTactic false
set_option linter.unusedVariables false
namespace Sys2Proof.Machine

theorem State.modBank_keeps {k s : State} (hs : Keeps k s) (a1 a2) :
    Keeps k (State.modBank a1 a2 s) := by
  unfold State.modBank
  repeat' first
    | with_reducible assumption
    | with_reducible
      first | apply modImg_keeps

theorem State.sigFail_keeps {k s : State} (hs : Keeps k s) (a1 a2) :
    Keeps k (State.sigFail a1 a2 s) := by
  unfold State.sigFail
  repeat' first
    | with_reducible assumption
    | with_reducible
      first | apply State.secEvt_keeps | apply State.log_keeps | apply modSec_keeps | apply ite_keeps
    | exact rfl

end Sys2Proof.Machine
end

