-- ==== Sys2Proof/Laws/KeepsSplices.lean ====
section
/-! SUPPORT. What the operations of Splices.lean keep (Keeps.lean). -/
set_option linter.unusedTactic false
set_option linter.unreachableTactic false
set_option linter.unusedVariables false
namespace Sys2Proof.Machine

theorem State.writeRepairRecord_keeps {k s : State} (hs : Keeps k s) :
    Keeps k (State.writeRepairRecord s) := by
  unfold State.writeRepairRecord
  repeat' first
    | with_reducible assumption
    | with_reducible
      first | apply modSpl_keeps

theorem State.logDeclared_keeps {k s : State} (hs : Keeps k s) (a1 a2 a3 a4) :
    Keeps k (State.logDeclared a1 a2 a3 a4 s) := by
  unfold State.logDeclared
  repeat' first
    | with_reducible assumption
    | (intro st; refine Keeps.cut (x := st) ?_ ?_; (focus (unfold st; try clear st)); rotate_left; intro hst; clear_value st)
    | (intro st; clear_value st)
    | exact id
    | intro _
    | with_reducible
      first | apply modSpl_keeps | apply State.logAt_keeps | apply ite_keeps | apply dite_keeps | apply ite_fst | apply foldl_keeps
            | apply foldl_pair
    | (lift_lets; intro st; refine Keeps.cut (x := st) ?_ ?_; (focus (unfold st; try clear st)); rotate_left; intro hst; clear_value st)
    | (lift_lets; intro st; clear_value st)
    | split
    | exact rfl
    | ((try dsimp only); with_reducible first | apply wf_tset | apply wf_tsetAll | apply wf_tdrop)
    | exact Nat.zero_le _
    | (refine keeps_fst (by with_reducible assumption) ?_)

theorem State.chanUncarried_keeps {k s : State} (hs : Keeps k s) (a1 a2) :
    Keeps k (State.chanUncarried a1 a2 s) := by
  unfold State.chanUncarried
  repeat' first
    | with_reducible assumption
    | with_reducible
      first | apply modSpl_keeps | apply State.log_keeps

theorem State.giveUp_keeps {k s : State} (hs : Keeps k s) (a1 a2) :
    Keeps k (State.giveUp a1 a2 s) := by
  unfold State.giveUp
  repeat' first
    | with_reducible assumption
    | (intro st; refine Keeps.cut (x := st) ?_ ?_; (focus (unfold st; try clear st)); rotate_left; intro hst; clear_value st)
    | (intro st; clear_value st)
    | exact id
    | intro _
    | with_reducible
      first | apply modSpl_keeps | apply State.log_keeps | apply ite_keeps | apply dite_keeps | apply ite_fst | apply foldl_keeps
            | apply foldl_pair
    | (lift_lets; intro st; refine Keeps.cut (x := st) ?_ ?_; (focus (unfold st; try clear st)); rotate_left; intro hst; clear_value st)
    | (lift_lets; intro st; clear_value st)
    | split
    | exact rfl
    | ((try dsimp only); with_reducible first | apply wf_tset | apply wf_tsetAll | apply wf_tdrop)
    | exact Nat.zero_le _
    | (refine keeps_fst (by with_reducible assumption) ?_)

theorem State.carryNow_keeps {k s : State} (hs : Keeps k s) (a1) :
    Keeps k (State.carryNow a1 s) := by
  unfold State.carryNow
  repeat' first
    | with_reducible assumption
    | (intro st; refine Keeps.cut (x := st) ?_ ?_; (focus (unfold st; try clear st)); rotate_left; intro hst; clear_value st)
    | (intro st; clear_value st)
    | exact id
    | intro _
    | with_reducible
      first | apply State.chanUncarried_keeps | apply modSpl_keeps | apply State.log_keeps | apply State.giveUp_keeps
            | apply ite_keeps | apply dite_keeps | apply ite_fst | apply foldl_keeps | apply foldl_pair
    | (lift_lets; intro st; refine Keeps.cut (x := st) ?_ ?_; (focus (unfold st; try clear st)); rotate_left; intro hst; clear_value st)
    | (lift_lets; intro st; clear_value st)
    | split
    | exact rfl
    | ((try dsimp only); with_reducible first | apply wf_tset | apply wf_tsetAll | apply wf_tdrop)
    | exact Nat.zero_le _
    | (refine keeps_fst (by with_reducible assumption) ?_)

theorem State.chanShadow_keeps {k s : State} (hs : Keeps k s) (a1) :
    Keeps k (State.chanShadow a1 s) := by
  unfold State.chanShadow
  repeat' first
    | with_reducible assumption
    | (intro st; refine Keeps.cut (x := st) ?_ ?_; (focus (unfold st; try clear st)); rotate_left; intro hst; clear_value st)
    | (intro st; clear_value st)
    | exact id
    | intro _
    | with_reducible
      first | apply State.giveUp_keeps | apply State.chanUncarried_keeps | apply modSpl_keeps | apply State.log_keeps
            | apply ite_keeps | apply dite_keeps | apply ite_fst | apply foldl_keeps | apply foldl_pair
    | (lift_lets; intro st; refine Keeps.cut (x := st) ?_ ?_; (focus (unfold st; try clear st)); rotate_left; intro hst; clear_value st)
    | (lift_lets; intro st; clear_value st)
    | split
    | exact rfl
    | ((try dsimp only); with_reducible first | apply wf_tset | apply wf_tsetAll | apply wf_tdrop)
    | exact Nat.zero_le _
    | (refine keeps_fst (by with_reducible assumption) ?_)

theorem State.chanDeclare_keeps {k s : State} (hs : Keeps k s) (a1 a2 a3 a4 a5) :
    Keeps k (State.chanDeclare a1 a2 a3 a4 a5 s) := by
  unfold State.chanDeclare
  repeat' first
    | with_reducible assumption
    | (intro st; refine Keeps.cut (x := st) ?_ ?_; (focus (unfold st; try clear st)); rotate_left; intro hst; clear_value st)
    | (intro st; clear_value st)
    | exact id
    | intro _
    | with_reducible
      first | apply State.logDeclared_keeps | apply State.carryNow_keeps | apply State.chanShadow_keeps | apply ite_keeps
            | apply dite_keeps | apply ite_fst | apply foldl_keeps | apply foldl_pair
    | (lift_lets; intro st; refine Keeps.cut (x := st) ?_ ?_; (focus (unfold st; try clear st)); rotate_left; intro hst; clear_value st)
    | (lift_lets; intro st; clear_value st)
    | split
    | exact rfl
    | ((try dsimp only); with_reducible first | apply wf_tset | apply wf_tsetAll | apply wf_tdrop)
    | exact Nat.zero_le _
    | (refine keeps_fst (by with_reducible assumption) ?_)

theorem State.release_keeps {k s : State} (hs : Keeps k s) (a1) :
    Keeps k (State.release a1 s) := by
  unfold State.release
  repeat' first
    | with_reducible assumption
    | (intro st; refine Keeps.cut (x := st) ?_ ?_; (focus (unfold st; try clear st)); rotate_left; intro hst; clear_value st)
    | (intro st; clear_value st)
    | exact id
    | intro _
    | with_reducible
      first | apply State.giveUp_keeps | apply modSpl_keeps | apply ite_keeps | apply dite_keeps | apply ite_fst | apply foldl_keeps
            | apply foldl_pair
    | (lift_lets; intro st; refine Keeps.cut (x := st) ?_ ?_; (focus (unfold st; try clear st)); rotate_left; intro hst; clear_value st)
    | (lift_lets; intro st; clear_value st)
    | split
    | exact rfl
    | ((try dsimp only); with_reducible first | apply wf_tset | apply wf_tsetAll | apply wf_tdrop)
    | exact Nat.zero_le _
    | (refine keeps_fst (by with_reducible assumption) ?_)

theorem State.reviewUnused_keeps {k s : State} (hs : Keeps k s) (a1) :
    Keeps k (State.reviewUnused a1 s) := by
  unfold State.reviewUnused
  repeat' first
    | with_reducible assumption
    | (intro st; refine Keeps.cut (x := st) ?_ ?_; (focus (unfold st; try clear st)); rotate_left; intro hst; clear_value st)
    | (intro st; clear_value st)
    | exact id
    | intro _
    | with_reducible
      first | apply State.release_keeps | apply ite_keeps | apply dite_keeps | apply ite_fst | apply foldl_keeps | apply foldl_pair
    | (lift_lets; intro st; refine Keeps.cut (x := st) ?_ ?_; (focus (unfold st; try clear st)); rotate_left; intro hst; clear_value st)
    | (lift_lets; intro st; clear_value st)
    | split
    | exact rfl
    | ((try dsimp only); with_reducible first | apply wf_tset | apply wf_tsetAll | apply wf_tdrop)
    | exact Nat.zero_le _
    | (refine keeps_fst (by with_reducible assumption) ?_)

theorem State.remapOne_keeps {k s : State} (hs : Keeps k s) (a1) :
    Keeps k (State.remapOne a1 s) := by
  unfold State.remapOne
  repeat' first
    | with_reducible assumption
    | with_reducible
      first | apply modSpl_keeps | apply State.giveUp_keeps | apply State.log_keeps | apply ite_keeps
    | (lift_lets; intro st; clear_value st)
    | split

theorem State.reviewUsed_keeps {k s : State} (hs : Keeps k s) (a1) :
    Keeps k (State.reviewUsed a1 s) := by
  unfold State.reviewUsed
  repeat' first
    | with_reducible assumption
    | (intro st; refine Keeps.cut (x := st) ?_ ?_; (focus (unfold st; try clear st)); rotate_left; intro hst; clear_value st)
    | (intro st; clear_value st)
    | exact id
    | intro _
    | with_reducible
      first | apply State.carryNow_keeps | apply modSpl_keeps | apply State.remapOne_keeps | apply ite_keeps | apply dite_keeps
            | apply ite_fst | apply foldl_keeps | apply foldl_pair
    | (lift_lets; intro st; refine Keeps.cut (x := st) ?_ ?_; (focus (unfold st; try clear st)); rotate_left; intro hst; clear_value st)
    | (lift_lets; intro st; clear_value st)
    | split
    | exact rfl
    | ((try dsimp only); with_reducible first | apply wf_tset | apply wf_tsetAll | apply wf_tdrop)
    | exact Nat.zero_le _
    | (refine keeps_fst (by with_reducible assumption) ?_)

theorem State.freeze_keeps {k s : State} (hs : Keeps k s) (a1 a2) :
    Keeps k (State.freeze a1 a2 s) := by
  unfold State.freeze
  repeat' first
    | with_reducible assumption
    | (intro st; refine Keeps.cut (x := st) ?_ ?_; (focus (unfold st; try clear st)); rotate_left; intro hst; clear_value st)
    | (intro st; clear_value st)
    | exact id
    | intro _
    | with_reducible
      first | apply State.giveUp_keeps | apply modSpl_keeps | apply State.log_keeps | apply ite_keeps | apply dite_keeps
            | apply ite_fst | apply foldl_keeps | apply foldl_pair
    | (lift_lets; intro st; refine Keeps.cut (x := st) ?_ ?_; (focus (unfold st; try clear st)); rotate_left; intro hst; clear_value st)
    | (lift_lets; intro st; clear_value st)
    | split
    | exact rfl
    | ((try dsimp only); with_reducible first | apply wf_tset | apply wf_tsetAll | apply wf_tdrop)
    | exact Nat.zero_le _
    | (refine keeps_fst (by with_reducible assumption) ?_)

theorem State.exhaustTest_keeps {k s : State} (hs : Keeps k s) (a1 a2) :
    Keeps k (State.exhaustTest a1 a2 s) := by
  unfold State.exhaustTest
  repeat' first
    | with_reducible assumption
    | (intro st; refine Keeps.cut (x := st) ?_ ?_; (focus (unfold st; try clear st)); rotate_left; intro hst; clear_value st)
    | (intro st; clear_value st)
    | exact id
    | intro _
    | with_reducible
      first | apply State.release_keeps | apply State.freeze_keeps | apply modSpl_keeps | apply State.log_keeps
            | apply State.giveUp_keeps | apply ite_keeps | apply dite_keeps | apply ite_fst | apply foldl_keeps
            | apply foldl_pair
    | (lift_lets; intro st; refine Keeps.cut (x := st) ?_ ?_; (focus (unfold st; try clear st)); rotate_left; intro hst; clear_value st)
    | (lift_lets; intro st; clear_value st)
    | split
    | exact rfl
    | ((try dsimp only); with_reducible first | apply wf_tset | apply wf_tsetAll | apply wf_tdrop)
    | exact Nat.zero_le _
    | (refine keeps_fst (by with_reducible assumption) ?_)

theorem State.reviewSplices_keeps {k s : State} (hs : Keeps k s) (a1 a2 a3) :
    Keeps k (State.reviewSplices a1 a2 a3 s) := by
  unfold State.reviewSplices
  repeat' first
    | with_reducible assumption
    | intro _
    | with_reducible
      first | apply State.reviewUnused_keeps | apply State.reviewUsed_keeps | apply modSpl_keeps | apply State.exhaustTest_keeps
            | apply State.log_keeps | apply State.writeRepairRecord_keeps | apply ite_keeps | apply foldl_keeps

theorem State.exhaustOne_keeps {k s : State} (hs : Keeps k s) (a1 a2) :
    Keeps k (State.exhaustOne a1 a2 s) := by
  unfold State.exhaustOne
  repeat' first
    | with_reducible assumption
    | with_reducible
      first | apply State.exhaustTest_keeps | apply ite_keeps
    | split

theorem State.spliceStep_keeps {k s : State} (hs : Keeps k s) (a1) :
    Keeps k (State.spliceStep a1 s) := by
  unfold State.spliceStep
  repeat' first
    | with_reducible assumption
    | intro _
    | with_reducible
      first | apply State.remapOne_keeps | apply State.writeRepairRecord_keeps | apply State.exhaustOne_keeps | apply foldl_keeps

theorem State.phaseDrift_keeps {k s : State} (hs : Keeps k s) (a1 a2 a3) :
    Keeps k (State.phaseDrift a1 a2 a3 s) := by
  unfold State.phaseDrift
  repeat' first
    | with_reducible assumption
    | intro _
    | with_reducible
      first | apply modSpl_keeps | apply State.log_keeps | apply ite_keeps | apply foldl_keeps

theorem State.spareUnusable_keeps {k s : State} (hs : Keeps k s) (a1 a2) :
    Keeps k (State.spareUnusable a1 a2 s) := by
  unfold State.spareUnusable
  repeat' first
    | with_reducible assumption
    | with_reducible
      first | apply modSpl_keeps | apply State.log_keeps

theorem State.judge_keeps {k s : State} (hs : Keeps k s) (a1 a2 a3) :
    Keeps k (State.judge a1 a2 a3 s) := by
  unfold State.judge
  repeat' first
    | with_reducible assumption
    | with_reducible
      first | apply modSpl_keeps | apply State.chanDeclare_keeps | apply State.logAt_keeps | apply State.spareUnusable_keeps
            | apply ite_keeps
    | split

theorem State.findOne_keeps {k : State} {a : State × List Nat} (h : Keeps k a.1) (now : Bool) (t : Stamp) (f : Finding) :
    Keeps k (State.findOne now t a f).1 := by
  obtain ⟨s, done⟩ := a
  unfold State.findOne
  cases f with
  | refresh key verr =>
    have g : Keeps k (s.judge now t (key, verr)) := State.judge_keeps h _ _ _
    dsimp only
    split <;> exact g
  | drift c =>
    dsimp only
    split
    · split
      · exact h
      · exact State.chanDeclare_keeps h _ _ _ _ _
    · exact h


theorem State.judgeAll_keeps {k s : State} (hs : Keeps k s) (a1 a2 a3 a4 a5) :
    Keeps k (State.judgeAll a1 a2 a3 a4 a5 s) := by
  unfold State.judgeAll
  repeat' first
    | with_reducible assumption
    | (intro st; refine Keeps.cut (x := st) ?_ ?_; (focus (unfold st; try clear st)); rotate_left; intro hst; clear_value st)
    | (intro st; clear_value st)
    | exact id
    | intro _
    | with_reducible
      first | apply State.phaseDrift_keeps | apply State.findOne_keeps | apply ite_keeps | apply dite_keeps | apply ite_fst
            | apply foldl_keeps | apply foldl_pair
    | (lift_lets; intro st; refine Keeps.cut (x := st) ?_ ?_; (focus (unfold st; try clear st)); rotate_left; intro hst; clear_value st)
    | (lift_lets; intro st; clear_value st)
    | split
    | exact rfl
    | ((try dsimp only); with_reducible first | apply wf_tset | apply wf_tsetAll | apply wf_tdrop)
    | exact Nat.zero_le _
    | (refine keeps_fst (by with_reducible assumption) ?_)

theorem execSpliceShadowTakeover_keeps {k s : State} (hs : Keeps k s) (a1) :
    OutKeeps k (execSpliceShadowTakeover a1 s) := by
  unfold execSpliceShadowTakeover
  repeat' first
    | with_reducible assumption
    | with_reducible
      first | apply next_keeps | apply modSpl_keeps

end Sys2Proof.Machine
end

