-- ==== Sys2Proof/Laws/KeepsConfigLoad.lean ====
section
/-! SUPPORT. What the operations of ConfigLoad.lean keep (Keeps.lean). -/
set_option linter.unusedTactic false
set_option linter.unreachableTactic false
set_option linter.unusedVariables false
namespace Sys2Proof.Machine

theorem State.releaseGo_keeps {k s : State} (hs : Keeps k s) :
    Keeps k (State.releaseGo s) := by
  unfold State.releaseGo
  repeat' first
    | with_reducible assumption
    | with_reducible
      first | apply modImg_keeps | apply ite_keeps

theorem State.putFrame_keeps {k s : State} (hs : Keeps k s) (a1 a2) :
    Keeps k (State.putFrame a1 a2 s) := by
  unfold State.putFrame
  repeat' first
    | with_reducible assumption
    | intro _
    | with_reducible
      first | apply modCst_keeps | apply modFab_keeps | apply ite_keeps

theorem State.loadRows_keeps {k s : State} (hs : Keeps k s) (a1 a2) : Keeps k (State.loadRows a1 a2 s) := by
  unfold State.loadRows
  refine modCst_keeps hs _ fun hw => ?_
  have hd : Memory.wf (tdrop (fun k => k / 2048 = a1) s.cst.rows) = true := wf_tdrop hw
  generalize tdrop (fun k => k / 2048 = a1) s.cst.rows = rows at hd
  cases a2 with
  | none => exact hd
  | some w =>
    generalize List.range 2048 = l
    exact wf_tsetAll hd

theorem State.loadContents_keeps {k s : State} (hs : Keeps k s) (a1 a2 a3) : Keeps k (State.loadContents a1 a2 a3 s) := by
  unfold State.loadContents
  cases a1.sect 1 with
  | none => exact hs
  | some x =>
    refine foldl_keeps hs fun u c hu => ?_
    cases a1.sect 2 with
    | none => exact ite_keeps (State.loadRows_keeps hu _ _) hu
    | some y =>
      cases (a1.initCisterns x).findIdx? (· = c) with
      | none => exact ite_keeps (State.loadRows_keeps hu _ _) hu
      | some i => exact State.loadRows_keeps hu _ _

theorem State.loadFrames_keeps {k s : State} (hs : Keeps k s) (a1 a2 a3) : Keeps k (State.loadFrames a1 a2 a3 s) := by
  unfold State.loadFrames
  exact foldl_keeps hs fun u e hu => foldl_keeps hu fun v j hv => modImg_keeps (State.putFrame_keeps hv _ _) _

theorem State.loadPlots_keeps {k s : State} (hs : Keeps k s) (a1 a2 a3) : Keeps k (State.loadPlots a1 a2 a3 s) := by
  unfold State.loadPlots
  cases a1.sect 1 with
  | none => exact hs
  | some x => exact State.loadContents_keeps (modSpl_keeps (State.loadFrames_keeps hs _ _ _) _) _ _ _

theorem State.loadNode_keeps {k s : State} (hs : Keeps k s) (a1 a2 a3) :
    Keeps k (State.loadNode a1 a2 a3 s) := by
  unfold State.loadNode
  repeat' first
    | with_reducible assumption
    | intro _
    | with_reducible
      first | apply State.modNode_keeps | apply State.niEvt_keeps | apply State.log_keeps | apply foldl_keeps

theorem State.loadLeat_keeps {k s : State} (hs : Keeps k s) (a1) :
    Keeps k (State.loadLeat a1 s) := by
  unfold State.loadLeat
  repeat' first
    | with_reducible assumption
    | intro _
    | with_reducible
      first | apply State.releaseRsv_keeps | apply State.loadNode_keeps | apply modLeat_keeps | apply State.isolClear_keeps
            | apply foldl_keeps
    | (lift_lets; intro st; refine Keeps.cut (x := st) ?_ ?_; (focus (unfold st; try clear st)); rotate_left; intro hst; clear_value st)
    | split

theorem State.dropReleaseBuffers_keeps {k s : State} (hs : Keeps k s) :
    Keeps k (State.dropReleaseBuffers s) := by
  unfold State.dropReleaseBuffers
  repeat' first
    | with_reducible assumption
    | intro _
    | with_reducible
      first | apply State.modNode_keeps | apply ite_keeps | apply foldl_keeps

theorem State.loadIo_keeps {k s : State} (hs : Keeps k s) (a1) :
    Keeps k (State.loadIo a1 s) := by
  unfold State.loadIo
  repeat' first
    | with_reducible assumption
    | with_reducible
      first | apply modIo_keeps
    | split

theorem State.loadLanes_keeps {k s : State} (hs : Keeps k s) (a1) :
    Keeps k (State.loadLanes a1 s) := by
  unfold State.loadLanes
  repeat' first
    | with_reducible assumption
    | intro _
    | with_reducible
      first | apply modLnk_keeps | apply State.modLink_keeps | apply foldl_keeps

theorem State.loadHeader_keeps {k s : State} (hs : Keeps k s) (a1) :
    Keeps k (State.loadHeader a1 s) := by
  unfold State.loadHeader
  repeat' first
    | with_reducible assumption
    | intro _
    | with_reducible
      first | apply modWin_keeps | apply modFab_keeps | apply State.setRates_keeps | apply modMem_keeps | apply modImg_keeps

theorem State.leaveArray_keeps {k s : State} (hs : Keeps k s) (a1 a2 a3) :
    Keeps k (State.leaveArray a1 a2 a3 s) := by
  unfold State.leaveArray
  repeat' first
    | with_reducible assumption
    | (intro st; refine Keeps.cut (x := st) ?_ ?_; (focus (unfold st; try clear st)); rotate_left; intro hst; clear_value st)
    | (intro st; clear_value st)
    | exact id
    | intro _
    | with_reducible
      first | apply modWin_keeps | apply modLnk_keeps | apply ite_keeps | apply dite_keeps | apply ite_fst | apply foldl_keeps
            | apply foldl_pair
    | (lift_lets; intro st; refine Keeps.cut (x := st) ?_ ?_; (focus (unfold st; try clear st)); rotate_left; intro hst; clear_value st)
    | (lift_lets; intro st; clear_value st)
    | split
    | exact rfl
    | ((try dsimp only); with_reducible first | apply wf_tset | apply wf_tsetAll | apply wf_tdrop)
    | exact Nat.zero_le _
    | (refine keeps_fst (by with_reducible assumption) ?_)

theorem State.clearConfig_keeps {k s : State} (hs : Keeps k s) :
    Keeps k (State.clearConfig s) := by
  unfold State.clearConfig
  repeat' first
    | with_reducible assumption
    | intro _
    | with_reducible
      first | apply modFab_keeps | apply modImg_keeps | apply modCst_keeps

theorem State.loadConfig_keeps {k s : State} (hs : Keeps k s) (a1) :
    Keeps k (State.loadConfig a1 s) := by
  unfold State.loadConfig
  repeat' first
    | with_reducible assumption
    | intro _
    | with_reducible
      first | apply State.clearConfig_keeps | apply State.loadHeader_keeps | apply State.leaveArray_keeps
            | apply State.loadPlots_keeps | apply State.loadLanes_keeps | apply State.loadIo_keeps
            | apply State.loadLeat_keeps | apply modFab_keeps | apply State.slotRestart_keeps | apply modWin_keeps
            | apply modSpl_keeps | apply State.refreshHorizon_keeps | apply State.reviewSplices_keeps | apply modImg_keeps
            | apply foldl_keeps
    | (lift_lets; intro st; refine Keeps.cut (x := st) ?_ ?_; (focus (unfold st; try clear st)); rotate_left; intro hst; clear_value st)
    | split

theorem State.beforeRelease_keeps {k s : State} (hs : Keeps k s) :
    Keeps k (State.beforeRelease s) := by
  unfold State.beforeRelease
  repeat' first
    | with_reducible assumption
    | with_reducible
      first | apply modFab_keeps | apply State.showPins_keeps | apply modIo_keeps | apply modImg_keeps

theorem State.setPulse_keeps {k s : State} (hs : Keeps k s) (a1) :
    Keeps k (State.setPulse a1 s) := by
  unfold State.setPulse
  repeat' first
    | with_reducible assumption
    | (intro st; refine Keeps.cut (x := st) ?_ ?_; (focus (unfold st; try clear st)); rotate_left; intro hst; clear_value st)
    | (intro st; clear_value st)
    | exact id
    | intro _
    | with_reducible
      first | apply modClk_keeps | apply ite_keeps | apply dite_keeps | apply ite_fst | apply foldl_keeps | apply foldl_pair
    | (lift_lets; intro st; refine Keeps.cut (x := st) ?_ ?_; (focus (unfold st; try clear st)); rotate_left; intro hst; clear_value st)
    | (lift_lets; intro st; clear_value st)
    | split
    | exact rfl
    | ((try dsimp only); with_reducible first | apply wf_tset | apply wf_tsetAll | apply wf_tdrop)
    | exact Nat.zero_le _
    | (refine keeps_fst (by with_reducible assumption) ?_)

theorem State.beginLoad_keeps {k s : State} (hs : Keeps k s) (a1 a2 a3 a4) :
    Keeps k (State.beginLoad a1 a2 a3 a4 s) := by
  unfold State.beginLoad
  repeat' first
    | with_reducible assumption
    | with_reducible
      first | apply State.beforeRelease_keeps | apply State.setHold_keeps | apply modWin_keeps
            | apply State.dropReleaseBuffers_keeps | apply State.setPulse_keeps | apply modImg_keeps | apply modLeat_keeps
            | apply ite_keeps

theorem State.startFills_keeps {k s : State} (hs : Keeps k s) :
    Keeps k (State.startFills s) := by
  unfold State.startFills
  repeat' first
    | with_reducible assumption
    | intro _
    | with_reducible
      first | apply State.startFill_keeps | apply ite_keeps | apply foldl_keeps

theorem State.setMark_keeps {k s : State} (hs : Keeps k s) (a1 a2) :
    Keeps k (State.setMark a1 a2 s) := by
  unfold State.setMark
  repeat' first
    | with_reducible assumption
    | with_reducible
      first | apply State.modBank_keeps

theorem State.bootNone_keeps {k s : State} (hs : Keeps k s) (a1) :
    Keeps k (State.bootNone a1 s) := by
  unfold State.bootNone
  repeat' first
    | with_reducible assumption
    | with_reducible
      first | apply State.cfgEvt_keeps | apply State.log_keeps | apply State.beforeRelease_keeps | apply State.setHold_keeps
            | apply State.clearConfig_keeps | apply modLeat_keeps | apply State.reconfigEnd_keeps | apply modImg_keeps

theorem State.startRole_keeps {k s : State} (hs : Keeps k s) (a1) :
    Keeps k (State.startRole a1 s) := by
  unfold State.startRole
  repeat' first
    | with_reducible assumption
    | with_reducible
      first | apply State.beginLoad_keeps | apply modImg_keeps | apply State.startFills_keeps

theorem State.tryPrevious_keeps {k s : State} (hs : Keeps k s) :
    Keeps k (State.tryPrevious s) := by
  unfold State.tryPrevious
  repeat' first
    | with_reducible assumption
    | with_reducible
      first | apply State.startRole_keeps | apply State.bootNone_keeps | apply State.setMark_keeps | apply State.sigFail_keeps
            | apply ite_keeps

theorem State.activeFails_keeps {k s : State} (hs : Keeps k s) (a1) :
    Keeps k (State.activeFails a1 s) := by
  unfold State.activeFails
  repeat' first
    | with_reducible assumption
    | with_reducible
      first | apply modImg_keeps | apply State.setMark_keeps | apply State.sigFail_keeps | apply State.tryPrevious_keeps
            | apply State.cfgEvt_keeps | apply State.log_keeps

theorem State.tryActive_keeps {k s : State} (hs : Keeps k s) :
    Keeps k (State.tryActive s) := by
  unfold State.tryActive
  repeat' first
    | with_reducible assumption
    | with_reducible
      first | apply State.startRole_keeps | apply State.activeFails_keeps | apply ite_keeps

theorem State.loadDone_keeps {k s : State} (hs : Keeps k s) (a1) :
    Keeps k (State.loadDone a1 s) := by
  unfold State.loadDone
  repeat' first
    | with_reducible assumption
    | with_reducible
      first | apply State.loadConfig_keeps | apply State.setMark_keeps | apply modImg_keeps | apply modLeat_keeps
            | apply State.reconfigEnd_keeps | apply State.postRecord?_keeps | apply State.cfgEvt_keeps
    | (lift_lets; intro st; refine Keeps.cut (x := st) ?_ ?_; (focus (unfold st; try clear st)); rotate_left; intro hst; clear_value st)
    | split

theorem State.loadFails_keeps {k s : State} (hs : Keeps k s) (a1 a2) :
    Keeps k (State.loadFails a1 a2 s) := by
  unfold State.loadFails
  repeat' first
    | with_reducible assumption
    | with_reducible
      first | apply modImg_keeps | apply State.bootNone_keeps | apply State.setMark_keeps | apply State.sigFail_keeps
            | apply State.activeFails_keeps | apply State.cfgEvt_keeps | apply State.log_keeps | apply State.tryActive_keeps
            | apply State.postRecord?_keeps | apply State.beginLoad_keeps
    | (lift_lets; intro st; refine Keeps.cut (x := st) ?_ ?_; (focus (unfold st; try clear st)); rotate_left; intro hst; clear_value st)
    | split

theorem State.reviewRects_keeps {k s : State} (hs : Keeps k s) (a1 a2) :
    Keeps k (State.reviewRects a1 a2 s) := by
  unfold State.reviewRects
  repeat' first
    | with_reducible assumption
    | with_reducible
      first | apply State.reviewSplices_keeps

theorem State.beginApply_keeps {k s : State} (hs : Keeps k s) (a1) :
    Keeps k (State.beginApply a1 s) := by
  unfold State.beginApply
  repeat' first
    | with_reducible assumption
    | with_reducible
      first | apply modFab_keeps | apply State.setHold_keeps | apply modImg_keeps
    | split

theorem State.endApply_keeps {k s : State} (hs : Keeps k s) (a1 a2) :
    Keeps k (State.endApply a1 a2 s) := by
  unfold State.endApply
  repeat' first
    | with_reducible assumption
    | with_reducible
      first | apply modFab_keeps | apply State.reconfigEnd_keeps | apply modImg_keeps
    | split

theorem State.patchApplied_keeps {k s : State} (hs : Keeps k s) (a1 a2) :
    Keeps k (State.patchApplied a1 a2 s) := by
  unfold State.patchApplied
  repeat' first
    | with_reducible assumption
    | with_reducible
      first | apply State.modBank_keeps | apply modImg_keeps

theorem State.applyDone_keeps {k s : State} (hs : Keeps k s) (a1) :
    Keeps k (State.applyDone a1 s) := by
  unfold State.applyDone
  repeat' first
    | with_reducible assumption
    | with_reducible
      first | apply State.loadPlots_keeps | apply modFab_keeps | apply State.patchApplied_keeps | apply State.setMark_keeps
            | apply State.reviewRects_keeps | apply modImg_keeps | apply State.postRecord?_keeps | apply State.cfgEvt_keeps
            | apply State.endApply_keeps
    | (lift_lets; intro st; clear_value st)
    | split

theorem State.reloadPlot_keeps {k s : State} (hs : Keeps k s) (a1 a2 a3) :
    Keeps k (State.reloadPlot a1 a2 a3 s) := by
  unfold State.reloadPlot
  repeat' first
    | with_reducible assumption
    | with_reducible
      first | apply State.loadContents_keeps | apply State.loadFrames_keeps
    | split

theorem State.reloadPlots_keeps {k s : State} (hs : Keeps k s) (a1 a2 a3) :
    Keeps k (State.reloadPlots a1 a2 a3 s) := by
  unfold State.reloadPlots
  repeat' first
    | with_reducible assumption
    | (intro st; refine Keeps.cut (x := st) ?_ ?_; (focus (unfold st; try clear st)); rotate_left; intro hst; clear_value st)
    | (intro st; clear_value st)
    | exact id
    | intro _
    | with_reducible
      first | apply State.reloadPlot_keeps | apply modSpl_keeps | apply ite_keeps | apply dite_keeps | apply ite_fst
            | apply foldl_keeps | apply foldl_pair
    | (lift_lets; intro st; refine Keeps.cut (x := st) ?_ ?_; (focus (unfold st; try clear st)); rotate_left; intro hst; clear_value st)
    | (lift_lets; intro st; clear_value st)
    | split
    | exact rfl
    | ((try dsimp only); with_reducible first | apply wf_tset | apply wf_tsetAll | apply wf_tdrop)
    | exact Nat.zero_le _
    | (refine keeps_fst (by with_reducible assumption) ?_)

theorem State.applyFails_keeps {k s : State} (hs : Keeps k s) (a1) :
    Keeps k (State.applyFails a1 s) := by
  unfold State.applyFails
  repeat' first
    | with_reducible assumption
    | with_reducible
      first | apply State.cfgEvt_keeps | apply State.log_keeps | apply State.modBank_keeps | apply modImg_keeps
            | apply State.setMark_keeps

theorem State.applyReloaded_keeps {k s : State} (hs : Keeps k s) (a1) :
    Keeps k (State.applyReloaded a1 s) := by
  unfold State.applyReloaded
  repeat' first
    | with_reducible assumption
    | intro _
    | with_reducible
      first | apply State.reloadPlots_keeps | apply modFab_keeps | apply State.reviewRects_keeps | apply State.postRecord?_keeps
            | apply State.endApply_keeps | apply foldl_keeps

theorem State.joinNow_keeps {k s : State} (hs : Keeps k s) (a1) :
    Keeps k (State.joinNow a1 s) := by
  unfold State.joinNow
  repeat' first
    | with_reducible assumption
    | intro _
    | with_reducible
      first | apply modFab_keeps | apply State.postRecord?_keeps | apply State.cfgEvt_keeps | apply foldl_keeps

theorem State.applyFull_keeps {k s : State} (hs : Keeps k s) (a1) :
    Keeps k (State.applyFull a1 s) := by
  unfold State.applyFull
  repeat' first
    | with_reducible assumption
    | with_reducible
      first | apply modImg_keeps | apply State.beginLoad_keeps | apply ite_keeps

theorem State.applyPend_keeps {k s : State} (hs : Keeps k s) :
    Keeps k (State.applyPend s) := by
  unfold State.applyPend
  repeat' first
    | with_reducible assumption
    | with_reducible
      first | apply State.applyFull_keeps | apply State.beginApply_keeps | apply modImg_keeps | apply State.joinNow_keeps
    | split

theorem State.startPend_keeps {k s : State} (hs : Keeps k s) :
    Keeps k (State.startPend s).1 := by
  unfold State.startPend
  repeat' first
    | with_reducible assumption
    | (intro st; refine Keeps.cut (x := st) ?_ ?_; (focus (unfold st; try clear st)); rotate_left; intro hst; clear_value st)
    | intro _
    | with_reducible
      first | apply modImg_keeps | apply State.beginLoad_keeps | apply State.startFills_keeps | apply State.setMark_keeps
            | apply State.sigFail_keeps | apply State.cfgEvt_keeps | apply State.log_keeps | apply State.postRecord?_keeps
            | apply State.patchApplied_keeps | apply State.modBank_keeps
    | (lift_lets; intro st; refine Keeps.cut (x := st) ?_ ?_; (focus (unfold st; try clear st)); rotate_left; intro hst; clear_value st)
    | (lift_lets; intro st; clear_value st)
    | split

theorem State.selectImage_keeps {k s : State} (hs : Keeps k s) :
    Keeps k (State.selectImage s) := by
  unfold State.selectImage
  repeat' first
    | with_reducible assumption
    | with_reducible
      first | apply modImg_keeps | apply modLeat_keeps | apply modRst_keeps | apply State.modBank_keeps
            | apply State.startPend_keeps | apply State.tryActive_keeps | apply ite_keeps
    | split

theorem State.logCause_keeps {k s : State} (hs : Keeps k s) :
    Keeps k (State.logCause s) := by
  unfold State.logCause
  repeat' first
    | with_reducible assumption
    | with_reducible
      first | apply modRst_keeps | apply State.log_keeps | apply ite_keeps

theorem State.tripReport_keeps {k s : State} (hs : Keeps k s) :
    Keeps k (State.tripReport s) := by
  unfold State.tripReport
  repeat' first
    | with_reducible assumption
    | with_reducible
      first | apply State.thmEvt_keeps | apply State.log_keeps | apply modThm_keeps | apply ite_keeps

theorem State.startUp_keeps {k s : State} (hs : Keeps k s) :
    Keeps k (State.startUp s) := by
  unfold State.startUp
  repeat' first
    | with_reducible assumption
    | with_reducible
      first | apply State.selectImage_keeps | apply State.tripReport_keeps | apply State.logCause_keeps | apply ite_keeps

theorem State.bankStart_keeps {k s : State} (hs : Keeps k s) (a1) :
    Keeps k (State.bankStart a1 s) := by
  unfold State.bankStart
  repeat' first
    | with_reducible assumption
    | with_reducible
      first | apply modIo_keeps | apply emit_keeps | apply ite_keeps

theorem State.supplyCheck_keeps {k s : State} {a1 : State → State} (ha1 : ∀ u, Keeps k u → Keeps k (a1 u)) (hs : Keeps k s) (a2 a3) :
    Keeps k (State.supplyCheck a1 a2 a3 s) := by
  unfold State.supplyCheck
  repeat' first
    | with_reducible assumption
    | (intro st; refine Keeps.cut (x := st) ?_ ?_; (focus (unfold st; try clear st)); rotate_left; intro hst; clear_value st)
    | (intro st; clear_value st)
    | exact id
    | intro _
    | with_reducible
      first | apply ha1 | apply State.log_keeps | apply modIo_keeps | apply ite_keeps | apply dite_keeps | apply ite_fst
            | apply foldl_keeps | apply foldl_pair
    | (lift_lets; intro st; refine Keeps.cut (x := st) ?_ ?_; (focus (unfold st; try clear st)); rotate_left; intro hst; clear_value st)
    | (lift_lets; intro st; clear_value st)
    | split
    | exact rfl
    | ((try dsimp only); with_reducible first | apply wf_tset | apply wf_tsetAll | apply wf_tdrop)
    | exact Nat.zero_le _
    | (refine keeps_fst (by with_reducible assumption) ?_)

theorem State.bankSupply_keeps {k s : State} (hs : Keeps k s) (a1 a2) :
    Keeps k (State.bankSupply a1 a2 s) := by
  unfold State.bankSupply
  repeat' first
    | with_reducible assumption
    | (intro st; refine Keeps.cut (x := st) ?_ ?_; (focus (unfold st; try clear st)); rotate_left; intro hst; clear_value st)
    | (intro st; clear_value st)
    | exact id
    | intro _
    | with_reducible
      first | apply State.supplyCheck_keeps | apply State.bankStart_keeps | apply ite_keeps | apply dite_keeps | apply ite_fst
            | apply foldl_keeps | apply foldl_pair
    | (lift_lets; intro st; refine Keeps.cut (x := st) ?_ ?_; (focus (unfold st; try clear st)); rotate_left; intro hst; clear_value st)
    | (lift_lets; intro st; clear_value st)
    | split
    | exact rfl
    | ((try dsimp only); with_reducible first | apply wf_tset | apply wf_tsetAll | apply wf_tdrop)
    | exact Nat.zero_le _
    | (refine keeps_fst (by with_reducible assumption) ?_)

theorem State.bankReturn_keeps {k s : State} (hs : Keeps k s) (a1 a2) :
    Keeps k (State.bankReturn a1 a2 s) := by
  unfold State.bankReturn
  repeat' first
    | with_reducible assumption
    | (intro st; refine Keeps.cut (x := st) ?_ ?_; (focus (unfold st; try clear st)); rotate_left; intro hst; clear_value st)
    | (intro st; clear_value st)
    | exact id
    | intro _
    | with_reducible
      first | apply State.supplyCheck_keeps | apply modIo_keeps | apply ite_keeps | apply dite_keeps | apply ite_fst
            | apply foldl_keeps | apply foldl_pair
    | (lift_lets; intro st; refine Keeps.cut (x := st) ?_ ?_; (focus (unfold st; try clear st)); rotate_left; intro hst; clear_value st)
    | (lift_lets; intro st; clear_value st)
    | split
    | exact rfl
    | ((try dsimp only); with_reducible first | apply wf_tset | apply wf_tsetAll | apply wf_tdrop)
    | exact Nat.zero_le _
    | (refine keeps_fst (by with_reducible assumption) ?_)

theorem State.acquireStanding_keeps {k s : State} (hs : Keeps k s) :
    Keeps k (State.acquireStanding s) := by
  unfold State.acquireStanding
  repeat' first
    | with_reducible assumption
    | intro _
    | with_reducible
      first | apply modLeat_keeps | apply State.modNode_keeps | apply State.swapOfftake_keeps | apply ite_keeps | apply foldl_keeps

theorem State.releaseDone_keeps {k s : State} (hs : Keeps k s) :
    Keeps k (State.releaseDone s) := by
  unfold State.releaseDone
  repeat' first
    | with_reducible assumption
    | with_reducible
      first | apply State.acquireStanding_keeps | apply modImg_keeps | apply State.trainAll_keeps | apply State.clearHold_keeps
            | apply State.lengthCheck_keeps | apply ite_keeps

theorem State.releaseStep_keeps {k s : State} (hs : Keeps k s) (a1) :
    Keeps k (State.releaseStep a1 s) := by
  unfold State.releaseStep
  repeat' first
    | with_reducible assumption
    | intro _
    | with_reducible
      first | apply State.bankSupply_keeps | apply modFab_keeps | apply modImg_keeps | apply State.releaseDone_keeps
            | apply ite_keeps | apply foldl_keeps

end Sys2Proof.Machine
end

