-- ==== Sys2Proof/Laws/KeepsHostPorts.lean ====
section
/-! SUPPORT. What the operations of HostPorts.lean keep (Keeps.lean). -/
set_option linter.unusedTactic false
set_option linter.unreachableTactic false
set_option linter.unusedVariables false
namespace Sys2Proof.Machine

theorem State.mbxWrite_keeps {k s : State} (hs : Keeps k s) (a1 a2 a3) :
    Keeps k (State.mbxWrite a1 a2 a3 s) := by
  unfold State.mbxWrite
  repeat' first
    | with_reducible assumption
    | with_reducible
      first | apply modPort_keeps | apply ite_keeps

theorem State.doorbell_keeps {k s : State} (hs : Keeps k s) (a1 a2) :
    Keeps k (State.doorbell a1 a2 s) := by
  unfold State.doorbell
  repeat' first
    | with_reducible assumption
    | with_reducible
      first | apply modPort_keeps | apply ite_keeps

theorem execMgmtCommand_keeps {k s : State} (hs : Keeps k s) (a1 a2) :
    OutKeeps k (execMgmtCommand a1 a2 s) := by
  unfold execMgmtCommand
  repeat' first
    | with_reducible assumption
    | with_reducible
      first | apply next_keeps | apply State.mgmtTake_keeps | apply State.modLink_keeps | apply modPort_keeps
    | split

theorem State.forwarded_keeps {k s : State} (hs : Keeps k s) (a1 a2 a3) :
    Keeps k (State.forwarded a1 a2 a3 s) := by
  unfold State.forwarded
  repeat' first
    | with_reducible assumption
    | exact id
    | with_reducible
      first | apply modLk_keeps | apply State.postRecord_keeps | apply modPort_keeps | apply ite_keeps

theorem execMgmtReply_keeps {k s : State} (hs : Keeps k s) (a1 a2) :
    OutKeeps k (execMgmtReply a1 a2 s) := by
  unfold execMgmtReply
  repeat' first
    | with_reducible assumption
    | with_reducible
      first | apply next_keeps | apply State.mgmtTake_keeps | apply State.forwarded_keeps
    | split

theorem execMgmtRecord_keeps {k s : State} (hs : Keeps k s) (a1 a2) :
    OutKeeps k (execMgmtRecord a1 a2 s) := by
  unfold execMgmtRecord
  repeat' first
    | with_reducible assumption
    | with_reducible
      first | apply next_keeps | apply State.mgmtTake_keeps | apply State.forwarded_keeps
    | split

theorem execForwardTimeout_keeps {k s : State} (hs : Keeps k s) (a1) :
    OutKeeps k (execForwardTimeout a1 s) := by
  unfold execForwardTimeout
  repeat' first
    | with_reducible assumption
    | exact id
    | with_reducible
      first | apply next_keeps | apply State.postRecord_keeps | apply modLk_keeps
    | split

theorem State.pecFailed_keeps {k s : State} (hs : Keeps k s) (a1) :
    Keeps k (State.pecFailed a1 s) := by
  unfold State.pecFailed
  repeat' first
    | with_reducible assumption
    | with_reducible
      first | apply modHost_keeps | apply emit_keeps | apply ite_keeps

theorem State.smbWrite_keeps {k s : State} (hs : Keeps k s) (a1 a2 a3 a4) :
    Keeps k (State.smbWrite a1 a2 a3 a4 s) := by
  unfold State.smbWrite
  repeat' first
    | with_reducible assumption
    | with_reducible
      first | apply emit_keeps | apply modPort_keeps | apply State.pecFailed_keeps | apply ite_keeps

theorem execSmbusReq_keeps {k s : State} (hs : Keeps k s) (a1 a2) :
    OutKeeps k (execSmbusReq a1 a2 s) := by
  unfold execSmbusReq
  repeat' first
    | with_reducible assumption
    | with_reducible
      first | apply next_keeps | apply State.smbWrite_keeps

theorem execSmbusReqEnd_keeps {k s : State} (hs : Keeps k s) (a1 a2) :
    OutKeeps k (execSmbusReqEnd a1 a2 s) := by
  unfold execSmbusReqEnd
  repeat' first
    | with_reducible assumption
    | with_reducible
      first | apply next_keeps | apply State.smbWrite_keeps

theorem execSmbusAbort_keeps {k s : State} (hs : Keeps k s) (a1 a2) :
    OutKeeps k (execSmbusAbort a1 a2 s) := by
  unfold execSmbusAbort
  repeat' first
    | with_reducible assumption
    | with_reducible
      first | apply next_keeps | apply State.pecFailed_keeps | apply modPort_keeps | apply ite_keeps

theorem State.smbSend_keeps {k s : State} (hs : Keeps k s) (a1 a2) :
    Keeps k (State.smbSend a1 a2 s) := by
  unfold State.smbSend
  repeat' first
    | with_reducible assumption
    | with_reducible
      first | apply emit_keeps

theorem execSmbusReply_keeps {k s : State} (hs : Keeps k s) :
    OutKeeps k (execSmbusReply s) := by
  unfold execSmbusReply
  repeat' first
    | with_reducible assumption
    | with_reducible
      first | apply next_keeps | apply State.smbSend_keeps | apply modPort_keeps | apply ite_keeps

theorem execSmbusRecord_keeps {k s : State} (hs : Keeps k s) :
    OutKeeps k (execSmbusRecord s) := by
  unfold execSmbusRecord
  repeat' first
    | with_reducible assumption
    | with_reducible
      first | apply next_keeps | apply State.smbSend_keeps | apply modPort_keeps
    | split

theorem execSmbusStatus_keeps {k s : State} (hs : Keeps k s) :
    OutKeeps k (execSmbusStatus s) := by
  unfold execSmbusStatus
  repeat' first
    | with_reducible assumption
    | with_reducible
      first | apply next_keeps | apply State.smbSend_keeps | apply ite_keeps

theorem execSmbusAlertResponse_keeps {k s : State} (hs : Keeps k s) :
    OutKeeps k (execSmbusAlertResponse s) := by
  unfold execSmbusAlertResponse
  repeat' first
    | with_reducible assumption
    | with_reducible
      first | apply next_keeps | apply emit_keeps | apply modHost_keeps | apply ite_keeps

theorem execSmbusTimeout_keeps {k s : State} (hs : Keeps k s) :
    OutKeeps k (execSmbusTimeout s) := by
  unfold execSmbusTimeout
  repeat' first
    | with_reducible assumption
    | with_reducible
      first | apply next_keeps

theorem State.loadIr_keeps {k s : State} (hs : Keeps k s) (a1) :
    Keeps k (State.loadIr a1 s) := by
  unfold State.loadIr
  repeat' first
    | with_reducible assumption
    | with_reducible
      first | apply modHost_keeps | apply emit_keeps

theorem execJtagCmd_keeps {k s : State} (hs : Keeps k s) :
    OutKeeps k (execJtagCmd s) := by
  unfold execJtagCmd
  repeat' first
    | with_reducible assumption
    | with_reducible
      first | apply next_keeps | apply State.loadIr_keeps

theorem State.jtagWord_keeps {k s : State} (hs : Keeps k s) (a1 a2) :
    Keeps k (State.jtagWord a1 a2 s) := by
  unfold State.jtagWord
  repeat' first
    | with_reducible assumption
    | with_reducible
      first | apply modPort_keeps | apply ite_keeps

theorem execJtagRequestWord_keeps {k s : State} (hs : Keeps k s) (a1) :
    OutKeeps k (execJtagRequestWord a1 s) := by
  unfold execJtagRequestWord
  repeat' first
    | with_reducible assumption
    | with_reducible
      first | apply next_keeps | apply State.jtagWord_keeps

theorem execJtagLastWord_keeps {k s : State} (hs : Keeps k s) (a1) :
    OutKeeps k (execJtagLastWord a1 s) := by
  unfold execJtagLastWord
  repeat' first
    | with_reducible assumption
    | with_reducible
      first | apply next_keeps | apply State.jtagWord_keeps

theorem execJtagAdvance_keeps {k s : State} (hs : Keeps k s) :
    OutKeeps k (execJtagAdvance s) := by
  unfold execJtagAdvance
  repeat' first
    | with_reducible assumption
    | with_reducible
      first | apply next_keeps | apply modPort_keeps | apply ite_keeps

theorem execJtagCapture_keeps {k s : State} (hs : Keeps k s) :
    OutKeeps k (execJtagCapture s) := by
  unfold execJtagCapture
  repeat' first
    | with_reducible assumption
    | with_reducible
      first | apply next_keeps | apply freshen_keeps | apply emit_keeps | apply modHost_keeps | apply ite_keeps

theorem State.loadDrive_keeps {k s : State} (hs : Keeps k s) (a1) :
    Keeps k (State.loadDrive a1 s) := by
  unfold State.loadDrive
  repeat' first
    | with_reducible assumption
    | with_reducible
      first | apply State.loadIr_keeps

theorem execExtest_keeps {k s : State} (hs : Keeps k s) :
    OutKeeps k (execExtest s) := by
  unfold execExtest
  repeat' first
    | with_reducible assumption
    | with_reducible
      first | apply next_keeps | apply State.loadDrive_keeps

theorem execSamplePreload_keeps {k s : State} (hs : Keeps k s) (a1) :
    OutKeeps k (execSamplePreload a1 s) := by
  unfold execSamplePreload
  repeat' first
    | with_reducible assumption
    | with_reducible
      first | apply next_keeps | apply modHost_keeps | apply State.loadIr_keeps

theorem execClamp_keeps {k s : State} (hs : Keeps k s) :
    OutKeeps k (execClamp s) := by
  unfold execClamp
  repeat' first
    | with_reducible assumption
    | with_reducible
      first | apply next_keeps | apply State.loadDrive_keeps

theorem execHighz_keeps {k s : State} (hs : Keeps k s) :
    OutKeeps k (execHighz s) := by
  unfold execHighz
  repeat' first
    | with_reducible assumption
    | with_reducible
      first | apply next_keeps | apply State.loadDrive_keeps

theorem execIdcode_keeps {k s : State} (hs : Keeps k s) :
    OutKeeps k (execIdcode s) := by
  unfold execIdcode
  repeat' first
    | with_reducible assumption
    | with_reducible
      first | apply next_keeps | apply emit_keeps | apply State.loadIr_keeps

theorem execUsercode_keeps {k s : State} (hs : Keeps k s) :
    OutKeeps k (execUsercode s) := by
  unfold execUsercode
  repeat' first
    | with_reducible assumption
    | with_reducible
      first | apply next_keeps | apply emit_keeps | apply State.loadIr_keeps

theorem execBypass_keeps {k s : State} (hs : Keeps k s) (a1) :
    OutKeeps k (execBypass a1 s) := by
  unfold execBypass
  repeat' first
    | with_reducible assumption
    | with_reducible
      first | apply next_keeps | apply State.loadIr_keeps | apply ite_keeps

theorem execTapReset_keeps {k s : State} (hs : Keeps k s) :
    OutKeeps k (execTapReset s) := by
  unfold execTapReset
  repeat' first
    | with_reducible assumption
    | with_reducible
      first | apply next_keeps | apply modHost_keeps

theorem State.mbxTail_keeps {k s : State} (hs : Keeps k s) (a1 a2) :
    Keeps k (State.mbxTail a1 a2 s) := by
  unfold State.mbxTail
  repeat' first
    | with_reducible assumption
    | (intro st; refine Keeps.cut (x := st) ?_ ?_; (focus (unfold st; try clear st)); rotate_left; intro hst; clear_value st)
    | (intro st; clear_value st)
    | exact id
    | intro _
    | with_reducible
      first | apply modPort_keeps | apply ite_keeps | apply dite_keeps | apply ite_fst | apply foldl_keeps | apply foldl_pair
    | (lift_lets; intro st; refine Keeps.cut (x := st) ?_ ?_; (focus (unfold st; try clear st)); rotate_left; intro hst; clear_value st)
    | (lift_lets; intro st; clear_value st)
    | split
    | exact rfl
    | ((try dsimp only); with_reducible first | apply wf_tset | apply wf_tsetAll | apply wf_tdrop)
    | exact Nat.zero_le _
    | (refine keeps_fst (by with_reducible assumption) ?_)

theorem execMbxDoorbell_keeps {k s : State} (hs : Keeps k s) (a1 a2 a3 a4) :
    OutKeeps k (execMbxDoorbell a1 a2 a3 a4 s) := by
  unfold execMbxDoorbell
  repeat' first
    | with_reducible assumption
    | with_reducible
      first | apply next_keeps | apply State.doorbell_keeps | apply State.mbxWrite_keeps | apply State.mbxTail_keeps
            | apply ite_keeps

end Sys2Proof.Machine
end

