-- ==== Sys2Proof/Laws/KeepsRegRead.lean ====
section
/-! SUPPORT. What the operations of RegRead.lean keep (Keeps.lean). -/
set_option linter.unusedTactic false
set_option linter.unreachableTactic false
set_option linter.unusedVariables false
namespace Sys2Proof.Machine

theorem State.csrLast_keeps {k s : State} (hs : Keeps k s) (a1 a2 a3) :
    Keeps k (State.csrLast a1 a2 a3 s) := by
  unfold State.csrLast
  repeat' first
    | with_reducible assumption
    | with_reducible
      first | apply modHost_keeps

theorem State.readLatch_keeps {k s : State} (hs : Keeps k s) (a1) :
    Keeps k (State.readLatch a1 s) := by
  unfold State.readLatch
  repeat' first
    | with_reducible assumption
    | with_reducible
      first | apply modWin_keeps | apply freshen_keeps | apply State.modCtl_keeps | apply ite_keeps

theorem State.csrRead_keeps {k s : State} (hs : Keeps k s) (a1 a2) :
    Keeps k (State.csrRead a1 a2 s).1 := by
  unfold State.csrRead
  repeat' first
    | with_reducible assumption
    | with_reducible
      first | apply State.csrLast_keeps | apply modHost_keeps | apply State.readLatch_keeps
    | split

end Sys2Proof.Machine
end

