-- ==== Sys2Proof/Laws/KeepsHostBus.lean ====
section
/-! SUPPORT. What the operations of HostBus.lean keep (Keeps.lean). -/
set_option linter.unusedTactic false
set_option linter.unreachableTactic false
set_option linter.unusedVariables false
namespace Sys2Proof.Machine

theorem State.stageAbort_keeps {k s : State} (hs : Keeps k s) (a1) :
    Keeps k (State.stageAbort a1 s) := by
  unfold State.stageAbort
  repeat' first
    | with_reducible assumption
    | with_reducible
      first | apply State.postRecord_keeps | apply modHost_keeps | apply modImg_keeps
    | split

theorem State.endpointReset_keeps {k s : State} (hs : Keeps k s) :
    Keeps k (State.endpointReset s) := by
  unfold State.endpointReset
  repeat' first
    | with_reducible assumption
    | with_reducible
      first | apply modHost_keeps | apply State.modNode_keeps | apply State.stageAbort_keeps | apply State.flumeHostReset_keeps
            | apply State.windowReset_keeps

theorem State.stageNext_keeps {k s : State} (hs : Keeps k s) :
    Keeps k (State.stageNext s) := by
  unfold State.stageNext
  repeat' first
    | with_reducible assumption
    | with_reducible
      first | apply modImg_keeps | apply State.stageAbort_keeps | apply State.hostGet_keeps
    | split

theorem State.writeStaged_keeps {k s : State} (hs : Keeps k s) (a1 a2) :
    Keeps k (State.writeStaged a1 a2 s) := by
  unfold State.writeStaged
  repeat' first
    | with_reducible assumption
    | with_reducible
      first | apply State.modBank_keeps

theorem State.stageBytes_keeps {k s : State} (hs : Keeps k s) (a1 a2) :
    Keeps k (State.stageBytes a1 a2 s) := by
  unfold State.stageBytes
  repeat' first
    | with_reducible assumption
    | with_reducible
      first | apply State.stageAbort_keeps | apply State.stageNext_keeps | apply State.writeStaged_keeps | apply ite_keeps

theorem State.hostDeliver_keeps {k s : State} (hs : Keeps k s) (a1 a2) :
    Keeps k (State.hostDeliver a1 a2 s) := by
  unfold State.hostDeliver
  repeat' first
    | with_reducible assumption
    | with_reducible
      first | apply modHost_keeps | apply State.windowBytes_keeps | apply State.flumeBytes_keeps | apply State.stageBytes_keeps
    | (lift_lets; intro st; refine Keeps.cut (x := st) ?_ ?_; (focus (unfold st; try clear st)); rotate_left; intro hst; clear_value st)
    | split

theorem State.hostError_keeps {k s : State} (hs : Keeps k s) (a1) :
    Keeps k (State.hostError a1 s) := by
  unfold State.hostError
  repeat' first
    | with_reducible assumption
    | with_reducible
      first | apply State.hostDeliver_keeps

theorem execHostCompletion_keeps {k s : State} (hs : Keeps k s) (a1 a2 a3 a4) :
    OutKeeps k (execHostCompletion a1 a2 a3 a4 s) := by
  unfold execHostCompletion
  repeat' first
    | with_reducible assumption
    | with_reducible
      first | apply next_keeps | apply State.hostDeliver_keeps | apply modHost_keeps | apply State.hostError_keeps | apply ite_keeps
    | split

theorem execCompletionTimeout_keeps {k s : State} (hs : Keeps k s) (a1) :
    OutKeeps k (execCompletionTimeout a1 s) := by
  unfold execCompletionTimeout
  repeat' first
    | with_reducible assumption
    | with_reducible
      first | apply next_keeps | apply State.hostError_keeps | apply modHost_keeps
    | split

theorem execPcieReset_keeps {k s : State} (hs : Keeps k s) (a1) :
    OutKeeps k (execPcieReset a1 s) := by
  unfold execPcieReset
  repeat' first
    | with_reducible assumption
    | with_reducible
      first | apply next_keeps | apply State.log_keeps | apply modHost_keeps | apply State.endpointReset_keeps

theorem State.mailboxReset_keeps {k s : State} (hs : Keeps k s) (a1) :
    Keeps k (State.mailboxReset a1 s) := by
  unfold State.mailboxReset
  repeat' first
    | with_reducible assumption
    | exact id
    | with_reducible
      first | apply modPort_keeps | apply modLk_keeps | apply modClk_keeps

theorem execFunctionLevelReset_keeps {k s : State} (hs : Keeps k s) (a1) :
    OutKeeps k (execFunctionLevelReset a1 s) := by
  unfold execFunctionLevelReset
  repeat' first
    | with_reducible assumption
    | with_reducible
      first | apply next_keeps | apply State.log_keeps | apply State.mailboxReset_keeps | apply State.modFunc_keeps

theorem execD3hotEntry_keeps {k s : State} (hs : Keeps k s) (a1) :
    OutKeeps k (execD3hotEntry a1 s) := by
  unfold execD3hotEntry
  repeat' first
    | with_reducible assumption
    | with_reducible
      first | apply next_keeps | apply State.modFunc_keeps

theorem State.sendPending_keeps {k s : State} (hs : Keeps k s) (a1) :
    Keeps k (State.sendPending a1 s) := by
  unfold State.sendPending
  repeat' first
    | with_reducible assumption
    | intro _
    | with_reducible
      first | apply emit_keeps | apply State.modFunc_keeps | apply ite_keeps | apply foldl_keeps

theorem execPcieLinkUp_keeps {k s : State} (hs : Keeps k s) (a1 a2 a3 a4) :
    OutKeeps k (execPcieLinkUp a1 a2 a3 a4 s) := by
  unfold execPcieLinkUp
  repeat' first
    | with_reducible assumption
    | with_reducible
      first | apply next_keeps | apply State.sendPending_keeps | apply modHost_keeps | apply ite_keeps

theorem execMsixUnmask_keeps {k s : State} (hs : Keeps k s) (a1 a2) :
    OutKeeps k (execMsixUnmask a1 a2 s) := by
  unfold execMsixUnmask
  repeat' first
    | with_reducible assumption
    | with_reducible
      first | apply next_keeps | apply State.sendPending_keeps | apply State.modFunc_keeps
    | split

end Sys2Proof.Machine
end

