-- ==== Sys2Proof/Laws/KeepsDomainOps.lean ====
section
/-! SUPPORT. What the operations of DomainOps.lean keep (Keeps.lean). -/
set_option linter.unusedTactic false
set_option linter.unreachableTactic false
set_option linter.unusedVariables false
namespace Sys2Proof.Machine

theorem State.quadOfftakes_keeps {k s : State} (hs : Keeps k s) (a1) :
    Keeps k (State.quadOfftakes a1 s) := by
  unfold State.quadOfftakes
  repeat' first
    | with_reducible assumption
    | intro _
    | with_reducible
      first | apply State.releaseRsv_keeps | apply State.modNode_keeps | apply ite_keeps | apply foldl_keeps

theorem State.retSave_keeps {k s : State} (hs : Keeps k s) (a1) :
    Keeps k (State.retSave a1 s) := by
  unfold State.retSave
  repeat' first
    | with_reducible assumption
    | with_reducible
      first | apply modPwr_keeps

theorem State.reloadFrames_keeps {k s : State} (hs : Keeps k s) (a1) :
    Keeps k (State.reloadFrames a1 s) := by
  unfold State.reloadFrames
  repeat' first
    | with_reducible assumption
    | intro _
    | with_reducible
      first | apply State.putFrame_keeps | apply foldl_keeps
    | split

theorem State.dropStopped_keeps {k s : State} (hs : Keeps k s) :
    Keeps k (State.dropStopped s) := by
  unfold State.dropStopped
  repeat' first
    | with_reducible assumption
    | intro _
    | with_reducible
      first | apply State.modNode_keeps | apply ite_keeps | apply foldl_keeps

theorem State.setPend_keeps {k s : State} (hs : Keeps k s) (a1 a2) :
    Keeps k (State.setPend a1 a2 s) := by
  unfold State.setPend
  repeat' first
    | with_reducible assumption
    | intro _
    | with_reducible
      first | apply State.modNode_keeps | apply foldl_keeps

theorem State.bankDown_keeps {k s : State} (hs : Keeps k s) (a1) :
    Keeps k (State.bankDown a1 s) := by
  unfold State.bankDown
  repeat' first
    | with_reducible assumption
    | with_reducible
      first | apply modIo_keeps | apply emit_keeps | apply ite_keeps

theorem State.domBegin_keeps {k s : State} (hs : Keeps k s) (a1) :
    Keeps k (State.domBegin a1 s) := by
  unfold State.domBegin
  repeat' first
    | with_reducible assumption
    | intro _
    | with_reducible
      first | apply State.quadOfftakes_keeps | apply State.retSave_keeps | apply State.linkDown_keeps | apply State.modGroup_keeps
            | apply State.endpointReset_keeps | apply modIo_keeps | apply State.bankDown_keeps | apply State.setDom_keeps
            | apply State.setHold_keeps | apply modPwr_keeps | apply ite_keeps | apply foldl_keeps

theorem State.domJudge_keeps {k s : State} (hs : Keeps k s) (a1 a2 a3) :
    Keeps k (State.domJudge a1 a2 a3 s) := by
  unfold State.domJudge
  repeat' first
    | with_reducible assumption
    | intro _
    | with_reducible
      first | apply modPwr_keeps | apply State.niEvt_keeps | apply State.log_keeps | apply State.setPend_keeps
            | apply State.postRecord?_keeps | apply State.pwrEvt_keeps | apply State.domBegin_keeps | apply ite_keeps
            | apply foldl_keeps

theorem State.domStep_keeps {k s : State} (hs : Keeps k s) (a1) :
    Keeps k (State.domStep a1 s) := by
  unfold State.domStep
  repeat' first
    | with_reducible assumption
    | intro _
    | with_reducible
      first | apply State.domJudge_keeps | apply foldl_keeps

theorem State.modDom_keeps {k s : State} (hs : Keeps k s) (a1 a2) :
    Keeps k (State.modDom a1 a2 s) := by
  unfold State.modDom
  repeat' first
    | with_reducible assumption
    | with_reducible
      first | apply modPwr_keeps

theorem State.domUp_keeps {k s : State} (hs : Keeps k s) (a1 a2) :
    Keeps k (State.domUp a1 a2 s) := by
  unfold State.domUp
  repeat' first
    | with_reducible assumption
    | with_reducible
      first | apply State.modDom_keeps | apply State.setDom_keeps | apply State.postRecord?_keeps | apply State.pwrEvt_keeps
            | apply State.log_keeps

theorem State.memUp_keeps {k s : State} (hs : Keeps k s) (a1) :
    Keeps k (State.memUp a1 s) := by
  unfold State.memUp
  repeat' first
    | with_reducible assumption
    | intro _
    | with_reducible
      first | apply State.serveAll_keeps | apply State.memRun_keeps | apply State.domUp_keeps | apply State.modCtl_keeps
            | apply ite_keeps | apply foldl_keeps

theorem State.domWake_keeps {k s : State} (hs : Keeps k s) (a1 a2) :
    Keeps k (State.domWake a1 a2 s) := by
  unfold State.domWake
  repeat' first
    | with_reducible assumption
    | with_reducible
      first | apply State.wakeMem_keeps | apply State.setDom_keeps | apply State.modDom_keeps | apply ite_keeps

theorem State.powerSettle_keeps {k s : State} (hs : Keeps k s) :
    Keeps k (State.powerSettle s) := by
  unfold State.powerSettle
  repeat' first
    | with_reducible assumption
    | with_reducible
      first | apply State.clearHold_keeps | apply ite_keeps

theorem State.domEnd_keeps {k s : State} (hs : Keeps k s) (a1) :
    Keeps k (State.domEnd a1 s) := by
  unfold State.domEnd
  repeat' first
    | with_reducible assumption
    | with_reducible
      first | apply modPwr_keeps | apply State.setPend_keeps | apply State.powerSettle_keeps | apply State.postRecord?_keeps
            | apply State.pwrEvt_keeps | apply State.log_keeps | apply State.memRun_keeps | apply State.memLeave_keeps
            | apply State.setDom_keeps | apply State.modDom_keeps | apply ite_keeps

theorem State.retRestore_keeps {k s : State} (hs : Keeps k s) (a1 a2) :
    Keeps k (State.retRestore a1 a2 s) := by
  unfold State.retRestore
  repeat' first
    | with_reducible assumption
    | with_reducible
      first | apply modFab_keeps

theorem State.quadRestore_keeps {k s : State} (hs : Keeps k s) (a1 a2) :
    Keeps k (State.quadRestore a1 a2 s) := by
  unfold State.quadRestore
  repeat' first
    | with_reducible assumption
    | intro _
    | with_reducible
      first | apply State.reloadPlots_keeps | apply modFab_keeps | apply State.retRestore_keeps | apply State.reloadFrames_keeps
            | apply foldl_keeps
    | split

theorem State.retReport_keeps {k s : State} (hs : Keeps k s) (a1) :
    Keeps k (State.retReport a1 s) := by
  unfold State.retReport
  repeat' first
    | with_reducible assumption
    | with_reducible
      first | apply modPwr_keeps | apply State.pwrEvt_keeps | apply State.log_keeps | apply ite_keeps

theorem State.quadUp_keeps {k s : State} (hs : Keeps k s) (a1 a2) :
    Keeps k (State.quadUp a1 a2 s) := by
  unfold State.quadUp
  repeat' first
    | with_reducible assumption
    | with_reducible
      first | apply State.quadRestore_keeps | apply modPwr_keeps | apply State.acquireStanding_keeps | apply State.domUp_keeps
            | apply State.retReport_keeps

end Sys2Proof.Machine
end

