-- ==== Sys2Proof/Laws/KeepsSleep.lean ====
section
/-! SUPPORT. What the operations of Sleep.lean keep (Keeps.lean). -/
set_option linter.unusedTactic false
set_option linter.unreachableTactic false
set_option linter.unusedVariables false
namespace Sys2Proof.Machine

theorem State.sleepWithdraw_keeps {k s : State} (hs : Keeps k s) :
    Keeps k (State.sleepWithdraw s) := by
  unfold State.sleepWithdraw
  repeat' first
    | with_reducible assumption
    | with_reducible
      first | apply State.postRecord?_keeps | apply State.pwrEvt_keeps | apply modPwr_keeps
    | split

theorem State.sleepBegin_keeps {k s : State} (hs : Keeps k s) (a1) :
    Keeps k (State.sleepBegin a1 s) := by
  unfold State.sleepBegin
  repeat' first
    | with_reducible assumption
    | intro _
    | with_reducible
      first | apply State.quadOfftakes_keeps | apply State.retSave_keeps | apply State.setHold_keeps | apply modPwr_keeps
            | apply ite_keeps | apply foldl_keeps

theorem State.sleepStep_keeps {k s : State} (hs : Keeps k s) (a1) :
    Keeps k (State.sleepStep a1 s) := by
  unfold State.sleepStep
  repeat' first
    | with_reducible assumption
    | with_reducible
      first | apply State.sleepBegin_keeps | apply State.sleepWithdraw_keeps | apply State.log_keeps | apply modPwr_keeps
            | apply ite_keeps
    | split

theorem State.sleepRequest_keeps {k s : State} (hs : Keeps k s) (a1 a2) :
    Keeps k (State.sleepRequest a1 a2 s) := by
  unfold State.sleepRequest
  repeat' first
    | with_reducible assumption
    | with_reducible
      first | apply modPwr_keeps | apply State.sleepWithdraw_keeps | apply State.sleepStep_keeps | apply ite_keeps

theorem State.wakeHeld_keeps {k s : State} (hs : Keeps k s) :
    Keeps k (State.wakeHeld s) := by
  unfold State.wakeHeld
  repeat' first
    | with_reducible assumption
    | with_reducible
      first | apply modPwr_keeps | apply emit_keeps | apply ite_keeps
    | split

theorem State.wakeBy_keeps {k s : State} (hs : Keeps k s) (a1 a2) :
    Keeps k (State.wakeBy a1 a2 s) := by
  unfold State.wakeBy
  repeat' first
    | with_reducible assumption
    | with_reducible
      first | apply emit_keeps | apply modPwr_keeps | apply State.wakeHeld_keeps | apply ite_keeps
    | split

theorem execMemoryWakeComplete_keeps {k s : State} (hs : Keeps k s) (a1) :
    OutKeeps k (execMemoryWakeComplete a1 s) := by
  unfold execMemoryWakeComplete
  repeat' first
    | with_reducible assumption
    | with_reducible
      first | apply next_keeps | apply State.memUp_keeps | apply ite_keeps

theorem execD3hotExit_keeps {k s : State} (hs : Keeps k s) (a1) :
    OutKeeps k (execD3hotExit a1 s) := by
  unfold execD3hotExit
  repeat' first
    | with_reducible assumption
    | with_reducible
      first | apply next_keeps | apply State.sendPending_keeps | apply State.modFunc_keeps | apply State.wakeBy_keeps
            | apply ite_keeps

theorem execSmbusAddressMatch_keeps {k s : State} (hs : Keeps k s) (a1) :
    OutKeeps k (execSmbusAddressMatch a1 s) := by
  unfold execSmbusAddressMatch
  repeat' first
    | with_reducible assumption
    | with_reducible
      first | apply next_keeps | apply State.wakeBy_keeps | apply ite_keeps

theorem State.otherUp_keeps {k s : State} (hs : Keeps k s) (a1 a2) :
    Keeps k (State.otherUp a1 a2 s) := by
  unfold State.otherUp
  repeat' first
    | with_reducible assumption
    | intro _
    | with_reducible
      first | apply State.memUp_keeps | apply State.domUp_keeps | apply State.bankReturn_keeps | apply State.modGroup_keeps
            | apply State.train_keeps | apply ite_keeps | apply foldl_keeps

theorem execDomainChangeComplete_keeps {k s : State} (hs : Keeps k s) (a1 a2) :
    OutKeeps k (execDomainChangeComplete a1 a2 s) := by
  unfold execDomainChangeComplete
  repeat' first
    | with_reducible assumption
    | with_reducible
      first | apply next_keeps | apply State.domEnd_keeps | apply State.otherUp_keeps
    | split

theorem State.entryFails_keeps {k s : State} (hs : Keeps k s) (a1) :
    Keeps k (State.entryFails a1 s) := by
  unfold State.entryFails
  repeat' first
    | with_reducible assumption
    | with_reducible
      first | apply modPwr_keeps | apply State.powerSettle_keeps | apply State.acquireStanding_keeps | apply State.postRecord?_keeps
            | apply State.pwrEvt_keeps | apply State.log_keeps

theorem State.domDown_keeps {k s : State} (hs : Keeps k s) (a1 a2) :
    Keeps k (State.domDown a1 a2 s) := by
  unfold State.domDown
  repeat' first
    | with_reducible assumption
    | with_reducible
      first | apply State.modDom_keeps | apply State.memLeave_keeps | apply State.setDom_keeps | apply ite_keeps

theorem State.domsDown_keeps {k s : State} (hs : Keeps k s) (a1) :
    Keeps k (State.domsDown a1 s) := by
  unfold State.domsDown
  repeat' first
    | with_reducible assumption
    | intro _
    | with_reducible
      first | apply State.domDown_keeps | apply foldl_keeps
    | split

theorem State.deepClocks_keeps {k s : State} (hs : Keeps k s) :
    Keeps k (State.deepClocks s) := by
  unfold State.deepClocks
  repeat' first
    | with_reducible assumption
    | with_reducible
      first | apply modClk_keeps | apply State.muxSwitch_keeps | apply ite_keeps

theorem execSleepEntryComplete_keeps {k s : State} (hs : Keeps k s) :
    OutKeeps k (execSleepEntryComplete s) := by
  unfold execSleepEntryComplete
  repeat' first
    | with_reducible assumption
    | intro _
    | with_reducible
      first | apply next_keeps | apply State.domEnd_keeps | apply State.entryFails_keeps | apply State.domsDown_keeps
            | apply State.deepClocks_keeps | apply State.memLeave_keeps | apply emit_keeps | apply modPwr_keeps
            | apply State.postRecord?_keeps | apply State.pwrEvt_keeps | apply State.log_keeps | apply State.wakeHeld_keeps
            | apply foldl_keeps
    | (lift_lets; intro st; refine Keeps.cut (x := st) ?_ ?_; (focus (unfold st; try clear st)); rotate_left; intro hst; clear_value st)
    | split

theorem execWakeTimer_keeps {k s : State} (hs : Keeps k s) :
    OutKeeps k (execWakeTimer s) := by
  unfold execWakeTimer
  repeat' first
    | with_reducible assumption
    | with_reducible
      first | apply next_keeps | apply State.wakeBy_keeps | apply ite_keeps

theorem State.wakeEnd_keeps {k s : State} (hs : Keeps k s) (a1 a2) :
    Keeps k (State.wakeEnd a1 a2 s) := by
  unfold State.wakeEnd
  repeat' first
    | with_reducible assumption
    | with_reducible
      first | apply modPwr_keeps | apply State.pwrEvt_keeps | apply State.log_keeps | apply State.powerSettle_keeps
            | apply State.postRecord?_keeps

theorem State.thermalEnd_keeps {k s : State} (hs : Keeps k s) :
    Keeps k (State.thermalEnd s) := by
  unfold State.thermalEnd
  repeat' first
    | with_reducible assumption
    | intro _
    | with_reducible
      first | apply modThm_keeps | apply State.endStop_keeps | apply State.safeEnd_keeps | apply State.pllLock_keeps
            | apply foldl_keeps

theorem State.domBack_keeps {k s : State} (hs : Keeps k s) (a1 a2) :
    Keeps k (State.domBack a1 a2 s) := by
  unfold State.domBack
  repeat' first
    | with_reducible assumption
    | intro _
    | with_reducible
      first | apply State.serveAll_keeps | apply State.memRun_keeps | apply State.quadRestore_keeps | apply State.modDom_keeps
            | apply State.setDom_keeps | apply State.memLeave_keeps | apply State.postRecord?_keeps | apply foldl_keeps
    | (lift_lets; intro st; refine Keeps.cut (x := st) ?_ ?_; (focus (unfold st; try clear st)); rotate_left; intro hst; clear_value st)
    | split

theorem execDeviceWakeComplete_keeps {k s : State} (hs : Keeps k s) (a1) :
    OutKeeps k (execDeviceWakeComplete a1 s) := by
  unfold execDeviceWakeComplete
  repeat' first
    | with_reducible assumption
    | intro _
    | with_reducible
      first | apply next_keeps | apply State.wakeEnd_keeps | apply State.thermalEnd_keeps | apply State.safeEnd_keeps
            | apply State.pllLock_keeps | apply State.domBack_keeps | apply State.retReport_keeps
            | apply State.acquireStanding_keeps | apply foldl_keeps
    | split

theorem execQuadrantWakeComplete_keeps {k s : State} (hs : Keeps k s) (a1 a2) :
    OutKeeps k (execQuadrantWakeComplete a1 a2 s) := by
  unfold execQuadrantWakeComplete
  repeat' first
    | with_reducible assumption
    | with_reducible
      first | apply next_keeps | apply State.quadUp_keeps | apply ite_keeps

theorem execPerstNRelease_keeps {k s : State} (hs : Keeps k s) :
    OutKeeps k (execPerstNRelease s) := by
  unfold execPerstNRelease
  repeat' first
    | with_reducible assumption
    | with_reducible
      first | apply next_keeps | apply modHost_keeps | apply State.wakeBy_keeps | apply ite_keeps

end Sys2Proof.Machine
end

