-- ==== Sys2Proof/Laws/KeepsRegWrite.lean ====
section
/-! SUPPORT. What the operations of RegWrite.lean keep (Keeps.lean). -/
set_option linter.unusedTactic false
set_option linter.unreachableTactic false
set_option linter.unusedVariables false
namespace Sys2Proof.Machine

theorem State.csrDrop_keeps {k s : State} (hs : Keeps k s) (a1 a2 a3 a4) :
    Keeps k (State.csrDrop a1 a2 a3 a4 s) := by
  unfold State.csrDrop
  repeat' first
    | with_reducible assumption
    | with_reducible
      first | apply State.csrLast_keeps | apply modHost_keeps

theorem State.idWrite_keeps {k s : State} (hs : Keeps k s) (a1 a2) :
    Keeps k (State.idWrite a1 a2 s) := by
  unfold State.idWrite
  repeat' first
    | with_reducible assumption
    | with_reducible
      first | apply modHost_keeps | apply ite_keeps

theorem State.mbxRegWrite_keeps {k s : State} (hs : Keeps k s) (a1 a2 a3) :
    Keeps k (State.mbxRegWrite a1 a2 a3 s) := by
  unfold State.mbxRegWrite
  repeat' first
    | with_reducible assumption
    | with_reducible
      first | apply State.mbxWrite_keeps | apply State.doorbell_keeps | apply modPort_keeps | apply ite_keeps

theorem State.refCfg_keeps {k s : State} (hs : Keeps k s) (a1 a2 a3) :
    Keeps k (State.refCfg a1 a2 a3 s) := by
  unfold State.refCfg
  repeat' first
    | with_reducible assumption
    | with_reducible
      first | apply modClk_keeps | apply State.muxSwitch_keeps | apply ite_keeps

theorem State.slcCtl_keeps {k s : State} (hs : Keeps k s) (a1 a2) :
    Keeps k (State.slcCtl a1 a2 s) := by
  unfold State.slcCtl
  repeat' first
    | with_reducible assumption
    | with_reducible
      first | apply State.modSlc_keeps | apply State.slcRequest_keeps | apply State.slcAnswer_keeps | apply ite_keeps

theorem State.clkWrite_keeps {k s : State} (hs : Keeps k s) (a1 a2) :
    Keeps k (State.clkWrite a1 a2 s) := by
  unfold State.clkWrite
  repeat' first
    | with_reducible assumption
    | with_reducible
      first | apply State.selectRef_keeps | apply State.refCfg_keeps | apply modClk_keeps | apply State.evtAssert_keeps
            | apply State.slcCtl_keeps | apply ite_keeps

theorem State.pwrCancel_keeps {k s : State} (hs : Keeps k s) :
    Keeps k (State.pwrCancel s) := by
  unfold State.pwrCancel
  repeat' first
    | with_reducible assumption
    | with_reducible
      first | apply State.sleepWithdraw_keeps | apply ite_keeps

theorem State.pwrCtl_keeps {k s : State} (hs : Keeps k s) (a1 a2) :
    Keeps k (State.pwrCtl a1 a2 s) := by
  unfold State.pwrCtl
  repeat' first
    | with_reducible assumption
    | with_reducible
      first | apply State.pwrCancel_keeps | apply State.sleepRequest_keeps | apply ite_keeps

theorem State.wakeEnable_keeps {k s : State} (hs : Keeps k s) (a1) :
    Keeps k (State.wakeEnable a1 s) := by
  unfold State.wakeEnable
  repeat' first
    | with_reducible assumption
    | with_reducible
      first | apply modPwr_keeps

theorem State.pwrWrite_keeps {k s : State} (hs : Keeps k s) (a1 a2) :
    Keeps k (State.pwrWrite a1 a2 s) := by
  unfold State.pwrWrite
  repeat' first
    | with_reducible assumption
    | with_reducible
      first | apply State.pwrCtl_keeps | apply State.wakeEnable_keeps | apply modPwr_keeps | apply State.evtAssert_keeps
            | apply ite_keeps

theorem State.thmStart_keeps {k s : State} (hs : Keeps k s) (a1) :
    Keeps k (State.thmStart a1 s) := by
  unfold State.thmStart
  repeat' first
    | with_reducible assumption
    | with_reducible
      first | apply modThm_keeps | apply ite_keeps

theorem State.thmWrite_keeps {k s : State} (hs : Keeps k s) (a1 a2) :
    Keeps k (State.thmWrite a1 a2 s) := by
  unfold State.thmWrite
  repeat' first
    | with_reducible assumption
    | with_reducible
      first | apply modThm_keeps | apply State.thmStart_keeps | apply State.evtAssert_keeps | apply ite_keeps

theorem State.flmWrite_keeps {k s : State} (hs : Keeps k s) (a1 a2) :
    Keeps k (State.flmWrite a1 a2 s) := by
  unfold State.flmWrite
  repeat' first
    | with_reducible assumption
    | with_reducible
      first | apply State.flmCtl_keeps | apply State.flmRingLo_keeps | apply State.flmRingHi_keeps | apply State.flmSize_keeps
            | apply State.flmTail_keeps | apply State.modFlmCh_keeps | apply State.evtAssert_keeps | apply ite_keeps

theorem State.niStage_keeps {k s : State} (hs : Keeps k s) (a1 a2) :
    Keeps k (State.niStage a1 a2 s) := by
  unfold State.niStage
  repeat' first
    | with_reducible assumption
    | with_reducible
      first | apply State.stagedWrite_keeps | apply State.modNode_keeps

theorem State.rteStage_keeps {k s : State} (hs : Keeps k s) (a1 a2 a3) :
    Keeps k (State.rteStage a1 a2 a3 s) := by
  unfold State.rteStage
  repeat' first
    | with_reducible assumption
    | with_reducible
      first | apply State.niStage_keeps

theorem State.otkStage_keeps {k s : State} (hs : Keeps k s) (a1 a2 a3) :
    Keeps k (State.otkStage a1 a2 a3 s) := by
  unfold State.otkStage
  repeat' first
    | with_reducible assumption
    | with_reducible
      first | apply State.niStage_keeps

theorem State.niWrite_keeps {k s : State} (hs : Keeps k s) (a1 a2 a3) :
    Keeps k (State.niWrite a1 a2 a3 s) := by
  unfold State.niWrite
  repeat' first
    | with_reducible assumption
    | with_reducible
      first | apply State.niStage_keeps | apply State.modNode_keeps | apply State.evtAssert_keeps | apply State.rteStage_keeps
            | apply State.otkStage_keeps | apply ite_keeps

theorem State.leatCommit_keeps {k s : State} (hs : Keeps k s) (a1) :
    Keeps k (State.leatCommit a1 s) := by
  unfold State.leatCommit
  repeat' first
    | with_reducible assumption
    | with_reducible
      first | apply modLeat_keeps | apply State.stagedWrite_keeps | apply State.armCommit_keeps | apply ite_keeps

theorem State.leatIsolClr_keeps {k s : State} (hs : Keeps k s) (a1) :
    Keeps k (State.leatIsolClr a1 s) := by
  unfold State.leatIsolClr
  repeat' first
    | with_reducible assumption
    | with_reducible
      first | apply State.isolClear_keeps

theorem State.leatWrite_keeps {k s : State} (hs : Keeps k s) (a1 a2) :
    Keeps k (State.leatWrite a1 a2 s) := by
  unfold State.leatWrite
  repeat' first
    | with_reducible assumption
    | with_reducible
      first | apply State.niWrite_keeps | apply State.leatCommit_keeps | apply State.svcWrite_keeps | apply State.leatIsolClr_keeps
            | apply ite_keeps

theorem State.memFill_keeps {k s : State} (hs : Keeps k s) (a1) :
    Keeps k (State.memFill a1 s) := by
  unfold State.memFill
  repeat' first
    | with_reducible assumption
    | with_reducible
      first | apply State.startFill_keeps | apply ite_keeps

theorem State.memCtlWrite_keeps {k s : State} (hs : Keeps k s) (a1 a2) :
    Keeps k (State.memCtlWrite a1 a2 s) := by
  unfold State.memCtlWrite
  repeat' first
    | with_reducible assumption
    | with_reducible
      first | apply State.modCtl_keeps | apply State.memFill_keeps | apply ite_keeps

theorem State.ctlWrite_keeps {k s : State} (hs : Keeps k s) (a1 a2 a3) :
    Keeps k (State.ctlWrite a1 a2 a3 s) := by
  unfold State.ctlWrite
  repeat' first
    | with_reducible assumption
    | with_reducible
      first | apply State.memCtlWrite_keeps | apply State.modCtl_keeps | apply State.evtAssert_keeps | apply ite_keeps

theorem State.memWrite_keeps {k s : State} (hs : Keeps k s) (a1 a2) :
    Keeps k (State.memWrite a1 a2 s) := by
  unfold State.memWrite
  repeat' first
    | with_reducible assumption
    | intro _
    | with_reducible
      first | apply State.ctlWrite_keeps | apply modMem_keeps | apply ite_keeps

theorem State.lnkCtl_keeps {k s : State} (hs : Keeps k s) (a1 a2 a3) :
    Keeps k (State.lnkCtl a1 a2 a3 s) := by
  unfold State.lnkCtl
  repeat' first
    | with_reducible assumption
    | with_reducible
      first | apply State.linkEn_keeps | apply State.linkRetrain_keeps | apply ite_keeps

theorem State.linkWrite_keeps {k s : State} (hs : Keeps k s) (a1 a2 a3) :
    Keeps k (State.linkWrite a1 a2 a3 s) := by
  unfold State.linkWrite
  repeat' first
    | with_reducible assumption
    | with_reducible
      first | apply State.lnkCtl_keeps | apply State.modLink_keeps | apply State.evtAssert_keeps | apply ite_keeps

theorem State.lanesWrite_keeps {k s : State} (hs : Keeps k s) (a1 a2) :
    Keeps k (State.lanesWrite a1 a2 s) := by
  unfold State.lanesWrite
  repeat' first
    | with_reducible assumption
    | with_reducible
      first | apply State.linkWrite_keeps | apply modLnk_keeps | apply ite_keeps

theorem State.winHold_keeps {k s : State} (hs : Keeps k s) (a1) :
    Keeps k (State.winHold a1 s) := by
  unfold State.winHold
  repeat' first
    | with_reducible assumption
    | with_reducible
      first | apply modWin_keeps | apply State.setHold_keeps | apply State.clearHold_keeps | apply ite_keeps

theorem State.winMode_keeps {k s : State} (hs : Keeps k s) (a1) :
    Keeps k (State.winMode a1 s) := by
  unfold State.winMode
  repeat' first
    | with_reducible assumption
    | with_reducible
      first | apply modWin_keeps | apply ite_keeps

theorem State.winLen_keeps {k s : State} (hs : Keeps k s) (a1) :
    Keeps k (State.winLen a1 s) := by
  unfold State.winLen
  repeat' first
    | with_reducible assumption
    | with_reducible
      first | apply modWin_keeps | apply State.recheck_keeps | apply ite_keeps

theorem State.winLead_keeps {k s : State} (hs : Keeps k s) (a1) :
    Keeps k (State.winLead a1 s) := by
  unfold State.winLead
  repeat' first
    | with_reducible assumption
    | with_reducible
      first | apply modWin_keeps | apply State.recheck_keeps | apply ite_keeps

theorem State.winWrite_keeps {k s : State} (hs : Keeps k s) (a1 a2) :
    Keeps k (State.winWrite a1 a2 s) := by
  unfold State.winWrite
  repeat' first
    | with_reducible assumption
    | with_reducible
      first | apply State.winHold_keeps | apply State.winMode_keeps | apply State.winLen_keeps | apply modWin_keeps
            | apply State.winLead_keeps | apply State.evtAssert_keeps | apply ite_keeps

theorem State.cfgWrite_keeps {k s : State} (hs : Keeps k s) (a1 a2) :
    Keeps k (State.cfgWrite a1 a2 s) := by
  unfold State.cfgWrite
  repeat' first
    | with_reducible assumption
    | with_reducible
      first | apply State.releaseGo_keeps | apply modImg_keeps | apply State.evtAssert_keeps | apply ite_keeps

theorem State.secWrite_keeps {k s : State} (hs : Keeps k s) (a1 a2) :
    Keeps k (State.secWrite a1 a2 s) := by
  unfold State.secWrite
  repeat' first
    | with_reducible assumption
    | with_reducible
      first | apply modSec_keeps | apply State.evtAssert_keeps | apply ite_keeps
    | exact rfl

theorem State.bistWrite_keeps {k s : State} (hs : Keeps k s) (a1 a2) :
    Keeps k (State.bistWrite a1 a2 s) := by
  unfold State.bistWrite
  repeat' first
    | with_reducible assumption
    | with_reducible
      first | apply modBist_keeps | apply State.evtAssert_keeps | apply ite_keeps
    | exact rfl

theorem State.regWrite_keeps {k s : State} (hs : Keeps k s) (a1 a2) :
    Keeps k (State.regWrite a1 a2 s) := by
  unfold State.regWrite
  repeat' first
    | with_reducible assumption
    | with_reducible
      first | apply State.idWrite_keeps | apply State.mbxRegWrite_keeps | apply State.clkWrite_keeps | apply State.pwrWrite_keeps
            | apply State.thmWrite_keeps | apply State.flmWrite_keeps | apply State.leatWrite_keeps
            | apply State.memWrite_keeps | apply State.lanesWrite_keeps | apply State.winWrite_keeps
            | apply State.cfgWrite_keeps | apply State.secWrite_keeps | apply State.bistWrite_keeps | apply ite_keeps

theorem State.bar0Write_keeps {k s : State} (hs : Keeps k s) (a1 a2 a3 a4) :
    Keeps k (State.bar0Write a1 a2 a3 a4 s) := by
  unfold State.bar0Write
  repeat' first
    | with_reducible assumption
    | with_reducible
      first | apply State.csrDrop_keeps | apply State.regWrite_keeps
    | split

theorem State.bar0Read_keeps {k s : State} (hs : Keeps k s) (a1 a2 a3) :
    Keeps k (State.bar0Read a1 a2 a3 s) := by
  unfold State.bar0Read
  repeat' first
    | with_reducible assumption
    | with_reducible
      first | apply State.csrRead_keeps | apply emit_keeps | apply ite_keeps

end Sys2Proof.Machine
end

