-- ==== Sys2Proof/Laws/KeepsBar0Rows.lean ====
section
/-! SUPPORT. What the operations of Bar0Rows.lean keep (Keeps.lean). -/
set_option linter.unusedTactic false
set_option linter.unreachableTactic false
set_option linter.unusedVariables false
namespace Sys2Proof.Machine

theorem execBar0Write_keeps {k s : State} (hs : Keeps k s) (a1 a2 a3 a4) :
    OutKeeps k (execBar0Write a1 a2 a3 a4 s) := by
  unfold execBar0Write
  repeat' first
    | with_reducible assumption
    | with_reducible
      first | apply next_keeps | apply State.bar0Write_keeps

theorem execBar0ReadOffDomain_keeps {k s : State} (hs : Keeps k s) (a1 a2 a3) :
    OutKeeps k (execBar0ReadOffDomain a1 a2 a3 s) := by
  unfold execBar0ReadOffDomain
  repeat' first
    | with_reducible assumption
    | with_reducible
      first | apply next_keeps | apply State.bar0Read_keeps

theorem execWinStampRead_keeps {k s : State} (hs : Keeps k s) (a1 a2) :
    OutKeeps k (execWinStampRead a1 a2 s) := by
  unfold execWinStampRead
  repeat' first
    | with_reducible assumption
    | with_reducible
      first | apply next_keeps | apply State.bar0Read_keeps

theorem execWinCntLoRead_keeps {k s : State} (hs : Keeps k s) (a1 a2) :
    OutKeeps k (execWinCntLoRead a1 a2 s) := by
  unfold execWinCntLoRead
  repeat' first
    | with_reducible assumption
    | with_reducible
      first | apply next_keeps | apply State.bar0Read_keeps

theorem execMemLastAddrRead_keeps {k s : State} (hs : Keeps k s) (a1 a2 a3) :
    OutKeeps k (execMemLastAddrRead a1 a2 a3 s) := by
  unfold execMemLastAddrRead
  repeat' first
    | with_reducible assumption
    | with_reducible
      first | apply next_keeps | apply State.bar0Read_keeps

theorem execMemChFill_keeps {k s : State} (hs : Keeps k s) (a1 a2 a3 a4) :
    OutKeeps k (execMemChFill a1 a2 a3 a4 s) := by
  unfold execMemChFill
  repeat' first
    | with_reducible assumption
    | with_reducible
      first | apply next_keeps | apply State.bar0Write_keeps

theorem execLeatCommitArm_keeps {k s : State} (hs : Keeps k s) (a1 a2 a3) :
    OutKeeps k (execLeatCommitArm a1 a2 a3 s) := by
  unfold execLeatCommitArm
  repeat' first
    | with_reducible assumption
    | with_reducible
      first | apply next_keeps | apply State.bar0Write_keeps

theorem execLeatIsolClr_keeps {k s : State} (hs : Keeps k s) (a1 a2 a3) :
    OutKeeps k (execLeatIsolClr a1 a2 a3 s) := by
  unfold execLeatIsolClr
  repeat' first
    | with_reducible assumption
    | with_reducible
      first | apply next_keeps | apply State.bar0Write_keeps

theorem execLeatSvcWrite_keeps {k s : State} (hs : Keeps k s) (a1 a2 a3 a4) :
    OutKeeps k (execLeatSvcWrite a1 a2 a3 a4 s) := by
  unfold execLeatSvcWrite
  repeat' first
    | with_reducible assumption
    | with_reducible
      first | apply next_keeps | apply State.bar0Write_keeps

theorem execFlmChTailWrite_keeps {k s : State} (hs : Keeps k s) (a1 a2 a3 a4) :
    OutKeeps k (execFlmChTailWrite a1 a2 a3 a4 s) := by
  unfold execFlmChTailWrite
  repeat' first
    | with_reducible assumption
    | with_reducible
      first | apply next_keeps | apply State.bar0Write_keeps

theorem execFlmRun_keeps {k s : State} (hs : Keeps k s) (a1 a2 a3 a4) :
    OutKeeps k (execFlmRun a1 a2 a3 a4 s) := by
  unfold execFlmRun
  repeat' first
    | with_reducible assumption
    | with_reducible
      first | apply next_keeps | apply State.bar0Write_keeps

theorem execFlmAbort_keeps {k s : State} (hs : Keeps k s) (a1 a2 a3 a4) :
    OutKeeps k (execFlmAbort a1 a2 a3 a4 s) := by
  unfold execFlmAbort
  repeat' first
    | with_reducible assumption
    | with_reducible
      first | apply next_keeps | apply State.bar0Write_keeps

theorem execFlmRingLoWrite_keeps {k s : State} (hs : Keeps k s) (a1 a2 a3 a4) :
    OutKeeps k (execFlmRingLoWrite a1 a2 a3 a4 s) := by
  unfold execFlmRingLoWrite
  repeat' first
    | with_reducible assumption
    | with_reducible
      first | apply next_keeps | apply State.bar0Write_keeps

theorem execCfgReleaseGo_keeps {k s : State} (hs : Keeps k s) (a1 a2 a3) :
    OutKeeps k (execCfgReleaseGo a1 a2 a3 s) := by
  unfold execCfgReleaseGo
  repeat' first
    | with_reducible assumption
    | with_reducible
      first | apply next_keeps | apply State.bar0Write_keeps

theorem execLnkCtlEn_keeps {k s : State} (hs : Keeps k s) (a1 a2 a3 a4) :
    OutKeeps k (execLnkCtlEn a1 a2 a3 a4 s) := by
  unfold execLnkCtlEn
  repeat' first
    | with_reducible assumption
    | with_reducible
      first | apply next_keeps | apply State.bar0Write_keeps

theorem execLnkCtlRetrain_keeps {k s : State} (hs : Keeps k s) (a1 a2 a3 a4) :
    OutKeeps k (execLnkCtlRetrain a1 a2 a3 a4 s) := by
  unfold execLnkCtlRetrain
  repeat' first
    | with_reducible assumption
    | with_reducible
      first | apply next_keeps | apply State.bar0Write_keeps

theorem execClkRefSelectWrite_keeps {k s : State} (hs : Keeps k s) (a1 a2 a3) :
    OutKeeps k (execClkRefSelectWrite a1 a2 a3 s) := by
  unfold execClkRefSelectWrite
  repeat' first
    | with_reducible assumption
    | with_reducible
      first | apply next_keeps | apply State.bar0Write_keeps

theorem execSluiceReqWrite_keeps {k s : State} (hs : Keeps k s) (a1 a2 a3 a4) :
    OutKeeps k (execSluiceReqWrite a1 a2 a3 a4 s) := by
  unfold execSluiceReqWrite
  repeat' first
    | with_reducible assumption
    | with_reducible
      first | apply next_keeps | apply State.bar0Write_keeps

theorem execPwrOffReq_keeps {k s : State} (hs : Keeps k s) (a1 a2 a3) :
    OutKeeps k (execPwrOffReq a1 a2 a3 s) := by
  unfold execPwrOffReq
  repeat' first
    | with_reducible assumption
    | with_reducible
      first | apply next_keeps | apply State.bar0Write_keeps

theorem execPwrCancel_keeps {k s : State} (hs : Keeps k s) (a1 a2 a3) :
    OutKeeps k (execPwrCancel a1 a2 a3 s) := by
  unfold execPwrCancel
  repeat' first
    | with_reducible assumption
    | with_reducible
      first | apply next_keeps | apply State.bar0Write_keeps

end Sys2Proof.Machine
end

