-- ==== Sys2Proof/Laws/KeepsBist.lean ====
section
/-! SUPPORT. What the operations of Bist.lean keep (Keeps.lean). -/
set_option linter.unusedTactic false
set_option linter.unreachableTactic false
set_option linter.unusedVariables false
namespace Sys2Proof.Machine

theorem State.bistBegin_keeps {k s : State} (hs : Keeps k s) (a1 a2 a3) :
    Keeps k (State.bistBegin a1 a2 a3 s) := by
  unfold State.bistBegin
  repeat' first
    | with_reducible assumption
    | with_reducible
      first | apply modBist_keeps | apply modClk_keeps | apply State.setHold_keeps | apply ite_keeps
    | exact rfl

theorem bistRunBody_keeps {k s : State} (hs : Keeps k s) (a1) :
    ResKeeps k (bistRunBody a1 s) := by
  unfold bistRunBody
  repeat' first
    | with_reducible assumption
    | intro _
    | with_reducible
      first | apply ok_keeps | apply accept_keeps | apply acceptThen_keeps | apply fail_keeps | apply State.postRecord_keeps
            | apply State.bistBegin_keeps
    | (lift_lets; intro st; clear_value st)
    | split

theorem State.bistSample_keeps {k s : State} (hs : Keeps k s) :
    Keeps k (State.bistSample s) := by
  unfold State.bistSample
  repeat' first
    | with_reducible assumption
    | with_reducible
      first | apply freshen_keeps | apply modBist_keeps | apply State.bistEvt_keeps | apply State.log_keeps
    | (lift_lets; intro st; refine Keeps.cut (x := st) ?_ ?_; (focus (unfold st; try clear st)); rotate_left; intro hst; clear_value st)
    | split
    | exact rfl

theorem State.bistRepair_keeps {k s : State} (hs : Keeps k s) (a1 a2) :
    Keeps k (State.bistRepair a1 a2 s) := by
  unfold State.bistRepair
  repeat' first
    | with_reducible assumption
    | (intro st; refine Keeps.cut (x := st) ?_ ?_; (focus (unfold st; try clear st)); rotate_left; intro hst; clear_value st)
    | (intro st; clear_value st)
    | exact id
    | intro _
    | with_reducible
      first | apply State.writeRepairRecord_keeps | apply State.chanDeclare_keeps | apply ite_keeps | apply dite_keeps
            | apply ite_fst | apply foldl_keeps | apply foldl_pair
    | (lift_lets; intro st; refine Keeps.cut (x := st) ?_ ?_; (focus (unfold st; try clear st)); rotate_left; intro hst; clear_value st)
    | (lift_lets; intro st; clear_value st)
    | split
    | exact rfl
    | ((try dsimp only); with_reducible first | apply wf_tset | apply wf_tsetAll | apply wf_tdrop)
    | exact Nat.zero_le _
    | (refine keeps_fst (by with_reducible assumption) ?_)

theorem State.reloadCisterns_keeps {k s : State} (hs : Keeps k s) (a1) :
    Keeps k (State.reloadCisterns a1 s) := by
  unfold State.reloadCisterns
  repeat' first
    | with_reducible assumption
    | (intro st; refine Keeps.cut (x := st) ?_ ?_; (focus (unfold st; try clear st)); rotate_left; intro hst; clear_value st)
    | with_reducible
      first | apply State.putFrame_keeps | apply State.loadContents_keeps
    | (lift_lets; intro st; clear_value st)
    | split

theorem State.bistReinit_keeps {k s : State} (hs : Keeps k s) (a1 a2) :
    Keeps k (State.bistReinit a1 a2 s) := by
  unfold State.bistReinit
  repeat' first
    | with_reducible assumption
    | with_reducible
      first | apply modFab_keeps | apply State.reloadFrames_keeps | apply State.reloadCisterns_keeps | apply State.filled_keeps
    | split
    | ((try dsimp only); with_reducible first | apply wf_tset | apply wf_tsetAll | apply wf_tdrop)

theorem State.bistReport_keeps {k s : State} (hs : Keeps k s) (a1 a2 a3) :
    Keeps k (State.bistReport a1 a2 a3 s) := by
  unfold State.bistReport
  repeat' first
    | with_reducible assumption
    | with_reducible
      first | apply modBist_keeps | apply State.bistEvt_keeps | apply State.log_keeps | apply State.postRecord_keeps
            | apply ite_keeps
    | exact rfl

theorem execBistTestComplete_keeps {k s : State} (hs : Keeps k s) (a1) :
    OutKeeps k (execBistTestComplete a1 s) := by
  unfold execBistTestComplete
  repeat' first
    | with_reducible assumption
    | with_reducible
      first | apply next_keeps | apply State.bistRepair_keeps | apply modClk_keeps | apply State.bistReinit_keeps
            | apply State.bistReport_keeps | apply State.clearHold_keeps | apply State.serveAll_keeps | apply ite_keeps
    | split

theorem execBistRun_keeps {k s : State} (hs : Keeps k s) (a1) :
    OutKeeps k (execBistRun a1 s) := by
  unfold execBistRun
  repeat' first
    | with_reducible assumption
    | intro _
    | with_reducible
      first | apply next_keeps | apply State.serveCmd_keeps | apply bistRunBody_keeps | apply freshen_keeps

theorem execBistResult_keeps {k s : State} (hs : Keeps k s) (a1) :
    OutKeeps k (execBistResult a1 s) := by
  unfold execBistResult
  repeat' first
    | with_reducible assumption
    | exact id
    | intro _
    | with_reducible
      first | apply next_keeps | apply State.serveCmd_keeps

end Sys2Proof.Machine
end

