-- ==== Sys2Proof/Laws/KeepsCistern.lean ====
section
/-! SUPPORT. What the operations of Cistern.lean keep (Keeps.lean). -/
set_option linter.unusedTactic false
set_option linter.unreachableTactic false
set_option linter.unusedVariables false
namespace Sys2Proof.Machine

theorem State.putRow_keeps {k s : State} (hs : Keeps k s) (a1 a2 a3) :
    Keeps k (State.putRow a1 a2 a3 s) := by
  unfold State.putRow
  repeat' first
    | with_reducible assumption
    | with_reducible
      first | apply modCst_keeps
    | ((try dsimp only); with_reducible first | apply wf_tset | apply wf_tsetAll | apply wf_tdrop)

theorem State.cstBad_keeps {k s : State} (hs : Keeps k s) (a1 a2 a3 a4) :
    Keeps k (State.cstBad a1 a2 a3 a4 s) := by
  unfold State.cstBad
  repeat' first
    | with_reducible assumption
    | intro _
    | with_reducible
      first | apply modCst_keeps | apply State.logAt_keeps | apply ite_keeps

theorem State.cstCorrected_keeps {k s : State} (hs : Keeps k s) (a1) :
    Keeps k (State.cstCorrected a1 s) := by
  unfold State.cstCorrected
  repeat' first
    | with_reducible assumption
    | intro _
    | with_reducible
      first | apply modCst_keeps

theorem State.cstRead_keeps {k s : State} (hs : Keeps k s) (a1 a2 a3) :
    Keeps k (State.cstRead a1 a2 a3 s).1 := by
  unfold State.cstRead
  repeat' first
    | with_reducible assumption
    | (intro st; refine Keeps.cut (x := st) ?_ ?_; (focus (unfold st; try clear st)); rotate_left; intro hst; clear_value st)
    | with_reducible
      first | apply State.cstCorrected_keeps | apply State.putRow_keeps | apply State.cstBad_keeps
    | (lift_lets; intro st; clear_value st)
    | split

theorem execCisternServiceRequest_keeps {k s : State} (hs : Keeps k s) (a1) :
    OutKeeps k (execCisternServiceRequest a1 s) := by
  unfold execCisternServiceRequest
  repeat' first
    | with_reducible assumption
    | intro _
    | with_reducible
      first | apply next_keeps | apply State.modNode_keeps | apply State.answerOff_keeps | apply State.answer_keeps
            | apply modCst_keeps | apply ite_keeps
    | split

theorem State.svcDone_keeps {k s : State} (hs : Keeps k s) (a1) :
    Keeps k (State.svcDone a1 s) := by
  unfold State.svcDone
  repeat' first
    | with_reducible assumption
    | intro _
    | with_reducible
      first | apply modCst_keeps | apply State.answer_keeps | apply ite_keeps

theorem execCisternServiceRow_keeps {k s : State} (hs : Keeps k s) (a1) :
    OutKeeps k (execCisternServiceRow a1 s) := by
  unfold execCisternServiceRow
  repeat' first
    | with_reducible assumption
    | intro _
    | with_reducible
      first | apply next_keeps | apply State.svcDone_keeps | apply State.putRow_keeps | apply State.cstRead_keeps
            | apply modCst_keeps | apply ite_keeps
    | split

theorem CisternState.patrolled_rows (c : CisternState) (i : Nat) : (c.patrolled i).rows = c.rows := by
  unfold CisternState.patrolled
  dsimp only
  split
  · rfl
  · generalize (if c.passed.contains i then c.passed else i :: c.passed) = l
    split <;> rfl

theorem execCisternPatrolRead_keeps {k s : State} (hs : Keeps k s) (a1) : OutKeeps k (execCisternPatrolRead a1 s) := by
  unfold execCisternPatrolRead
  refine next_keeps ?_
  dsimp only
  split
  · exact hs
  · split
    · exact modCst_keeps (State.cstRead_keeps hs _ _ _) _ fun h => by rw [CisternState.patrolled_rows]; exact h
    · exact modCst_keeps hs _ fun h => by rw [CisternState.patrolled_rows]; exact h


theorem execCisternScrubOverrun_keeps {k s : State} (hs : Keeps k s) (a1) :
    OutKeeps k (execCisternScrubOverrun a1 s) := by
  unfold execCisternScrubOverrun
  repeat' first
    | with_reducible assumption
    | with_reducible
      first | apply next_keeps | apply State.log_keeps | apply ite_keeps

theorem State.cstPulseOne_keeps {k s : State} (hs : Keeps k s) (a1 a2) :
    Keeps k (State.cstPulseOne a1 a2 s) := by
  unfold State.cstPulseOne
  repeat' first
    | with_reducible assumption
    | intro _
    | with_reducible
      first | apply State.cstCorrected_keeps | apply State.cstBad_keeps | apply State.putRow_keeps | apply foldl_keeps
            | apply foldl_pair
    | (lift_lets; intro st; clear_value st)
    | split

theorem State.cstPulseEnd_keeps {k s : State} (hs : Keeps k s) (a1) :
    Keeps k (State.cstPulseEnd a1 s) := by
  unfold State.cstPulseEnd
  repeat' first
    | with_reducible assumption
    | intro _
    | with_reducible
      first | apply modCst_keeps | apply State.cstPulseOne_keeps | apply foldl_keeps

end Sys2Proof.Machine
end

