-- ==== Sys2Proof/Laws/KeepsResetOps.lean ====
section
/-! SUPPORT. What the operations of ResetOps.lean keep (Keeps.lean). -/
set_option linter.unusedTactic false
set_option linter.unreachableTactic false
set_option linter.unusedVariables false
namespace Sys2Proof.Machine

theorem State.capBegin_keeps {k s : State} (hs : Keeps k s) (a1) :
    Keeps k (State.capBegin a1 s) := by
  unfold State.capBegin
  repeat' first
    | with_reducible assumption
    | with_reducible
      first | apply State.wakeMem_keeps | apply modRst_keeps | apply State.setHold_keeps

theorem State.resetBegin_keeps {k s : State} (hs : Keeps k s) :
    Keeps k (State.resetBegin s) := by
  unfold State.resetBegin
  repeat' first
    | with_reducible assumption
    | intro _
    | with_reducible
      first | apply State.modCtl_keeps | apply State.setHold_keeps | apply modRst_keeps | apply ite_keeps | apply foldl_keeps

theorem State.throttleBegin_keeps {k s : State} (hs : Keeps k s) :
    Keeps k (State.throttleBegin s) := by
  unfold State.throttleBegin
  repeat' first
    | with_reducible assumption
    | with_reducible
      first | apply modThm_keeps | apply State.setHold_keeps | apply State.thmEvt_keeps | apply State.log_keeps | apply modRst_keeps
            | apply ite_keeps

theorem State.captureRows_keeps {k s : State} (hs : Keeps k s) (a1) : Keeps k (State.captureRows a1 s).1 := by
  unfold State.captureRows
  generalize List.range 2048 = l
  refine foldl_pair hs fun u c hu => ?_
  refine foldl_pair hu fun v r hv => ?_
  exact State.cstRead_keeps hv _ _ _

theorem State.mendPage_keeps {k s : State} (hs : Keeps k s) (a1 a2 a3 a4 a5) :
    Keeps k (State.mendPage a1 a2 a3 a4 a5 s) := by
  unfold State.mendPage
  repeat' first
    | with_reducible assumption
    | with_reducible
      first | apply State.endPath_keeps | apply State.startPath_keeps | apply State.endRunning_keeps
    | split

theorem State.deepPutRun_keeps {k s : State} (hs : Keeps k s) (a1 a2 a3 a4) :
    Keeps k (State.deepPutRun a1 a2 a3 a4 s) := by
  unfold State.deepPutRun
  repeat' first
    | with_reducible assumption
    | with_reducible
      first | apply State.mendPage_keeps | apply State.endRunning_keeps | apply State.makeRoom_keeps | apply State.writeRun_keeps
            | apply State.putStored_keeps | apply ite_keeps

theorem State.deepPut_keeps {k s : State} (hs : Keeps k s) (a1 a2) :
    Keeps k (State.deepPut a1 a2 s) := by
  unfold State.deepPut
  repeat' first
    | with_reducible assumption
    | intro _
    | with_reducible
      first | apply State.deepPutRun_keeps | apply foldl_pair

theorem State.capture_keeps {k s : State} (hs : Keeps k s) (a1) :
    Keeps k (State.capture a1 s).1 := by
  unfold State.capture
  repeat' first
    | with_reducible assumption
    | with_reducible
      first | apply State.captureRows_keeps | apply modRst_keeps | apply State.deepPut_keeps

theorem State.lostWrites_keeps {k s : State} (hs : Keeps k s) :
    Keeps k (State.lostWrites s) := by
  unfold State.lostWrites
  repeat' first
    | with_reducible assumption
    | intro _
    | with_reducible
      first | apply freshen_keeps | apply State.deepPut_keeps | apply ite_keeps | apply foldl_keeps

theorem State.dropHeldAt_keeps {k s : State} (hs : Keeps k s) (a1) :
    Keeps k (State.dropHeldAt a1 s) := by
  unfold State.dropHeldAt
  repeat' first
    | with_reducible assumption
    | intro _
    | with_reducible
      first | apply State.modNode_keeps | apply foldl_keeps

theorem State.dropOwn_keeps {k s : State} (hs : Keeps k s) (a1) :
    Keeps k (State.dropOwn a1 s) := by
  unfold State.dropOwn
  repeat' first
    | with_reducible assumption
    | intro _
    | with_reducible
      first | apply State.releaseRsv_keeps | apply foldl_keeps

theorem State.sillReset_keeps {k s : State} (hs : Keeps k s) :
    Keeps k (State.sillReset s).1 := by
  unfold State.sillReset
  repeat' first
    | with_reducible assumption
    | intro _
    | with_reducible
      first | apply State.flumeForced_keeps | apply State.ctlReset_keeps | apply State.modNode_keeps | apply State.dropHeldAt_keeps
            | apply State.dropOwn_keeps | apply State.isolClear_keeps | apply modLeat_keeps | apply ite_keeps
            | apply foldl_keeps

theorem State.forceSill_keeps {k s : State} (hs : Keeps k s) (a1) : Keeps k (State.forceSill a1 s) := by
  unfold State.forceSill
  have h : Keeps k (s.clockStop stopForced).lostWrites := State.lostWrites_keeps (State.clockStop_keeps hs _)
  generalize (s.clockStop stopForced).lostWrites = s1 at h
  dsimp only
  have g : Keeps k ((tkeys s1.leat.node).foldl (fun (a : State × Nat) n =>
      (a.1.lostRequests n).foldl (fun (a : State × Nat) r => (a.1.failRequest n r .pathLost, a.2 + 1)) a) (s1, 0)).1 :=
    foldl_pair h fun u n hu => foldl_pair hu fun v r hv => State.failRequest_keeps hv _ _ _
  generalize (tkeys s1.leat.node).foldl (fun (a : State × Nat) n =>
      (a.1.lostRequests n).foldl (fun (a : State × Nat) r => (a.1.failRequest n r .pathLost, a.2 + 1)) a) (s1, 0) = p at g
  have f := State.sillReset_keeps g
  generalize p.1.sillReset = q at f
  refine modRst_keeps (modLeat_keeps ?_ _) _
  have e := modHost_keeps (modMem_keeps (State.modNode_keeps (State.modNode_keeps f nodeFlumeRead fun x => { x with reqs := [] })
    nodeFlumeWrite fun x => { x with reqs := [] }) (fun x => { x with host := [] }) id)
    fun h => { h with reads := h.reads.filter fun r => r.ask = .stage }
  exact ite_keeps (modWin_keeps e _) e

theorem State.couplersReset_keeps {k s : State} (hs : Keeps k s) (a1) :
    Keeps k (State.couplersReset a1 s) := by
  unfold State.couplersReset
  repeat' first
    | with_reducible assumption
    | (intro st; refine Keeps.cut (x := st) ?_ ?_; (focus (unfold st; try clear st)); rotate_left; intro hst; clear_value st)
    | (intro st; clear_value st)
    | exact id
    | intro _
    | with_reducible
      first | apply State.endStop_keeps | apply modVert_keeps | apply ite_keeps | apply dite_keeps | apply ite_fst
            | apply foldl_keeps | apply foldl_pair
    | (lift_lets; intro st; refine Keeps.cut (x := st) ?_ ?_; (focus (unfold st; try clear st)); rotate_left; intro hst; clear_value st)
    | (lift_lets; intro st; clear_value st)
    | split
    | exact rfl
    | ((try dsimp only); with_reducible first | apply wf_tset | apply wf_tsetAll | apply wf_tdrop)
    | exact Nat.zero_le _
    | (refine keeps_fst (by with_reducible assumption) ?_)

theorem State.tierNodes_keeps {k s : State} (hs : Keeps k s) (a1) :
    Keeps k (State.tierNodes a1 s) := by
  unfold State.tierNodes
  repeat' first
    | with_reducible assumption
    | intro _
    | with_reducible
      first | apply State.modNode_keeps | apply State.isolClear_keeps | apply State.dropHeldAt_keeps | apply State.dropOwn_keeps
            | apply modLeat_keeps | apply ite_keeps | apply foldl_keeps

theorem State.tierReset_keeps {k s : State} (hs : Keeps k s) (a1 a2) :
    Keeps k (State.tierReset a1 a2 s) := by
  unfold State.tierReset
  repeat' first
    | with_reducible assumption
    | with_reducible
      first | apply State.reloadFrames_keeps | apply State.tierNodes_keeps | apply modFab_keeps | apply State.reviewSplices_keeps
            | apply State.acquireStanding_keeps

theorem State.headgateReset_keeps {k s : State} (hs : Keeps k s) :
    Keeps k (State.headgateReset s) := by
  unfold State.headgateReset
  repeat' first
    | with_reducible assumption
    | with_reducible
      first | apply State.stageAbort_keeps | apply State.postRecord?_keeps | apply modImg_keeps | apply State.postRecord_keeps
    | (lift_lets; intro st; refine Keeps.cut (x := st) ?_ ?_; (focus (unfold st; try clear st)); rotate_left; intro hst; clear_value st)
    | split

theorem State.dieReset_keeps {k s : State} (hs : Keeps k s) (a1) :
    Keeps k (State.dieReset a1 s) := by
  unfold State.dieReset
  repeat' first
    | with_reducible assumption
    | intro _
    | with_reducible
      first | apply State.acquireStanding_keeps | apply State.sillReset_keeps | apply State.ctlReset_keeps
            | apply State.isolClear_keeps | apply State.tierReset_keeps | apply State.headgateReset_keeps
            | apply foldl_keeps
    | (lift_lets; intro st; refine Keeps.cut (x := st) ?_ ?_; (focus (unfold st; try clear st)); rotate_left; intro hst; clear_value st)
    | split

theorem State.domResetDone_keeps {k s : State} (hs : Keeps k s) (a1) :
    Keeps k (State.domResetDone a1 s) := by
  unfold State.domResetDone
  repeat' first
    | with_reducible assumption
    | with_reducible
      first | apply ok_keeps | apply State.postRecord_keeps | apply State.log_keeps

theorem State.dieResetDone_keeps {k s : State} (hs : Keeps k s) (a1) :
    Keeps k (State.dieResetDone a1 s) := by
  unfold State.dieResetDone
  repeat' first
    | with_reducible assumption
    | intro _
    | with_reducible
      first | apply ok_keeps | apply modRst_keeps | apply State.couplersReset_keeps | apply State.dieReset_keeps
            | apply State.postRecord_keeps | apply State.log_keeps | apply State.domResetDone_keeps | apply foldl_keeps

theorem State.domReset_keeps {k s : State} (hs : Keeps k s) (a1 a2) :
    Keeps k (State.domReset a1 a2 s) := by
  unfold State.domReset
  repeat' first
    | with_reducible assumption
    | intro _
    | with_reducible
      first | apply State.dieReset_keeps | apply State.tierReset_keeps | apply State.isolClear_keeps | apply State.ctlReset_keeps
            | apply State.linkRetrain_keeps | apply State.modLink_keeps | apply State.modGroup_keeps
            | apply State.endpointReset_keeps | apply modIo_keeps | apply State.bankDown_keeps
            | apply State.bankReturn_keeps | apply ite_keeps | apply foldl_keeps

theorem State.linksLost_keeps {k s : State} (hs : Keeps k s) :
    Keeps k (State.linksLost s).1 := by
  unfold State.linksLost
  repeat' first
    | with_reducible assumption
    | intro _
    | with_reducible
      first | apply State.modLink_keeps | apply State.modNode_keeps | apply State.linkRespond_keeps | apply foldl_keeps
            | apply foldl_pair

theorem State.forcedEnd_keeps {k s : State} (hs : Keeps k s) (a1) :
    Keeps k (State.forcedEnd a1 s) := by
  unfold State.forcedEnd
  repeat' first
    | with_reducible assumption
    | with_reducible
      first | apply State.linksLost_keeps | apply State.endStop_keeps | apply modRst_keeps | apply modLeat_keeps
            | apply State.acquireStanding_keeps | apply State.log_keeps | apply State.postRecord_keeps

theorem State.deepGet_keeps {k s : State} (hs : Keeps k s) (a1 a2) :
    Keeps k (State.deepGet a1 a2 s).1 := by
  unfold State.deepGet
  repeat' first
    | with_reducible assumption
    | intro _
    | with_reducible
      first | apply State.mendPage_keeps | apply State.readRun_keeps | apply State.poisonDelivered_keeps | apply foldl_pair

theorem State.restoreSlots_keeps {k s : State} (hs : Keeps k s) (a1 a2) :
    Keeps k (State.restoreSlots a1 a2 s) := by
  unfold State.restoreSlots
  repeat' first
    | with_reducible assumption
    | with_reducible
      first | apply State.modLink_keeps | apply ite_keeps

theorem State.restoreLinks_keeps {k s : State} (hs : Keeps k s) (a1) :
    Keeps k (State.restoreLinks a1 s).1 := by
  unfold State.restoreLinks
  repeat' first
    | with_reducible assumption
    | intro _
    | with_reducible
      first | apply State.restoreSlots_keeps | apply foldl_pair

theorem State.restoreHank_keeps {k s : State} (hs : Keeps k s) (a1 a2) :
    Keeps k (State.restoreHank a1 a2 s) := by
  unfold State.restoreHank
  repeat' first
    | with_reducible assumption
    | with_reducible
      first | apply modFab_keeps

theorem State.restoreHanks_keeps {k s : State} (hs : Keeps k s) (a1) : Keeps k (State.restoreHanks a1 s) := by
  unfold State.restoreHanks
  generalize List.range hanksAll = l
  exact foldl_keeps hs fun u i hu => State.restoreHank_keeps hu _ _

theorem State.restoreRows_keeps {k s : State} (hs : Keeps k s) (a1 a2) : Keeps k (State.restoreRows a1 a2 s) := by
  unfold State.restoreRows
  generalize List.range 2048 = l
  exact foldl_keeps hs fun u e hu => foldl_keeps hu fun v w hv => State.putRow_keeps hv _ _ _

theorem State.restoreBody_keeps {k s : State} (hs : Keeps k s) (a1 a2) : Keeps k (State.restoreBody a1 a2 s) := by
  unfold State.restoreBody
  generalize 16 * hanksAll = n
  exact State.restoreRows_keeps (State.restoreLinks_keeps (State.restoreHanks_keeps hs _) _) _ _

theorem State.restoreFrom_keeps {k s : State} (hs : Keeps k s) (a1 a2) : Keeps k (State.restoreFrom a1 a2 s).1 := by
  unfold State.restoreFrom
  generalize s.captureLen _ = n
  exact ite_fst hs (State.restoreBody_keeps (State.deepGet_keeps hs _ _) _ _)

theorem State.restoreAll_keeps {k s : State} (hs : Keeps k s) (a1) : Keeps k (State.restoreAll a1 s).1 :=
  State.restoreFrom_keeps (State.deepGet_keeps hs _ _) _ _


end Sys2Proof.Machine
end

