-- ==== Sys2Proof/Laws/KeepsCaptureCmds.lean ====
section
/-! SUPPORT. What the operations of CaptureCmds.lean keep (Keeps.lean). -/
set_option linter.unusedTactic false
set_option linter.unreachableTactic false
set_option linter.unusedVariables false
namespace Sys2Proof.Machine

theorem State.capAsk_keeps {k s : State} (hs : Keeps k s) (a1) :
    Keeps k (State.capAsk a1 s) := by
  unfold State.capAsk
  repeat' first
    | with_reducible assumption
    | with_reducible
      first | apply modRst_keeps | apply State.capBegin_keeps | apply ite_keeps

theorem execCapture_keeps {k s : State} (hs : Keeps k s) (a1) :
    OutKeeps k (execCapture a1 s) := by
  unfold execCapture
  repeat' first
    | with_reducible assumption
    | intro _
    | with_reducible
      first | apply next_keeps | apply acceptThen_keeps | apply fail_keeps | apply State.serveCmd_keeps | apply State.capAsk_keeps
    | (lift_lets; intro st; clear_value st)
    | split

theorem execRestore_keeps {k s : State} (hs : Keeps k s) (a1) :
    OutKeeps k (execRestore a1 s) := by
  unfold execRestore
  repeat' first
    | with_reducible assumption
    | intro _
    | with_reducible
      first | apply next_keeps | apply acceptThen_keeps | apply fail_keeps | apply State.serveCmd_keeps | apply State.capAsk_keeps
    | split

theorem execFrameRead_keeps {k s : State} (hs : Keeps k s) (a1) :
    OutKeeps k (execFrameRead a1 s) := by
  unfold execFrameRead
  repeat' first
    | with_reducible assumption
    | intro _
    | with_reducible
      first | apply next_keeps | apply ok_keeps | apply fail_keeps | apply State.serveCmd_keeps | apply freshen_keeps
    | split

theorem execFfRead_keeps {k s : State} (hs : Keeps k s) (a1) :
    OutKeeps k (execFfRead a1 s) := by
  unfold execFfRead
  repeat' first
    | with_reducible assumption
    | intro _
    | with_reducible
      first | apply next_keeps | apply ok_keeps | apply fail_keeps | apply State.serveCmd_keeps
    | split

end Sys2Proof.Machine
end

