-- ==== Sys2Proof/Laws/KeepsPulse.lean ====
section
/-! SUPPORT. What the operations of Pulse.lean keep (Keeps.lean). -/
set_option linter.unusedTactic false
set_option linter.unreachableTactic false
set_option linter.unusedVariables false
namespace Sys2Proof.Machine

theorem State.repairFrame_keeps {k s : State} (hs : Keeps k s) (a1) : Keeps k (State.repairFrame a1 s) := by
  unfold State.repairFrame
  dsimp only
  cases configFrame (s.configOf s.runBank) a1 with
  | none => exact modImg_keeps hs _
  | some f =>
    obtain ⟨c, crc⟩ := f
    refine ite_keeps (modImg_keeps (State.cfgEvt_keeps (State.log_keeps ?_ _ _ _ _ _ _) _) _) ?_ <;>
    exact State.cfgEvt_keeps (State.log_keeps (modImg_keeps (State.putFrame_keeps hs _ _) _) _ _ _ _ _ _) _


theorem State.inputsCome_keeps {k s : State} (hs : Keeps k s) (a1) :
    Keeps k (State.inputsCome a1 s) := by
  unfold State.inputsCome
  repeat' first
    | with_reducible assumption
    | (intro st; refine Keeps.cut (x := st) ?_ ?_; (focus (unfold st; try clear st)); rotate_left; intro hst; clear_value st)
    | (intro st; clear_value st)
    | exact id
    | intro _
    | with_reducible
      first | apply modIo_keeps | apply ite_keeps | apply dite_keeps | apply ite_fst | apply foldl_keeps | apply foldl_pair
    | (lift_lets; intro st; refine Keeps.cut (x := st) ?_ ?_; (focus (unfold st; try clear st)); rotate_left; intro hst; clear_value st)
    | (lift_lets; intro st; clear_value st)
    | split
    | exact rfl
    | ((try dsimp only); with_reducible first | apply wf_tset | apply wf_tsetAll | apply wf_tdrop)
    | exact Nat.zero_le _
    | (refine keeps_fst (by with_reducible assumption) ?_)

theorem State.resumeOwn_keeps {k s : State} (hs : Keeps k s) :
    Keeps k (State.resumeOwn s) := by
  unfold State.resumeOwn
  repeat' first
    | with_reducible assumption
    | with_reducible
      first | apply modWin_keeps

theorem State.heldPulse_keeps {k s : State} (hs : Keeps k s) :
    Keeps k (State.heldPulse s) := by
  unfold State.heldPulse
  repeat' first
    | with_reducible assumption
    | with_reducible
      first | apply modWin_keeps | apply State.cstPulseEnd_keeps

theorem State.beginStall_keeps {k s : State} (hs : Keeps k s) :
    Keeps k (State.beginStall s) := by
  unfold State.beginStall
  repeat' first
    | with_reducible assumption
    | with_reducible
      first | apply modWin_keeps

theorem State.logLate_keeps {k s : State} (hs : Keeps k s) (a1 a2) :
    Keeps k (State.logLate a1 a2 s) := by
  unfold State.logLate
  repeat' first
    | with_reducible assumption
    | with_reducible
      first | apply modWin_keeps | apply State.winEvt_keeps | apply State.log_keeps

theorem State.endStall_keeps {k s : State} (hs : Keeps k s) :
    Keeps k (State.endStall s) := by
  unfold State.endStall
  repeat' first
    | with_reducible assumption
    | intro _
    | with_reducible
      first | apply modWin_keeps | apply State.logLate_keeps | apply foldl_keeps
    | (lift_lets; intro st; refine Keeps.cut (x := st) ?_ ?_; (focus (unfold st; try clear st)); rotate_left; intro hst; clear_value st)
    | split

theorem State.raiseNotice_keeps {k s : State} (hs : Keeps k s) (a1 a2) :
    Keeps k (State.raiseNotice a1 a2 s) := by
  unfold State.raiseNotice
  repeat' first
    | with_reducible assumption
    | with_reducible
      first | apply State.mergeNotice_keeps | apply modWin_keeps | apply ite_keeps

theorem State.turnChecks_keeps {k s : State} (hs : Keeps k s) :
    Keeps k (State.turnChecks s) := by
  unfold State.turnChecks
  repeat' first
    | with_reducible assumption
    | intro _
    | with_reducible
      first | apply State.modNode_keeps | apply State.raiseNotice_keeps | apply State.ctrlAll_keeps | apply ite_keeps
            | apply foldl_keeps

theorem State.sampleInputs_keeps {k s : State} (hs : Keeps k s) (a1) :
    Keeps k (State.sampleInputs a1 s) := by
  unfold State.sampleInputs
  repeat' first
    | with_reducible assumption
    | intro _
    | with_reducible
      first | apply modIo_keeps | apply ite_keeps | apply foldl_keeps

theorem State.turnBegin_keeps {k s : State} (hs : Keeps k s) (a1) :
    Keeps k (State.turnBegin a1 s) := by
  unfold State.turnBegin
  repeat' first
    | with_reducible assumption
    | with_reducible
      first | apply modFlm_keeps | apply State.turnChecks_keeps | apply State.sampleInputs_keeps

theorem State.pulseKnots_keeps {k s : State} (hs : Keeps k s) (a1) :
    Keeps k (State.pulseKnots a1 s) := by
  unfold State.pulseKnots
  repeat' first
    | with_reducible assumption
    | with_reducible
      first | apply modFab_keeps

theorem State.pulseDriven_keeps {k s s1 : State} (hs : Keeps k s) (hs1 : Keeps k s1) (a2) :
    Keeps k (State.pulseDriven s a2 s1) := by
  unfold State.pulseDriven
  repeat' first
    | with_reducible assumption
    | intro _
    | with_reducible
      first | apply modSpl_keeps | apply foldl_keeps

theorem State.pulseSlots_keeps {k s s1 : State} (hs : Keeps k s) (hs1 : Keeps k s1) (a2) :
    Keeps k (State.pulseSlots s a2 s1) := by
  unfold State.pulseSlots
  repeat' first
    | with_reducible assumption
    | intro _
    | with_reducible
      first | apply State.modLink_keeps | apply ite_keeps | apply foldl_keeps

theorem State.pulseBanks_keeps {k s s1 : State} (hs : Keeps k s) (hs1 : Keeps k s1) (a2) :
    Keeps k (State.pulseBanks s a2 s1) := by
  unfold State.pulseBanks
  repeat' first
    | with_reducible assumption
    | intro _
    | with_reducible
      first | apply modIo_keeps | apply ite_keeps | apply foldl_keeps

theorem State.otkAdvance_keeps {k s : State} (hs : Keeps k s) :
    Keeps k (State.otkAdvance s) := by
  unfold State.otkAdvance
  repeat' first
    | with_reducible assumption
    | intro _
    | with_reducible
      first | apply State.modNode_keeps | apply ite_keeps | apply foldl_keeps

theorem State.promiseRaised_keeps {k s : State} (hs : Keeps k s) (a1 a2 a3) :
    Keeps k (State.promiseRaised a1 a2 a3 s) := by
  unfold State.promiseRaised
  repeat' first
    | with_reducible assumption
    | with_reducible
      first | apply modWin_keeps | apply State.winEvt_keeps | apply State.log_keeps | apply ite_keeps

theorem State.otkFail_keeps {k s : State} (hs : Keeps k s) (a1 a2 a3 a4 a5) :
    Keeps k (State.otkFail a1 a2 a3 a4 a5 s) := by
  unfold State.otkFail
  repeat' first
    | with_reducible assumption
    | with_reducible
      first | apply State.niError_keeps | apply State.niEvt_keeps | apply State.modNode_keeps | apply State.log_keeps
            | apply ite_keeps

theorem State.otkIssue_keeps {k s : State} (hs : Keeps k s) (a1 a2 a3 a4 a5 a6) :
    Keeps k (State.otkIssue a1 a2 a3 a4 a5 a6 s) := by
  unfold State.otkIssue
  repeat' first
    | with_reducible assumption
    | (intro st; refine Keeps.cut (x := st) ?_ ?_; (focus (unfold st; try clear st)); rotate_left; intro hst; clear_value st)
    | intro _
    | with_reducible
      first | apply State.promiseRaised_keeps | apply State.otkFail_keeps | apply State.modNode_keeps | apply State.enqueue_keeps
    | (lift_lets; intro st; clear_value st)
    | split

theorem State.pulseRefresh_keeps {k s : State} (hs : Keeps k s) (a1 a2) :
    Keeps k (State.pulseRefresh a1 a2 s) := by
  unfold State.pulseRefresh
  repeat' first
    | with_reducible assumption
    | intro _
    | with_reducible
      first | apply State.judgeAll_keeps | apply modSpl_keeps | apply foldl_keeps

theorem State.pulseBody_keeps {k s : State} (hs : Keeps k s) (a1) :
    Keeps k (State.pulseBody a1 s) := by
  unfold State.pulseBody
  repeat' first
    | with_reducible assumption
    | (intro st; refine Keeps.cut (x := st) ?_ ?_; (focus (unfold st; try clear st)); rotate_left; intro hst; clear_value st)
    | (intro st; clear_value st)
    | exact id
    | intro _
    | with_reducible
      first | apply State.turnBegin_keeps | apply freshen_keeps | apply modSpl_keeps | apply State.pulseKnots_keeps
            | apply State.cstPulseEnd_keeps | apply State.pulseDriven_keeps | apply State.pulseSlots_keeps
            | apply State.pulseBanks_keeps | apply State.otkAdvance_keeps | apply State.otkIssue_keeps
            | apply State.pulseRefresh_keeps | apply ite_keeps | apply dite_keeps | apply ite_fst | apply foldl_keeps
            | apply foldl_pair
    | (lift_lets; intro st; refine Keeps.cut (x := st) ?_ ?_; (focus (unfold st; try clear st)); rotate_left; intro hst; clear_value st)
    | (lift_lets; intro st; clear_value st)
    | split
    | exact rfl
    | ((try dsimp only); with_reducible first | apply wf_tset | apply wf_tsetAll | apply wf_tdrop)
    | exact Nat.zero_le _
    | (refine keeps_fst (by with_reducible assumption) ?_)

theorem State.commitTurn_keeps {k s : State} (hs : Keeps k s) :
    Keeps k (State.commitTurn s) := by
  unfold State.commitTurn
  repeat' first
    | with_reducible assumption
    | with_reducible
      first | apply modFab_keeps | apply ite_keeps

theorem State.sendFallback_keeps {k s : State} (hs : Keeps k s) (a1 a2) :
    Keeps k (State.sendFallback a1 a2 s) := by
  unfold State.sendFallback
  repeat' first
    | with_reducible assumption
    | (intro st; refine Keeps.cut (x := st) ?_ ?_; (focus (unfold st; try clear st)); rotate_left; intro hst; clear_value st)
    | (intro st; clear_value st)
    | exact id
    | intro _
    | with_reducible
      first | apply State.modNode_keeps | apply ite_keeps | apply dite_keeps | apply ite_fst | apply foldl_keeps | apply foldl_pair
    | (lift_lets; intro st; refine Keeps.cut (x := st) ?_ ?_; (focus (unfold st; try clear st)); rotate_left; intro hst; clear_value st)
    | (lift_lets; intro st; clear_value st)
    | split
    | exact rfl
    | ((try dsimp only); with_reducible first | apply wf_tset | apply wf_tsetAll | apply wf_tdrop)
    | exact Nat.zero_le _
    | (refine keeps_fst (by with_reducible assumption) ?_)

theorem State.sendFallbacks_keeps {k s : State} (hs : Keeps k s) :
    Keeps k (State.sendFallbacks s) := by
  unfold State.sendFallbacks
  repeat' first
    | with_reducible assumption
    | (intro st; refine Keeps.cut (x := st) ?_ ?_; (focus (unfold st; try clear st)); rotate_left; intro hst; clear_value st)
    | (intro st; clear_value st)
    | exact id
    | intro _
    | with_reducible
      first | apply State.sendFallback_keeps | apply ite_keeps | apply dite_keeps | apply ite_fst | apply foldl_keeps
            | apply foldl_pair
    | (lift_lets; intro st; refine Keeps.cut (x := st) ?_ ?_; (focus (unfold st; try clear st)); rotate_left; intro hst; clear_value st)
    | (lift_lets; intro st; clear_value st)
    | split
    | exact rfl
    | ((try dsimp only); with_reducible first | apply wf_tset | apply wf_tsetAll | apply wf_tdrop)
    | exact Nat.zero_le _
    | (refine keeps_fst (by with_reducible assumption) ?_)

theorem State.banksBack_keeps {k s : State} (hs : Keeps k s) :
    Keeps k (State.banksBack s) := by
  unfold State.banksBack
  repeat' first
    | with_reducible assumption
    | (intro st; refine Keeps.cut (x := st) ?_ ?_; (focus (unfold st; try clear st)); rotate_left; intro hst; clear_value st)
    | (intro st; clear_value st)
    | exact id
    | intro _
    | with_reducible
      first | apply State.bankStart_keeps | apply modIo_keeps | apply ite_keeps | apply dite_keeps | apply ite_fst
            | apply foldl_keeps | apply foldl_pair
    | (lift_lets; intro st; refine Keeps.cut (x := st) ?_ ?_; (focus (unfold st; try clear st)); rotate_left; intro hst; clear_value st)
    | (lift_lets; intro st; clear_value st)
    | split
    | exact rfl
    | ((try dsimp only); with_reducible first | apply wf_tset | apply wf_tsetAll | apply wf_tdrop)
    | exact Nat.zero_le _
    | (refine keeps_fst (by with_reducible assumption) ?_)

theorem State.frDrop_keeps {k s : State} (hs : Keeps k s) (a1 a2) :
    Keeps k (State.frDrop a1 a2 s) := by
  unfold State.frDrop
  repeat' first
    | with_reducible assumption
    | with_reducible
      first | apply modIo_keeps | apply State.log_keeps | apply ite_keeps

theorem State.turnFr_keeps {k s : State} (hs : Keeps k s) :
    Keeps k (State.turnFr s) := by
  unfold State.turnFr
  repeat' first
    | with_reducible assumption
    | intro _
    | with_reducible
      first | apply modIo_keeps | apply State.frDrop_keeps | apply ite_keeps | apply foldl_keeps
    | split

theorem State.showFrame_keeps {k s : State} (hs : Keeps k s) (a1) :
    Keeps k (State.showFrame a1 s) := by
  unfold State.showFrame
  repeat' first
    | with_reducible assumption
    | with_reducible
      first | apply modIo_keeps | apply emit_keeps | apply ite_keeps

theorem State.turnFrames_keeps {k s : State} (hs : Keeps k s) :
    Keeps k (State.turnFrames s) := by
  unfold State.turnFrames
  repeat' first
    | with_reducible assumption
    | intro _
    | with_reducible
      first | apply modIo_keeps | apply State.showFrame_keeps | apply foldl_keeps
    | (lift_lets; intro st; refine Keeps.cut (x := st) ?_ ?_; (focus (unfold st; try clear st)); rotate_left; intro hst; clear_value st)
    | split

theorem State.writeRepairs_keeps {k s : State} (hs : Keeps k s) :
    Keeps k (State.writeRepairs s) := by
  unfold State.writeRepairs
  repeat' first
    | with_reducible assumption
    | intro _
    | with_reducible
      first | apply State.repairFrame_keeps | apply foldl_keeps

theorem State.pruneNotices_keeps {k s : State} (hs : Keeps k s) :
    Keeps k (State.pruneNotices s) := by
  unfold State.pruneNotices
  repeat' first
    | with_reducible assumption
    | with_reducible
      first | apply modWin_keeps

theorem State.fabricStop_keeps {k s : State} (hs : Keeps k s) :
    Keeps k (State.fabricStop s) := by
  unfold State.fabricStop
  repeat' first
    | with_reducible assumption
    | with_reducible
      first | apply modWin_keeps | apply State.sendDrains_keeps | apply modLeat_keeps

theorem State.turnEnd_keeps {k s : State} (hs : Keeps k s) :
    Keeps k (State.turnEnd s) := by
  unfold State.turnEnd
  repeat' first
    | with_reducible assumption
    | with_reducible
      first | apply State.commitTurn_keeps | apply modFab_keeps | apply modSpl_keeps | apply State.sendFallbacks_keeps
            | apply State.banksBack_keeps | apply State.turnFr_keeps | apply State.turnFrames_keeps
            | apply State.writeRepairs_keeps | apply modWin_keeps | apply State.takeStops_keeps
            | apply State.pruneNotices_keeps | apply State.fabricStop_keeps | apply State.thermalStop_keeps
            | apply ite_keeps

theorem State.pulseRun_keeps {k s : State} (hs : Keeps k s) (a1) :
    Keeps k (State.pulseRun a1 s) := by
  unfold State.pulseRun
  repeat' first
    | with_reducible assumption
    | intro _
    | with_reducible
      first | apply State.pulseBody_keeps | apply modWin_keeps | apply State.turnEnd_keeps | apply ite_keeps | apply foldl_keeps

theorem State.pulse_keeps {k s : State} (hs : Keeps k s) (a1) :
    Keeps k (State.pulse a1 s) := by
  unfold State.pulse
  repeat' first
    | with_reducible assumption
    | with_reducible
      first | apply State.inputsCome_keeps | apply State.resumeOwn_keeps | apply State.heldPulse_keeps
            | apply State.beginStall_keeps | apply State.endStall_keeps | apply modWin_keeps | apply State.cstPulseEnd_keeps
            | apply State.pulseRun_keeps | apply ite_keeps

theorem State.loadRefresh_keeps {k s : State} (hs : Keeps k s) (a1) :
    Keeps k (State.loadRefresh a1 s) := by
  unfold State.loadRefresh
  repeat' first
    | with_reducible assumption
    | (intro st; refine Keeps.cut (x := st) ?_ ?_; (focus (unfold st; try clear st)); rotate_left; intro hst; clear_value st)
    | (intro st; clear_value st)
    | exact id
    | intro _
    | with_reducible
      first | apply freshen_keeps | apply State.judgeAll_keeps | apply ite_keeps | apply dite_keeps | apply ite_fst
            | apply foldl_keeps | apply foldl_pair
    | (lift_lets; intro st; refine Keeps.cut (x := st) ?_ ?_; (focus (unfold st; try clear st)); rotate_left; intro hst; clear_value st)
    | (lift_lets; intro st; clear_value st)
    | split
    | exact rfl
    | ((try dsimp only); with_reducible first | apply wf_tset | apply wf_tsetAll | apply wf_tdrop)
    | exact Nat.zero_le _
    | (refine keeps_fst (by with_reducible assumption) ?_)

theorem execConfigurationUpset_keeps {k s : State} (hs : Keeps k s) (a1 a2 a3) :
    OutKeeps k (execConfigurationUpset a1 a2 a3 s) := by
  unfold execConfigurationUpset
  repeat' first
    | with_reducible assumption
    | with_reducible
      first | apply next_keeps | apply modFab_keeps | apply ite_keeps

theorem execStallEnd_keeps {k s : State} (hs : Keeps k s) :
    OutKeeps k (execStallEnd s) := by
  unfold execStallEnd
  repeat' first
    | with_reducible assumption
    | with_reducible
      first | apply next_keeps | apply State.resumeOwn_keeps | apply State.endStall_keeps | apply ite_keeps

theorem execLongStall_keeps {k s : State} (hs : Keeps k s) :
    OutKeeps k (execLongStall s) := by
  unfold execLongStall
  repeat' first
    | with_reducible assumption
    | with_reducible
      first | apply next_keeps | apply modWin_keeps | apply State.winEvt_keeps | apply State.log_keeps
    | split

theorem execIoOutputFrame_keeps {k s : State} (hs : Keeps k s) (a1) :
    OutKeeps k (execIoOutputFrame a1 s) := by
  unfold execIoOutputFrame
  repeat' first
    | with_reducible assumption
    | with_reducible
      first | apply next_keeps | apply modIo_keeps | apply State.logLate_keeps | apply ite_keeps
    | split

theorem execFrInputEntry_keeps {k s : State} (hs : Keeps k s) (a1 a2) :
    OutKeeps k (execFrInputEntry a1 a2 s) := by
  unfold execFrInputEntry
  repeat' first
    | with_reducible assumption
    | with_reducible
      first | apply next_keeps | apply State.frDrop_keeps | apply modIo_keeps | apply ite_keeps

theorem execFrOutputEntry_keeps {k s : State} (hs : Keeps k s) (a1) :
    OutKeeps k (execFrOutputEntry a1 s) := by
  unfold execFrOutputEntry
  repeat' first
    | with_reducible assumption
    | with_reducible
      first | apply next_keeps | apply emit_keeps | apply modIo_keeps
    | split

end Sys2Proof.Machine
end

