-- ==== Sys2Proof/Laws/KeepsVertical.lean ====
section
/-! SUPPORT. What the operations of Vertical.lean keep (Keeps.lean). -/
set_option linter.unusedTactic false
set_option linter.unreachableTactic false
set_option linter.unusedVariables false
namespace Sys2Proof.Machine

theorem State.vSwapOne_keeps {k s : State} (hs : Keeps k s) (a2) :
    Keeps k (State.vSwapOne s a2) := by
  unfold State.vSwapOne
  repeat' first
    | with_reducible assumption
    | (intro st; refine Keeps.cut (x := st) ?_ ?_; (focus (unfold st; try clear st)); rotate_left; intro hst; clear_value st)
    | (intro st; clear_value st)
    | exact id
    | intro _
    | with_reducible
      first | apply modVert_keeps | apply State.log_keeps | apply ite_keeps | apply dite_keeps | apply ite_fst | apply foldl_keeps
            | apply foldl_pair
    | (lift_lets; intro st; refine Keeps.cut (x := st) ?_ ?_; (focus (unfold st; try clear st)); rotate_left; intro hst; clear_value st)
    | (lift_lets; intro st; clear_value st)
    | split
    | exact rfl
    | ((try dsimp only); with_reducible first | apply wf_tset | apply wf_tsetAll | apply wf_tdrop)
    | exact Nat.zero_le _
    | (refine keeps_fst (by with_reducible assumption) ?_)

theorem State.vSwapAll_keeps {k s : State} (hs : Keeps k s) :
    Keeps k (State.vSwapAll s) := by
  unfold State.vSwapAll
  repeat' first
    | with_reducible assumption
    | intro _
    | with_reducible
      first | apply modVert_keeps | apply State.vSwapOne_keeps | apply foldl_keeps
    | split

theorem State.vNoSpare_keeps {k s : State} (hs : Keeps k s) (a1) :
    Keeps k (State.vNoSpare a1 s) := by
  unfold State.vNoSpare
  repeat' first
    | with_reducible assumption
    | with_reducible
      first | apply modVert_keeps | apply State.log_keeps

theorem State.vHeadgate_keeps {k s : State} (hs : Keeps k s) (a1) :
    Keeps k (State.vHeadgate a1 s) := by
  unfold State.vHeadgate
  repeat' first
    | with_reducible assumption
    | with_reducible
      first | apply State.vNoSpare_keeps | apply modVert_keeps | apply ite_keeps

theorem State.vFail_keeps {k s : State} (hs : Keeps k s) (a1) :
    Keeps k (State.vFail a1 s) := by
  unfold State.vFail
  repeat' first
    | with_reducible assumption
    | with_reducible
      first | apply State.vHeadgate_keeps | apply State.vNoSpare_keeps | apply modVert_keeps | apply State.log_keeps
            | apply ite_keeps
    | split

theorem State.vFrame_keeps {k s : State} (hs : Keeps k s) (a1 a2 a3) :
    Keeps k (State.vFrame a1 a2 a3 s) := by
  unfold State.vFrame
  repeat' first
    | with_reducible assumption
    | (intro st; refine Keeps.cut (x := st) ?_ ?_; (focus (unfold st; try clear st)); rotate_left; intro hst; clear_value st)
    | (intro st; clear_value st)
    | exact id
    | intro _
    | with_reducible
      first | apply modVert_keeps | apply State.vFail_keeps | apply ite_keeps | apply dite_keeps | apply ite_fst | apply foldl_keeps
            | apply foldl_pair
    | (lift_lets; intro st; refine Keeps.cut (x := st) ?_ ?_; (focus (unfold st; try clear st)); rotate_left; intro hst; clear_value st)
    | (lift_lets; intro st; clear_value st)
    | split
    | exact rfl
    | ((try dsimp only); with_reducible first | apply wf_tset | apply wf_tsetAll | apply wf_tdrop)
    | exact Nat.zero_le _
    | (refine keeps_fst (by with_reducible assumption) ?_)

theorem execVerticalFrameReceive_keeps {k s : State} (hs : Keeps k s) (a1 a2 a3) :
    OutKeeps k (execVerticalFrameReceive a1 a2 a3 s) := by
  unfold execVerticalFrameReceive
  repeat' first
    | with_reducible assumption
    | with_reducible
      first | apply next_keeps | apply State.vFrame_keeps
    | (lift_lets; intro st; clear_value st)
    | split

theorem execVerticalShadowStart_keeps {k s : State} (hs : Keeps k s) (a1) :
    OutKeeps k (execVerticalShadowStart a1 s) := by
  unfold execVerticalShadowStart
  repeat' first
    | with_reducible assumption
    | with_reducible
      first | apply next_keeps | apply modVert_keeps | apply ite_keeps

theorem execFrameAlignmentLoss_keeps {k s : State} (hs : Keeps k s) (a1) :
    OutKeeps k (execFrameAlignmentLoss a1 s) := by
  unfold execFrameAlignmentLoss
  repeat' first
    | with_reducible assumption
    | with_reducible
      first | apply next_keeps | apply State.vFail_keeps | apply ite_keeps

end Sys2Proof.Machine
end

