-- ==== Sys2Proof/Laws/KeepsWindow.lean ====
section
/-! SUPPORT. What the operations of Window.lean keep (Keeps.lean). -/
set_option linter.unusedTactic false
set_option linter.unreachableTactic false
set_option linter.unusedVariables false
namespace Sys2Proof.Machine

theorem State.boundaryFaults_keeps {k s : State} (hs : Keeps k s) :
    Keeps k (State.boundaryFaults s) := by
  unfold State.boundaryFaults
  repeat' first
    | with_reducible assumption
    | with_reducible
      first | apply State.setCause_keeps | apply modWin_keeps | apply modVert_keeps | apply modLnk_keeps | apply ite_keeps

theorem State.boundaryReady_keeps {k s : State} (hs : Keeps k s) :
    Keeps k (State.boundaryReady s) := by
  unfold State.boundaryReady
  repeat' first
    | with_reducible assumption
    | with_reducible
      first | apply freshen_keeps | apply State.boundaryFaults_keeps | apply State.lengthCheck_keeps | apply modWin_keeps
            | apply State.dropStopped_keeps | apply State.thermalStop_keeps | apply modLeat_keeps | apply ite_keeps

theorem State.atItem_keeps {k s : State} (hs : Keeps k s) (a1) :
    Keeps k (State.atItem a1 s) := by
  unfold State.atItem
  repeat' first
    | with_reducible assumption
    | with_reducible
      first | apply modWin_keeps

theorem State.itemH_keeps {k s : State} (hs : Keeps k s) :
    Keeps k (State.itemH s) := by
  unfold State.itemH
  repeat' first
    | with_reducible assumption
    | with_reducible
      first | apply State.boundaryReady_keeps | apply State.sleepStep_keeps | apply State.domStep_keeps | apply State.atItem_keeps

theorem State.itemG_keeps {k s : State} (hs : Keeps k s) :
    Keeps k (State.itemG s) := by
  unfold State.itemG
  repeat' first
    | with_reducible assumption
    | with_reducible
      first | apply State.throttleBegin_keeps | apply State.atItem_keeps | apply State.itemH_keeps | apply ite_keeps

theorem State.itemF_keeps {k s : State} (hs : Keeps k s) :
    Keeps k (State.itemF s) := by
  unfold State.itemF
  repeat' first
    | with_reducible assumption
    | with_reducible
      first | apply State.resetBegin_keeps | apply State.atItem_keeps | apply State.itemG_keeps | apply ite_keeps

theorem State.itemE_keeps {k s : State} (hs : Keeps k s) :
    Keeps k (State.itemE s) := by
  unfold State.itemE
  repeat' first
    | with_reducible assumption
    | with_reducible
      first | apply State.itemF_keeps | apply modWin_keeps | apply State.atItem_keeps

theorem State.itemD2_keeps {k s : State} (hs : Keeps k s) :
    Keeps k (State.itemD2 s) := by
  unfold State.itemD2
  repeat' first
    | with_reducible assumption
    | with_reducible
      first | apply State.itemE_keeps | apply State.beginApply_keeps | apply modImg_keeps | apply State.joinNow_keeps
    | split

theorem State.itemD_keeps {k s : State} (hs : Keeps k s) :
    Keeps k (State.itemD s) := by
  unfold State.itemD
  repeat' first
    | with_reducible assumption
    | with_reducible
      first | apply State.itemD2_keeps | apply State.spliceStep_keeps | apply State.atItem_keeps

theorem State.itemC_keeps {k s : State} (hs : Keeps k s) :
    Keeps k (State.itemC s) := by
  unfold State.itemC
  repeat' first
    | with_reducible assumption
    | with_reducible
      first | apply State.itemD_keeps | apply State.laneSwapAll_keeps | apply State.vSwapAll_keeps | apply State.atItem_keeps

theorem State.itemB_keeps {k s : State} (hs : Keeps k s) :
    Keeps k (State.itemB s) := by
  unfold State.itemB
  repeat' first
    | with_reducible assumption
    | with_reducible
      first | apply State.atItem_keeps | apply State.applyFull_keeps | apply State.itemC_keeps
    | (lift_lets; intro st; refine Keeps.cut (x := st) ?_ ?_; (focus (unfold st; try clear st)); rotate_left; intro hst; clear_value st)
    | split

theorem State.afterA_keeps {k s : State} (hs : Keeps k s) :
    Keeps k (State.afterA s) := by
  unfold State.afterA
  repeat' first
    | with_reducible assumption
    | with_reducible
      first | apply State.boundaryReady_keeps | apply State.itemB_keeps | apply ite_keeps

theorem State.boundaryGoOn_keeps {k s : State} (hs : Keeps k s) :
    Keeps k (State.boundaryGoOn s) := by
  unfold State.boundaryGoOn
  repeat' first
    | with_reducible assumption
    | with_reducible
      first | apply State.afterA_keeps | apply State.itemC_keeps | apply State.itemE_keeps | apply State.itemG_keeps
            | apply State.itemH_keeps
    | split

theorem State.heldActs_keeps {k s : State} (hs : Keeps k s) :
    Keeps k (State.heldActs s) := by
  unfold State.heldActs
  repeat' first
    | with_reducible assumption
    | (intro st; refine Keeps.cut (x := st) ?_ ?_; (focus (unfold st; try clear st)); rotate_left; intro hst; clear_value st)
    | (intro st; clear_value st)
    | exact id
    | intro _
    | with_reducible
      first | apply State.clearIsolations_keeps | apply State.capBegin_keeps | apply State.sleepStep_keeps
            | apply State.domStep_keeps | apply State.resetBegin_keeps | apply State.applyPend_keeps | apply ite_keeps
            | apply dite_keeps | apply ite_fst | apply foldl_keeps | apply foldl_pair
    | (lift_lets; intro st; refine Keeps.cut (x := st) ?_ ?_; (focus (unfold st; try clear st)); rotate_left; intro hst; clear_value st)
    | (lift_lets; intro st; clear_value st)
    | split
    | exact rfl
    | ((try dsimp only); with_reducible first | apply wf_tset | apply wf_tsetAll | apply wf_tdrop)
    | exact Nat.zero_le _
    | (refine keeps_fst (by with_reducible assumption) ?_)

theorem execPulse_keeps {k s : State} (hs : Keeps k s) (a1) :
    OutKeeps k (execPulse a1 s) := by
  unfold execPulse
  repeat' first
    | with_reducible assumption
    | with_reducible
      first | apply next_keeps | apply State.pulse_keeps | apply State.loadRefresh_keeps | apply State.heldActs_keeps
            | apply ite_keeps

theorem State.acceptEdge_keeps {k s : State} (hs : Keeps k s) :
    Keeps k (State.acceptEdge s) := by
  unfold State.acceptEdge
  repeat' first
    | with_reducible assumption
    | with_reducible
      first | apply modWin_keeps

theorem State.earlyEdge_keeps {k s : State} (hs : Keeps k s) :
    Keeps k (State.earlyEdge s) := by
  unfold State.earlyEdge
  repeat' first
    | with_reducible assumption
    | with_reducible
      first | apply State.winEvt_keeps | apply modWin_keeps | apply State.log_keeps | apply ite_keeps

theorem execWinEdge_keeps {k s : State} (hs : Keeps k s) :
    OutKeeps k (execWinEdge s) := by
  unfold execWinEdge
  repeat' first
    | with_reducible assumption
    | with_reducible
      first | apply next_keeps | apply State.wakeBy_keeps | apply State.acceptEdge_keeps | apply State.earlyEdge_keeps
            | apply ite_keeps

theorem execGeneratorFire_keeps {k s : State} (hs : Keeps k s) :
    OutKeeps k (execGeneratorFire s) := by
  unfold execGeneratorFire
  repeat' first
    | with_reducible assumption
    | with_reducible
      first | apply next_keeps | apply State.acceptEdge_keeps | apply emit_keeps | apply ite_keeps

theorem State.newCounts_keeps {k s : State} (hs : Keeps k s) :
    Keeps k (State.newCounts s) := by
  unfold State.newCounts
  repeat' first
    | with_reducible assumption
    | exact id
    | intro _
    | with_reducible
      first | apply modSpl_keeps | apply modVert_keeps | apply modMem_keeps | apply modCst_keeps | apply modLnk_keeps
            | apply State.modNode_keeps | apply modIo_keeps | apply modWin_keeps | apply foldl_keeps

theorem State.sendMcnt_keeps {k s : State} (hs : Keeps k s) :
    Keeps k (State.sendMcnt s) := by
  unfold State.sendMcnt
  repeat' first
    | with_reducible assumption
    | intro _
    | with_reducible
      first | apply modLnk_keeps | apply foldl_keeps

theorem execEdgePulse_keeps {k s : State} (hs : Keeps k s) :
    OutKeeps k (execEdgePulse s) := by
  unfold execEdgePulse
  repeat' first
    | with_reducible assumption
    | with_reducible
      first | apply next_keeps | apply modWin_keeps | apply State.ctrlAll_keeps | apply modLeat_keeps | apply State.newCounts_keeps
            | apply State.sendMcnt_keeps | apply State.compareCount_keeps | apply modLnk_keeps | apply ite_keeps

theorem State.raisePromises_keeps {k s : State} (hs : Keeps k s) :
    Keeps k (State.raisePromises s) := by
  unfold State.raisePromises
  repeat' first
    | with_reducible assumption
    | intro _
    | with_reducible
      first | apply State.promiseRaised_keeps | apply foldl_keeps
    | split

theorem execWindowStart_keeps {k s : State} (hs : Keeps k s) :
    OutKeeps k (execWindowStart s) := by
  unfold execWindowStart
  repeat' first
    | with_reducible assumption
    | with_reducible
      first | apply next_keeps | apply State.dropStopped_keeps | apply modWin_keeps | apply modPwr_keeps
            | apply State.raisePromises_keeps | apply State.flumeWindowStart_keeps | apply State.linksWindowStart_keeps
            | apply ite_keeps

theorem State.boundaryDrained_keeps {k s : State} (hs : Keeps k s) :
    Keeps k (State.boundaryDrained s) := by
  unfold State.boundaryDrained
  repeat' first
    | with_reducible assumption
    | with_reducible
      first | apply modWin_keeps | apply State.releaseDynamic_keeps

theorem execLeatDrainComplete_keeps {k s : State} (hs : Keeps k s) :
    OutKeeps k (execLeatDrainComplete s) := by
  unfold execLeatDrainComplete
  repeat' first
    | with_reducible assumption
    | with_reducible
      first | apply next_keeps | apply State.boundaryDrained_keeps | apply State.commitHeld_keeps | apply modLeat_keeps
            | apply ite_keeps

theorem State.itemA_keeps {k s : State} (hs : Keeps k s) :
    Keeps k (State.itemA s) := by
  unfold State.itemA
  repeat' first
    | with_reducible assumption
    | with_reducible
      first | apply modImg_keeps | apply State.atItem_keeps | apply State.capBegin_keeps | apply State.afterA_keeps
    | (lift_lets; intro st; refine Keeps.cut (x := st) ?_ ?_; (focus (unfold st; try clear st)); rotate_left; intro hst; clear_value st)
    | split

theorem execLedgerFlushComplete_keeps {k s : State} (hs : Keeps k s) :
    OutKeeps k (execLedgerFlushComplete s) := by
  unfold execLedgerFlushComplete
  repeat' first
    | with_reducible assumption
    | with_reducible
      first | apply next_keeps | apply State.itemA_keeps | apply State.routeStep_keeps | apply modWin_keeps
            | apply State.flushLedgers_keeps | apply ite_keeps

theorem execCaptureCopyComplete_keeps {k s : State} (hs : Keeps k s) :
    OutKeeps k (execCaptureCopyComplete s) := by
  unfold execCaptureCopyComplete
  repeat' first
    | with_reducible assumption
    | with_reducible
      first | apply next_keeps | apply State.capture_keeps | apply State.clearHold_keeps | apply modRst_keeps | apply modThm_keeps
            | apply State.boundaryGoOn_keeps | apply State.postRecord?_keeps
    | split

theorem execThrottleRelockComplete_keeps {k s : State} (hs : Keeps k s) :
    OutKeeps k (execThrottleRelockComplete s) := by
  unfold execThrottleRelockComplete
  repeat' first
    | with_reducible assumption
    | with_reducible
      first | apply next_keeps | apply State.boundaryGoOn_keeps | apply State.clearHold_keeps | apply modRst_keeps
            | apply modClk_keeps
    | split

theorem execRestoreComplete_keeps {k s : State} (hs : Keeps k s) : OutKeeps k (execRestoreComplete s) := by
  unfold execRestoreComplete
  refine next_keeps ?_
  cases s.rst.capRun with
  | none => exact hs
  | some q =>
    have h := State.restoreAll_keeps (freshen_keeps hs) q.addr
    dsimp only
    generalize s.freshen.restoreAll q.addr = p at h
    exact ite_keeps hs (State.boundaryGoOn_keeps (State.postRecord?_keeps (State.clearHold_keeps (modRst_keeps h _) _) _ _ _))


end Sys2Proof.Machine
end

