-- ==== Sys2Proof/Laws/KeepsConfigRows.lean ====
section
/-! SUPPORT. What the operations of ConfigRows.lean keep (Keeps.lean). -/
set_option linter.unusedTactic false
set_option linter.unreachableTactic false
set_option linter.unusedVariables false
namespace Sys2Proof.Machine

theorem State.afterLoad_keeps {k s : State} (hs : Keeps k s) :
    Keeps k (State.afterLoad s) := by
  unfold State.afterLoad
  repeat' first
    | with_reducible assumption
    | with_reducible
      first | apply State.boundaryGoOn_keeps | apply State.applyPend_keeps | apply ite_keeps

theorem execFullLoadComplete_keeps {k s : State} (hs : Keeps k s) :
    OutKeeps k (execFullLoadComplete s) := by
  unfold execFullLoadComplete
  repeat' first
    | with_reducible assumption
    | with_reducible
      first | apply next_keeps | apply State.afterLoad_keeps | apply State.loadDone_keeps | apply State.loadFails_keeps
    | split

theorem State.reloadFails_keeps {k s : State} (hs : Keeps k s) (a1 a2) :
    Keeps k (State.reloadFails a1 a2 s) := by
  unfold State.reloadFails
  repeat' first
    | with_reducible assumption
    | with_reducible
      first | apply modImg_keeps | apply State.postRecord?_keeps | apply State.activeFails_keeps

theorem execApplyFail_keeps {k s : State} (hs : Keeps k s) :
    OutKeeps k (execApplyFail s) := by
  unfold execApplyFail
  repeat' first
    | with_reducible assumption
    | with_reducible
      first | apply next_keeps | apply State.afterLoad_keeps | apply State.loadFails_keeps | apply State.reloadFails_keeps
            | apply State.applyFails_keeps
    | split

theorem execPartialApplyComplete_keeps {k s : State} (hs : Keeps k s) :
    OutKeeps k (execPartialApplyComplete s) := by
  unfold execPartialApplyComplete
  repeat' first
    | with_reducible assumption
    | with_reducible
      first | apply next_keeps | apply State.afterLoad_keeps | apply State.applyReloaded_keeps | apply State.applyDone_keeps
            | apply State.applyFails_keeps
    | split

theorem execPatchCopyComplete_keeps {k s : State} (hs : Keeps k s) :
    OutKeeps k (execPatchCopyComplete s) := by
  unfold execPatchCopyComplete
  repeat' first
    | with_reducible assumption
    | with_reducible
      first | apply next_keeps | apply modImg_keeps | apply State.startUp_keeps | apply State.applyPend_keeps
    | split

theorem execReleaseStep_keeps {k s : State} (hs : Keeps k s) (a1) :
    OutKeeps k (execReleaseStep a1 s) := by
  unfold execReleaseStep
  repeat' first
    | with_reducible assumption
    | with_reducible
      first | apply next_keeps | apply State.cfgEvt_keeps | apply modImg_keeps | apply State.releaseStep_keeps | apply ite_keeps

theorem execStageReadbackComplete_keeps {k s : State} (hs : Keeps k s) :
    OutKeeps k (execStageReadbackComplete s) := by
  unfold execStageReadbackComplete
  repeat' first
    | with_reducible assumption
    | with_reducible
      first | apply next_keeps | apply modImg_keeps | apply State.setMark_keeps | apply State.sigFail_keeps
            | apply State.postRecord_keeps
    | split

theorem execVerifyComplete_keeps {k s : State} (hs : Keeps k s) :
    OutKeeps k (execVerifyComplete s) := by
  unfold execVerifyComplete
  repeat' first
    | with_reducible assumption
    | with_reducible
      first | apply next_keeps | apply modImg_keeps | apply State.setMark_keeps | apply State.sigFail_keeps
            | apply State.postRecord_keeps | apply State.cfgEvt_keeps
    | (lift_lets; intro st; refine Keeps.cut (x := st) ?_ ?_; (focus (unfold st; try clear st)); rotate_left; intro hst; clear_value st)
    | split

theorem State.dropFix_keeps {k s : State} (hs : Keeps k s) (a1) :
    Keeps k (State.dropFix a1 s) := by
  unfold State.dropFix
  repeat' first
    | with_reducible assumption
    | (intro st; refine Keeps.cut (x := st) ?_ ?_; (focus (unfold st; try clear st)); rotate_left; intro hst; clear_value st)
    | (intro st; clear_value st)
    | exact id
    | intro _
    | with_reducible
      first | apply modImg_keeps | apply ite_keeps | apply dite_keeps | apply ite_fst | apply foldl_keeps | apply foldl_pair
    | (lift_lets; intro st; refine Keeps.cut (x := st) ?_ ?_; (focus (unfold st; try clear st)); rotate_left; intro hst; clear_value st)
    | (lift_lets; intro st; clear_value st)
    | split
    | exact rfl
    | ((try dsimp only); with_reducible first | apply wf_tset | apply wf_tsetAll | apply wf_tdrop)
    | exact Nat.zero_le _
    | (refine keeps_fst (by with_reducible assumption) ?_)

theorem State.sweepNext_keeps {k s : State} (hs : Keeps k s) :
    Keeps k (State.sweepNext s) := by
  unfold State.sweepNext
  repeat' first
    | with_reducible assumption
    | with_reducible
      first | apply modImg_keeps | apply freshen_keeps | apply ite_keeps

theorem State.frameMismatch_keeps {k s : State} (hs : Keeps k s) (a1) :
    Keeps k (State.frameMismatch a1 s) := by
  unfold State.frameMismatch
  repeat' first
    | with_reducible assumption
    | with_reducible
      first | apply modImg_keeps | apply State.cfgEvt_keeps | apply State.log_keeps | apply ite_keeps

theorem execScrubFrameRead_keeps {k s : State} (hs : Keeps k s) :
    OutKeeps k (execScrubFrameRead s) := by
  unfold execScrubFrameRead
  repeat' first
    | with_reducible assumption
    | with_reducible
      first | apply next_keeps | apply State.sweepNext_keeps | apply modImg_keeps | apply State.frameMismatch_keeps
            | apply ite_keeps

theorem execRepairFrameArrival_keeps {k s : State} (hs : Keeps k s) (a1) :
    OutKeeps k (execRepairFrameArrival a1 s) := by
  unfold execRepairFrameArrival
  repeat' first
    | with_reducible assumption
    | with_reducible
      first | apply next_keeps | apply State.dropFix_keeps | apply State.log_keeps | apply State.repairFrame_keeps
            | apply modImg_keeps
    | split

theorem execScrubWdog_keeps {k s : State} (hs : Keeps k s) :
    OutKeeps k (execScrubWdog s) := by
  unfold execScrubWdog
  repeat' first
    | with_reducible assumption
    | with_reducible
      first | apply next_keeps | apply modImg_keeps | apply State.cfgEvt_keeps | apply State.log_keeps | apply ite_keeps

end Sys2Proof.Machine
end

