-- ==== Sys2Proof/Laws/KeepsIdentityCmds.lean ====
section
/-! SUPPORT. What the operations of IdentityCmds.lean keep (Keeps.lean). -/
set_option linter.unusedTactic false
set_option linter.unreachableTactic false
set_option linter.unusedVariables false
namespace Sys2Proof.Machine

theorem execIdGet_keeps {k s : State} (hs : Keeps k s) (a1) :
    OutKeeps k (execIdGet a1 s) := by
  unfold execIdGet
  repeat' first
    | with_reducible assumption
    | exact id
    | intro _
    | with_reducible
      first | apply next_keeps | apply State.serveCmd_keeps

theorem execPing_keeps {k s : State} (hs : Keeps k s) (a1) :
    OutKeeps k (execPing a1 s) := by
  unfold execPing
  repeat' first
    | with_reducible assumption
    | exact id
    | intro _
    | with_reducible
      first | apply next_keeps | apply State.serveCmd_keeps

theorem State.csrReads_keeps {k : State} (off n : Nat) : ∀ {s : State}, Keeps k s → Keeps k (State.csrReads off n s).1 := by
  induction n generalizing off with
  | zero => exact fun h => h
  | succ n ih => exact fun h => ih _ (State.csrRead_keeps h _ _)

theorem execCsrRead_keeps {k s : State} (hs : Keeps k s) (a1) : OutKeeps k (execCsrRead a1 s) := by
  refine next_keeps (State.serveCmd_keeps (fun u hu => ite_res (fail_keeps _) (ok_keeps (State.csrReads_keeps _ _ hu) _)) hs _ _ _ _)

theorem State.csrWrites_keeps {k : State} (vs : List W32) : ∀ (off n : Nat) {s : State}, Keeps k s →
    Keeps k (State.csrWrites off vs n s).1 := by
  induction vs with
  | nil => exact fun _ _ _ h => h
  | cons v vs ih =>
    intro off n s h
    unfold State.csrWrites
    exact ite_fst (ih _ _ (State.csrDrop_keeps h _ _ _ _)) (ih _ _ (State.regWrite_keeps h _ _))

theorem execCsrWrite_keeps {k s : State} (hs : Keeps k s) (a1) : OutKeeps k (execCsrWrite a1 s) := by
  refine next_keeps (State.serveCmd_keeps (fun u hu => ite_res (fail_keeps _) (ok_keeps (State.csrWrites_keeps _ _ _ hu) _)) hs _ _ _ _)

theorem execClaim_keeps {k s : State} (hs : Keeps k s) (a1) : OutKeeps k (execClaim a1 s) := by
  refine next_keeps (State.serve_judged (fun u hu hj => ?_) hs _ _)
  refine ok_keeps (State.setOwner_keeps hu _ _ ?_) _
  have hp : a1.port ≠ .pf1 := by
    intro hp
    simp only [State.judgeReq, hp] at hj
    split at hj
    · simp at hj
    · split at hj <;> simp at hj
  cases h : a1.port <;> simp_all [Port.num]

theorem execRelease_keeps {k s : State} (hs : Keeps k s) (a1) :
    OutKeeps k (execRelease a1 s) := by
  unfold execRelease
  repeat' first
    | with_reducible assumption
    | exact id
    | intro _
    | with_reducible
      first | apply next_keeps | apply ok_keeps | apply State.serveCmd_keeps | apply modLk_keeps | apply State.setOwner_keeps
    | exact Nat.zero_le _

theorem execHandover_keeps {k s : State} (hs : Keeps k s) (a1) : OutKeeps k (execHandover a1 s) := by
  refine next_keeps (State.serveCmd_keeps (fun u hu => ?_) hs _ _ _ _)
  dsimp only
  split
  · exact fail_keeps _
  · exact ok_keeps (State.renewLease_keeps (State.setOwner_keeps hu _ _ (by omega))) _


theorem execLeaseSet_keeps {k s : State} (hs : Keeps k s) (a1) :
    OutKeeps k (execLeaseSet a1 s) := by
  unfold execLeaseSet
  repeat' first
    | with_reducible assumption
    | exact id
    | intro _
    | with_reducible
      first | apply next_keeps | apply ok_keeps | apply fail_keeps | apply State.serveCmd_keeps | apply modLk_keeps
    | (lift_lets; intro st; clear_value st)
    | split

theorem execOwnerGet_keeps {k s : State} (hs : Keeps k s) (a1) :
    OutKeeps k (execOwnerGet a1 s) := by
  unfold execOwnerGet
  repeat' first
    | with_reducible assumption
    | exact id
    | intro _
    | with_reducible
      first | apply next_keeps | apply State.serveCmd_keeps

theorem execForward_keeps {k s : State} (hs : Keeps k s) (a1) :
    OutKeeps k (execForward a1 s) := by
  unfold execForward
  repeat' first
    | with_reducible assumption
    | exact id
    | intro _
    | with_reducible
      first | apply next_keeps | apply accept_keeps | apply fail_keeps | apply State.serveCmd_keeps | apply State.modLink_keeps
            | apply modLk_keeps
    | (lift_lets; intro st; clear_value st)
    | split

end Sys2Proof.Machine
end

