-- ==== Sys2Proof/Laws/KeepsImageCmds.lean ====
section
/-! SUPPORT. What the operations of ImageCmds.lean keep (Keeps.lean). -/
set_option linter.unusedTactic false
set_option linter.unreachableTactic false
set_option linter.unusedVariables false
namespace Sys2Proof.Machine

theorem execImgStatus_keeps {k s : State} (hs : Keeps k s) (a1) :
    OutKeeps k (execImgStatus a1 s) := by
  unfold execImgStatus
  repeat' first
    | with_reducible assumption
    | exact id
    | intro _
    | with_reducible
      first | apply next_keeps | apply State.serveCmd_keeps

theorem State.beginStaged_keeps {k s : State} (hs : Keeps k s) :
    Keeps k (State.beginStaged s) := by
  unfold State.beginStaged
  repeat' first
    | with_reducible assumption
    | with_reducible
      first | apply modImg_keeps | apply State.modBank_keeps | apply State.cfgEvt_keeps | apply State.log_keeps | apply ite_keeps

theorem execStageHost_keeps {k s : State} (hs : Keeps k s) (a1) :
    OutKeeps k (execStageHost a1 s) := by
  unfold execStageHost
  repeat' first
    | with_reducible assumption
    | intro _
    | with_reducible
      first | apply next_keeps | apply acceptThen_keeps | apply fail_keeps | apply State.serveCmd_keeps | apply modImg_keeps
            | apply State.modBank_keeps | apply State.beginStaged_keeps | apply State.stageNext_keeps | apply ite_res

theorem execStageBegin_keeps {k s : State} (hs : Keeps k s) (a1) :
    OutKeeps k (execStageBegin a1 s) := by
  unfold execStageBegin
  repeat' first
    | with_reducible assumption
    | intro _
    | with_reducible
      first | apply next_keeps | apply ok_keeps | apply fail_keeps | apply State.serveCmd_keeps | apply modImg_keeps
            | apply State.beginStaged_keeps
    | (lift_lets; intro st; clear_value st)
    | split

theorem execStageChunk_keeps {k s : State} (hs : Keeps k s) (a1) :
    OutKeeps k (execStageChunk a1 s) := by
  unfold execStageChunk
  repeat' first
    | with_reducible assumption
    | intro _
    | with_reducible
      first | apply next_keeps | apply ok_keeps | apply fail_keeps | apply State.serveCmd_keeps | apply State.modBank_keeps
            | apply State.writeStaged_keeps
    | (lift_lets; intro st; clear_value st)
    | split

theorem execStageEnd_keeps {k s : State} (hs : Keeps k s) (a1) :
    OutKeeps k (execStageEnd a1 s) := by
  unfold execStageEnd
  repeat' first
    | with_reducible assumption
    | intro _
    | with_reducible
      first | apply next_keeps | apply accept_keeps | apply fail_keeps | apply State.serveCmd_keeps | apply modImg_keeps
            | apply State.modBank_keeps
    | split

theorem State.setPendOp_keeps {k s : State} (hs : Keeps k s) (a1) :
    Keeps k (State.setPendOp a1 s) := by
  unfold State.setPendOp
  repeat' first
    | with_reducible assumption
    | with_reducible
      first | apply modImg_keeps

theorem State.pendNow_keeps {k s : State} (hs : Keeps k s) :
    Keeps k (State.pendNow s) := by
  unfold State.pendNow
  repeat' first
    | with_reducible assumption
    | with_reducible
      first | apply State.applyPend_keeps | apply ite_keeps

theorem execRollback_keeps {k s : State} (hs : Keeps k s) (a1) :
    OutKeeps k (execRollback a1 s) := by
  unfold execRollback
  repeat' first
    | with_reducible assumption
    | intro _
    | with_reducible
      first | apply next_keeps | apply acceptThen_keeps | apply fail_keeps | apply State.serveCmd_keeps
            | apply State.setPendOp_keeps | apply State.pendNow_keeps
    | (lift_lets; intro st; clear_value st)
    | split

theorem execJoin_keeps {k s : State} (hs : Keeps k s) (a1) :
    OutKeeps k (execJoin a1 s) := by
  unfold execJoin
  repeat' first
    | with_reducible assumption
    | intro _
    | with_reducible
      first | apply next_keeps | apply acceptThen_keeps | apply fail_keeps | apply State.serveCmd_keeps
            | apply State.setPendOp_keeps | apply State.pendNow_keeps
    | split

theorem execCancel_keeps {k s : State} (hs : Keeps k s) (a1) : OutKeeps k (execCancel a1 s) := by
  refine next_keeps (State.serveCmd_keeps (fun u hu => ?_) hs _ _ _ _)
  dsimp only
  cases u.img.pend with
  | none => exact fail_keeps _
  | some p =>
    have h : Keeps k (u.modImg fun x => { x with pend := none }) := modImg_keeps hu _
    exact ite_res (fail_keeps _) (ok_keeps (State.postRecord?_keeps (ite_keeps (State.modBank_keeps h _ _) h) _ _ _) _)


theorem execVerify_keeps {k s : State} (hs : Keeps k s) (a1) :
    OutKeeps k (execVerify a1 s) := by
  unfold execVerify
  repeat' first
    | with_reducible assumption
    | intro _
    | with_reducible
      first | apply next_keeps | apply accept_keeps | apply fail_keeps | apply State.serveCmd_keeps | apply modImg_keeps
    | split

theorem execReleaseGo_keeps {k s : State} (hs : Keeps k s) (a1) :
    OutKeeps k (execReleaseGo a1 s) := by
  unfold execReleaseGo
  repeat' first
    | with_reducible assumption
    | intro _
    | with_reducible
      first | apply next_keeps | apply ok_keeps | apply fail_keeps | apply State.serveCmd_keeps | apply State.releaseGo_keeps
    | split

theorem execImgHeader_keeps {k s : State} (hs : Keeps k s) (a1) :
    OutKeeps k (execImgHeader a1 s) := by
  unfold execImgHeader
  repeat' first
    | with_reducible assumption
    | intro _
    | with_reducible
      first | apply next_keeps | apply ok_keeps | apply fail_keeps | apply State.serveCmd_keeps
    | (lift_lets; intro st; clear_value st)
    | split

theorem State.addPatch_keeps {k s : State} (hs : Keeps k s) (a1) :
    Keeps k (State.addPatch a1 s) := by
  unfold State.addPatch
  repeat' first
    | with_reducible assumption
    | with_reducible
      first | apply State.modBank_keeps

theorem execImageCommit_keeps {k s : State} (hs : Keeps k s) (a1) :
    OutKeeps k (execImageCommit a1 s) := by
  unfold execImageCommit
  repeat' first
    | with_reducible assumption
    | intro _
    | with_reducible
      first | apply next_keeps | apply acceptThen_keeps | apply fail_keeps | apply State.serveCmd_keeps
            | apply State.setPendOp_keeps | apply State.addPatch_keeps | apply State.pendNow_keeps
    | (lift_lets; intro st; clear_value st)
    | split

end Sys2Proof.Machine
end

