-- ==== Sys2Proof/Laws/KeepsLockkeeper.lean ====
section
/-! SUPPORT. What the operations of Lockkeeper.lean keep (Keeps.lean). -/
set_option linter.unusedTactic false
set_option linter.unreachableTactic false
set_option linter.unusedVariables false
namespace Sys2Proof.Machine

theorem State.postDeferred_keeps {k s : State} (hs : Keeps k s) :
    Keeps k (State.postDeferred s) := by
  unfold State.postDeferred
  repeat' first
    | with_reducible assumption
    | exact id
    | intro _
    | with_reducible
      first | apply modLk_keeps | apply State.postNow_keeps | apply modSec_keeps | apply foldl_keeps
    | split
    | exact rfl

theorem State.fwRuns_keeps {k s : State} (hs : Keeps k s) (a1 a2) :
    Keeps k (State.fwRuns a1 a2 s) := by
  unfold State.fwRuns
  repeat' first
    | with_reducible assumption
    | exact id
    | with_reducible
      first | apply modLk_keeps | apply modSec_keeps
    | exact rfl

theorem State.fwBoot_keeps {k s : State} (hs : Keeps k s) :
    Keeps k (State.fwBoot s) := by
  unfold State.fwBoot
  repeat' first
    | with_reducible assumption
    | intro _
    | with_reducible
      first | apply State.fwRuns_keeps | apply State.log_keeps | apply modSec_keeps
    | (lift_lets; intro st; clear_value st)
    | split
    | exact rfl

theorem execLockkeeperInService_keeps {k s : State} (hs : Keeps k s) :
    OutKeeps k (execLockkeeperInService s) := by
  unfold execLockkeeperInService
  repeat' first
    | with_reducible assumption
    | exact id
    | with_reducible
      first | apply next_keeps | apply State.startUp_keeps | apply State.postDeferred_keeps | apply modLk_keeps
            | apply State.fwBoot_keeps | apply ite_keeps

theorem execBadOpcode_keeps {k s : State} (hs : Keeps k s) (a1 a2) :
    OutKeeps k (execBadOpcode a1 a2 s) := by
  unfold execBadOpcode
  repeat' first
    | with_reducible assumption
    | with_reducible
      first | apply next_keeps | apply State.hwBusy_keeps | apply State.memCut_keeps | apply State.notCommand_keeps
            | apply ite_keeps

theorem State.logSuppressed_keeps {k s : State} (hs : Keeps k s) :
    Keeps k (State.logSuppressed s) := by
  unfold State.logSuppressed
  repeat' first
    | with_reducible assumption
    | exact id
    | with_reducible
      first | apply State.log_keeps | apply modLk_keeps | apply ite_keeps

theorem execHousekeeping_keeps {k s : State} (hs : Keeps k s) :
    OutKeeps k (execHousekeeping s) := by
  unfold execHousekeeping
  repeat' first
    | with_reducible assumption
    | with_reducible
      first | apply next_keeps | apply State.logSuppressed_keeps | apply State.memCut_keeps | apply ite_keeps

theorem State.memRestart_keeps {k s : State} (hs : Keeps k s) :
    Keeps k (State.memRestart s) := by
  unfold State.memRestart
  repeat' first
    | with_reducible assumption
    | exact id
    | intro _
    | with_reducible
      first | apply State.hwBusy_keeps | apply modLk_keeps | apply ite_keeps | apply foldl_keeps

theorem State.restartBegin_keeps {k s : State} (hs : Keeps k s) :
    Keeps k (State.restartBegin s) := by
  unfold State.restartBegin
  repeat' first
    | with_reducible assumption
    | exact id
    | with_reducible
      first | apply modLk_keeps | apply State.memCut_keeps | apply State.memRestart_keeps

theorem State.fullRestart_keeps {k s : State} (hs : Keeps k s) (a1) :
    Keeps k (State.fullRestart a1 s) := by
  unfold State.fullRestart
  repeat' first
    | with_reducible assumption
    | with_reducible
      first | apply State.log_keeps | apply State.restartBegin_keeps

theorem execLockstepMismatch_keeps {k s : State} (hs : Keeps k s) :
    OutKeeps k (execLockstepMismatch s) := by
  unfold execLockstepMismatch
  repeat' first
    | with_reducible assumption
    | exact id
    | with_reducible
      first | apply next_keeps | apply State.fullRestart_keeps | apply State.log_keeps | apply modLk_keeps | apply ite_keeps

theorem execFetchTrap_keeps {k s : State} (hs : Keeps k s) (a1 a2 a3) :
    OutKeeps k (execFetchTrap a1 a2 a3 s) := by
  unfold execFetchTrap
  repeat' first
    | with_reducible assumption
    | with_reducible
      first | apply next_keeps | apply State.fullRestart_keeps | apply State.log_keeps | apply ite_keeps

theorem execHwResponderCutoff_keeps {k s : State} (hs : Keeps k s) (a1) :
    OutKeeps k (execHwResponderCutoff a1 s) := by
  unfold execHwResponderCutoff
  repeat' first
    | with_reducible assumption
    | exact id
    | with_reducible
      first | apply next_keeps | apply State.memCut_keeps | apply State.hwBusy_keeps | apply modLk_keeps | apply State.modSlc_keeps
    | split

theorem execLeaseExpiry_keeps {k s : State} (hs : Keeps k s) :
    OutKeeps k (execLeaseExpiry s) := by
  unfold execLeaseExpiry
  repeat' first
    | with_reducible assumption
    | with_reducible
      first | apply next_keeps | apply State.expireLease_keeps

/-- A block written leaves no more in the queue (R324). -/
theorem LogState.writeBlock_length (l : LogState) : l.writeBlock.queue.length ≤ l.queue.length := by
  unfold LogState.writeBlock
  dsimp only
  split
  · exact le_refl _
  · simp

theorem execLogHeadgateWrite_keeps {k s : State} (hs : Keeps k s) : OutKeeps k (execLogHeadgateWrite s) :=
  next_keeps (ite_keeps (State.logSuppressed_keeps (modLk_keeps hs _ fun h =>
    ⟨le_trans (LogState.writeBlock_length _) h.1, h.2⟩)) hs)


theorem execControlRingSegmentFail_keeps {k s : State} (hs : Keeps k s) (a1) :
    OutKeeps k (execControlRingSegmentFail a1 s) := by
  unfold execControlRingSegmentFail
  repeat' first
    | with_reducible assumption
    | (intro st; refine Keeps.cut (x := st) ?_ ?_; (focus (unfold st; try clear st)); rotate_left; intro hst; clear_value st)
    | (intro st; clear_value st)
    | exact id
    | intro _
    | with_reducible
      first | apply next_keeps | apply ok_keeps | apply okPoison_keeps | apply accept_keeps | apply okThen_keeps
            | apply acceptThen_keeps | apply fail_keeps | apply partly_keeps | apply wait_keeps | apply State.vFail_keeps
            | apply modLk_keeps | apply ite_res | apply ite_keeps | apply dite_keeps | apply ite_fst | apply foldl_keeps
            | apply foldl_pair
    | (lift_lets; intro st; refine Keeps.cut (x := st) ?_ ?_; (focus (unfold st; try clear st)); rotate_left; intro hst; clear_value st)
    | (lift_lets; intro st; clear_value st)
    | split
    | exact rfl
    | ((try dsimp only); with_reducible first | apply wf_tset | apply wf_tsetAll | apply wf_tdrop)
    | exact Nat.zero_le _
    | (refine keeps_fst (by with_reducible assumption) ?_)

end Sys2Proof.Machine
end

