-- ==== Sys2Proof/Laws/KeepsLogCmds.lean ====
section
/-! SUPPORT. What the operations of LogCmds.lean keep (Keeps.lean). -/
set_option linter.unusedTactic false
set_option linter.unreachableTactic false
set_option linter.unusedVariables false
namespace Sys2Proof.Machine

theorem execSensorRead_keeps {k s : State} (hs : Keeps k s) (a1) :
    OutKeeps k (execSensorRead a1 s) := by
  unfold execSensorRead
  repeat' first
    | with_reducible assumption
    | exact id
    | intro _
    | with_reducible
      first | apply next_keeps | apply State.serveCmd_keeps

theorem execSpliceSummary_keeps {k s : State} (hs : Keeps k s) (a1) :
    OutKeeps k (execSpliceSummary a1 s) := by
  unfold execSpliceSummary
  repeat' first
    | with_reducible assumption
    | exact id
    | intro _
    | with_reducible
      first | apply next_keeps | apply State.serveCmd_keeps

theorem execSplicePair_keeps {k s : State} (hs : Keeps k s) (a1) :
    OutKeeps k (execSplicePair a1 s) := by
  unfold execSplicePair
  repeat' first
    | with_reducible assumption
    | intro _
    | with_reducible
      first | apply next_keeps | apply ok_keeps | apply fail_keeps | apply State.serveCmd_keeps
    | (lift_lets; intro st; clear_value st)
    | split

theorem execLogRead_keeps {k s : State} (hs : Keeps k s) (a1) :
    OutKeeps k (execLogRead a1 s) := by
  unfold execLogRead
  repeat' first
    | with_reducible assumption
    | intro _
    | with_reducible
      first | apply next_keeps | apply ok_keeps | apply fail_keeps | apply State.serveCmd_keeps
    | (lift_lets; intro st; clear_value st)
    | split

theorem execLogInfo_keeps {k s : State} (hs : Keeps k s) (a1) :
    OutKeeps k (execLogInfo a1 s) := by
  unfold execLogInfo
  repeat' first
    | with_reducible assumption
    | exact id
    | intro _
    | with_reducible
      first | apply next_keeps | apply State.serveCmd_keeps | apply freshen_keeps

end Sys2Proof.Machine
end

