-- ==== Sys2Proof/Laws/KeepsMemoryCmds.lean ====
section
/-! SUPPORT. What the operations of MemoryCmds.lean keep (Keeps.lean). -/
set_option linter.unusedTactic false
set_option linter.unreachableTactic false
set_option linter.unusedVariables false
namespace Sys2Proof.Machine

theorem execLinkStatus_keeps {k s : State} (hs : Keeps k s) (a1) :
    OutKeeps k (execLinkStatus a1 s) := by
  unfold execLinkStatus
  repeat' first
    | with_reducible assumption
    | intro _
    | with_reducible
      first | apply next_keeps | apply ok_keeps | apply fail_keeps | apply State.serveCmd_keeps
    | (lift_lets; intro st; clear_value st)
    | split

theorem execLaneGroup_keeps {k s : State} (hs : Keeps k s) (a1) :
    OutKeeps k (execLaneGroup a1 s) := by
  unfold execLaneGroup
  repeat' first
    | with_reducible assumption
    | intro _
    | with_reducible
      first | apply next_keeps | apply ok_keeps | apply fail_keeps | apply State.serveCmd_keeps
    | (lift_lets; intro st; clear_value st)
    | split

theorem execLinkSet_keeps {k s : State} (hs : Keeps k s) (a1) :
    OutKeeps k (execLinkSet a1 s) := by
  unfold execLinkSet
  repeat' first
    | with_reducible assumption
    | intro _
    | with_reducible
      first | apply next_keeps | apply ok_keeps | apply fail_keeps | apply State.serveCmd_keeps | apply State.lnkCtl_keeps
    | split

theorem execArrayStatus_keeps {k s : State} (hs : Keeps k s) (a1) :
    OutKeeps k (execArrayStatus a1 s) := by
  unfold execArrayStatus
  repeat' first
    | with_reducible assumption
    | exact id
    | intro _
    | with_reducible
      first | apply next_keeps | apply State.serveCmd_keeps

theorem execMemStatus_keeps {k s : State} (hs : Keeps k s) (a1) :
    OutKeeps k (execMemStatus a1 s) := by
  unfold execMemStatus
  repeat' first
    | with_reducible assumption
    | intro _
    | with_reducible
      first | apply next_keeps | apply fail_keeps | apply State.serveCmd_keeps | apply State.readLatch_keeps | apply ite_res
    | (lift_lets; intro st; refine Keeps.cut (x := st) ?_ ?_; (focus (unfold st; try clear st)); rotate_left; intro hst; clear_value st)

theorem execMemFill_keeps {k s : State} (hs : Keeps k s) (a1) :
    OutKeeps k (execMemFill a1 s) := by
  unfold execMemFill
  repeat' first
    | with_reducible assumption
    | intro _
    | with_reducible
      first | apply next_keeps | apply accept_keeps | apply fail_keeps | apply State.serveCmd_keeps | apply modMem_keeps
            | apply State.startFill_keeps | apply foldl_keeps
    | (lift_lets; intro st; clear_value st)
    | split

theorem execScrubSet_keeps {k s : State} (hs : Keeps k s) (a1) :
    OutKeeps k (execScrubSet a1 s) := by
  unfold execScrubSet
  repeat' first
    | with_reducible assumption
    | intro _
    | with_reducible
      first | apply next_keeps | apply ok_keeps | apply fail_keeps | apply State.serveCmd_keeps | apply modCst_keeps
            | apply State.modCtl_keeps | apply foldl_keeps
    | (lift_lets; intro st; clear_value st)
    | split

theorem execCisternEcc_keeps {k s : State} (hs : Keeps k s) (a1) :
    OutKeeps k (execCisternEcc a1 s) := by
  unfold execCisternEcc
  repeat' first
    | with_reducible assumption
    | exact id
    | intro _
    | with_reducible
      first | apply next_keeps | apply State.serveCmd_keeps

theorem State.memBegin_keeps {k s : State} (hs : Keeps k s) (a1) :
    Keeps k (State.memBegin a1 s) := by
  unfold State.memBegin
  repeat' first
    | with_reducible assumption
    | exact id
    | with_reducible
      first | apply State.memSend_keeps | apply modLk_keeps

theorem execMemRead_keeps {k s : State} (hs : Keeps k s) (a1) :
    OutKeeps k (execMemRead a1 s) := by
  unfold execMemRead
  repeat' first
    | with_reducible assumption
    | intro _
    | with_reducible
      first | apply next_keeps | apply fail_keeps | apply wait_keeps | apply State.serveCmd_keeps | apply State.memBegin_keeps
    | (lift_lets; intro st; clear_value st)
    | split

theorem execMemWrite_keeps {k s : State} (hs : Keeps k s) (a1) :
    OutKeeps k (execMemWrite a1 s) := by
  unfold execMemWrite
  repeat' first
    | with_reducible assumption
    | intro _
    | with_reducible
      first | apply next_keeps | apply fail_keeps | apply wait_keeps | apply State.serveCmd_keeps | apply State.memBegin_keeps
    | (lift_lets; intro st; clear_value st)
    | split

end Sys2Proof.Machine
end

