-- ==== Sys2Proof/Laws/KeepsNetCmds.lean ====
section
/-! SUPPORT. What the operations of NetCmds.lean keep (Keeps.lean). -/
set_option linter.unusedTactic false
set_option linter.unreachableTactic false
set_option linter.unusedVariables false
namespace Sys2Proof.Machine

theorem execFlmStatus_keeps {k s : State} (hs : Keeps k s) (a1) :
    OutKeeps k (execFlmStatus a1 s) := by
  unfold execFlmStatus
  repeat' first
    | with_reducible assumption
    | intro _
    | with_reducible
      first | apply next_keeps | apply ok_keeps | apply fail_keeps | apply State.serveCmd_keeps
    | (lift_lets; intro st; clear_value st)
    | split

theorem execFlmRing_keeps {k s : State} (hs : Keeps k s) (a1) :
    OutKeeps k (execFlmRing a1 s) := by
  unfold execFlmRing
  repeat' first
    | with_reducible assumption
    | intro _
    | with_reducible
      first | apply next_keeps | apply ok_keeps | apply fail_keeps | apply State.serveCmd_keeps | apply State.flmRingLo_keeps
            | apply State.flmRingHi_keeps | apply State.flmSize_keeps
    | (lift_lets; intro st; clear_value st)
    | split

theorem execFlmTail_keeps {k s : State} (hs : Keeps k s) (a1) :
    OutKeeps k (execFlmTail a1 s) := by
  unfold execFlmTail
  repeat' first
    | with_reducible assumption
    | intro _
    | with_reducible
      first | apply next_keeps | apply ok_keeps | apply fail_keeps | apply State.serveCmd_keeps | apply State.flmTail_keeps
    | split

theorem execFlmCtl_keeps {k s : State} (hs : Keeps k s) (a1) :
    OutKeeps k (execFlmCtl a1 s) := by
  unfold execFlmCtl
  repeat' first
    | with_reducible assumption
    | intro _
    | with_reducible
      first | apply next_keeps | apply ok_keeps | apply fail_keeps | apply State.serveCmd_keeps | apply State.flmCtl_keeps
    | split

theorem execHorizon_keeps {k s : State} (hs : Keeps k s) (a1) :
    OutKeeps k (execHorizon a1 s) := by
  unfold execHorizon
  repeat' first
    | with_reducible assumption
    | intro _
    | with_reducible
      first | apply next_keeps | apply ok_keeps | apply fail_keeps | apply State.serveCmd_keeps
    | (lift_lets; intro st; clear_value st)
    | split

theorem execNiStatus_keeps {k s : State} (hs : Keeps k s) (a1) :
    OutKeeps k (execNiStatus a1 s) := by
  unfold execNiStatus
  repeat' first
    | with_reducible assumption
    | intro _
    | with_reducible
      first | apply next_keeps | apply ok_keeps | apply fail_keeps | apply State.serveCmd_keeps
    | (lift_lets; intro st; clear_value st)
    | split

theorem execNiSet_keeps {k s : State} (hs : Keeps k s) (a1) :
    OutKeeps k (execNiSet a1 s) := by
  unfold execNiSet
  repeat' first
    | with_reducible assumption
    | intro _
    | with_reducible
      first | apply next_keeps | apply fail_keeps | apply State.serveCmd_keeps | apply State.niWrite_keeps | apply ite_res
            | apply ite_keeps
    | (lift_lets; intro st; refine Keeps.cut (x := st) ?_ ?_; (focus (unfold st; try clear st)); rotate_left; intro hst; clear_value st)

theorem execRouteWrite_keeps {k s : State} (hs : Keeps k s) (a1) :
    OutKeeps k (execRouteWrite a1 s) := by
  unfold execRouteWrite
  repeat' first
    | with_reducible assumption
    | intro _
    | with_reducible
      first | apply next_keeps | apply ok_keeps | apply fail_keeps | apply State.serveCmd_keeps | apply State.rteStage_keeps
            | apply foldl_keeps
    | (lift_lets; intro st; clear_value st)
    | split

theorem execRouteRead_keeps {k s : State} (hs : Keeps k s) (a1) :
    OutKeeps k (execRouteRead a1 s) := by
  unfold execRouteRead
  repeat' first
    | with_reducible assumption
    | intro _
    | with_reducible
      first | apply next_keeps | apply ok_keeps | apply fail_keeps | apply State.serveCmd_keeps
    | (lift_lets; intro st; clear_value st)
    | split

theorem execOtkRsvWrite_keeps {k s : State} (hs : Keeps k s) (a1) :
    OutKeeps k (execOtkRsvWrite a1 s) := by
  unfold execOtkRsvWrite
  repeat' first
    | with_reducible assumption
    | intro _
    | with_reducible
      first | apply next_keeps | apply ok_keeps | apply fail_keeps | apply State.serveCmd_keeps | apply State.otkStage_keeps
            | apply foldl_keeps
    | (lift_lets; intro st; clear_value st)
    | split

theorem execRouteArm_keeps {k s : State} (hs : Keeps k s) (a1) :
    OutKeeps k (execRouteArm a1 s) := by
  unfold execRouteArm
  repeat' first
    | with_reducible assumption
    | intro _
    | with_reducible
      first | apply next_keeps | apply accept_keeps | apply fail_keeps | apply State.serveCmd_keeps | apply State.armCommit_keeps
    | split

theorem execIsolClear_keeps {k s : State} (hs : Keeps k s) (a1) :
    OutKeeps k (execIsolClear a1 s) := by
  unfold execIsolClear
  repeat' first
    | with_reducible assumption
    | intro _
    | with_reducible
      first | apply next_keeps | apply fail_keeps | apply State.serveCmd_keeps | apply State.isolClear_keeps
            | apply State.clearIsolations_keeps | apply ite_res | apply ite_keeps
    | (lift_lets; intro st; refine Keeps.cut (x := st) ?_ ?_; (focus (unfold st; try clear st)); rotate_left; intro hst; clear_value st)

end Sys2Proof.Machine
end

