-- ==== Sys2Proof/Laws/KeepsPowerCmds.lean ====
section
/-! SUPPORT. What the operations of PowerCmds.lean keep (Keeps.lean). -/
set_option linter.unusedTactic false
set_option linter.unreachableTactic false
set_option linter.unusedVariables false
namespace Sys2Proof.Machine

theorem execPwrStatus_keeps {k s : State} (hs : Keeps k s) (a1) :
    OutKeeps k (execPwrStatus a1 s) := by
  unfold execPwrStatus
  repeat' first
    | with_reducible assumption
    | exact id
    | intro _
    | with_reducible
      first | apply next_keeps | apply State.serveCmd_keeps

theorem State.domStays_keeps {k s : State} (hs : Keeps k s) (a1 a2) :
    Keeps k (State.domStays a1 a2 s) := by
  unfold State.domStays
  repeat' first
    | with_reducible assumption
    | intro _
    | with_reducible
      first | apply State.modCtl_keeps | apply ite_keeps | apply foldl_keeps

theorem State.domAsk_keeps {k s : State} (hs : Keeps k s) (a1 a2 a3) :
    Keeps k (State.domAsk a1 a2 a3 s) := by
  unfold State.domAsk
  repeat' first
    | with_reducible assumption
    | with_reducible
      first | apply State.domWake_keeps | apply State.setPend_keeps | apply modPwr_keeps | apply State.domStep_keeps
            | apply ite_keeps

theorem execDomainSet_keeps {k s : State} (hs : Keeps k s) (a1) :
    OutKeeps k (execDomainSet a1 s) := by
  unfold execDomainSet
  repeat' first
    | with_reducible assumption
    | intro _
    | with_reducible
      first | apply next_keeps | apply accept_keeps | apply acceptThen_keeps | apply fail_keeps | apply State.serveCmd_keeps
            | apply State.modDom_keeps | apply State.domStays_keeps | apply State.postRecord_keeps
            | apply State.domAsk_keeps
    | (lift_lets; intro st; clear_value st)
    | split

theorem execDeviceSleep_keeps {k s : State} (hs : Keeps k s) (a1) :
    OutKeeps k (execDeviceSleep a1 s) := by
  unfold execDeviceSleep
  repeat' first
    | with_reducible assumption
    | intro _
    | with_reducible
      first | apply next_keeps | apply acceptThen_keeps | apply fail_keeps | apply State.serveCmd_keeps
            | apply State.sleepRequest_keeps
    | (lift_lets; intro st; clear_value st)
    | split

theorem execWakeConfig_keeps {k s : State} (hs : Keeps k s) (a1) :
    OutKeeps k (execWakeConfig a1 s) := by
  unfold execWakeConfig
  repeat' first
    | with_reducible assumption
    | intro _
    | with_reducible
      first | apply next_keeps | apply ok_keeps | apply fail_keeps | apply State.serveCmd_keeps | apply modPwr_keeps
            | apply State.wakeEnable_keeps
    | split

theorem execWake_keeps {k s : State} (hs : Keeps k s) (a1) :
    OutKeeps k (execWake a1 s) := by
  unfold execWake
  repeat' first
    | with_reducible assumption
    | intro _
    | with_reducible
      first | apply next_keeps | apply ok_keeps | apply acceptThen_keeps | apply fail_keeps | apply State.serveCmd_keeps
            | apply State.sleepWithdraw_keeps | apply State.wakeBy_keeps
    | split

theorem execThermalSet_keeps {k s : State} (hs : Keeps k s) (a1) :
    OutKeeps k (execThermalSet a1 s) := by
  unfold execThermalSet
  repeat' first
    | with_reducible assumption
    | intro _
    | with_reducible
      first | apply next_keeps | apply ok_keeps | apply fail_keeps | apply State.serveCmd_keeps | apply State.thmStart_keeps
    | split

theorem execClkStatus_keeps {k s : State} (hs : Keeps k s) (a1) :
    OutKeeps k (execClkStatus a1 s) := by
  unfold execClkStatus
  repeat' first
    | with_reducible assumption
    | exact id
    | intro _
    | with_reducible
      first | apply next_keeps | apply State.serveCmd_keeps

theorem execRefSelect_keeps {k s : State} (hs : Keeps k s) (a1) :
    OutKeeps k (execRefSelect a1 s) := by
  unfold execRefSelect
  repeat' first
    | with_reducible assumption
    | intro _
    | with_reducible
      first | apply next_keeps | apply ok_keeps | apply fail_keeps | apply State.serveCmd_keeps | apply State.selectRef_keeps
    | split

theorem execSluiceSet_keeps {k s : State} (hs : Keeps k s) (a1) :
    OutKeeps k (execSluiceSet a1 s) := by
  unfold execSluiceSet
  repeat' first
    | with_reducible assumption
    | intro _
    | with_reducible
      first | apply next_keeps | apply ok_keeps | apply fail_keeps | apply wait_keeps | apply State.serveCmd_keeps
            | apply State.slcRequest_keeps | apply State.modSlc_keeps | apply ite_res

end Sys2Proof.Machine
end

