-- ==== Sys2Proof/Laws/KeepsResets.lean ====
section
/-! SUPPORT. What the operations of Resets.lean keep (Keeps.lean). -/
set_option linter.unusedTactic false
set_option linter.unreachableTactic false
set_option linter.unusedVariables false
namespace Sys2Proof.Machine

theorem State.unpowered_keeps {k s : State} (hs : Keeps k s) : Keeps k s.unpowered :=
  hs.to rfl rfl (fun _ => rfl) (fun _ => rfl) (fun _ => ⟨Nat.zero_le _, Nat.zero_le _⟩) rfl rfl

theorem execPowerOn_keeps {k s : State} (hs : Keeps k s) (a1) :
    OutKeeps k (execPowerOn a1 s) := by
  unfold execPowerOn
  repeat' first
    | with_reducible assumption
    | with_reducible
      first | apply next_keeps | apply State.unpowered_keeps | apply modVert_keeps | apply modSpl_keeps | apply modClk_keeps
            | apply modHost_keeps | apply modWin_keeps | apply modRst_keeps

theorem execPowerOff_keeps {k s : State} (hs : Keeps k s) :
    OutKeeps k (execPowerOff s) := by
  unfold execPowerOff
  repeat' first
    | with_reducible assumption
    | with_reducible
      first | apply next_keeps | apply State.unpowered_keeps

theorem State.warmBegin_keeps {k s : State} (hs : Keeps k s) (a1) :
    Keeps k (State.warmBegin a1 s) := by
  unfold State.warmBegin
  repeat' first
    | with_reducible assumption
    | with_reducible
      first | apply ok_keeps | apply modRst_keeps | apply State.clockStop_keeps

theorem execResetNAssert_keeps {k s : State} (hs : Keeps k s) :
    OutKeeps k (execResetNAssert s) := by
  unfold execResetNAssert
  repeat' first
    | with_reducible assumption
    | with_reducible
      first | apply next_keeps | apply modRst_keeps | apply State.warmBegin_keeps | apply ite_keeps

theorem State.pinsReleased_keeps {k s : State} (hs : Keeps k s) :
    Keeps k (State.pinsReleased s) := by
  unfold State.pinsReleased
  repeat' first
    | with_reducible assumption
    | with_reducible
      first | apply State.showPins_keeps | apply modFab_keeps

theorem State.warmHeld_keeps {k s : State} (hs : Keeps k s) : Keeps k s.warmHeld := by
  have h := State.pinsReleased_keeps hs
  unfold State.warmHeld
  generalize s.pinsReleased = u at h
  exact ⟨h.pending, h.made, h.words, h.rows, h.legal, h.out, h.fresh⟩

theorem State.rebuildLedgers_keeps {k s : State} (hs : Keeps k s) :
    Keeps k (State.rebuildLedgers s) := by
  unfold State.rebuildLedgers
  repeat' first
    | with_reducible assumption
    | intro _
    | with_reducible
      first | apply State.modCtl_keeps | apply State.ledgerLost_keeps | apply ite_keeps | apply foldl_keeps

theorem State.startBegin_keeps {k s : State} (hs : Keeps k s) :
    Keeps k (State.startBegin s) := by
  unfold State.startBegin
  repeat' first
    | with_reducible assumption
    | with_reducible
      first | apply State.startUp_keeps | apply State.rebuildLedgers_keeps | apply modRst_keeps

theorem State.quiesced_keeps {k s : State} (hs : Keeps k s) (a1) :
    Keeps k (State.quiesced a1 s) := by
  unfold State.quiesced
  repeat' first
    | with_reducible assumption
    | intro _
    | with_reducible
      first | apply State.flushAll_keeps | apply State.modCtl_keeps | apply State.warmHeld_keeps | apply State.setOwner_keeps
            | apply State.startBegin_keeps | apply ite_keeps | apply foldl_keeps
    | exact Nat.zero_le _

theorem execWarmResetQuiesceDone_keeps {k s : State} (hs : Keeps k s) :
    OutKeeps k (execWarmResetQuiesceDone s) := by
  unfold execWarmResetQuiesceDone
  repeat' first
    | with_reducible assumption
    | with_reducible
      first | apply next_keeps | apply State.quiesced_keeps | apply ite_keeps

theorem execResetTimeout_keeps {k s : State} (hs : Keeps k s) (a1) :
    OutKeeps k (execResetTimeout a1 s) := by
  unfold execResetTimeout
  repeat' first
    | with_reducible assumption
    | with_reducible
      first | apply next_keeps | apply State.quiesced_keeps | apply State.log_keeps | apply ite_keeps

theorem execResetNRelease_keeps {k s : State} (hs : Keeps k s) (a1 a2) :
    OutKeeps k (execResetNRelease a1 a2 s) := by
  unfold execResetNRelease
  repeat' first
    | with_reducible assumption
    | with_reducible
      first | apply next_keeps | apply modRst_keeps | apply modWin_keeps | apply modThm_keeps | apply State.startBegin_keeps
            | apply ite_keeps

theorem State.offStart_keeps {k s : State} (hs : Keeps k s) : Keeps k s.offStart := by
  have h := State.warmHeld_keeps hs
  unfold State.offStart
  generalize s.warmHeld = u at h
  refine State.startBegin_keeps (modRst_keeps ?_ _)
  exact ⟨h.pending, h.made, fun _ => rfl, h.rows, hs.legal, h.out, h.fresh⟩

theorem execPowerGood_keeps {k s : State} (hs : Keeps k s) :
    OutKeeps k (execPowerGood s) := by
  unfold execPowerGood
  repeat' first
    | with_reducible assumption
    | with_reducible
      first | apply next_keeps | apply modPwr_keeps | apply State.offStart_keeps | apply State.startUp_keeps | apply ite_keeps

theorem State.commandRestart_keeps {k s : State} (hs : Keeps k s) :
    Keeps k (State.commandRestart s) := by
  unfold State.commandRestart
  repeat' first
    | with_reducible assumption
    | with_reducible
      first | apply freshen_keeps | apply State.restartBegin_keeps | apply State.log_keeps

theorem dieResetBody_keeps {k s : State} (hs : Keeps k s) (a1) : ResKeeps k (dieResetBody a1 s) := by
  unfold dieResetBody
  dsimp only
  refine ite_res (fail_keeps _) (ite_res (ite_res (fail_keeps _) (acceptThen_keeps hs fun u hu => State.forceSill_keeps hu _)) ?_)
  exact accept_keeps (ite_keeps (State.resetBegin_keeps (modRst_keeps hs _)) (modRst_keeps hs _))


theorem execDieReset_keeps {k s : State} (hs : Keeps k s) (a1) :
    OutKeeps k (execDieReset a1 s) := by
  unfold execDieReset
  repeat' first
    | with_reducible assumption
    | intro _
    | with_reducible
      first | apply next_keeps | apply State.serveCmd_keeps | apply dieResetBody_keeps

theorem execDieResetComplete_keeps {k s : State} (hs : Keeps k s) (a1) :
    OutKeeps k (execDieResetComplete a1 s) := by
  unfold execDieResetComplete
  repeat' first
    | with_reducible assumption
    | with_reducible
      first | apply next_keeps | apply State.boundaryGoOn_keeps | apply State.powerSettle_keeps | apply State.dieResetDone_keeps
    | split

theorem execDomainReset_keeps {k s : State} (hs : Keeps k s) (a1) :
    OutKeeps k (execDomainReset a1 s) := by
  unfold execDomainReset
  repeat' first
    | with_reducible assumption
    | intro _
    | with_reducible
      first | apply next_keeps | apply fail_keeps | apply State.serveCmd_keeps | apply modRst_keeps | apply State.resetBegin_keeps
            | apply ite_res | apply ite_keeps
    | (lift_lets; intro st; refine Keeps.cut (x := st) ?_ ?_; (focus (unfold st; try clear st)); rotate_left; intro hst; clear_value st)

theorem execDomainResetComplete_keeps {k s : State} (hs : Keeps k s) (a1 a2) :
    OutKeeps k (execDomainResetComplete a1 a2 s) := by
  unfold execDomainResetComplete
  repeat' first
    | with_reducible assumption
    | with_reducible
      first | apply next_keeps | apply modRst_keeps | apply State.domReset_keeps | apply State.boundaryGoOn_keeps
            | apply State.powerSettle_keeps | apply State.domResetDone_keeps
    | (lift_lets; intro st; refine Keeps.cut (x := st) ?_ ?_; (focus (unfold st; try clear st)); rotate_left; intro hst; clear_value st)
    | split

theorem execDeviceReset_keeps {k s : State} (hs : Keeps k s) (a1) :
    OutKeeps k (execDeviceReset a1 s) := by
  unfold execDeviceReset
  repeat' first
    | with_reducible assumption
    | intro _
    | with_reducible
      first | apply next_keeps | apply ok_keeps | apply State.serveCmd_keeps | apply modRst_keeps

theorem execLkRestart_keeps {k s : State} (hs : Keeps k s) (a1) :
    OutKeeps k (execLkRestart a1 s) := by
  unfold execLkRestart
  repeat' first
    | with_reducible assumption
    | intro _
    | with_reducible
      first | apply next_keeps | apply okThen_keeps | apply State.serveCmd_keeps | apply State.commandRestart_keeps

theorem execSillResetHoldEnd_keeps {k s : State} (hs : Keeps k s) :
    OutKeeps k (execSillResetHoldEnd s) := by
  unfold execSillResetHoldEnd
  repeat' first
    | with_reducible assumption
    | with_reducible
      first | apply next_keeps | apply modRst_keeps

theorem execForcedResetComplete_keeps {k s : State} (hs : Keeps k s) :
    OutKeeps k (execForcedResetComplete s) := by
  unfold execForcedResetComplete
  repeat' first
    | with_reducible assumption
    | with_reducible
      first | apply next_keeps | apply State.forcedEnd_keeps | apply modWin_keeps | apply State.boundaryDrained_keeps
            | apply State.boundaryGoOn_keeps | apply ite_keeps
    | split

theorem execWarmResetBegin_keeps {k s : State} (hs : Keeps k s) :
    OutKeeps k (execWarmResetBegin s) := by
  unfold execWarmResetBegin
  repeat' first
    | with_reducible assumption
    | with_reducible
      first | apply next_keeps | apply State.warmBegin_keeps | apply modRst_keeps | apply ite_keeps

end Sys2Proof.Machine
end

