-- ==== Sys2Proof/Laws/KeepsSecurityCmds.lean ====
section
/-! SUPPORT. What the operations of SecurityCmds.lean keep (Keeps.lean). -/
set_option linter.unusedTactic false
set_option linter.unreachableTactic false
set_option linter.unusedVariables false
namespace Sys2Proof.Machine

theorem execAttest_keeps {k s : State} (hs : Keeps k s) (a1) :
    OutKeeps k (execAttest a1 s) := by
  unfold execAttest
  repeat' first
    | with_reducible assumption
    | intro _
    | with_reducible
      first | apply next_keeps | apply accept_keeps | apply State.serveCmd_keeps | apply modSec_keeps
    | exact rfl

theorem execAttestReportDone_keeps {k s : State} (hs : Keeps k s) : OutKeeps k (execAttestReportDone s) := by
  unfold execAttestReportDone
  refine next_keeps ?_
  cases s.sec.attests with
  | nil => exact hs
  | cons a l => exact State.postRecord_keeps (modSec_keeps (freshen_keeps hs) _ rfl rfl rfl rfl) _ _ _

theorem execAttestGet_keeps {k s : State} (hs : Keeps k s) (a1) :
    OutKeeps k (execAttestGet a1 s) := by
  unfold execAttestGet
  repeat' first
    | with_reducible assumption
    | intro _
    | with_reducible
      first | apply next_keeps | apply ok_keeps | apply fail_keeps | apply State.serveCmd_keeps
    | split

theorem execCertGet_keeps {k s : State} (hs : Keeps k s) (a1) :
    OutKeeps k (execCertGet a1 s) := by
  unfold execCertGet
  repeat' first
    | with_reducible assumption
    | intro _
    | with_reducible
      first | apply next_keeps | apply ok_keeps | apply fail_keeps | apply State.serveCmd_keeps
    | (lift_lets; intro st; clear_value st)
    | split

theorem execKeyStatus_keeps {k s : State} (hs : Keeps k s) (a1) :
    OutKeeps k (execKeyStatus a1 s) := by
  unfold execKeyStatus
  repeat' first
    | with_reducible assumption
    | exact id
    | intro _
    | with_reducible
      first | apply next_keeps | apply State.serveCmd_keeps | apply freshen_keeps

theorem State.modSlot_keeps {k s : State} (hs : Keeps k s) (a1 a2) :
    Keeps k (State.modSlot a1 a2 s) := by
  unfold State.modSlot
  repeat' first
    | with_reducible assumption
    | with_reducible
      first | apply modSec_keeps
    | split
    | exact rfl

theorem State.authAct_keeps {k s : State} (hs : Keeps k s) (a1 a2 a3 a4) :
    Keeps k (State.authAct a1 a2 a3 a4 s) := by
  unfold State.authAct
  repeat' first
    | with_reducible assumption
    | with_reducible
      first | apply modSec_keeps | apply State.modSlot_keeps | apply State.secEvt_keeps | apply State.log_keeps
    | exact rfl

theorem State.authFail_keeps {k s : State} (hs : Keeps k s) (a1 a2 a3) :
    Keeps k (State.authFail a1 a2 a3 s) := by
  unfold State.authFail
  repeat' first
    | with_reducible assumption
    | with_reducible
      first | apply State.secEvt_keeps | apply modSec_keeps | apply State.log_keeps
    | exact rfl

theorem State.authorise_keeps {k s : State} (hs : Keeps k s) (a2 a3 a4 a5 a6 a7) :
    ResKeeps k (State.authorise s a2 a3 a4 a5 a6 a7) := by
  unfold State.authorise
  repeat' first
    | with_reducible assumption
    | with_reducible
      first | apply ok_keeps | apply fail_keeps | apply partly_keeps | apply State.authAct_keeps | apply State.authFail_keeps
    | (lift_lets; intro st; clear_value st)
    | split

theorem execKeyInstall_keeps {k s : State} (hs : Keeps k s) (a1) :
    OutKeeps k (execKeyInstall a1 s) := by
  unfold execKeyInstall
  repeat' first
    | with_reducible assumption
    | intro _
    | with_reducible
      first | apply next_keeps | apply fail_keeps | apply State.serveCmd_keeps | apply State.authorise_keeps
    | (lift_lets; intro st; clear_value st)
    | split

theorem execKeyRevoke_keeps {k s : State} (hs : Keeps k s) (a1) :
    OutKeeps k (execKeyRevoke a1 s) := by
  unfold execKeyRevoke
  repeat' first
    | with_reducible assumption
    | intro _
    | with_reducible
      first | apply next_keeps | apply fail_keeps | apply State.serveCmd_keeps | apply State.authorise_keeps
    | (lift_lets; intro st; clear_value st)
    | split

theorem State.fwWrite_keeps {k s : State} (hs : Keeps k s) (a1 a2 a3) :
    Keeps k (State.fwWrite a1 a2 a3 s) := by
  unfold State.fwWrite
  repeat' first
    | with_reducible assumption
    | with_reducible
      first | apply modSec_keeps
    | split
    | exact rfl

theorem execFwChunk_keeps {k s : State} (hs : Keeps k s) (a1) :
    OutKeeps k (execFwChunk a1 s) := by
  unfold execFwChunk
  repeat' first
    | with_reducible assumption
    | intro _
    | with_reducible
      first | apply next_keeps | apply ok_keeps | apply fail_keeps | apply State.serveCmd_keeps | apply State.fwWrite_keeps
    | (lift_lets; intro st; clear_value st)
    | split

theorem execFwSwitch_keeps {k s : State} (hs : Keeps k s) (a1) :
    OutKeeps k (execFwSwitch a1 s) := by
  unfold execFwSwitch
  repeat' first
    | with_reducible assumption
    | intro _
    | with_reducible
      first | apply next_keeps | apply accept_keeps | apply fail_keeps | apply State.serveCmd_keeps | apply modSec_keeps
    | (lift_lets; intro st; clear_value st)
    | split
    | exact rfl

theorem execFwVerifyComplete_keeps {k s : State} (hs : Keeps k s) : OutKeeps k (execFwVerifyComplete s) := by
  unfold execFwVerifyComplete
  refine next_keeps ?_
  cases s.sec.switching with
  | none => exact hs
  | some q =>
    obtain ⟨o, len⟩ := q
    dsimp only
    cases s.switchCause len with
    | none =>
      exact State.commandRestart_keeps (State.secEvt_keeps (State.log_keeps (modSec_keeps hs _ rfl rfl rfl rfl) _ _ _ _ _ _) _)
    | some c =>
      exact State.postRecord_keeps (State.secEvt_keeps (State.log_keeps (modSec_keeps hs _ rfl rfl rfl rfl) _ _ _ _ _ _) _) _ _ _


end Sys2Proof.Machine
end

