-- ==== Sys2Proof/Laws/KeepsThermal.lean ====
section
/-! SUPPORT. What the operations of Thermal.lean keep (Keeps.lean). -/
set_option linter.unusedTactic false
set_option linter.unreachableTactic false
set_option linter.unusedVariables false
namespace Sys2Proof.Machine

theorem State.sampleRest_keeps {k s : State} (hs : Keeps k s) (a1) :
    Keeps k (State.sampleRest a1 s) := by
  unfold State.sampleRest
  repeat' first
    | with_reducible assumption
    | with_reducible
      first | apply modThm_keeps | apply modClk_keeps | apply ite_keeps

theorem State.railWatch_keeps {k s : State} (hs : Keeps k s) :
    Keeps k (State.railWatch s) := by
  unfold State.railWatch
  repeat' first
    | with_reducible assumption
    | with_reducible
      first | apply modPwr_keeps | apply State.pwrEvt_keeps | apply State.log_keeps | apply ite_keeps
    | split

theorem State.sampleMon_keeps {k s : State} (hs : Keeps k s) (a1) :
    Keeps k (State.sampleMon a1 s) := by
  unfold State.sampleMon
  repeat' first
    | with_reducible assumption
    | intro _
    | with_reducible
      first | apply modThm_keeps | apply State.pwrEvt_keeps | apply State.log_keeps | apply ite_keeps | apply foldl_keeps

theorem State.sampleTarget_keeps {k s : State} (hs : Keeps k s) :
    Keeps k (State.sampleTarget s) := by
  unfold State.sampleTarget
  repeat' first
    | with_reducible assumption
    | with_reducible
      first | apply modThm_keeps | apply State.thmEvt_keeps | apply State.log_keeps | apply ite_keeps

theorem State.sampleHot_keeps {k s : State} (hs : Keeps k s) :
    Keeps k (State.sampleHot s) := by
  unfold State.sampleHot
  repeat' first
    | with_reducible assumption
    | (intro st; refine Keeps.cut (x := st) ?_ ?_; (focus (unfold st; try clear st)); rotate_left; intro hst; clear_value st)
    | with_reducible
      first | apply modThm_keeps | apply freshen_keeps
    | (lift_lets; intro st; clear_value st)
    | split

theorem State.sampleDiodes_keeps {k s : State} (hs : Keeps k s) (a1) :
    Keeps k (State.sampleDiodes a1 s) := by
  unfold State.sampleDiodes
  repeat' first
    | with_reducible assumption
    | intro _
    | with_reducible
      first | apply modThm_keeps | apply State.thmEvt_keeps | apply State.log_keeps | apply ite_keeps | apply foldl_keeps

theorem State.tickMs_keeps {k s : State} (hs : Keeps k s) :
    Keeps k (State.tickMs s) := by
  unfold State.tickMs
  repeat' first
    | with_reducible assumption
    | exact id
    | with_reducible
      first | apply modLk_keeps | apply State.expireLease_keeps | apply modClk_keeps | apply modThm_keeps | apply ite_keeps

theorem State.orderlyStop_keeps {k s : State} (hs : Keeps k s) :
    Keeps k (State.orderlyStop s) := by
  unfold State.orderlyStop
  repeat' first
    | with_reducible assumption
    | with_reducible
      first | apply modThm_keeps | apply State.sleepWithdraw_keeps | apply State.thermalStop_keeps | apply ite_keeps

theorem execSensorSample_keeps {k s : State} (hs : Keeps k s) (a1) :
    OutKeeps k (execSensorSample a1 s) := by
  unfold execSensorSample
  repeat' first
    | with_reducible assumption
    | with_reducible
      first | apply next_keeps | apply State.sampleRest_keeps | apply State.railWatch_keeps | apply State.sampleMon_keeps
            | apply State.sampleTarget_keeps | apply State.sampleHot_keeps | apply State.sampleDiodes_keeps
            | apply State.tickMs_keeps | apply State.bistSample_keeps | apply State.orderlyStop_keeps
            | apply State.wakeBy_keeps | apply ite_keeps

theorem State.dropThermalCap_keeps {k s : State} (hs : Keeps k s) :
    Keeps k (State.dropThermalCap s) := by
  unfold State.dropThermalCap
  repeat' first
    | with_reducible assumption
    | with_reducible
      first | apply State.clearHold_keeps | apply modRst_keeps
    | split

theorem execOrderlyStopTimeout_keeps {k s : State} (hs : Keeps k s) :
    OutKeeps k (execOrderlyStopTimeout s) := by
  unfold execOrderlyStopTimeout
  repeat' first
    | with_reducible assumption
    | with_reducible
      first | apply next_keeps | apply modThm_keeps | apply State.clockStop_keeps | apply State.thermalStop_keeps
            | apply State.boundaryGoOn_keeps | apply State.dropThermalCap_keeps
    | (lift_lets; intro st; refine Keeps.cut (x := st) ?_ ?_; (focus (unfold st; try clear st)); rotate_left; intro hst; clear_value st)
    | split

theorem execHardTrip_keeps {k s : State} (hs : Keeps k s) (a1) :
    OutKeeps k (execHardTrip a1 s) := by
  unfold execHardTrip
  repeat' first
    | with_reducible assumption
    | with_reducible
      first | apply next_keeps | apply modThm_keeps | apply State.dropThermalCap_keeps | apply emit_keeps
            | apply State.showPins_keeps | apply State.takeStop_keeps | apply ite_keeps

end Sys2Proof.Machine
end

