-- ==== Sys2Proof/Laws/KeepsWindowCmds.lean ====
section
/-! SUPPORT. What the operations of WindowCmds.lean keep (Keeps.lean). -/
set_option linter.unusedTactic false
set_option linter.unreachableTactic false
set_option linter.unusedVariables false
namespace Sys2Proof.Machine

theorem execWinStatus_keeps {k s : State} (hs : Keeps k s) (a1) :
    OutKeeps k (execWinStatus a1 s) := by
  unfold execWinStatus
  repeat' first
    | with_reducible assumption
    | exact id
    | intro _
    | with_reducible
      first | apply next_keeps | apply State.serveCmd_keeps | apply freshen_keeps

theorem execWinHold_keeps {k s : State} (hs : Keeps k s) (a1) :
    OutKeeps k (execWinHold a1 s) := by
  unfold execWinHold
  repeat' first
    | with_reducible assumption
    | intro _
    | with_reducible
      first | apply next_keeps | apply ok_keeps | apply fail_keeps | apply State.serveCmd_keeps | apply State.winHold_keeps
    | split

theorem execWinConfig_keeps {k s : State} (hs : Keeps k s) (a1) :
    OutKeeps k (execWinConfig a1 s) := by
  unfold execWinConfig
  repeat' first
    | with_reducible assumption
    | intro _
    | with_reducible
      first | apply next_keeps | apply ok_keeps | apply fail_keeps | apply State.serveCmd_keeps | apply State.winLead_keeps
            | apply modWin_keeps | apply State.winLen_keeps | apply State.winMode_keeps
    | split

theorem execArrayStart_keeps {k s : State} (hs : Keeps k s) (a1) :
    OutKeeps k (execArrayStart a1 s) := by
  unfold execArrayStart
  repeat' first
    | with_reducible assumption
    | intro _
    | with_reducible
      first | apply next_keeps | apply acceptThen_keeps | apply fail_keeps | apply State.serveCmd_keeps
            | apply State.arrayStart_keeps
    | (lift_lets; intro st; clear_value st)
    | split

theorem execFaultClear_keeps {k s : State} (hs : Keeps k s) (a1) :
    OutKeeps k (execFaultClear a1 s) := by
  unfold execFaultClear
  repeat' first
    | with_reducible assumption
    | intro _
    | with_reducible
      first | apply next_keeps | apply ok_keeps | apply partly_keeps | apply State.serveCmd_keeps | apply State.clearCause_keeps
            | apply ite_res | apply ite_keeps

end Sys2Proof.Machine
end

