-- ==== Sys2Proof/Laws/Pages.lean ====
section
/-! SUPPORT. The codes on a page that nothing has written: it decodes clean, and its page code agrees (07_deep_memory R148,
R149). -/
namespace Sys2Proof.Machine

theorem gfMulBits_zero (n b : Nat) : gfMulBits n 0 b = 0 := by
  induction n generalizing b with
  | zero => rfl
  | succ n ih => simp [gfMulBits, gfDouble, ih]

theorem pageGenTail_length : pageGenTail.length = 32 := by decide +kernel

theorem pageStep_zero :
    List.zipWith (· ^^^ ·) (List.replicate 31 0 ++ [0]) (polyScale (0 ^^^ 0) pageGenTail) = List.replicate 32 0 := by
  have e : polyScale (0 ^^^ 0) pageGenTail = List.replicate 32 0 := by
    rw [List.eq_replicate_iff]
    refine ⟨by simp [polyScale, pageGenTail_length], fun b hb => ?_⟩
    obtain ⟨c, -, rfl⟩ := List.mem_map.mp hb
    exact gfMulBits_zero 9 c
  rw [e]; rfl

/-- The page code of zeros. -/
theorem pageCheck_zero (n : Nat) : pageCheck (List.replicate n 0) = List.replicate 32 0 := by
  unfold pageCheck
  induction n with
  | zero => rfl
  | succ n ih =>
    rw [show List.replicate (n + 1) 0 = 0 :: List.replicate n 0 from rfl, List.foldl_cons]
    exact (congrArg (fun r => List.foldl _ r _) pageStep_zero).trans ih

/-- A page in an empty memory reads as 240 clean zeros. -/
theorem pageRead_empty {s : State} (h : s.mem.words = []) (m page : Nat) :
    s.pageRead m page = List.replicate 240 ⟨.clean, 0⟩ := by
  rw [State.pageRead, List.eq_replicate_iff]
  refine ⟨by simp, fun r hr => ?_⟩
  obtain ⟨j, -, rfl⟩ := List.mem_map.mp hr
  rw [State.stored, h]; exact (by decide : lightDecode (tget [] 0 0) = ⟨.clean, 0⟩)

theorem pageRead_empty_clean {s : State} (h : s.mem.words = []) (m page : Nat) :
    ∀ r ∈ s.pageRead m page, r.kind = .clean := by
  rw [pageRead_empty h]; intro r hr; rw [List.eq_of_mem_replicate hr]

/-- Its codeword has no syndrome where the ledger holds nothing for it. -/
theorem pageSyndrome_empty {s : State} (h : s.mem.words = []) (m page : Nat) :
    pageSyndrome (s.pageRead m page) [] = false := by
  have c : (List.replicate 224 (⟨.clean, 0⟩ : LightRead)).flatMap (fun r => wordSyms r.data) = List.replicate 448 0 := by decide +kernel
  have d : (List.replicate 16 (⟨.clean, 0⟩ : LightRead)).flatMap (fun r => wordSyms r.data) = List.replicate 32 0 := by decide +kernel
  simp only [pageSyndrome, pageRead_empty h, List.take_replicate, List.drop_replicate]
  rw [show min 224 240 = 224 from rfl, show 240 - 224 = 16 from rfl, c, d, pageCheck_zero]
  decide

end Sys2Proof.Machine
end

