-- ==== Sys2Proof/Tests/Slice0.lean ====
section
/-! SUPPORT. Tests: worked examples of the spec, check values of the algorithms it names, an ill-formed command for each check of
WellFormed, and for each obligation with hypotheses states and operands that meet them. -/
namespace Sys2Proof.Tests
open Sys2Proof.Machine

-- one theorem at a time: each thread reserves a stack
set_option Elab.async false
set_option linter.unusedVariables false

/-- A device in service with its windows held, owned by the function pf0. -/
def dev : State := { State.reset with
  lk.inService := true, lk.owner := 1, host.linkUp := true, host.pf0.mse := true, host.pf0.bme := true,
  host.pf1.mse := true, rst.st := .none, win.st := .held, pwr.railsGood := true }

/-- A request from pf0. -/
def rq (ps : List W32) : Req := { port := .pf0, params := ps }

/-- A long operation of pf0. -/
def og : Origin := { port := .pf0, tag := 0, opcode := 0 }

/-- The device of `dev` with its windows running. -/
def devRun : State := { dev with win.st := .running }

theorem pairOfSnd {α β : Type} {x : α × β} {b : β} (h : x.2 = b) : x = (x.1, b) := by cases x; cases h; rfl

/-- A vertical channel. -/
def vch : VChan := { die := 3, kind := .headgate, group := 127, up := false, ch := 59 }

/-- A channel of the control ring. -/
def vrl : VChan := { die := 2, kind := .relay, group := 1, up := false, ch := 287 }

/-- A received frame whose CRC agrees. -/
def rxf (start : BitVec 64) (data : List (BitVec 64)) : RxFrame :=
  { start := start, data := data, crc := frameCrc start data }

/-- A device whose monitors read their nominal values, with a diode at 0 °C and a reference. -/
def devBist : State := { dev with
  thm.vmon := (List.range 24).map (fun m => (m, w32 (monNominal m))), thm.hot := 0, clk.inUse := some .a }

theorem tget_range (f : Nat → W32) (m : Nat) (h : m < 24) :
    tget ((List.range 24).map (fun m => (m, f m))) 0 m = f m := by
  interval_cases m <;> rfl

theorem field_small (n : Nat) (h : n < 2 ^ 16) : field (w32 n) 0 16 = n := by
  simp only [field, w32, BitVec.toNat_ofNat, Nat.shiftRight_zero]; omega

theorem monNominal_small (m : Nat) : monNominal m < 2 ^ 16 := by
  have f : ∀ {c : Prop} [Decidable c] {a b : Nat}, a < 2 ^ 16 → b < 2 ^ 16 → (if c then a else b) < 2 ^ 16 := by
    intro c _ a b ha hb; split <;> assumption
  unfold monNominal
  repeat' apply f
  all_goals first | decide | exact (Config.monitorNominal m).isLt

theorem devBist_mv (m : Nat) (h : m < 24) : devBist.monMv m = monNominal m :=
  (congrArg (fun x => field x 0 16) (tget_range (fun m => w32 (monNominal m)) m h)).trans
    (field_small _ (monNominal_small m))

theorem devBist_ok : devBist.freshen.bistCond = none := by
  have e : (List.range 24).find? (fun m =>
      decide (100 * devBist.freshen.monMv m < 97 * monNominal m) || decide (103 * monNominal m < 100 * devBist.freshen.monMv m)) = none := by
    rw [List.find?_eq_none]
    intro m hm
    have h : devBist.freshen.monMv m = monNominal m := devBist_mv m (List.mem_range.mp hm)
    simp only [h, Bool.or_eq_true, decide_eq_true_eq]; omega
  unfold State.bistCond; rw [e]; rfl

theorem markGood_of {s : State} {b : Nat} {i : BitVec 2} {h : BitVec 256} (m : (s.img.bank b).mark = some (i, h))
    (u : (s.sec.slot i.toNat).st = 1) (k : keyHash (s.sec.slot i.toNat).key = h) : s.markGood b = true := by
  simp [State.markGood, m, u, k]

/-- A device with a checked image in its Staged bank. -/
def devStaged : State := { dev with
  img.stgValid := true, sec.slot0.st := 1,
  img.bank2 := { bytes := (List.range 8).map (fun i => (4 + i, some (if i = 4 then 1 else 0))), mark := some (0, keyHash 0) } }

theorem devStaged_good : devStaged.markGood devStaged.img.stg = true :=
  markGood_of rfl (by decide) (congrArg keyHash (by decide))

/-- A device with a checked image in its previous bank. -/
def devPrev : State := { dev with sec.slot3.st := 1, img.bank1.mark := some (3, keyHash 0) }

theorem devPrev_good : devPrev.markGood devPrev.img.prev = true :=
  markGood_of rfl (by decide) (congrArg keyHash (by decide))


/-- A modulus of 3,072 bits, and a signature of RSASSA-PSS (15 R373) under it, made outside the model with another implementation:
over a firmware header without a body. -/
@[irreducible] def rsaN : Nat := 2 ^ 3071 + 2291

@[irreducible] def sigFw : Nat := 0x17e7efc2e0548345abfd509cccc94ca46024558be79b654acef6abbb7cbf81ef68920a1b4c9c2f73e8625cb3c778ae1e97add1e08e8f1328196990866d7ac700e92178c76e83a10064413959200b9345e3299c783219160868f9f15931b3b1b250bb07fbb2dd2c586b93b05a2091cdb43b2d4c96ad5c2432b2a04e0849f24d87072ff30024af95171e4d388b6f979a157fe460b060db77292b8a11c03386a46237914b284ebfac3c3e6dbae43b0d35e6f09def56b064a78f84e164c96c2208f17065b9bdc40bf77e8078479518a24e869b3e67770a57a076fd74ec85ab0b34aa46ffad307a4f94d6feb430ad71748e09be9db778a115450d993a62fca264801aff250e25ae0950474bc8af3a0589580f1e4c2656f298864aa93e29407fbd28804da5358858a9fcd154e725046d928b112da90203aab0320338ae29eb27ec1bb7706a17a12def8a48ea09cec4a3b5397b7a4a7b7489c748bf4ac96e8c5a951155de27794db2ed64a5aabf1c48b8961b35206d1e2e38b05af919e2fb3a13299f15

/-- A firmware slot without a body, of the vendor root key `rsaN` (15 R382), as one number, most significant byte first. -/
def fwBlob : Nat := 0x80204B4C01 * 256 ^ 891 + rsaN * 256 ^ 448 + sigFw

def fwImage (i : Nat) : Byte := BitVec.ofNat 8 (fwBlob >>> (8 * (895 - i)))

/-- A device that switches to a firmware of the vendor root key whose hash is fused. -/
def devSwitch : State := { dev with
  sec.switching := some (og, 896),
  sec.fw1 := (List.range 896).map fun i => (i, fwImage i),
  sec.fuses.rootHash := keyHash rsaN }

theorem tget_run {α : Type} (f : Nat → α) (d : α) (n a k : Nat) (l : a ≤ k) (h : k < a + n) :
    tget ((List.range' a n).map fun i => (i, f i)) d k = f k := by
  induction n generalizing a with
  | zero => omega
  | succ n ih =>
    rw [List.range'_succ, List.map_cons, tget]
    by_cases e : a = k
    · simp [e]
    · simp only [e, if_false]; exact ih (a + 1) (by omega) (by omega)

theorem fwRun_image (a n : Nat) (h : a + n ≤ 896) :
    fwRun devSwitch.sec.fw1 a n = (List.range n).map fun i => (fwImage (a + i)).toNat := by
  simp only [fwRun, fwByte, devSwitch, List.range_eq_range' (n := 896)]
  refine List.map_congr_left fun i hi => ?_
  rw [tget_run _ _ _ _ _ (Nat.zero_le _) (by have := List.mem_range.mp hi; omega)]

theorem devSwitch_key : beWord (fwRun devSwitch.sec.fw1 64 384) = rsaN := by
  rw [fwRun_image _ _ (by decide)]; decide +kernel
theorem devSwitch_format : fwFormat devSwitch.sec.fw1 0 = true := by
  rw [fwFormat, fwRun_image _ _ (by decide), fwRun_image _ _ (by decide)]; decide +kernel
theorem devSwitch_signed :
    pssVerify rsaN (fwRun devSwitch.sec.fw1 512 384) (fwMeasure devSwitch.sec.fw1 0) = true := by
  rw [fwMeasure, fwRun_image _ _ (by decide), fwRun_image _ _ (by decide)]; decide +kernel

theorem devSwitch_ok : devSwitch.switchCause 896 = none := by
  have e : devSwitch.switchCause 896 = devSwitch.fwCause (~~~devSwitch.sec.fwNamed) (896 - 896) := if_neg (by decide)
  have f : devSwitch.sec.fw 1 = devSwitch.sec.fw1 := rfl
  have k : keyHash rsaN = devSwitch.sec.fuses.rootHash := rfl
  have v : ¬(fwWord devSwitch.sec.fw1 12).toNat < devSwitch.sec.fwMin.toNat := Nat.not_lt_zero _
  rw [e, show (~~~devSwitch.sec.fwNamed) = 1 from rfl, Nat.sub_self, State.fwCause, f]
  rw [Nat.add_zero, devSwitch_key, devSwitch_format, devSwitch_signed, if_neg (by decide), if_neg (not_not_intro k), if_neg (by decide), if_neg v]

/-! ### Worked examples of the spec -/

/-- What a command leaves, where it goes on. -/
def after (i : Instr) (s : State) : State := match exec i s with | .next t => t | _ => s

/-- 02_knots_hanks_plots, the adder under R30: a = 3, b = 1, no carry in: OUT 0, HALF 0, carry out 1. -/
theorem test_arithmetic_mode :
    (List.range 3).map (fun w => kFn (0xF000_0FF0_8888_6666 + (0x42 <<< 112)) w 7) = [false, false, true] := by decide +kernel

/-- 02_knots_hanks_plots, the three-hank route: the source hank has X = 175 and Y = 83. -/
theorem test_hank_place : hankX (hankIx (plotIx 0 10 5) 15 3) = 175 ∧ hankY (hankIx (plotIx 0 10 5) 15 3) = 83 := by decide +kernel

/-- The hank of the example of 03_strands_turns: (A, 20, 14, 6, 9). -/
def exHank : Nat := hankIx (plotIx 0 20 14) 6 9

/-- A knot whose OUT is 1 in its strand. -/
def exOne : BitVec 160 := (0x40 <<< 112) ||| 0xFFFFFFFFFFFFFFFF

/-- Strand 1 of that example: knot 3 with the strand value of the text, and knots 0 to 2 with OUT 1, or not active. -/
def exStrand (ks : List Nat) : State := { State.reset with
  win.strand := 1,
  fab.latch := ks.map (fun k => ((exHank * 16 + k) * 8 + 1, exOne)) ++
    [((exHank * 16 + 3) * 8 + 1, 0xFFFFFF008050FEFEFE0804009696969696969696)] }

/-- 03_strands_turns, one strand of one knot: the parity of three OUT outputs. -/
theorem test_parity_knot :
    (exStrand [0, 1, 2]).sig [] (.out (exHank * 16 + 3)) = some true ∧
    (exStrand [1, 2]).sig [] (.out (exHank * 16 + 3)) = some false := by decide +kernel

/-- The same example: QA is in use, QB is not. -/
theorem test_parity_flops :
    kInUse 0xFFFFFF008050FEFEFE0804009696969696969696 120 = true ∧
    kInUse 0xFFFFFF008050FEFEFE0804009696969696969696 128 = false := by decide

/-- 03_strands_turns, two clocks: entries 0 and 1 in turns 0 to 7. -/
theorem test_pattern_entries :
    (List.range 8).map (fun n =>
      let s : State := { State.reset with win.turnCount := n, fab.pat := [(0, 0xB + (3 <<< 64)), (1, 0x5 + (3 <<< 64))] }
      (s.patternValue 0 0, s.patternValue 0 1)) =
    [(true, true), (true, false), (false, true), (true, false), (true, true), (true, false), (false, true), (true, false)] := by
  decide +kernel

/-- 05_window_timing R104: H = 12,000 gives Wmin = 6,000; 08_leat_network: H = 555 gives 4,096. -/
theorem test_minimum_length : minLength 12000 = 6000 ∧ minLength 555 = 4096 := by decide

/-- 06_cisterns R124: address 0xA03 of 4,096 × 9 names row 0x501. -/
theorem test_cistern_row : cstRows 1 0xA03 = [0x501] := by decide

/-- 06_cisterns, the worked example: BANK 4 of port A in strand 5 turns 0x155 into 0x555. -/
theorem test_cistern_bank : cstEff (0x09 <<< 96) false 5 0x155 = 0x555 := by decide +kernel

/-- The same example: service address 0xC000_00C1_DD55 is row 0x555 of cistern (A, 12, 7, 3). -/
theorem test_cistern_service :
    svcPlace { dest := 0, src := 0, cmd := .read, addr := 0xC00000C1DD55 } 0 = (plotIx 0 12 7 * 8 + 3, 0x555) := by decide +kernel

/-- 07_deep_memory R143, R144: word 16,777,216 lies in channel 18, local page 2,340, offset 64. -/
theorem test_locate_reservoir : locate 0x1000000 = (18, 2340, 64) := by decide +kernel

/-- 07_deep_memory, the partial write: word 1,000 of DDR4 channel 3 lies in page 4 at offset 104. -/
theorem test_locate_ddr : locate 0x4000000003E8 = (35, 4, 104) := by decide +kernel

/-- 07_deep_memory R148: the code word of 0x1_2345, and its data bit 13 flipped. -/
theorem test_light_code : lightEncode 0x12345 = 0xBD2345 ∧ lightDecode 0xBD0345 = ⟨.single, 0x12345⟩ := by decide +kernel

/-- 08_leat_network, the Tier B read: the weirs, hops and crossings of the request path and of the response path. -/
theorem test_leat_paths :
    ((pathOf 800000 249 323 (wpList [0x2F9, 0x258, 0x1FF])).map fun p => (p.weirs, p.hops, p.cost)) =
      some ([249, 89, 88, 340, 339, 331, 323], 4, 68) ∧
    ((pathOf 800000 323 249 (respWps [0x2F9, 0x258, 0x1FF])).map fun p => (p.weirs, p.hops, p.cost)) =
      some ([323, 324, 332, 340, 88, 89, 249], 4, 68) := by decide +kernel

/-- 08_leat_network R186: the pieces of a 512-word write on a reservation of 16 units, and its units on one of 128. -/
theorem test_leat_pieces :
    ([0, 120, 240, 360, 480].map fun k =>
      ({ asker := .bar4Write, dest := 325, cmd := .write, addr := 0x600000004000, len := 512, sent := k } : Request).piece 16) =
      [(120, false), (120, false), (120, false), (120, false), (32, true)] ∧
    ({ asker := .bar4Write, dest := 325, cmd := .write, addr := 0x600000004000, len := 512 } : Request).pieceUnits 128 = 65 := by
  decide +kernel

/-- 09_flume_dma R213: two words in packed mode. -/
theorem test_flume_packed :
    (FDesc.hostBytes { raw := [0x20] } 0 [0x12345, 0x2ABCD] 0) = [0x45, 0x23, 0x35, 0xAF, 0x0A] := by decide +kernel

/-- 09_flume_dma, the worked example: source reads and host writes of the two bursts. -/
theorem test_flume_cuts :
    deepCuts 10 336 512 = [(336, 112), (448, 224), (672, 176)] ∧ deepCuts 10 848 488 = [(848, 48), (896, 224), (1120, 216)] ∧
    hostCuts 512 10 0xF00 1152 = [(0xF00, 256), (0x1000, 512), (0x1200, 384)] ∧
    hostCuts 512 10 0x1380 1098 = [(0x1380, 512), (0x1580, 512), (0x1780, 74)] := by decide +kernel

/-- 11_lanes_gwynior R282: bit 700 of a link on group 5 with FIRST 4 and width 4. -/
theorem test_slot_place :
    ({ State.reset with win.strand := 1, lnk.link := [(2, { cfg0 := 0x80000145 })] } : State).slotBit 5 1 6 16 = some (2, 700) := by
  decide +kernel

/-- 12_host_ports, the worked example: bank 13 lands on plot (A, 21, 37). -/
theorem test_bank_plot : bankPlot 13 = plotIx 0 21 37 := by decide

/-- 14_command_reference, the read with one poisoned word: the reply's words. -/
theorem test_poisoned_reply :
    replyWords { State.reset with win.cnt := 0x3A1C } 0x31 0 true false [3, 0x12345, 0x2C0DE, 7, 2] =
      [0x10080000, 0x31, 0x3A1C, 3, 0x12345, 0x2C0DE, 7, 2] := by decide +kernel

/-- 15_security, reading a report: the device of the example. -/
def exReport : State := { State.reset with
  win.cnt := 0x10C40, sec.fuses := { serial := 0x00001A2B3C4D5E6F, rev := 1 }, sec.slot0.st := 1, sec.slot1.st := 2,
  sec.slot2.st := 1, img.bootRole := 0, img.bank0.patches := [⟨[], 0, true⟩, ⟨[], 0, true⟩] }

/-- Words 1, 2, 3, 25, 26, 27 of its report. -/
theorem test_report_words :
    [exReport.idDevice, wordOf exReport.sec.fuses.serial 0, wordOf exReport.sec.fuses.serial 1, w32 exReport.sec.slotBits,
      wordOf exReport.win.cnt 0, wordOf exReport.win.cnt 1] = [0x01022080, 0x3C4D5E6F, 0x1A2B, 0x19, 0x10C40, 0] := by decide +kernel

/-- 17_power_thermal R431: 93.4 °C and 105.1 °C at a start of 90 °C. -/
theorem test_throttle_target : targetOf 90 1494 = 20 ∧ targetOf 90 1682 = 50 := by decide

/-- 19_bist, the worked example: kind 3 of plot pair (30, 12). -/
theorem test_bist_instance : bistValid 3 0x0C79 = true ∧ bistValid 3 0x0C7B = false := by decide

/-! ### The algorithms the spec names, on their published check values -/

/-- The check values of CRC-32, CRC-32C and the PEC polynomial over the digits 1 to 9. -/
theorem test_crcs :
    crc32 ((List.range 9).map (49 + ·)) = 0xCBF43926 ∧ crc32c ((List.range 9).map (49 + ·)) = 0xE3069283 ∧
    pec ((List.range 9).map fun i => BitVec.ofNat 8 (49 + i)) = 0xF4 := by decide +kernel

/-- FIPS 180-4, the message abc. -/
theorem test_sha256 :
    beWord (sha256 [0x61, 0x62, 0x63]) = 0xBA7816BF8F01CFEA414140DE5DAE2223B00361A396177A9CB410FF61F20015AD := by decide +kernel

/-! ### Commands in one step -/

/-- 13_lockkeeper, the worked example: PF0 claims an unowned device and owns it with a 10 s lease. -/
theorem test_claim :
    (after (.claim (rq [])) { dev with lk.owner := 0 }).lk.owner = 1 ∧
    (after (.claim (rq [])) { dev with lk.owner := 0 }).lk.leaseTicks = 1000000 := by decide +kernel

/-- The same example: another party's claim is answered OWNED_ELSEWHERE (0x0011) and PF0 stays owner. -/
theorem test_claim_elsewhere :
    (after (.claim { rq [] with port := .smbus }) dev).lk.owner = 1 ∧
    ((after (.claim { rq [] with port := .smbus }) dev).lk.smbus.reply.map (field · 0 16)).head? = some 0x0011 := by
  decide +kernel

/-- 13_lockkeeper R345: a state-changing command of another party is answered NOT_OWNER (0x0010). -/
theorem test_not_owner :
    ((after (.release { rq [] with port := .smbus }) dev).lk.smbus.reply.map (field · 0 16)).head? = some 0x0010 := by
  decide +kernel

/-- PING answers its parameters, with the TAG of the request (14 R348). -/
theorem test_ping :
    (after (.ping { rq [7, 9] with tag := 5 }) dev).lk.pf0.reply = [0x00050000, 5, 0, 7, 9] := by decide +kernel

/-- An empty queue leaves the block as it is (log entry 8). -/
theorem test_idle : step dev = .next dev := rfl

/-- A mailbox write of PF1 to BAR0 is dropped, counted, and named in CSR_ERR (12 R294). -/
theorem test_bar0_drop :
    (after (.bar0Write .pf1 15 0x400000 0) dev).host.dropCnt = 1 ∧
    (after (.bar0Write .pf1 15 0x400000 0) dev).host.lastOffset = 0x400000 := by decide +kernel

/-- A hard trip drives THERM_SHDN_N once (17 R433). -/
theorem test_hard_trip :
    (after (.hardTrip 1) dev).thm.shdn = true ∧ Output.thermShdn ∈ (after (.hardTrip 1) dev).out ∧
    Output.thermShdn ∉ (after (.hardTrip 2) { dev with thm.shdn := true }).out := by decide +kernel

/-! ### Ill-formed commands -/

theorem test_ill_pulse_carrier : Instr.wf (.pulse { weak := [41943040] }) = false := by decide +kernel

theorem test_ill_pulse_verr : Instr.wf (.pulse { verr := [41943040] }) = false := by decide +kernel

theorem test_ill_pulse_pair : Instr.wf (.pulse { drift := [(2560, 0, 1)] }) = false := by decide +kernel

theorem test_ill_pulse_direction : Instr.wf (.pulse { drift := [(0, 2, 1)] }) = false := by decide +kernel

theorem test_ill_pulse_bank : Instr.wf (.pulse { pins := [(20, 0)] }) = false := by decide +kernel

theorem test_ill_pulse_held : Instr.wf (.pulse { held := [20] }) = false := by decide +kernel

theorem test_ill_pulse_came : Instr.wf (.pulse { came := [20] }) = false := by decide +kernel

theorem test_ill_splice_channel : Instr.wf (.spliceShadowTakeover 10485760) = false := by decide +kernel

theorem test_ill_upset_knot : Instr.wf (.configurationUpset 20971520 0 0) = false := by decide +kernel

theorem test_ill_completion_bytes : Instr.wf (.hostCompletion 0 .sc true (List.replicate 4097 0)) = false := by decide +kernel

theorem test_ill_bar4_read : Instr.wf (.bar4Read 2) = false := by decide +kernel

theorem test_ill_bar4_write : Instr.wf (.bar4Write 2 15 0) = false := by decide +kernel

theorem test_ill_descriptor_words : Instr.wf (.descriptorArrival 0 [] true) = false := by decide +kernel

theorem test_ill_reset_timeout : Instr.wf (.resetTimeout [40]) = false := by decide +kernel

theorem test_ill_release_step : Instr.wf (.releaseStep []) = false := by decide +kernel

theorem test_ill_frame_empty : Instr.wf (.slotFrameReceive 0 ⟨0, [], 0, []⟩) = false := by decide +kernel

theorem test_ill_frame_long : Instr.wf (.ctrlFrameReceive 0 ⟨0, List.replicate 33 0, 0, []⟩) = false := by decide +kernel

theorem test_ill_frame_txn : Instr.wf (.txnFrameReceive 0 ⟨0, [], 0, []⟩) = false := by decide +kernel

theorem test_ill_frame_start : Instr.wf (.startReceive 0 ⟨0, [], 0, []⟩) = false := by decide +kernel

theorem test_ill_frame_ack : Instr.wf (.startAckReceive 0 ⟨0, [], 0, []⟩) = false := by decide +kernel

theorem test_ill_frame_go : Instr.wf (.goReceive 0 ⟨0, [], 0, []⟩) = false := by decide +kernel

theorem test_ill_frame_command : Instr.wf (.mgmtCommand 0 ⟨0, [], 0, []⟩) = false := by decide +kernel

theorem test_ill_frame_reply : Instr.wf (.mgmtReply 0 ⟨0, [], 0, []⟩) = false := by decide +kernel

theorem test_ill_frame_record : Instr.wf (.mgmtRecord 0 ⟨0, [], 0, []⟩) = false := by decide +kernel

theorem test_ill_frame_lane : Instr.wf (.slotFrameReceive 0 ⟨0, [0], 0, [9]⟩) = false := by decide +kernel

theorem test_ill_link_lane : Instr.wf (.linkUp 0 { skew := 0, ppm := 0, eyes := [(9, List.replicate 37 0)], slotOut := 0, ident := none }) = false := by decide +kernel

theorem test_ill_link_codes : Instr.wf (.linkUp 0 { skew := 0, ppm := 0, eyes := [(8, [0])], slotOut := 0, ident := none }) = false := by decide +kernel

theorem test_ill_vertical_frame : Instr.wf (.verticalFrameReceive { die := 0, kind := .headgate, group := 0, up := false, ch := 0 } 0 true) = false := by decide +kernel

theorem test_ill_vertical_shadow : Instr.wf (.verticalShadowStart { die := 0, kind := .headgate, group := 0, up := false, ch := 0 }) = false := by decide +kernel

theorem test_ill_vertical_alignment : Instr.wf (.frameAlignmentLoss { die := 0, kind := .headgate, group := 0, up := false, ch := 0 }) = false := by decide +kernel

theorem test_ill_ring_segment : Instr.wf (.controlRingSegmentFail { die := 0, kind := .headgate, group := 0, up := false, ch := 0 }) = false := by decide +kernel

theorem test_ill_bar0_write : Instr.wf (.bar0Write .pf0 15 2 0) = false := by decide +kernel

theorem test_ill_bar0_read : Instr.wf (.bar0ReadOffDomain .pf0 15 2) = false := by decide +kernel

theorem test_ill_smbus_req : Instr.wf (.smbusReq (List.replicate 256 0) none) = false := by decide +kernel

theorem test_ill_smbus_end : Instr.wf (.smbusReqEnd (List.replicate 256 0) none) = false := by decide +kernel

theorem test_ill_fr_entry : Instr.wf (.frInputEntry 0 (2 ^ 184)) = false := by decide +kernel

theorem test_ill_doorbell : Instr.wf (.mbxDoorbell .pf0 (List.replicate 1025 0) none 1) = false := by decide +kernel

theorem test_ill_bad_opcode : Instr.wf (.badOpcode 0 { rq [] with length := 4096 }) = false := by decide +kernel

theorem test_ill_sensor_diodes : Instr.wf (.sensorSample ⟨0, [], List.replicate 24 0, List.replicate 4 0, List.replicate 20 0⟩) = false := by decide +kernel

theorem test_ill_sensor_monitors : Instr.wf (.sensorSample ⟨0, List.replicate 6 ⟨0, 0⟩, [], List.replicate 4 0, List.replicate 20 0⟩) = false := by decide +kernel

theorem test_ill_sensor_rails : Instr.wf (.sensorSample ⟨0, List.replicate 6 ⟨0, 0⟩, List.replicate 24 0, [], List.replicate 20 0⟩) = false := by decide +kernel

theorem test_ill_sensor_banks : Instr.wf (.sensorSample ⟨0, List.replicate 6 ⟨0, 0⟩, List.replicate 24 0, List.replicate 4 0, []⟩) = false := by decide +kernel

theorem test_ill_request_length : Instr.wf (.ping { rq [] with length := 4096 }) = false := by decide +kernel

theorem test_ill_request_words : Instr.wf (.ping (rq (List.replicate 1023 0))) = false := by decide +kernel

theorem test_ill_request_link : Instr.wf (.ping { rq [] with link := 16 }) = false := by decide +kernel

theorem test_ill_bist_channel : Instr.wf (.bistTestComplete { rx := [(10485760, [])] }) = false := by decide +kernel

theorem test_ill_wake_bank : Instr.wf (.deviceWakeComplete ⟨0, [128]⟩) = false := by decide +kernel

theorem test_ill_quadrant_bank : Instr.wf (.quadrantWakeComplete 0 [128]) = false := by decide +kernel

/-! ### What meets the hypotheses of the obligations -/

/-- Witnesses of the hypotheses of RegisterCommandsAnswer. -/
theorem test_wit_RegisterCommandsAnswer :
    (∃ (s : State) (r : Req), (s.takes r .anyone (r.length = 2))) ∧
    (∃ (s : State) (r : Req), (s.takes r .anyone (r.length ≤ 1023))) ∧
    (∃ (s : State) (r : Req), (s.takes r .anyone (r.length = 4)) ∧ (csrRangeBad (r.p 0).toNat (r.p 1).toNat = false)) ∧
    (∃ (s : State) (r : Req), (s.takes r .owner (decide (4 ≤ r.length) && r.length = 4 + (r.p 1).toNat)) ∧ (csrRangeBad (r.p 0).toNat (r.p 1).toNat = false)) :=
  ⟨⟨dev, rq [], by simp only [State.takes]; decide +kernel⟩,
   ⟨dev, rq (List.replicate 1021 0), by simp only [State.takes]; decide +kernel⟩,
   ⟨dev, rq [0x8000 - 4, 1], by simp only [State.takes]; decide +kernel⟩,
   ⟨dev, rq (0x2FFFC00 :: 256 :: List.replicate 256 0), by simp only [State.takes]; decide +kernel⟩⟩

/-- Witnesses of the hypotheses of OwnershipCommandsMoveTheOwner. -/
theorem test_wit_OwnershipCommandsMoveTheOwner :
    (∃ (s : State) (r : Req), (s.takes r .claim (r.length = 2))) ∧
    (∃ (s : State) (r : Req), (s.takes r .owner (r.length = 2))) ∧
    (∃ (s : State) (r : Req), (s.takes r .owner (r.length = 3)) ∧ (1 ≤ (r.p 0).toNat) ∧ ((r.p 0).toNat ≤ 4)) ∧
    (∃ (s : State) (r : Req), (s.takes r .owner (r.length = 3)) ∧ (1 ≤ (r.p 0).toNat) ∧ ((r.p 0).toNat ≤ 3600)) ∧
    (∃ (s : State) (r : Req), (s.takes r .anyone (r.length = 2))) ∧
    (∃ (s : State) (r : Req), (s.takes r .owner (decide (5 ≤ r.length) && reqLength (r.p 1) = r.length - 3)) ∧ (s.room r) ∧ (only (r.p 0) 4 = true) ∧ (r.port ≠ .array) ∧ ((s.linkAt (r.p 0).toNat).valid = true) ∧ ((s.linkAt (r.p 0).toNat).isUp = true)) :=
  ⟨⟨{ dev with lk.owner := 0 }, rq [], by simp only [State.takes]; decide +kernel⟩,
   ⟨dev, rq [], by simp only [State.takes]; decide +kernel⟩,
   ⟨dev, rq [4], by simp only [State.takes]; decide +kernel⟩,
   ⟨dev, rq [3600], by simp only [State.takes]; decide +kernel⟩,
   ⟨dev, rq [], by simp only [State.takes]; decide +kernel⟩,
   ⟨{ dev with lnk.link := [(15, { st := .up, cfg0 := 0x80000000 })] }, rq [15, 0x00020000, 7], by simp only [State.takes, State.room]; decide +kernel⟩⟩

/-- Witnesses of the hypotheses of StagingCommandsWriteTheStagedBank. -/
theorem test_wit_StagingCommandsWriteTheStagedBank :
    (∃ (s : State) (r : Req), (s.takes r .owner (r.length = 3)) ∧ ((r.p 0).toNat ≤ bankBytes) ∧ (s.stagedTaken = false)) ∧
    (∃ (s : State) (r : Req) (len : Nat), (s.takes r .owner (decide (3 ≤ r.length))) ∧ (s.img.chunkLen = some len) ∧ ((r.p 0).toNat % 4 = 0) ∧ ((r.p 0).toNat + 4 * (r.params.drop 1).length ≤ len) ∧ (s.stagedTaken = false)) ∧
    (∃ (s : State) (r : Req) (len : Nat), (s.takes r .owner (r.length = 2)) ∧ (s.room r) ∧ (s.img.chunkLen = some len) ∧ (s.stagedTaken = false)) ∧
    (∃ (s : State) (r : Req), (s.takes r .owner (r.length = 5)) ∧ (s.room r) ∧ ((r.p 2).toNat ≤ bankBytes) ∧ (s.stagedTaken = false)) :=
  ⟨⟨dev, rq [0xF0000000], by simp only [State.takes]; decide +kernel⟩,
   ⟨{ dev with img.chunkLen := some 8 }, rq [4, 0xFFFFFFFF], 8, by simp only [State.takes]; decide +kernel⟩,
   ⟨{ dev with img.chunkLen := some 8 }, rq [], 8, by simp only [State.takes, State.room]; decide +kernel⟩,
   ⟨dev, rq [0, 0, 0xF0000000], by simp only [State.takes, State.room]; decide +kernel⟩⟩

/-- Witnesses of the hypotheses of ImageCommandsAnswer. -/
theorem test_wit_ImageCommandsAnswer :
    (∃ (s : State) (r : Req), (s.takes r .anyone (r.length = 2))) ∧
    (∃ (s : State) (r : Req), (s.takes r .anyone (r.length = 3)) ∧ ((r.p 0).toNat ≤ 2) ∧ ((s.img.bank (s.img.roleBank (r.p 0).toNat)).bytes ≠ [])) ∧
    (∃ (s : State) (r : Req), (s.takes r .owner (r.length = 3)) ∧ (s.room r) ∧ (only (r.p 0) 1 = true) ∧ (s.commitJudge (s.img.bank s.img.stg).base = 0)) ∧
    (∃ (s : State) (r : Req), (s.takes r .owner (r.length = 3)) ∧ (s.room r) ∧ (only (r.p 0) 1 = true) ∧ (s.rollbackJudge = 0)) ∧
    (∃ (s : State) (r : Req), (s.takes r .owner (r.length = 2)) ∧ (s.room r) ∧ ((s.fab.levees.any (·.awaitJoin)) = true) ∧ (s.img.pend = none)) ∧
    (∃ (s : State) (r : Req) (p : PendOp), (s.takes r .owner (r.length = 2)) ∧ (s.img.pend = some p) ∧ (s.pastStep6 p = false)) ∧
    (∃ (s : State) (r : Req), (s.takes r .anyone (r.length = 3)) ∧ (s.room r) ∧ ((r.p 0).toNat ≤ 2) ∧ (s.img.verify = none)) ∧
    (∃ (s : State) (r : Req), (s.takes r .owner (r.length = 2)) ∧ (s.img.stepWait = true)) :=
  ⟨⟨dev, rq [], by simp only [State.takes]; decide +kernel⟩,
   ⟨{ dev with img.bank2.bytes := [(0, some 0)] }, rq [2], by simp only [State.takes]; decide +kernel⟩,
   ⟨devStaged, rq [1], by exact ⟨by simp only [State.takes]; decide +kernel, by simp only [State.room]; decide +kernel, by decide +kernel, by simp only [State.commitJudge, devStaged_good]; decide +kernel⟩⟩,
   ⟨devPrev, rq [1], by exact ⟨by simp only [State.takes]; decide +kernel, by simp only [State.room]; decide +kernel, by decide +kernel, by simp only [State.rollbackJudge, devPrev_good]; decide +kernel⟩⟩,
   ⟨{ dev with fab.levees := [{ rects := [], awaitJoin := true }] }, rq [], by simp only [State.takes, State.room]; decide +kernel⟩,
   ⟨{ dev with img.pend := some { kind := .full, atStart := true, origin := some og } }, rq [], { kind := .full, atStart := true, origin := some og }, by simp only [State.takes]; decide +kernel⟩,
   ⟨dev, rq [2], by simp only [State.takes, State.room]; decide +kernel⟩,
   ⟨{ dev with img.stepWait := true }, rq [], by simp only [State.takes]; decide +kernel⟩⟩

/-- Witnesses of the hypotheses of WindowCommandsAnswer. -/
theorem test_wit_WindowCommandsAnswer :
    (∃ (s : State) (r : Req), (s.takes r .anyone (r.length = 2))) ∧
    (∃ (s : State) (r : Req), (s.takes r .owner (r.length = 3)) ∧ (only (r.p 0) 1 = true)) ∧
    (∃ (s : State) (r : Req), (s.takes r .owner (r.length = 7)) ∧ ((r.p 0).toNat ≤ 2) ∧ (only (r.p 3) 5 = true) ∧ (only (r.p 4) 20 = true)) ∧
    (∃ (s : State) (r : Req), (s.takes r .owner (r.length = 3)) ∧ (s.room r) ∧ (2 ≤ (r.p 0).toNat) ∧ ((r.p 0).toNat ≤ 32) ∧ (s.canStart = true) ∧ (s.windowRunning = false) ∧ (s.lnk.startOrigin = none)) ∧
    (∃ (s u : State) (r : Req), (s.takes r .owner (r.length = 2)) ∧ (u = (if (s.clearCause 3).laneBare then s.clearCause 3 else (s.clearCause 3).clearCause 2)) ∧ (w32 u.win.causes.toNat = 0)) ∧
    (∃ (s u : State) (r : Req), (s.takes r .owner (r.length = 2)) ∧ (u = (if (s.clearCause 3).laneBare then s.clearCause 3 else (s.clearCause 3).clearCause 2)) ∧ (w32 u.win.causes.toNat ≠ 0)) :=
  ⟨⟨dev, rq [], by simp only [State.takes]; decide +kernel⟩,
   ⟨dev, rq [1], by simp only [State.takes]; decide +kernel⟩,
   ⟨dev, rq [2, 0xFFFFFFFF, 0xFFFFFFFF, 31, 0xFFFFF], by simp only [State.takes]; decide +kernel⟩,
   ⟨{ dev with lnk.table := true }, rq [32], by simp only [State.takes, State.room]; decide +kernel⟩,
   ⟨{ dev with win.causes := 0xC }, _, rq [], by exact ⟨by simp only [State.takes]; decide +kernel, rfl, by decide +kernel⟩⟩,
   ⟨{ dev with win.causes := 0xC, lnk.link := [(0, { cfg0 := 0x80000000 })], lnk.group := [(0, { rx := { failing := 1 } })] }, _, rq [], by exact ⟨by simp only [State.takes]; decide +kernel, rfl, by decide +kernel⟩⟩⟩

/-- Witnesses of the hypotheses of PowerCommandsAnswer. -/
theorem test_wit_PowerCommandsAnswer :
    (∃ (s : State) (r : Req), (s.takes r .anyone (r.length = 2))) ∧
    (∃ (s : State) (r : Req), (s.takes r .owner (r.length = 4)) ∧ (s.room r) ∧ (only (r.p 0) 6 = true) ∧ (only (r.p 1) 2 = true) ∧ (s.domSetBad (r.p 0).toNat (pstateOf (r.p 1).toNat) = false) ∧ (s.domTaken (r.p 0).toNat = false) ∧ (s.pwr.dev ≠ .entering) ∧ (s.domSaved (r.p 0).toNat = true)) ∧
    (∃ (s : State) (r : Req), (s.takes r .owner (r.length = 4)) ∧ (s.room r) ∧ (only (r.p 0) 6 = true) ∧ (only (r.p 1) 2 = true) ∧ (s.domSetBad (r.p 0).toNat (pstateOf (r.p 1).toNat) = false) ∧ (s.domTaken (r.p 0).toNat = false) ∧ (s.pwr.dev ≠ .entering) ∧ (s.domSaved (r.p 0).toNat = false) ∧ (s.domCode (r.p 0).toNat ≠ (pstateOf (r.p 1).toNat).code)) ∧
    (∃ (s : State) (r : Req), (s.takes r .owner (r.length = 4)) ∧ (s.room r) ∧ (only (r.p 0) 6 = true) ∧ (only (r.p 1) 2 = true) ∧ (s.domSetBad (r.p 0).toNat (pstateOf (r.p 1).toNat) = false) ∧ (s.domTaken (r.p 0).toNat = false) ∧ (s.pwr.dev ≠ .entering) ∧ (s.domSaved (r.p 0).toNat = false) ∧ (s.domCode (r.p 0).toNat = (pstateOf (r.p 1).toNat).code)) ∧
    (∃ (s : State) (r : Req), (s.takes r .owner (r.length = 3)) ∧ (s.room r) ∧ ((r.p 0).toNat = 1 ∨ (r.p 0).toNat = 2) ∧ (s.pwr.dev = .run ∨ s.pwr.dev = .sleep ∨ s.pwr.dev = .deep)) ∧
    (∃ (s : State) (r : Req), (s.takes r .owner (r.length = 4)) ∧ (only (r.p 0) 6 = true)) ∧
    (∃ (s : State) (r : Req), (s.takes r .owner (r.length = 2)) ∧ (s.pwr.dev = .run)) ∧
    (∃ (s : State) (r : Req), (s.takes r .owner (r.length = 2)) ∧ (s.room r) ∧ (s.pwr.dev ≠ .run) ∧ (s.pwr.dev ≠ .thermal ∨ s.thm.hotStart = false) ∧ ((∀ w, s.pwr.wake = some w → w.origin = none))) ∧
    (∃ (s : State) (r : Req), (s.takes r .owner (r.length = 3)) ∧ (70 ≤ (r.p 0).toNat) ∧ ((r.p 0).toNat ≤ 100)) :=
  ⟨⟨dev, rq [], by simp only [State.takes]; decide +kernel⟩,
   ⟨{ dev with pwr.dev := .sleep, pwr.dom := [(56, { before := some .sleep })] }, rq [56, 3], by simp only [State.takes, State.room]; decide +kernel⟩,
   ⟨dev, rq [56, 3], by simp only [State.takes, State.room]; decide +kernel⟩,
   ⟨dev, rq [56, 0], by simp only [State.takes, State.room]; decide +kernel⟩,
   ⟨dev, rq [2], by simp only [State.takes, State.room]; decide +kernel⟩,
   ⟨dev, rq [63, 0xFFFFFFFF], by simp only [State.takes]; decide +kernel⟩,
   ⟨dev, rq [], by simp only [State.takes]; decide +kernel⟩,
   ⟨{ dev with pwr.dev := .deep }, rq [], by exact ⟨by simp only [State.takes]; decide +kernel, by simp only [State.room]; decide +kernel, by decide +kernel, by decide +kernel, (by intro w h; cases h)⟩⟩,
   ⟨dev, rq [100], by simp only [State.takes]; decide +kernel⟩⟩

/-- Witnesses of the hypotheses of ClockAndLaneCommandsAnswer. -/
theorem test_wit_ClockAndLaneCommandsAnswer :
    (∃ (s : State) (r : Req), (s.takes r .anyone (r.length = 2))) ∧
    (∃ (s : State) (r : Req), (s.takes r .owner (r.length = 3)) ∧ ((r.p 0).toNat ≤ 2)) ∧
    (∃ (s : State) (r : Req), (s.takes r .owner (r.length = 4)) ∧ ((r.p 0).toNat ≤ 10) ∧ ((r.p 1).toNat ≤ 2) ∧ ((s.slcAt (r.p 0).toNat).waiter = none) ∧ (((s.slcRequest (r.p 0).toNat (bitsOf 2 (r.p 1))).slcAt (r.p 0).toNat).closing = false)) ∧
    (∃ (s : State) (r : Req), (s.takes r .owner (r.length = 4)) ∧ ((r.p 0).toNat ≤ 10) ∧ ((r.p 1).toNat ≤ 2) ∧ ((s.slcAt (r.p 0).toNat).waiter = none) ∧ (((s.slcRequest (r.p 0).toNat (bitsOf 2 (r.p 1))).slcAt (r.p 0).toNat).closing = true)) ∧
    (∃ (s : State) (r : Req), (s.takes r .anyone (r.length = 3)) ∧ ((r.p 0).toNat ≤ 15)) ∧
    (∃ (s : State) (r : Req), (s.takes r .owner (r.length = 4)) ∧ ((r.p 0).toNat ≤ 15) ∧ (only (r.p 1) 2 = true)) :=
  ⟨⟨dev, rq [], by simp only [State.takes]; decide +kernel⟩,
   ⟨dev, rq [2], by simp only [State.takes]; decide +kernel⟩,
   ⟨{ dev with clk.slc := [(10, { st := 2 })] }, rq [10, 2], by simp only [State.takes]; decide +kernel⟩,
   ⟨dev, rq [10, 2], by simp only [State.takes]; decide +kernel⟩,
   ⟨dev, rq [15], by simp only [State.takes]; decide +kernel⟩,
   ⟨dev, rq [15, 3], by simp only [State.takes]; decide +kernel⟩⟩

/-- Witnesses of the hypotheses of LogAndSpliceCommandsAnswer. -/
theorem test_wit_LogAndSpliceCommandsAnswer :
    (∃ (s : State) (r : Req), (s.takes r .anyone (r.length = 2))) ∧
    (∃ (s : State) (r : Req), (s.takes r .anyone (r.length = 4)) ∧ ((r.p 0).toNat ≤ 63) ∧ ((r.p 1).toNat ≤ 39)) ∧
    (∃ (s : State) (r : Req), (s.takes r .anyone (r.length = 4)) ∧ (1 ≤ (r.p 1).toNat) ∧ ((r.p 1).toNat ≤ 127)) :=
  ⟨⟨dev, rq [], by simp only [State.takes]; decide +kernel⟩,
   ⟨dev, rq [63, 39], by simp only [State.takes]; decide +kernel⟩,
   ⟨dev, rq [0xFFFFFFFF, 127], by simp only [State.takes]; decide +kernel⟩⟩

/-- Witnesses of the hypotheses of MemoryCommandsAnswer. -/
theorem test_wit_MemoryCommandsAnswer :
    (∃ (s : State) (r : Req), (s.takes r .anyone (r.length = 3)) ∧ ((r.p 0).toNat ≤ 39)) ∧
    (∃ (s : State) (r : Req), (s.takes r .owner (r.length = 3)) ∧ (s.room r) ∧ (only (r.p 0) 9 = true) ∧ (r.p 0 ≠ 0) ∧ ((fillCtls (r.p 0)).all (fun m => (s.ctlAt m).present m && !(s.ctlAt m).filling) = true) ∧ (s.windowRunning = false)) ∧
    (∃ (s : State) (r : Req), (s.takes r .owner (r.length = 5)) ∧ ((r.p 0).toNat ≤ 39) ∧ (only (r.p 2) 1 = true)) ∧
    (∃ (s : State) (r : Req), (s.takes r .owner (r.length = 5)) ∧ ((r.p 0).toNat = 0xFF) ∧ (only (r.p 2) 1 = true)) ∧
    (∃ (s : State) (r : Req), (s.takes r .owner (r.length = 5)) ∧ ((r.p 0).toNat = 0x100) ∧ (only (r.p 2) 1 = true)) ∧
    (∃ (s : State) (r : Req), (s.takes r .anyone (r.length = 2))) ∧
    (∃ (s : State) (r : Req), (s.takes r .anyone (r.length = 5)) ∧ (only (r.p 1) 16 = true) ∧ (1 ≤ (r.p 2).toNat) ∧ ((r.p 2).toNat ≤ 960) ∧ (s.deepRangeOk r.deep (r.p 2).toNat = true) ∧ (s.deepOff r.deep = false)) ∧
    (∃ (s : State) (r : Req), (s.takes r .owner (decide (5 ≤ r.length) && r.length = 5 + (r.p 2).toNat)) ∧ (s.room r) ∧ (only (r.p 1) 16 = true) ∧ (1 ≤ (r.p 2).toNat) ∧ ((r.p 2).toNat ≤ 1019) ∧ (((r.params.drop 3).all fun w => only w 18) = true) ∧ (s.deepRangeOk r.deep (r.p 2).toNat = true) ∧ (s.deepOff r.deep = false)) :=
  ⟨⟨dev, rq [39], by simp only [State.takes]; decide +kernel⟩,
   ⟨{ dev with mem.ctl := [(39, { spd := some ⟨0, 0, 0, 0, 0, 32⟩ })] }, rq [0x101], by simp only [State.takes, State.room]; decide +kernel⟩,
   ⟨dev, rq [39, 0xFFFFFFFF, 1], by simp only [State.takes]; decide +kernel⟩,
   ⟨dev, rq [0xFF, 0xFFFFFFFF, 1], by simp only [State.takes]; decide +kernel⟩,
   ⟨dev, rq [0x100, 0xFFFFFFFF, 1], by simp only [State.takes]; decide +kernel⟩,
   ⟨dev, rq [], by simp only [State.takes]; decide +kernel⟩,
   ⟨dev, rq [2642410560, 0, 960], by simp only [State.takes]; decide +kernel⟩,
   ⟨dev, rq (2642410501 :: 0 :: 1019 :: List.replicate 1019 0x3FFFF), by simp only [State.takes, State.room]; decide +kernel⟩⟩

/-- Witnesses of the hypotheses of FlumeCommandsAnswer. -/
theorem test_wit_FlumeCommandsAnswer :
    (∃ (s : State) (r : Req), (s.takes r .anyone (r.length = 3)) ∧ ((r.p 0).toNat ≤ 31)) ∧
    (∃ (s : State) (r : Req), (s.takes r .owner (r.length = 6)) ∧ ((r.p 0).toNat ≤ 31) ∧ (1 ≤ (r.p 3).toNat) ∧ ((r.p 3).toNat ≤ 12) ∧ (s.flmRingFree (r.p 0).toNat = true)) ∧
    (∃ (s : State) (r : Req), (s.takes r .owner (r.length = 4)) ∧ ((r.p 0).toNat ≤ 31) ∧ (only (r.p 1) 12 = true)) ∧
    (∃ (s : State) (r : Req), (s.takes r .owner (r.length = 4)) ∧ ((r.p 0).toNat ≤ 31) ∧ (only (r.p 1) 2 = true)) :=
  ⟨⟨dev, rq [31], by simp only [State.takes]; decide +kernel⟩,
   ⟨dev, rq [31, 0xFFFFFFFF, 0xFFFFFFFF, 12], by simp only [State.takes]; decide +kernel⟩,
   ⟨dev, rq [31, 0xFFF], by simp only [State.takes]; decide +kernel⟩,
   ⟨dev, rq [31, 3], by simp only [State.takes]; decide +kernel⟩⟩

/-- Witnesses of the hypotheses of RouteCommandsAnswer. -/
theorem test_wit_RouteCommandsAnswer :
    (∃ (s : State) (r : Req), (s.takes r .anyone (r.length = 3)) ∧ ((r.p 0).toNat ≤ 383)) ∧
    (∃ (s : State) (r : Req), (s.takes r .anyone (r.length = 3)) ∧ ((r.p 0).toNat = 0x1FF)) ∧
    (∃ (s : State) (r : Req), (s.takes r .owner (r.length = 7)) ∧ ((r.p 0).toNat ≤ 351) ∧ (only (r.p 1) 2 = true) ∧ (only (r.p 2) 24 = true) ∧ (only (r.p 3) 12 = true) ∧ (only (r.p 4) 24 = true)) ∧
    (∃ (s : State) (r : Req), (s.takes r .owner (r.length = 7)) ∧ (352 ≤ (r.p 0).toNat) ∧ ((r.p 0).toNat ≤ 383) ∧ (only (r.p 1) 2 = true)) ∧
    (∃ (s : State) (r : Req), (s.takes r .owner (decide (5 ≤ r.length) && r.length = 5 + 2 * (r.p 2).toNat)) ∧ ((r.p 0).toNat ≤ 351) ∧ (1 ≤ (r.p 2).toNat) ∧ ((r.p 1).toNat + (r.p 2).toNat ≤ 256) ∧ (((numbered (2 * (r.p 1).toNat) (r.params.drop 3)).any fun x => rteReserved x.1 x.2) = false)) ∧
    (∃ (s : State) (r : Req), (s.takes r .anyone (r.length = 6)) ∧ ((r.p 0).toNat ≤ 351) ∧ (only (r.p 1) 1 = true) ∧ (1 ≤ (r.p 3).toNat) ∧ ((r.p 2).toNat + (r.p 3).toNat ≤ 256)) ∧
    (∃ (s : State) (r : Req), (s.takes r .owner (decide (5 ≤ r.length) && r.length = 5 + (r.p 2).toNat)) ∧ ((r.p 0).toNat ≤ 319) ∧ (1 ≤ (r.p 2).toNat) ∧ ((r.p 1).toNat + (r.p 2).toNat ≤ 64) ∧ (((numbered (r.p 1).toNat (r.params.drop 3)).any fun x => decide (x.2 &&& 0x7FFFFE00 ≠ 0)) = false)) ∧
    (∃ (s : State) (r : Req), (s.takes r .owner (r.length = 2)) ∧ (s.room r) ∧ (s.leat.armOrigin = none)) ∧
    (∃ (s u : State) (r : Req), (s.takes r .owner (r.length = 3)) ∧ (r.p 0 &&& 0x7FFFFE00 = 0) ∧ ((r.p 0).getLsbD 31 = true ∨ (r.p 0).toNat ≤ 383) ∧ (u = s.isolClear (field (r.p 0) 0 9) ((r.p 0).getLsbD 31)) ∧ (u.opAtOnce = false)) ∧
    (∃ (s u : State) (r : Req), (s.takes r .owner (r.length = 3)) ∧ (r.p 0 &&& 0x7FFFFE00 = 0) ∧ ((r.p 0).getLsbD 31 = true ∨ (r.p 0).toNat ≤ 383) ∧ (u = s.isolClear (field (r.p 0) 0 9) ((r.p 0).getLsbD 31)) ∧ (u.opAtOnce = true)) :=
  ⟨⟨dev, rq [383], by simp only [State.takes]; decide +kernel⟩,
   ⟨dev, rq [0x1FF], by simp only [State.takes]; decide +kernel⟩,
   ⟨dev, rq [351, 3, 0xFFFFFF, 0xFFF, 0xFFFFFF], by simp only [State.takes]; decide +kernel⟩,
   ⟨dev, rq [383, 3, 0, 0, 0], by simp only [State.takes]; decide +kernel⟩,
   ⟨dev, rq [351, 255, 1, 0x8FFFFFFF, 0x000FFFFF], by simp only [State.takes]; decide +kernel⟩,
   ⟨dev, rq [351, 1, 255, 1], by simp only [State.takes]; decide +kernel⟩,
   ⟨dev, rq [319, 63, 1, 0x800001FF], by simp only [State.takes]; decide +kernel⟩,
   ⟨dev, rq [], by simp only [State.takes, State.room]; decide +kernel⟩,
   ⟨devRun, _, rq [383], by exact ⟨by simp only [State.takes]; decide +kernel, by decide +kernel, by decide +kernel, rfl, by decide +kernel⟩⟩,
   ⟨dev, _, rq [0x80000000], by exact ⟨by simp only [State.takes]; decide +kernel, by decide +kernel, by decide +kernel, rfl, by decide +kernel⟩⟩⟩

/-- Witnesses of the hypotheses of AttestationCommandsAnswer. -/
theorem test_wit_AttestationCommandsAnswer :
    (∃ (s : State) (r : Req), (s.takes r .anyone (r.length = 10)) ∧ (s.room r)) ∧
    (∃ (s : State) (a : Attest) (rest : List Attest), (s.sec.attests = a :: rest)) ∧
    (∃ (s : State), (s.sec.attests = [])) ∧
    (∃ (s : State) (r : Req), (s.takes r .anyone (r.length = 3)) ∧ (tget s.sec.reports [] r.port.num ≠ [])) ∧
    (∃ (s : State) (r : Req), (s.takes r .anyone (r.length = 3)) ∧ ((r.p 0).toNat % 4 = 0)) ∧
    (∃ (s : State) (r : Req), (s.takes r .anyone (r.length = 2))) :=
  ⟨⟨dev, rq (List.replicate 8 0), by simp only [State.takes, State.room]; decide +kernel⟩,
   ⟨{ dev with sec.attests := [{ origin := og, nonce := [] }] }, { origin := og, nonce := [] }, [], by decide +kernel⟩,
   ⟨dev, by decide +kernel⟩,
   ⟨{ dev with sec.reports := [(1, [5])] }, rq [0], by simp only [State.takes]; decide +kernel⟩,
   ⟨dev, rq [4], by simp only [State.takes]; decide +kernel⟩,
   ⟨dev, rq [], by simp only [State.takes]; decide +kernel⟩⟩

/-- Witnesses of the hypotheses of KeyAndFirmwareCommandsAct. -/
theorem test_wit_KeyAndFirmwareCommandsAct :
    (∃ (s : State) (r : Req) (st : Nat), (s.takes r .owner true) ∧ (r.length = 207) ∧ ((r.p 0).toNat ≤ 3) ∧ (st = s.authJudge ⟨r.params.drop 97⟩ (r.p 0).toNat 1 (beWord (bytesIn ((r.params.drop 1).take 96))))) ∧
    (∃ (s : State) (r : Req) (st : Nat), (s.takes r .owner true) ∧ (r.length = 111) ∧ ((r.p 0).toNat ≤ 3) ∧ (st = s.authJudge ⟨r.params.drop 1⟩ (r.p 0).toNat 2 0)) ∧
    (∃ (s : State) (b : AuthBlock) (i : Nat) (k : KeySlot) (code : Nat) (j : _), (i ≤ 3) ∧ (j ≤ 3) ∧ (j ≠ i)) ∧
    (∃ (s : State) (r : Req), (s.takes r .owner (decide (3 ≤ r.length))) ∧ ((r.p 0).toNat % 4 = 0) ∧ ((r.p 0).toNat + (bytesIn (r.params.drop 1)).length ≤ fwBankBytes) ∧ (s.sec.switching = none)) ∧
    (∃ (s : State) (r : Req), (s.takes r .owner (r.length = 3)) ∧ (s.room r) ∧ ((r.p 0).toNat % 4 = 0) ∧ ((r.p 0).toNat ≤ fwBankBytes) ∧ (s.sec.switching = none)) ∧
    (∃ (s u : State) (o : Origin) (len : Nat), (s.sec.switching = some (o, len)) ∧ (s.switchCause len = none) ∧ (u = s.modSec (fun x => { x with switching := none, fwNamed := ~~~s.sec.fwNamed, fwOk0 := x.fwOk0 || decide (~~~s.sec.fwNamed = 0), fwOk1 := x.fwOk1 || decide (~~~s.sec.fwNamed = 1), switched := some o }))) ∧
    (∃ (s u : State) (o : Origin) (len : Nat) (c : _), (s.sec.switching = some (o, len)) ∧ (s.switchCause len = some c) ∧ (u = s.modSec (fun x => { x with switching := none, failCnt := satInc x.failCnt }))) ∧
    (∃ (s : State), (s.sec.switching = none)) :=
  ⟨⟨dev, rq (3 :: List.replicate 204 0), _, by exact ⟨by simp only [State.takes]; decide +kernel, by decide +kernel, by decide +kernel, rfl⟩⟩,
   ⟨dev, rq (3 :: List.replicate 108 0), _, by exact ⟨by simp only [State.takes]; decide +kernel, by decide +kernel, by decide +kernel, rfl⟩⟩,
   ⟨dev, ⟨[]⟩, 3, {}, 0, 2, by decide +kernel⟩,
   ⟨dev, rq [0xFFFFFC, 0], by simp only [State.takes]; decide +kernel⟩,
   ⟨dev, rq [0x1000000], by simp only [State.takes, State.room]; decide +kernel⟩,
   ⟨devSwitch, _, og, 896, by exact ⟨by decide +kernel, devSwitch_ok, rfl⟩⟩,
   ⟨{ dev with sec.switching := some (og, 0) }, _, og, 0, 0, by exact ⟨by decide +kernel, by decide +kernel, rfl⟩⟩,
   ⟨dev, by decide +kernel⟩⟩

/-- Witnesses of the hypotheses of CaptureCommandsAnswer. -/
theorem test_wit_CaptureCommandsAnswer :
    (∃ (s : State) (r : Req), (s.takes r .owner (decide (5 ≤ r.length) && r.length = 5 + (r.p 2).toNat)) ∧ (s.room r) ∧ (only (r.p 1) 16 = true) ∧ ((r.p 2).toNat ≤ 1019) ∧ ((r.params.drop 3).any cstLocBad = false) ∧ (s.deepRoom r.capAddr (s.captureLen (r.p 2).toNat) = true) ∧ (s.capTaken = false)) ∧
    (∃ (s : State) (r : Req), (s.takes r .owner (r.length = 4)) ∧ (s.room r) ∧ (only (r.p 1) 16 = true) ∧ (s.deepRoom r.capAddr (s.captureLen 0) = true) ∧ (s.capTaken = false)) ∧
    (∃ (s : State) (r : Req), (s.takes r .anyone (r.length = 3)) ∧ (frameBad (r.p 0) = false) ∧ ((r.p 0).getLsbD 0 = false) ∧ (s.windowRunning = false)) :=
  ⟨⟨dev, rq (0 :: 0 :: 1019 :: List.replicate 1019 0x7F9FFFF), by simp only [State.takes, State.room]; decide +kernel⟩,
   ⟨dev, rq [2621439992, 0], by simp only [State.takes, State.room]; decide +kernel⟩,
   ⟨dev, rq [0x3FE7FE], by simp only [State.takes]; decide +kernel⟩⟩

/-- Witnesses of the hypotheses of SelfTestCommandsRun. -/
theorem test_wit_SelfTestCommandsRun :
    (∃ (s : State) (r : Req), (s.takes r .owner (r.length = 4)) ∧ (s.room r) ∧ ((r.p 0).toNat ≤ 4) ∧ (s.windowRunning = false) ∧ ((bistDomains (r.p 0).toNat (r.p 1).toNat).all (fun d => s.domRun d) = true) ∧ (s.bist.run = none) ∧ (bistValid (r.p 0).toNat (r.p 1).toNat = true) ∧ (s.freshen.bistCond = none)) ∧
    (∃ (s : State) (r : Req), (s.takes r .anyone (r.length = 2))) ∧
    (∃ (s : State) (b : BistRun) (o : BistObs) (sig : BitVec 128), (s.bist.run = some b) ∧ (s.slcOpen 10 = true) ∧ (b.kind ≠ 4 ∨ s.leatEmpty = true) ∧ (sig = misr (bistValues b.kind (plotPair (framePlot b.inst)) o))) ∧
    (∃ (s : State) (o : BistObs), (s.bist.run = none ∨ s.slcOpen 10 = false ∨ (∃ b, s.bist.run = some b ∧ b.kind = 4 ∧ s.leatEmpty = false))) :=
  ⟨⟨devBist, rq [4, 351], by exact ⟨by simp only [State.takes]; decide +kernel, by simp only [State.room]; decide +kernel, by decide +kernel, by decide +kernel, by decide +kernel, by decide +kernel, by decide +kernel, devBist_ok⟩⟩,
   ⟨dev, rq [], by simp only [State.takes]; decide +kernel⟩,
   ⟨{ dev with bist.run := some { kind := 4, inst := 351, origin := og } }, { kind := 4, inst := 351, origin := og }, {}, _, by exact ⟨by decide +kernel, by decide +kernel, by decide +kernel, rfl⟩⟩,
   ⟨dev, {}, by decide +kernel⟩⟩

/-- Witnesses of the hypotheses of ResetCommandsAnswer. -/
theorem test_wit_ResetCommandsAnswer :
    (∃ (s : State) (r : Req), (s.takes r .owner (r.length = 4)) ∧ (s.room r) ∧ ((r.p 0).toNat ≤ 4) ∧ (r.p 1 = 0) ∧ (s.opAtOnce = false)) ∧
    (∃ (s : State) (r : Req), (s.takes r .owner (r.length = 4)) ∧ (s.room r) ∧ ((r.p 0).toNat ≤ 4) ∧ (r.p 1 = 0) ∧ (s.opAtOnce = true)) ∧
    (∃ (s : State) (r : Req), (s.takes r .owner (r.length = 4)) ∧ (s.room r) ∧ ((r.p 0).toNat ≤ 4) ∧ (r.p 1 = 1) ∧ ((r.p 0).toNat = 0) ∧ (s.rst.forced = none)) ∧
    (∃ (s : State) (r : Req), (s.takes r .owner (r.length = 3)) ∧ (s.room r) ∧ (1 ≤ (r.p 0).toNat) ∧ ((r.p 0).toNat ≤ 56) ∧ (s.laneDomJoined (r.p 0).toNat = false) ∧ (s.opAtOnce = false)) ∧
    (∃ (s : State) (r : Req), (s.takes r .owner (r.length = 3)) ∧ (s.room r) ∧ (1 ≤ (r.p 0).toNat) ∧ ((r.p 0).toNat ≤ 56) ∧ (s.laneDomJoined (r.p 0).toNat = false) ∧ (s.opAtOnce = true)) ∧
    (∃ (s : State) (r : Req), (s.takes r .owner (r.length = 2))) ∧
    (∃ (s : State) (die : Fin 5) (q : _), (s.rst.dieRun.find? (fun q => q.unit = die.val) = some q)) ∧
    (∃ (s : State) (die : Fin 5), (s.rst.dieRun.find? (fun q => q.unit = die.val) = none)) ∧
    (∃ (s : State) (d : Fin 64) (mv : Nat) (q : _), (s.rst.domRun.find? (fun q => q.unit = d.val) = some q) ∧ (s.ownReset d = true) ∧ (isMemDom d = false ∨ d.val = 10 ∨ (s.ctlAt (32 + (d.val - 12))).ready = true)) ∧
    (∃ (s : State) (d : Fin 64) (mv : Nat) (q : _), (s.rst.domRun.find? (fun q => q.unit = d.val) = some q) ∧ (s.ownReset d = false ∨ (isMemDom d = true ∧ d.val ≠ 10 ∧ (s.ctlAt (32 + (d.val - 12))).ready = false))) ∧
    (∃ (s : State) (d : Fin 64) (mv : Nat) (q : _), (s.rst.domRun.find? (fun q => q.unit = d.val) = none) ∧ (s.rst.domLater.find? (fun q => q.unit = d.val) = some q)) ∧
    (∃ (s : State) (d : Fin 64) (mv : Nat), (s.rst.domRun.find? (fun q => q.unit = d.val) = none) ∧ (s.rst.domLater.find? (fun q => q.unit = d.val) = none)) :=
  ⟨⟨devRun, rq [4, 0], by simp only [State.takes, State.room]; decide +kernel⟩,
   ⟨dev, rq [4, 0], by simp only [State.takes, State.room]; decide +kernel⟩,
   ⟨dev, rq [0, 1], by simp only [State.takes, State.room]; decide +kernel⟩,
   ⟨devRun, rq [56], by simp only [State.takes, State.room]; decide +kernel⟩,
   ⟨dev, rq [56], by simp only [State.takes, State.room]; decide +kernel⟩,
   ⟨dev, rq [], by simp only [State.takes]; decide +kernel⟩,
   ⟨{ dev with rst.dieRun := [⟨4, og⟩] }, 4, ⟨4, og⟩, by decide +kernel⟩,
   ⟨dev, 4, by decide +kernel⟩,
   ⟨{ dev with rst.domRun := [⟨19, og⟩], pwr.dom := [(19, { st := .off })], mem.ctl := [(39, { ready := true })] }, 19, 1, ⟨19, og⟩, by decide +kernel⟩,
   ⟨{ dev with rst.domRun := [⟨19, og⟩] }, 19, 1, ⟨19, og⟩, by decide +kernel⟩,
   ⟨{ dev with rst.domLater := [⟨56, og⟩] }, 56, 1, ⟨56, og⟩, by decide +kernel⟩,
   ⟨dev, 56, 1, by decide +kernel⟩⟩

/-- Witnesses of the hypotheses of PulseExecutesOneStrand. -/
theorem test_wit_PulseExecutesOneStrand :
    (∃ (s : State) (o : PulseObs), (s.win.st = .running) ∧ (s.fab.clockStop = []) ∧ (s.inArray = false) ∧ (o.came = []) ∧ (s.mustStall = false)) ∧
    (∃ (s : State) (o : PulseObs), (s.win.st = .running) ∧ (s.fab.clockStop = []) ∧ (s.inArray = false) ∧ (o.came = []) ∧ (s.mustStall = true) ∧ (s.win.stall = none)) ∧
    (∃ (s : State) (o : PulseObs), (s.win.st = .running) ∧ (s.fab.clockStop = []) ∧ (s.inArray = false) ∧ (o.came = []) ∧ (s.mustStall = true) ∧ (s.win.stall.isSome = true)) ∧
    (∃ (s : State) (o : PulseObs), (s.win.st = .running) ∧ (s.fab.clockStop = []) ∧ (s.inArray = false) ∧ ((s.inputsCome o).mustStall = false)) ∧
    (∃ (s : State) (o : PulseObs), (s.win.st = .running) ∧ (s.fab.clockStop = []) ∧ (s.inArray = true) ∧ ((s.inputsCome o).resumeOwn.mustStall = true) ∧ ((s.inputsCome o).resumeOwn.win.stall = none)) ∧
    (∃ (s : State) (o : PulseObs), (s.win.st = .running) ∧ (s.fab.clockStop = []) ∧ (s.inArray = true) ∧ ((s.inputsCome o).resumeOwn.mustStall = true) ∧ ((s.inputsCome o).resumeOwn.win.stall.isSome = true)) ∧
    (∃ (s : State) (o : PulseObs), (s.win.st = .running) ∧ (s.fab.clockStop = []) ∧ (s.inArray = true) ∧ ((s.inputsCome o).resumeOwn.mustStall = false) ∧ ((s.inputsCome o).resumeOwn.endStall.slotsReady = true) ∧ ((s.inputsCome o).resumeOwn.endStall.paced = true)) ∧
    (∃ (s : State) (o : PulseObs), (s.win.st = .running) ∧ (s.fab.clockStop = []) ∧ (s.inArray = true) ∧ ((s.inputsCome o).resumeOwn.mustStall = false) ∧ ((s.inputsCome o).resumeOwn.endStall.slotsReady = false ∨ (s.inputsCome o).resumeOwn.endStall.paced = false)) ∧
    (∃ (s : State) (o : PulseObs), ((s.pulseBody o).win.strand + 1 < (s.pulseBody o).fab.turnLen)) ∧
    (∃ (s : State) (o : PulseObs), ((s.pulseBody o).fab.turnLen ≤ (s.pulseBody o).win.strand + 1)) ∧
    (∃ (s : State) (o : PulseObs), (s.win.st ≠ .running ∨ s.fab.clockStop ≠ []) ∧ (s.gated = true)) ∧
    (∃ (s : State) (o : PulseObs), (s.win.st ≠ .running ∨ s.fab.clockStop ≠ []) ∧ (s.gated = false) ∧ (s.img.load.isSome = true)) ∧
    (∃ (s : State) (o : PulseObs), (s.win.st ≠ .running ∨ s.fab.clockStop ≠ []) ∧ (s.gated = false) ∧ (s.img.load = none)) :=
  ⟨⟨devRun, {}, by decide +kernel⟩,
   ⟨{ devRun with win.notices := [{ due := ⟨0, 0⟩, notice := 1 }] }, {}, by decide +kernel⟩,
   ⟨{ devRun with win.notices := [{ due := ⟨0, 0⟩, notice := 1 }], win.stall := some { due := ⟨0, 0⟩, srcs := [] } }, {}, by decide +kernel⟩,
   ⟨devRun, {}, by decide +kernel⟩,
   ⟨{ devRun with lnk.array := .joined, win.notices := [{ due := ⟨0, 0⟩, notice := 1 }] }, {}, by decide +kernel⟩,
   ⟨{ devRun with lnk.array := .joined, win.notices := [{ due := ⟨0, 0⟩, notice := 1 }], win.stall := some { due := ⟨0, 0⟩, srcs := [] } }, {}, by decide +kernel⟩,
   ⟨{ devRun with lnk.array := .joined }, {}, by decide +kernel⟩,
   ⟨{ devRun with lnk.array := .joined, win.turnCount := 1, lnk.link := [(0, { active := true })] }, {}, by decide +kernel⟩,
   ⟨devRun, {}, by decide +kernel⟩,
   ⟨{ devRun with win.strand := 7 }, {}, by decide +kernel⟩,
   ⟨{ dev with clk.safe := true }, {}, by decide +kernel⟩,
   ⟨{ dev with img.load := some { why := .start, bank := 2 } }, {}, by decide +kernel⟩,
   ⟨dev, {}, by decide +kernel⟩⟩

/-- Witnesses of the hypotheses of TurnEndCommitsEveryFlipFlopAtOnce. -/
theorem test_wit_TurnEndCommitsEveryFlipFlopAtOnce :
    (∃ (s : State) (wrong : List Nat) (k : Nat), ((tget s.fab.latch 0 (k * 8 + s.win.strand)) ≠ 0) ∧ (s.win.strand < 8) ∧ (s.plotRuns (k / 4096) = true) ∧ (kInUse (s.fab.latchAt k s.win.strand) 120 = true)) ∧
    (∃ (s : State) (wrong : List Nat) (k : Nat), ((tget s.fab.latch 0 (k * 8 + s.win.strand)) ≠ 0) ∧ (s.win.strand < 8) ∧ (s.plotRuns (k / 4096) = true) ∧ (kInUse (s.fab.latchAt k s.win.strand) 128 = true)) ∧
    (∃ (s : State) (e : Nat × BitVec 160), (s.fab.srFree = true) ∧ (e ∈ s.fab.latch) ∧ (e.1 % 8 < s.fab.turnLen) ∧ (s.plotRuns (e.1 / 32768) = true) ∧ (kInUse e.2 120 = true) ∧ (s.patternValue (e.1 / 32768) (e.2.toNat >>> 122 % 16) = true)) ∧
    (∃ (s : State) (e : Nat × BitVec 160), (s.fab.srFree = true) ∧ (e ∈ s.fab.latch) ∧ (e.1 % 8 < s.fab.turnLen) ∧ (s.plotRuns (e.1 / 32768) = true) ∧ (kInUse e.2 128 = true) ∧ (s.patternValue (e.1 / 32768) (e.2.toNat >>> 130 % 16) = true)) ∧
    (∃ (s : State) (k : Nat) (b : Bool), (tget s.fab.pendA none k = some b)) ∧
    (∃ (s : State) (k : Nat) (b : Bool), (tget s.fab.pendB none k = some b)) ∧
    (∃ (s : State) (k : Nat), ((s.fab.srFree = false ∨ ∀ e ∈ s.fab.latch, e.1 = k → s.fab.turnLen ≤ k % 8 ∨ s.plotRuns (k / 32768) = false ∨ kInUse e.2 120 = false ∨ s.patternValue (k / 32768) (e.2.toNat >>> 122 % 16) = false))) ∧
    (∃ (s : State) (k : Nat), ((s.fab.srFree = false ∨ ∀ e ∈ s.fab.latch, e.1 = k → s.fab.turnLen ≤ k % 8 ∨ s.plotRuns (k / 32768) = false ∨ kInUse e.2 128 = false ∨ s.patternValue (k / 32768) (e.2.toNat >>> 130 % 16) = false))) :=
  ⟨⟨{ devRun with fab.latch := [(0, 1#160 <<< 127)] }, [], 0, by decide +kernel⟩,
   ⟨{ devRun with fab.latch := [(0, 1#160 <<< 135)] }, [], 0, by decide +kernel⟩,
   ⟨{ devRun with fab.srFree := true, fab.latch := [(7, 1 <<< 127)], fab.pat := [(0, 1 <<< 76)] }, (7, 1 <<< 127), by decide +kernel⟩,
   ⟨{ devRun with fab.srFree := true, fab.latch := [(7, 1 <<< 135)], fab.pat := [(0, 1 <<< 76)] }, (7, 1 <<< 135), by decide +kernel⟩,
   ⟨{ devRun with fab.pendA := [(0, some true)] }, 0, true, by decide +kernel⟩,
   ⟨{ devRun with fab.pendB := [(0, some true)] }, 0, true, by decide +kernel⟩,
   ⟨{ devRun with fab.srFree := true, fab.latch := [(7, 0)] }, 7, by decide +kernel⟩,
   ⟨{ devRun with fab.srFree := true, fab.latch := [(7, 0)] }, 7, by decide +kernel⟩⟩

/-- Witnesses of the hypotheses of FabricEventsAct. -/
theorem test_wit_FabricEventsAct :
    (∃ (s : State) (knot : Nat) (strand : Fin 8) (bit : Fin 160) (w : BitVec 160), (knot < 20971520) ∧ (w = tget s.fab.latch 0 (knot * 8 + strand.val) ^^^ (1#160 <<< bit.val))) ∧
    (∃ (s : State), (s.inArray = false) ∧ (s.win.st = .running) ∧ (s.win.stall.isSome = true) ∧ (s.mustStall = false)) ∧
    (∃ (s : State), (s.inArray = true) ∧ (s.win.st = .running) ∧ (s.win.stall.isSome = true) ∧ (s.resumeOwn.mustStall = false)) ∧
    (∃ (s : State) (x : Stall), (s.win.stall = some x) ∧ (x.long = false) ∧ (s.win.stallLimit ≠ 0)) ∧
    (∃ (s : State) (x : Stall), (s.win.stall = some x) ∧ (x.long = true ∨ s.win.stallLimit = 0)) ∧
    (∃ (s : State) (b : Fin 20) (f : OutFrame), (s.io.frames.find? (fun f => f.bank = b.val && !f.here) = some f) ∧ (s.win.turnCount ≤ f.due)) ∧
    (∃ (s : State) (b : Fin 20) (f : OutFrame), (s.io.frames.find? (fun f => f.bank = b.val && !f.here) = some f) ∧ (f.due < s.win.turnCount)) ∧
    (∃ (s : State) (b : Fin 20), (s.io.frames.find? (fun f => f.bank = b.val && !f.here) = none)) ∧
    (∃ (s : State) (b : Fin 20) (bits : Nat), (s.bankLive b = true) ∧ (s.bankFree b = true) ∧ ((tget s.io.inF [] b.val).length < 512)) ∧
    (∃ (s : State) (b : Fin 20) (bits : Nat), (s.bankLive b = true) ∧ (s.bankFree b = true) ∧ (512 ≤ (tget s.io.inF [] b.val).length) ∧ (s.io.inDrop.contains b.val = false)) ∧
    (∃ (s : State) (b : Fin 20) (bits : Nat), (s.bankLive b = true) ∧ (s.bankFree b = true) ∧ (512 ≤ (tget s.io.inF [] b.val).length) ∧ (s.io.inDrop.contains b.val = true)) ∧
    (∃ (s : State) (b : Fin 20) (e l : _), (s.bankLive b = true) ∧ (s.bankFree b = true) ∧ (tget s.io.outF [] b.val = e :: l)) ∧
    (∃ (s : State) (b : Fin 20), (s.bankLive b = true) ∧ (s.bankFree b = true) ∧ (tget s.io.outF [] b.val = [])) ∧
    (∃ (s : State) (b : Fin 20) (bits : Nat), (s.bankLive b = false ∨ s.bankFree b = false)) :=
  ⟨⟨dev, 20971519, 7, 159, _, by exact ⟨by decide +kernel, rfl⟩⟩,
   ⟨{ devRun with win.stall := some { due := ⟨0, 0⟩, srcs := [] } }, by decide +kernel⟩,
   ⟨{ devRun with lnk.array := .joined, win.stall := some { due := ⟨0, 0⟩, srcs := [] } }, by decide +kernel⟩,
   ⟨{ devRun with win.stall := some { due := ⟨0, 0⟩, srcs := [] } }, { due := ⟨0, 0⟩, srcs := [] }, by decide +kernel⟩,
   ⟨{ devRun with win.stall := some { due := ⟨0, 0⟩, srcs := [], long := true } }, { due := ⟨0, 0⟩, srcs := [], long := true }, by decide +kernel⟩,
   ⟨{ dev with io.frames := [{ bank := 19, due := 0, value := 0, enable := 0 }] }, 19, { bank := 19, due := 0, value := 0, enable := 0 }, by decide +kernel⟩,
   ⟨{ dev with io.frames := [{ bank := 19, due := 0, value := 0, enable := 0 }], win.turnCount := 1 }, 19, { bank := 19, due := 0, value := 0, enable := 0 }, by decide +kernel⟩,
   ⟨dev, 19, by decide +kernel⟩,
   ⟨{ dev with fab.outFree := true, io.bankCfg := [(19, 1)] }, 19, 0xFFFFFFFFFFFF, by decide +kernel⟩,
   ⟨{ dev with fab.outFree := true, io.bankCfg := [(19, 1)], io.inF := [(19, List.replicate 512 0)] }, 19, 0xFFFFFFFFFFFF, by decide +kernel⟩,
   ⟨{ dev with fab.outFree := true, io.bankCfg := [(19, 1)], io.inF := [(19, List.replicate 512 0)], io.inDrop := [19] }, 19, 0xFFFFFFFFFFFF, by decide +kernel⟩,
   ⟨{ dev with fab.outFree := true, io.bankCfg := [(19, 1)], io.outF := [(19, [5])] }, 19, 5, [], by decide +kernel⟩,
   ⟨{ dev with fab.outFree := true, io.bankCfg := [(19, 1)] }, 19, by decide +kernel⟩,
   ⟨dev, 19, 0, by decide +kernel⟩⟩

/-- Witnesses of the hypotheses of SpliceAndVerticalEventsAct. -/
theorem test_wit_SpliceAndVerticalEventsAct :
    (∃ (s : State) (c : Nat), ((s.spl.chanAt c).st = .shadowed) ∧ ((s.spl.chanAt c).due = true)) ∧
    (∃ (s : State) (path : Fin 160) (dir : Fin 2) (p : Packet), (s.nodeStill (fbReceiver path dir) = false) ∧ ((s.nodeAt (fbReceiver path dir)).rxFb.find? (fun p => p.tag = (s.nodeAt (fbReceiver path dir)).fbNext) = some p)) ∧
    (∃ (s : State) (v : VChan) (frame : BitVec 56) (r : VRec), (v.present = true) ∧ (r = (s.vert.chanRec v).sent frame) ∧ (r.bare = true ∨ r.moved = true)) ∧
    (∃ (s : State) (v : VChan) (frame : BitVec 56) (r : VRec), (v.present = true) ∧ (r = (s.vert.chanRec v).sent frame) ∧ (r.bare = false) ∧ (r.moved = false) ∧ (r.rejects + 1 < 3)) ∧
    (∃ (s : State) (v : VChan) (frame : BitVec 56) (r : VRec), (v.present = true) ∧ (r = (s.vert.chanRec v).sent frame) ∧ (r.bare = false) ∧ (r.moved = false) ∧ (3 ≤ r.rejects + 1)) ∧
    (∃ (s : State) (v : VChan), (v.present = true) ∧ ((s.vert.chanRec v).moved = false) ∧ ((s.vert.chanRec v).bare = true)) ∧
    (∃ (s : State) (v : VChan), (v.present = true) ∧ ((s.vert.chanRec v).moved = false) ∧ ((s.vert.chanRec v).bare = false) ∧ (v.kind = .headgate)) ∧
    (∃ (s : State) (v : VChan) (k : _), (v.present = true) ∧ ((s.vert.chanRec v).moved = false) ∧ ((s.vert.chanRec v).bare = false) ∧ (v.kind ≠ .headgate) ∧ (s.vert.freeSpare v = some k)) ∧
    (∃ (s : State) (v : VChan), (v.present = true) ∧ ((s.vert.chanRec v).moved = false) ∧ ((s.vert.chanRec v).bare = false) ∧ (v.kind ≠ .headgate) ∧ (s.vert.freeSpare v = none)) ∧
    (∃ (s : State) (v : VChan), ((s.vert.chanRec v).failed = true) ∧ ((s.vert.chanRec v).spare.isSome = true) ∧ ((s.vert.chanRec v).swapped = false)) ∧
    (∃ (s : State) (k : Fin 6), (k.val < 4) ∧ (s.vert.sillA.getD k.val .failed = .standby)) ∧
    (∃ (s : State) (k : Fin 6), (k.val < 4) ∧ (s.vert.sillA.getD k.val .failed = .active)) ∧
    (∃ (s : State) (k : Fin 6), (4 ≤ k.val) ∧ (s.vert.ab.getD (k.val - 4) .failed = .standby)) ∧
    (∃ (s : State) (k : Fin 6), (4 ≤ k.val) ∧ (s.vert.ab.getD (k.val - 4) .failed = .active)) ∧
    (∃ (s : State) (i : _), (s.vert.switchA ≠ 0) ∧ (s.vert.sillA.findIdx? (· = .standby) = some i)) ∧
    (∃ (s : State), (s.vert.switchA ≠ 0) ∧ (s.vert.sillA.findIdx? (· = .standby) = none) ∧ (s.vert.sillA.any (· = .active) = false)) ∧
    (∃ (s : State) (i : _), (s.vert.switchB = true) ∧ (s.vert.ab.findIdx? (· = .standby) = some i)) ∧
    (∃ (s : State), (s.vert.switchB = true) ∧ (s.vert.ab.findIdx? (· = .standby) = none) ∧ (s.vert.ab.any (· = .active) = false)) :=
  ⟨⟨{ dev with spl.chan := [(10485759, { st := .shadowed, due := true })] }, 10485759, by decide +kernel⟩,
   ⟨{ dev with leat.node := [(fbReceiver 159 1, { rxFb := [{ dest := 0, src := 0, cmd := .read }] })] }, 159, 1, { dest := 0, src := 0, cmd := .read }, by decide +kernel⟩,
   ⟨{ dev with vert.chans := [{ id := vch, bare := true }] }, vch, 0, _, by exact ⟨by decide +kernel, rfl, by decide +kernel⟩⟩,
   ⟨dev, vch, 0, _, by exact ⟨by decide +kernel, rfl, by decide +kernel, by decide +kernel, by decide +kernel⟩⟩,
   ⟨{ dev with vert.chans := [{ id := vch, rejects := 2 }] }, vch, 0, _, by exact ⟨by decide +kernel, rfl, by decide +kernel, by decide +kernel, by decide +kernel⟩⟩,
   ⟨{ dev with vert.chans := [{ id := vch, bare := true }] }, vch, by decide +kernel⟩,
   ⟨dev, vch, by decide +kernel⟩,
   ⟨dev, vrl, 0, by decide +kernel⟩,
   ⟨{ dev with vert.chans := [{ id := vrl, spent := List.range 8 }] }, vrl, by decide +kernel⟩,
   ⟨{ dev with vert.chans := [{ id := vrl, failed := true, spare := some 0 }] }, vrl, by decide +kernel⟩,
   ⟨dev, 3, by decide +kernel⟩,
   ⟨dev, 0, by decide +kernel⟩,
   ⟨dev, 5, by decide +kernel⟩,
   ⟨dev, 4, by decide +kernel⟩,
   ⟨{ dev with vert.switchA := 1 }, 2, by decide +kernel⟩,
   ⟨{ dev with vert.switchA := 1, vert.sillA := [] }, by decide +kernel⟩,
   ⟨{ dev with vert.switchB := true }, 1, by decide +kernel⟩,
   ⟨{ dev with vert.switchB := true, vert.ab := [] }, by decide +kernel⟩⟩

/-- Witnesses of the hypotheses of WindowStartSequence. -/
theorem test_wit_WindowStartSequence :
    (∃ (s : State), (s.inReset = false) ∧ ((s.wakeBy 2 none).win.mode = 0) ∧ ((s.wakeBy 2 none).lnk.array ≠ .notPart) ∧ ((s.wakeBy 2 none).win.st = .ready) ∧ ((s.wakeBy 2 none).win.edgeAccepted = false) ∧ ((s.wakeBy 2 none).clk.safe = false)) ∧
    (∃ (s : State), (s.inReset = false) ∧ ((s.wakeBy 2 none).win.mode = 0) ∧ ((s.wakeBy 2 none).lnk.array ≠ .notPart) ∧ ((s.wakeBy 2 none).win.st ≠ .ready) ∧ ((s.wakeBy 2 none).win.edgePending = false)) ∧
    (∃ (s : State), (s.inReset = false) ∧ ((s.wakeBy 2 none).win.mode ≠ 0 ∨ (s.wakeBy 2 none).lnk.array = .notPart)) ∧
    (∃ (s : State), (s.win.mode = 1 ∨ s.win.mode = 2) ∧ (s.win.st = .ready) ∧ (s.win.edgeAccepted = false) ∧ (s.clk.safe = false) ∧ (s.lnk.array ≠ .notPart)) ∧
    (∃ (s u : State), (s.win.edgeAccepted = true) ∧ (s.fab.clockStop = []) ∧ (s.gated = false) ∧ (u = ((s.modWin fun w => { w with st := .starting, cnt := w.cnt + 1, edgeAccepted := false, hold := w.hold ||| holdBit holdRun }).newCounts.modLeat fun l => { l with admission := false }).ctrlAll) ∧ (s.inArray = false)) ∧
    (∃ (s u : State), (s.win.edgeAccepted = true) ∧ (s.fab.clockStop = []) ∧ (s.gated = false) ∧ (u = ((s.modWin fun w => { w with st := .starting, cnt := w.cnt + 1, edgeAccepted := false, hold := w.hold ||| holdBit holdRun }).newCounts.modLeat fun l => { l with admission := false }).ctrlAll) ∧ (u.inArray = true) ∧ (u.countMaster = true)) ∧
    (∃ (s u : State), (s.win.edgeAccepted = true) ∧ (s.fab.clockStop = []) ∧ (s.gated = false) ∧ (u = ((s.modWin fun w => { w with st := .starting, cnt := w.cnt + 1, edgeAccepted := false, hold := w.hold ||| holdBit holdRun }).newCounts.modLeat fun l => { l with admission := false }).ctrlAll) ∧ (u.inArray = true) ∧ (u.countMaster = false) ∧ (u.lnk.mcntNew = true)) ∧
    (∃ (s u : State), (s.win.edgeAccepted = true) ∧ (s.fab.clockStop = []) ∧ (s.gated = false) ∧ (u = ((s.modWin fun w => { w with st := .starting, cnt := w.cnt + 1, edgeAccepted := false, hold := w.hold ||| holdBit holdRun }).newCounts.modLeat fun l => { l with admission := false }).ctrlAll) ∧ (u.inArray = true) ∧ (u.countMaster = false) ∧ (u.lnk.mcntNew = false)) ∧
    (∃ (s : State), (s.win.edgeAccepted = true) ∧ (s.fab.clockStop = []) ∧ (s.gated = false) ∧ (s.inArray = false)) ∧
    (∃ (s : State), (s.win.st = .starting) ∧ (s.leatEmpty = true) ∧ (s.fab.clockStop = []) ∧ (s.gated = false)) :=
  ⟨⟨{ dev with win.st := .ready }, by decide +kernel⟩,
   ⟨dev, by decide +kernel⟩,
   ⟨{ dev with lnk.array := .notPart }, by decide +kernel⟩,
   ⟨{ dev with win.mode := 2, win.st := .ready }, by decide +kernel⟩,
   ⟨{ dev with win.edgeAccepted := true }, _, by exact ⟨by decide +kernel, by decide +kernel, by decide +kernel, rfl, by decide +kernel⟩⟩,
   ⟨{ dev with win.edgeAccepted := true, lnk.array := .joined }, _, by exact ⟨by decide +kernel, by decide +kernel, by decide +kernel, rfl, by decide +kernel, by decide +kernel⟩⟩,
   ⟨{ dev with win.edgeAccepted := true, lnk.array := .joined, lnk.startDev := 1, lnk.mcntNew := true }, _, by exact ⟨by decide +kernel, by decide +kernel, by decide +kernel, rfl, by decide +kernel, by decide +kernel, by decide +kernel⟩⟩,
   ⟨{ dev with win.edgeAccepted := true, lnk.array := .joined, lnk.startDev := 1 }, _, by exact ⟨by decide +kernel, by decide +kernel, by decide +kernel, rfl, by decide +kernel, by decide +kernel, by decide +kernel⟩⟩,
   ⟨{ dev with win.edgeAccepted := true }, by decide +kernel⟩,
   ⟨{ dev with win.st := .starting }, by decide +kernel⟩⟩

/-- Witnesses of the hypotheses of BoundarySequenceSteps. -/
theorem test_wit_BoundarySequenceSteps :
    (∃ (s : State), (s.win.st = .boundary) ∧ (s.win.step = 2) ∧ (s.win.paused = false) ∧ (s.drained = true)) ∧
    (∃ (s : State), (s.win.st ≠ .boundary) ∧ (s.leat.swapWait = true) ∧ (s.leatEmpty = true) ∧ (s.atOnce = true) ∧ (s.leat.arm = true) ∧ (s.leat.checked = true)) ∧
    (∃ (s : State), (s.win.st ≠ .boundary) ∧ (s.leat.swapWait = true) ∧ (s.leatEmpty = true) ∧ (s.atOnce = false ∨ s.leat.arm = false ∨ s.leat.checked = false)) ∧
    (∃ (s : State), (s.win.st = .boundary) ∧ (s.win.step = 4) ∧ (s.win.paused = false)) ∧
    (∃ (s : State) (q : CapReq), (s.rst.capRun = some q) ∧ (q.restore = false) ∧ (s.win.paused = false) ∧ (s.deepRuns q.addr = true) ∧ (q.origin.isSome = true)) ∧
    (∃ (s : State) (q : CapReq), (s.rst.capRun = some q) ∧ (q.restore = false) ∧ (s.win.paused = false) ∧ (s.deepRuns q.addr = true) ∧ (q.origin = none)) ∧
    (∃ (s : State) (q : CapReq), (s.rst.capRun = some q) ∧ (q.restore = true) ∧ (s.win.paused = false) ∧ (s.deepRuns q.addr = true)) ∧
    (∃ (s : State) (k : Nat), (s.rst.rate = some k) ∧ (s.win.paused = false)) :=
  ⟨⟨{ dev with win.st := .boundary, win.step := 2 }, by decide +kernel⟩,
   ⟨{ dev with leat.swapWait := true, leat.arm := true, leat.checked := true }, by decide +kernel⟩,
   ⟨{ dev with leat.swapWait := true }, by decide +kernel⟩,
   ⟨{ dev with win.st := .boundary, win.step := 4 }, by decide +kernel⟩,
   ⟨{ dev with rst.capRun := some { restore := false, addr := 0, origin := some og } }, { restore := false, addr := 0, origin := some og }, by decide +kernel⟩,
   ⟨{ dev with rst.capRun := some { restore := false, addr := 0, origin := none } }, { restore := false, addr := 0, origin := none }, by decide +kernel⟩,
   ⟨{ dev with rst.capRun := some { restore := true, addr := 0, origin := none } }, { restore := true, addr := 0, origin := none }, by decide +kernel⟩,
   ⟨{ dev with rst.rate := some 5 }, 5, by decide +kernel⟩⟩

/-- Witnesses of the hypotheses of CisternServiceActs. -/
theorem test_wit_CisternServiceActs :
    (∃ (s u : State) (n : Fin 320) (p : Packet) (l : List Packet), (s.gated = false) ∧ ((s.nodeAt n).work = p :: l) ∧ (u = s.modNode n (fun x => { x with work := l })) ∧ (u.targetOff n p.addr = true)) ∧
    (∃ (s u : State) (n : Fin 320) (p : Packet) (l : List Packet), (s.gated = false) ∧ ((s.nodeAt n).work = p :: l) ∧ (u = s.modNode n (fun x => { x with work := l })) ∧ (u.targetOff n p.addr = false) ∧ (svcAddressOk p = false)) ∧
    (∃ (s u : State) (n : Fin 320) (p : Packet) (l : List Packet), (s.gated = false) ∧ ((s.nodeAt n).work = p :: l) ∧ (u = s.modNode n (fun x => { x with work := l })) ∧ (u.targetOff n p.addr = false) ∧ (svcAddressOk p = true) ∧ (u.bistPlot ((svcPlace p 0).1 / 8) = true ∨ u.svcClosed p = true)) ∧
    (∃ (s u : State) (n : Fin 320) (p : Packet) (l : List Packet), (s.gated = false) ∧ ((s.nodeAt n).work = p :: l) ∧ (u = s.modNode n (fun x => { x with work := l })) ∧ (u.targetOff n p.addr = false) ∧ (svcAddressOk p = true) ∧ (u.bistPlot ((svcPlace p 0).1 / 8) = false) ∧ (u.svcClosed p = false) ∧ (p.len = 0)) ∧
    (∃ (s u : State) (n : Fin 320) (p : Packet) (l : List Packet), (s.gated = false) ∧ ((s.nodeAt n).work = p :: l) ∧ (u = s.modNode n (fun x => { x with work := l })) ∧ (u.targetOff n p.addr = false) ∧ (svcAddressOk p = true) ∧ (u.bistPlot ((svcPlace p 0).1 / 8) = false) ∧ (u.svcClosed p = false) ∧ (p.len ≠ 0)) ∧
    (∃ (s : State) (i : Fin 40960) (v : Service), (s.gated = false) ∧ (s.cst.nextService i = some v) ∧ (s.cstIdle i = true) ∧ (v.pkt.cmd ≠ .read)) ∧
    (∃ (s : State) (i : Fin 40960) (v : Service), (s.gated = false) ∧ (s.cst.nextService i = some v) ∧ (s.cstIdle i = true) ∧ (v.pkt.cmd = .read)) ∧
    (∃ (s : State) (i : Fin 40960) (v : Service) (rd : LightRead), (s.gated = false) ∧ (s.cst.nextService i = some v) ∧ (s.cstIdle i = false) ∧ (rd = lightDecode (s.cstRow i (svcPlace v.pkt v.done).2)) ∧ (v.pkt.cmd = .read) ∧ (s.svcQualifies i false = true)) ∧
    (∃ (s : State) (i : Fin 40960) (v : Service) (rd : LightRead), (s.gated = false) ∧ (s.cst.nextService i = some v) ∧ (s.cstIdle i = false) ∧ (rd = lightDecode (s.cstRow i (svcPlace v.pkt v.done).2)) ∧ (v.pkt.cmd ≠ .read) ∧ (s.svcQualifies i true = true)) ∧
    (∃ (s : State) (i : Fin 40960), (s.gated = false) ∧ (s.cstIdle i = true)) ∧
    (∃ (s : State) (i : Fin 40960), (s.gated = false) ∧ (s.cstIdle i = false) ∧ (s.svcQualifies i false = true)) :=
  ⟨⟨{ dev with leat.node := [(319, { work := [{ dest := 319, src := 0, cmd := .write, len := 1, addr := 0xC00007F9FFFF }] })], pwr.dom := [(plotDomain (cisternPlot 0xC00007F9FFFF), { st := .off })] }, _, 319, { dest := 319, src := 0, cmd := .write, len := 1, addr := 0xC00007F9FFFF }, [], by exact ⟨by decide +kernel, by decide +kernel, rfl, by decide +kernel⟩⟩,
   ⟨{ dev with leat.node := [(319, { work := [{ dest := 319, src := 0, cmd := .read, addr := 0xC00008000000 }] })] }, _, 319, { dest := 319, src := 0, cmd := .read, addr := 0xC00008000000 }, [], by exact ⟨by decide +kernel, by decide +kernel, rfl, by decide +kernel, by decide +kernel⟩⟩,
   ⟨{ devRun with leat.node := [(319, { work := [{ dest := 319, src := 0, cmd := .write, len := 1, addr := 0xC00007F9FFFF }] })] }, _, 319, { dest := 319, src := 0, cmd := .write, len := 1, addr := 0xC00007F9FFFF }, [], by exact ⟨by decide +kernel, by decide +kernel, rfl, by decide +kernel, by decide +kernel, by decide +kernel⟩⟩,
   ⟨{ dev with leat.node := [(319, { work := [{ dest := 319, src := 0, cmd := .write, addr := 0xC00007F9FFFF }] })] }, _, 319, { dest := 319, src := 0, cmd := .write, addr := 0xC00007F9FFFF }, [], by exact ⟨by decide +kernel, by decide +kernel, rfl, by decide +kernel, by decide +kernel, by decide +kernel, by decide +kernel, by decide +kernel⟩⟩,
   ⟨{ dev with leat.node := [(319, { work := [{ dest := 319, src := 0, cmd := .write, len := 1, addr := 0xC00007F9FFFF }] })] }, _, 319, { dest := 319, src := 0, cmd := .write, len := 1, addr := 0xC00007F9FFFF }, [], by exact ⟨by decide +kernel, by decide +kernel, rfl, by decide +kernel, by decide +kernel, by decide +kernel, by decide +kernel, by decide +kernel⟩⟩,
   ⟨{ dev with cst.service := [{ node := 319, pkt := { dest := 319, src := 0, cmd := .write, len := 1, addr := 0xC00007F9FFFF } }] }, 40959, { node := 319, pkt := { dest := 319, src := 0, cmd := .write, len := 1, addr := 0xC00007F9FFFF } }, by decide +kernel⟩,
   ⟨{ dev with cst.service := [{ node := 319, pkt := { dest := 319, src := 0, cmd := .read, len := 1, addr := 0xC00007F9FFFF } }] }, 40959, { node := 319, pkt := { dest := 319, src := 0, cmd := .read, len := 1, addr := 0xC00007F9FFFF } }, by decide +kernel⟩,
   ⟨{ devRun with cst.service := [{ node := 319, pkt := { dest := 319, src := 0, cmd := .read, len := 1, addr := 0xC00007F9FFFF } }] }, 40959, { node := 319, pkt := { dest := 319, src := 0, cmd := .read, len := 1, addr := 0xC00007F9FFFF } }, _, by exact ⟨by decide +kernel, by decide +kernel, by decide +kernel, rfl, by decide +kernel, by decide +kernel⟩⟩,
   ⟨{ devRun with cst.service := [{ node := 319, pkt := { dest := 319, src := 0, cmd := .write, len := 1, addr := 0xC00007F9FFFF } }], cst.cfg := [(40959, 1 <<< 2)] }, 40959, { node := 319, pkt := { dest := 319, src := 0, cmd := .write, len := 1, addr := 0xC00007F9FFFF } }, _, by exact ⟨by decide +kernel, by decide +kernel, by decide +kernel, rfl, by decide +kernel, by decide +kernel⟩⟩,
   ⟨dev, 40959, by decide +kernel⟩,
   ⟨devRun, 40959, by decide +kernel⟩⟩

/-- Witnesses of the hypotheses of MemoryControllerEventsAct. -/
theorem test_wit_MemoryControllerEventsAct :
    (∃ (s : State) (m : Fin 40), ((s.nodeAt (ctlNode m)).work ≠ []) ∧ (s.gated = false) ∧ ((s.ctlAt m).pstate ≠ .run)) ∧
    (∃ (s : State) (m : Fin 40) (p : _), ((s.nodeAt (ctlNode m)).work ≠ []) ∧ (s.gated = false) ∧ ((s.ctlAt m).pstate = .run) ∧ (s.nextWork m = some p) ∧ (s.memRange p.addr p.len = false)) ∧
    (∃ (s : State) (m : Fin 40) (p : _), ((s.nodeAt (ctlNode m)).work ≠ []) ∧ (s.gated = false) ∧ ((s.ctlAt m).pstate = .run) ∧ (s.nextWork m = some p) ∧ (s.memRange p.addr p.len = true) ∧ (p.cmd = .read)) ∧
    (∃ (s : State) (m : Fin 40) (p : _), ((s.nodeAt (ctlNode m)).work ≠ []) ∧ (s.gated = false) ∧ ((s.ctlAt m).pstate = .run) ∧ (s.nextWork m = some p) ∧ (s.memRange p.addr p.len = true) ∧ (p.cmd ≠ .read)) ∧
    (∃ (s : State) (m : Fin 40) (page : Nat) (w : PathWhy), (s.gated = false) ∧ ((s.ctlAt m).path = some (page, w))) ∧
    (∃ (s : State) (m : Fin 40) (e : Ledger) (l : List Ledger), ((s.ctlAt m).ledger = e :: l) ∧ ((s.ctlAt m).path = none) ∧ (s.win.st = .boundary) ∧ (s.win.step = 4)) ∧
    (∃ (s : State) (m : Fin 40) (e : Ledger) (l : List Ledger), ((s.ctlAt m).ledger = e :: l) ∧ ((s.ctlAt m).path = none) ∧ (s.win.st ≠ .boundary) ∧ ((s.ctlAt m).draining = true) ∧ ((s.ctlAt m).drainOver = true)) ∧
    (∃ (s : State) (m : Fin 40) (e : Ledger) (l : List Ledger), ((s.ctlAt m).ledger = e :: l) ∧ ((s.ctlAt m).path = none) ∧ (s.win.st ≠ .boundary) ∧ ((s.ctlAt m).draining = true) ∧ ((s.ctlAt m).drainOver = false) ∧ ((s.ctlAt m).flushed = false ∨ s.nextWork m = none)) ∧
    (∃ (s : State) (m : Fin 40), ((s.ctlAt m).patrolEn = true) ∧ ((s.ctlAt m).valid = true)) ∧
    (∃ (s : State) (m : Fin 40), ((s.ctlAt m).filling = true) ∧ (m.val < 32 ∨ (s.ctlAt m).ready = true)) ∧
    (∃ (s : State) (d : Fin 9), (s.domSt (memDomain d) = .waking) ∧ ((s.pwr.changed.any fun q => q.dom = memDomain d) = false)) ∧
    (∃ (s : State) (d : Fin 9) (st : PState), (((domainCtls (memDomain d)).filterMap fun k => (s.ctlAt k).wokenFrom).head? = some st) ∧ ((∀ k ∈ domainCtls (memDomain d), (s.ctlAt k).pstate = .run ∧ (s.nodeAt (ctlNode k)).work = [] ∧ (s.nodeAt (ctlNode k)).rxReq = []))) ∧
    (∃ (s : State) (ch : Fin 8) (spd : Spd) (lane : BitVec 4) (rank : BitVec 2), (spd.supported = true)) ∧
    (∃ (s : State) (ch : Fin 8) (spd : Option Spd), (spd.any Spd.supported = false)) :=
  ⟨⟨{ dev with mem.ctl := [(39, { pstate := .sleep })], leat.node := [(327, { work := [{ dest := 0, src := 0, cmd := .read }] })] }, 39, by decide +kernel⟩,
   ⟨{ dev with leat.node := [(ctlNode 0, { work := [{ dest := 0, src := 0, cmd := .read, len := 1, addr := 0x800000000000 }] })] }, 0, { dest := 0, src := 0, cmd := .read, len := 1, addr := 0x800000000000 }, by decide +kernel⟩,
   ⟨{ dev with leat.node := [(ctlNode 0, { work := [{ dest := 0, src := 0, cmd := .read, len := 1 }] })] }, 0, { dest := 0, src := 0, cmd := .read, len := 1 }, by decide +kernel⟩,
   ⟨{ dev with leat.node := [(ctlNode 0, { work := [{ dest := 0, src := 0, cmd := .write, len := 1 }] })] }, 0, { dest := 0, src := 0, cmd := .write, len := 1 }, by decide +kernel⟩,
   ⟨{ dev with mem.ctl := [(39, { path := some (5, .read) })] }, 39, 5, .read, by decide +kernel⟩,
   ⟨{ dev with mem.ctl := [(39, { ledger := [⟨5, []⟩] })], win.st := .boundary, win.step := 4 }, 39, ⟨5, []⟩, [], by decide +kernel⟩,
   ⟨{ dev with mem.ctl := [(39, { ledger := [⟨5, []⟩], draining := true })] }, 39, ⟨5, []⟩, [], by decide +kernel⟩,
   ⟨{ dev with mem.ctl := [(39, { ledger := List.replicate 4 ⟨5, []⟩, limit := 4, draining := true })] }, 39, ⟨5, []⟩, List.replicate 3 ⟨5, []⟩, by decide +kernel⟩,
   ⟨{ dev with mem.ctl := [(39, { valid := true })] }, 39, by decide +kernel⟩,
   ⟨{ dev with mem.ctl := [(39, { filling := true, ready := true })] }, 39, by decide +kernel⟩,
   ⟨{ dev with pwr.dom := [(19, { st := .waking })] }, 8, by decide +kernel⟩,
   ⟨{ dev with mem.ctl := [(39, { wokenFrom := some .sleep })] }, 8, .sleep, by decide +kernel⟩,
   ⟨dev, 7, ⟨2, 1, 1, 0, 0, 32⟩, 0, 0, by decide +kernel⟩,
   ⟨dev, 7, none, by decide +kernel⟩⟩

/-- Witnesses of the hypotheses of PatrolScrubAdvancesThePatrol. -/
theorem test_wit_PatrolScrubAdvancesThePatrol :
    (∃ (s u : State) (m : Fin 40) (ws : List LightRead) (v : _), (s.patrolRuns m = true) ∧ (u = (s.ledgerRead m (s.ctlAt m).pos.toNat).1) ∧ (ws = u.pageRead m (s.ctlAt m).pos.toNat) ∧ (v = ((u.putStored m (s.ctlAt m).pos.toNat (singleFixes 0 ws)).correct m (singleFixes 0 ws).length).poisonDelivered m reqPatrol (pageWhere m (s.ctlAt m).pos.toNat (fun r => r.kind = Light.poison) ws))) ∧
    (∃ (s : State) (m : Fin 40), (s.patrolRuns m = true) ∧ ((s.ctlAt m).entry (s.ctlAt m).pos.toNat = none) ∧ ((∀ r ∈ s.pageRead m (s.ctlAt m).pos.toNat, r.kind = .clean)) ∧ (pageSyndrome (s.pageRead m (s.ctlAt m).pos.toNat) [] = false) ∧ ((s.ctlAt m).pos.toNat + 1 < (s.ctlAt m).pages m)) ∧
    (∃ (s : State) (m : Fin 40), (s.patrolRuns m = true) ∧ ((s.ctlAt m).entry (s.ctlAt m).pos.toNat = none) ∧ ((∀ r ∈ s.pageRead m (s.ctlAt m).pos.toNat, r.kind = .clean)) ∧ (pageSyndrome (s.pageRead m (s.ctlAt m).pos.toNat) [] = false) ∧ ((s.ctlAt m).pages m ≤ (s.ctlAt m).pos.toNat + 1)) ∧
    (∃ (s : State) (m : Fin 40), (s.patrolRuns m = false)) :=
  ⟨⟨{ dev with mem.ctl := [(31, { valid := true })] }, _, 31, _, _, by exact ⟨by decide +kernel, rfl, rfl, rfl⟩⟩,
   ⟨{ dev with mem.ctl := [(31, { valid := true, pos := 368638 })] }, 31, by exact ⟨by decide +kernel, by decide +kernel, pageRead_empty_clean rfl _ _, pageSyndrome_empty rfl _ _, by decide +kernel⟩⟩,
   ⟨{ dev with mem.ctl := [(31, { valid := true, pos := 368639 })] }, 31, by exact ⟨by decide +kernel, by decide +kernel, pageRead_empty_clean rfl _ _, pageSyndrome_empty rfl _ _, by decide +kernel⟩⟩,
   ⟨dev, 39, by decide +kernel⟩⟩

/-- Witnesses of the hypotheses of HostMemoryEventsAct. -/
theorem test_wit_HostMemoryEventsAct :
    (∃ (s : State) (h : HostReq), (s.nodeStill nodePcie = false) ∧ (s.mem.host.find? (fun h => !h.stop && h.sent < 4 * h.pkt.len) = some h)) ∧
    (∃ (s : State), (s.nodeStill nodePcie = true)) ∧
    (∃ (s u : State) (p : Packet) (l : List Packet), (s.nodeStill nodePcie = false) ∧ (s.mem.host.find? (fun h => !h.stop && h.sent < 4 * h.pkt.len) = none) ∧ ((s.nodeAt nodePcie).work = p :: l) ∧ (u = s.modNode nodePcie (fun x => { x with work := l })) ∧ (s.hostOpen = false)) ∧
    (∃ (s u : State) (p : Packet) (l : List Packet), (s.nodeStill nodePcie = false) ∧ (s.mem.host.find? (fun h => !h.stop && h.sent < 4 * h.pkt.len) = none) ∧ ((s.nodeAt nodePcie).work = p :: l) ∧ (u = s.modNode nodePcie (fun x => { x with work := l })) ∧ (s.hostOpen = true) ∧ (s.mem.hwSize.toNat < hostWord p + p.len)) ∧
    (∃ (s u : State) (p : Packet) (l : List Packet), (s.nodeStill nodePcie = false) ∧ (s.mem.host.find? (fun h => !h.stop && h.sent < 4 * h.pkt.len) = none) ∧ ((s.nodeAt nodePcie).work = p :: l) ∧ (u = s.modNode nodePcie (fun x => { x with work := l })) ∧ (s.hostOpen = true) ∧ (hostWord p + p.len ≤ s.mem.hwSize.toNat) ∧ (p.cmd = .read) ∧ (p.len = 0)) ∧
    (∃ (s u : State) (p : Packet) (l : List Packet), (s.nodeStill nodePcie = false) ∧ (s.mem.host.find? (fun h => !h.stop && h.sent < 4 * h.pkt.len) = none) ∧ ((s.nodeAt nodePcie).work = p :: l) ∧ (u = s.modNode nodePcie (fun x => { x with work := l })) ∧ (s.hostOpen = true) ∧ (hostWord p + p.len ≤ s.mem.hwSize.toNat) ∧ (p.cmd = .read) ∧ (p.len ≠ 0)) ∧
    (∃ (s u : State) (p : Packet) (l : List Packet), (s.nodeStill nodePcie = false) ∧ (s.mem.host.find? (fun h => !h.stop && h.sent < 4 * h.pkt.len) = none) ∧ ((s.nodeAt nodePcie).work = p :: l) ∧ (u = s.modNode nodePcie (fun x => { x with work := l })) ∧ (s.hostOpen = true) ∧ (hostWord p + p.len ≤ s.mem.hwSize.toNat) ∧ (p.cmd ≠ .read)) ∧
    (∃ (s : State) (r : HostRead) (ep : Bool) (bytes : List Byte), (s.host.reads.find? (fun x => x.id = r.id) = some r) ∧ (r.got.length + bytes.length < r.len)) ∧
    (∃ (s : State) (r : HostRead) (ep : Bool) (bytes : List Byte), (s.host.reads.find? (fun x => x.id = r.id) = some r) ∧ (r.len ≤ r.got.length + bytes.length)) ∧
    (∃ (s : State) (r : HostRead) (ep : Bool) (bytes : List Byte) (st : _), (s.host.reads.find? (fun x => x.id = r.id) = some r) ∧ (st ≠ CplStatus.sc)) ∧
    (∃ (s : State) (id : Nat) (st : CplStatus) (ep : Bool) (bytes : List Byte), (s.host.reads.find? (fun x => x.id = id) = none)) ∧
    (∃ (s : State) (off : Nat), (s.bar4Open = true) ∧ (s.rst.forced.isSome = true)) ∧
    (∃ (s : State) (off : Nat) (d : _), (s.bar4Open = true) ∧ (s.rst.forced = none) ∧ (s.sourceCheck nodePcie (s.bar4Word off) = .ok d)) ∧
    (∃ (s : State) (off : Nat) (st : _), (s.bar4Open = true) ∧ (s.rst.forced = none) ∧ (s.sourceCheck nodePcie (s.bar4Word off) = .error st)) ∧
    (∃ (s : State) (off : Nat) (be : BitVec 4) (data : W32), (s.bar4Open = true) ∧ (s.lk.owner ≠ 1)) ∧
    (∃ (s : State) (off : Nat) (be : BitVec 4) (data : W32), (s.bar4Open = true) ∧ (s.lk.owner = 1) ∧ (be &&& 7 ≠ 7)) ∧
    (∃ (s : State) (off : Nat) (be : BitVec 4) (data : W32), (s.bar4Open = true) ∧ (s.lk.owner = 1) ∧ (be &&& 7 = 7) ∧ (s.rst.forced.isSome = true)) ∧
    (∃ (s : State) (off : Nat) (be : BitVec 4) (data : W32) (d : _), (s.bar4Open = true) ∧ (s.lk.owner = 1) ∧ (be &&& 7 = 7) ∧ (s.rst.forced = none) ∧ (s.sourceCheck nodePcie (s.bar4Word off) = .ok d)) ∧
    (∃ (s : State) (off : Nat) (be : BitVec 4) (data : W32) (st : _), (s.bar4Open = true) ∧ (s.lk.owner = 1) ∧ (be &&& 7 = 7) ∧ (s.rst.forced = none) ∧ (s.sourceCheck nodePcie (s.bar4Word off) = .error st)) ∧
    (∃ (s : State) (off : Nat) (be : BitVec 4) (data : W32), (s.bar4Open = false)) :=
  ⟨⟨{ dev with mem.host := [{ pkt := { dest := 328, src := 0, cmd := .write, len := 1, addr := 0xF00000000000 } }] }, { pkt := { dest := 328, src := 0, cmd := .write, len := 1, addr := 0xF00000000000 } }, by decide +kernel⟩,
   ⟨{ dev with clk.safe := true }, by decide +kernel⟩,
   ⟨{ dev with leat.node := [(328, { work := [{ dest := 328, src := 0, cmd := .write, len := 1, addr := 0xF00000000000 }] })], host.linkUp := false }, _, { dest := 328, src := 0, cmd := .write, len := 1, addr := 0xF00000000000 }, [], by exact ⟨by decide +kernel, by decide +kernel, by decide +kernel, rfl, by decide +kernel⟩⟩,
   ⟨{ dev with leat.node := [(328, { work := [{ dest := 328, src := 0, cmd := .write, len := 1, addr := 0xF00000000000 }] })] }, _, { dest := 328, src := 0, cmd := .write, len := 1, addr := 0xF00000000000 }, [], by exact ⟨by decide +kernel, by decide +kernel, by decide +kernel, rfl, by decide +kernel, by decide +kernel⟩⟩,
   ⟨{ dev with leat.node := [(328, { work := [{ dest := 328, src := 0, cmd := .read, addr := 0xF00000000000 }] })], mem.hwSize := 1 }, _, { dest := 328, src := 0, cmd := .read, addr := 0xF00000000000 }, [], by exact ⟨by decide +kernel, by decide +kernel, by decide +kernel, rfl, by decide +kernel, by decide +kernel, by decide +kernel, by decide +kernel⟩⟩,
   ⟨{ dev with leat.node := [(328, { work := [{ dest := 328, src := 0, cmd := .read, len := 1, addr := 0xF00000000000 }] })], mem.hwSize := 1 }, _, { dest := 328, src := 0, cmd := .read, len := 1, addr := 0xF00000000000 }, [], by exact ⟨by decide +kernel, by decide +kernel, by decide +kernel, rfl, by decide +kernel, by decide +kernel, by decide +kernel, by decide +kernel⟩⟩,
   ⟨{ dev with leat.node := [(328, { work := [{ dest := 328, src := 0, cmd := .write, len := 1, addr := 0xF00000000000 }] })], mem.hwSize := 1 }, _, { dest := 328, src := 0, cmd := .write, len := 1, addr := 0xF00000000000 }, [], by exact ⟨by decide +kernel, by decide +kernel, by decide +kernel, rfl, by decide +kernel, by decide +kernel, by decide +kernel⟩⟩,
   ⟨{ dev with host.reads := [{ id := 0, ask := .stage, off := 0, len := 8 }] }, { id := 0, ask := .stage, off := 0, len := 8 }, false, List.replicate 7 0, by decide +kernel⟩,
   ⟨{ dev with host.reads := [{ id := 0, ask := .stage, off := 0, len := 8 }] }, { id := 0, ask := .stage, off := 0, len := 8 }, false, List.replicate 8 0, by decide +kernel⟩,
   ⟨{ dev with host.reads := [{ id := 0, ask := .stage, off := 0, len := 8 }] }, { id := 0, ask := .stage, off := 0, len := 8 }, false, [], .ur, by decide +kernel⟩,
   ⟨dev, 0, .sc, false, [], by decide +kernel⟩,
   ⟨{ dev with rst.forced := some { origin := og } }, 0, by decide +kernel⟩,
   ⟨{ dev with mem.b4Base := 0x100000000000 }, 0, _, by exact ⟨by decide +kernel, by decide +kernel, rfl⟩⟩,
   ⟨{ dev with mem.b4Base := 0x900000000000 }, 0, _, by exact ⟨by decide +kernel, by decide +kernel, rfl⟩⟩,
   ⟨{ dev with lk.owner := 2 }, 0, 15, 0, by decide +kernel⟩,
   ⟨dev, 0, 6, 0, by decide +kernel⟩,
   ⟨{ dev with rst.forced := some { origin := og } }, 0, 15, 0, by decide +kernel⟩,
   ⟨{ dev with mem.b4Base := 0x100000000000 }, 0, 15, 0, _, by exact ⟨by decide +kernel, by decide +kernel, by decide +kernel, by decide +kernel, rfl⟩⟩,
   ⟨{ dev with mem.b4Base := 0x900000000000 }, 0, 7, 0, _, by exact ⟨by decide +kernel, by decide +kernel, by decide +kernel, by decide +kernel, rfl⟩⟩,
   ⟨{ dev with host.linkUp := false }, 0, 0, 0, by decide +kernel⟩⟩

/-- Witnesses of the hypotheses of LeatEventsAct. -/
theorem test_wit_LeatEventsAct :
    (∃ (s : State) (n : Fin 384) (p : Packet) (l : List Packet), (s.nodeStill n = false) ∧ (s.mayInject n = true) ∧ ((s.nodeAt n).resp = p :: l)) ∧
    (∃ (s : State) (n : Fin 384), (s.nodeStill n = false) ∧ (s.mayInject n = true) ∧ ((s.nodeAt n).resp = []) ∧ ((s.nodeAt n).isolated = true)) ∧
    (∃ (s : State) (n : Fin 384) (p : Packet), (s.nodeStill n = false) ∧ (s.mayInject n = true) ∧ ((s.nodeAt n).resp = []) ∧ ((s.nodeAt n).isolated = false) ∧ (s.fbSend n = some p)) ∧
    (∃ (s : State) (n : Fin 384) (r : Request), (s.nodeStill n = false) ∧ (s.mayInject n = true) ∧ ((s.nodeAt n).resp = []) ∧ ((s.nodeAt n).isolated = false) ∧ (s.fbSend n = none) ∧ (s.nextSend n = some r)) ∧
    (∃ (s : State) (n : Fin 384), (s.nodeStill n = false) ∧ (s.mayInject n = true) ∧ ((s.nodeAt n).resp = []) ∧ (s.fbSend n = none) ∧ (s.nextSend n = none)) ∧
    (∃ (s : State) (n : Fin 384), (s.nodeStill n = true ∨ s.mayInject n = false)) ∧
    (∃ (s : State) (n : Fin 352) (held : BitVec 6), (s.nodeStill n = false)) ∧
    (∃ (s : State) (n : Fin 384) (p : Packet), (s.nodeStill n = false) ∧ ((s.nodeAt n).rxReq.find? (fun p => p.cmd = .reserved || (s.nodeAt n).inOrder p) = some p) ∧ (p.cmd = .reserved)) ∧
    (∃ (s : State) (n : Fin 384) (p : Packet), (s.nodeStill n = false) ∧ ((s.nodeAt n).rxReq.find? (fun p => p.cmd = .reserved || (s.nodeAt n).inOrder p) = some p) ∧ (p.cmd ≠ .reserved)) ∧
    (∃ (s : State) (n : Fin 384), (s.nodeStill n = false) ∧ ((s.nodeAt n).rxReq.find? (fun p => p.cmd = .reserved || (s.nodeAt n).inOrder p) = none)) ∧
    (∃ (s u : State) (n : Fin 384) (p : Packet) (l : List Packet) (r : Request), (s.nodeStill n = false) ∧ ((s.nodeAt n).rxResp = p :: l) ∧ ((s.nodeAt n).reqs.find? (fun r => r.dest = p.src && r.lastTag = some p.tag) = some r) ∧ (u = s.modNode n (fun x => { x with rxResp := l, reqs := x.reqs.erase r, inflight := x.inflight - r.units, srcs := x.srcs.map fun v => if v.target = r.dest then { v with credit := min v.size (v.credit + r.units) } else v })) ∧ (p.status = .ok)) ∧
    (∃ (s u : State) (n : Fin 384) (p : Packet) (l : List Packet) (r : Request), (s.nodeStill n = false) ∧ ((s.nodeAt n).rxResp = p :: l) ∧ ((s.nodeAt n).reqs.find? (fun r => r.dest = p.src && r.lastTag = some p.tag) = some r) ∧ (u = s.modNode n (fun x => { x with rxResp := l, reqs := x.reqs.erase r, inflight := x.inflight - r.units, srcs := x.srcs.map fun v => if v.target = r.dest then { v with credit := min v.size (v.credit + r.units) } else v })) ∧ (p.status ≠ .ok)) ∧
    (∃ (s : State) (n : Fin 384) (p : Packet) (l : List Packet), (s.nodeStill n = false) ∧ ((s.nodeAt n).rxResp = p :: l) ∧ ((s.nodeAt n).reqs.find? (fun r => r.dest = p.src && r.lastTag = some p.tag) = none)) ∧
    (∃ (s : State) (n : Fin 384) (p : Packet) (l : List Packet), (s.nodeStill n = false) ∧ ((s.nodeAt n).rxCredit = p :: l) ∧ (320 ≤ n.val ∨ p.rsv ≠ 0 ∨ p.src ≠ fbTwin n)) ∧
    (∃ (s : State) (n : Fin 384) (p : Packet) (l : List Packet), (s.nodeStill n = false) ∧ ((s.nodeAt n).rxCredit = p :: l) ∧ (n.val < 320) ∧ (p.rsv = 0) ∧ (p.src = fbTwin n)) :=
  ⟨⟨{ dev with leat.node := [(383, { resp := [{ dest := 0, src := 0, cmd := .read }] })] }, 383, { dest := 0, src := 0, cmd := .read }, [], by decide +kernel⟩,
   ⟨{ dev with leat.node := [(383, { isolated := true })] }, 383, by decide +kernel⟩,
   ⟨{ dev with leat.node := [(159, { fbOut := [{ dest := 0, src := 0, cmd := .read }] })], leat.fbHeld := true }, 159, { dest := 0, src := 0, cmd := .read }, by decide +kernel⟩,
   ⟨{ dev with leat.node := [(319, { srcs := [{ target := 352, rsv := 0, standing := false, size := 64, credit := 64 }], reqs := [{ asker := .offtakeRead 0, dest := 352, cmd := .read, addr := 0, len := 1 }] })] }, 319, { asker := .offtakeRead 0, dest := 352, cmd := .read, addr := 0, len := 1 }, by decide +kernel⟩,
   ⟨dev, 383, by decide +kernel⟩,
   ⟨{ dev with clk.safe := true }, 383, by decide +kernel⟩,
   ⟨dev, 351, 63, by decide +kernel⟩,
   ⟨{ dev with leat.node := [(383, { rxReq := [{ dest := 0, src := 0, cmd := .reserved }] })] }, 383, { dest := 0, src := 0, cmd := .reserved }, by decide +kernel⟩,
   ⟨{ dev with leat.node := [(383, { rxReq := [{ dest := 0, src := 0, cmd := .read }], tgt := [(0, some { src := 0, standing := false, credit := 0 })] })] }, 383, { dest := 0, src := 0, cmd := .read }, by decide +kernel⟩,
   ⟨dev, 383, by decide +kernel⟩,
   ⟨{ dev with leat.node := [(319, { rxResp := [{ dest := 319, src := 383, cmd := .readResp, tag := 127, len := 1, words := [{}] }], reqs := [{ asker := .offtakeRead 0, dest := 383, cmd := .read, addr := 0, len := 1, lastTag := some 127, units := 1 }] })] }, _, 319, { dest := 319, src := 383, cmd := .readResp, tag := 127, len := 1, words := [{}] }, [], { asker := .offtakeRead 0, dest := 383, cmd := .read, addr := 0, len := 1, lastTag := some 127, units := 1 }, by exact ⟨by decide +kernel, by decide +kernel, by decide +kernel, rfl, by decide +kernel⟩⟩,
   ⟨{ dev with leat.node := [(319, { rxResp := [{ dest := 319, src := 383, cmd := .readResp, tag := 127, len := 1, status := .badAddress }], reqs := [{ asker := .offtakeRead 0, dest := 383, cmd := .read, addr := 0, len := 1, lastTag := some 127, units := 1 }] })] }, _, 319, { dest := 319, src := 383, cmd := .readResp, tag := 127, len := 1, status := .badAddress }, [], { asker := .offtakeRead 0, dest := 383, cmd := .read, addr := 0, len := 1, lastTag := some 127, units := 1 }, by exact ⟨by decide +kernel, by decide +kernel, by decide +kernel, rfl, by decide +kernel⟩⟩,
   ⟨{ dev with leat.node := [(319, { rxResp := [{ dest := 319, src := 383, cmd := .readResp, tag := 127, len := 1, words := [{}] }] })] }, 319, { dest := 319, src := 383, cmd := .readResp, tag := 127, len := 1, words := [{}] }, [], by decide +kernel⟩,
   ⟨{ dev with leat.node := [(383, { rxCredit := [{ dest := 0, src := 0, cmd := .read }] })] }, 383, { dest := 0, src := 0, cmd := .read }, [], by decide +kernel⟩,
   ⟨{ dev with leat.node := [(319, { rxCredit := [{ dest := 319, src := 159, cmd := .credit }] })] }, 319, { dest := 319, src := 159, cmd := .credit }, [], by decide +kernel⟩⟩

/-- Witnesses of the hypotheses of ReservationAndTimeoutEventsAct. -/
theorem test_wit_ReservationAndTimeoutEventsAct :
    (∃ (s u : State) (src tgt : Fin 384) (r : Request), (s.gated = false) ∧ (u.wantsRsv src tgt = some r) ∧ (u = (if (s.nodeAt src).retry.contains tgt.val then s.modNode src fun x => { x with retry := x.retry.filter (· ≠ tgt.val) } else s)) ∧ ((u.grant src tgt false).2 = none) ∧ ((s.nodeAt src).retry.contains tgt.val = false)) ∧
    (∃ (s u : State) (src tgt : Fin 384) (r : Request), (s.gated = false) ∧ (u.wantsRsv src tgt = some r) ∧ (u = (if (s.nodeAt src).retry.contains tgt.val then s.modNode src fun x => { x with retry := x.retry.filter (· ≠ tgt.val) } else s)) ∧ ((u.grant src tgt false).2 = none) ∧ ((s.nodeAt src).retry.contains tgt.val = true)) ∧
    (∃ (s u : State) (src tgt : Fin 384) (r : Request), (s.gated = false) ∧ (u.wantsRsv src tgt = some r) ∧ (u = (if (s.nodeAt src).retry.contains tgt.val then s.modNode src fun x => { x with retry := x.retry.filter (· ≠ tgt.val) } else s)) ∧ ((u.grant src tgt false).2 = some .powerPending) ∧ ((s.nodeAt src).retry.contains tgt.val = false)) ∧
    (∃ (s u : State) (src tgt : Fin 384) (r : Request), (s.gated = false) ∧ (u.wantsRsv src tgt = some r) ∧ (u = (if (s.nodeAt src).retry.contains tgt.val then s.modNode src fun x => { x with retry := x.retry.filter (· ≠ tgt.val) } else s)) ∧ ((u.grant src tgt false).2 = some .powerPending) ∧ ((s.nodeAt src).retry.contains tgt.val = true)) ∧
    (∃ (s u : State) (src tgt : Fin 384) (r : Request) (why : _), (s.gated = false) ∧ (u.wantsRsv src tgt = some r) ∧ (u = (if (s.nodeAt src).retry.contains tgt.val then s.modNode src fun x => { x with retry := x.retry.filter (· ≠ tgt.val) } else s)) ∧ ((u.grant src tgt false).2 = some why) ∧ (why ≠ .powerPending) ∧ ((s.nodeAt src).retry.contains tgt.val = false)) ∧
    (∃ (s u : State) (src tgt : Fin 384) (r : Request) (why : _), (s.gated = false) ∧ (u.wantsRsv src tgt = some r) ∧ (u = (if (s.nodeAt src).retry.contains tgt.val then s.modNode src fun x => { x with retry := x.retry.filter (· ≠ tgt.val) } else s)) ∧ ((u.grant src tgt false).2 = some why) ∧ (why ≠ .powerPending) ∧ ((s.nodeAt src).retry.contains tgt.val = true)) ∧
    (∃ (s : State) (src tgt : Fin 384), (s.gated = false) ∧ ((s.nodeAt src).srcs.any (fun x => x.target = tgt.val && !x.standing) = true) ∧ (s.rsvIdle src tgt = true)) ∧
    (∃ (s u : State) (src tgt : Fin 384) (tag : Fin 128) (r : Request), (s.gated = false) ∧ ((s.nodeAt src).reqs.find? (fun r => decide (r.dest = tgt.val) && decide (r.lastTag = some tag.val)) = some r) ∧ (u = ((s.failRequest src r .targetIsolated).modNode src fun x => { x with tmoCnt := satInc x.tmoCnt }).niEvt src 1) ∧ ((u.nodeAt tgt).isolated = true)) ∧
    (∃ (s u : State) (src tgt : Fin 384) (tag : Fin 128) (r : Request), (s.gated = false) ∧ ((s.nodeAt src).reqs.find? (fun r => decide (r.dest = tgt.val) && decide (r.lastTag = some tag.val)) = some r) ∧ (u = ((s.failRequest src r .targetIsolated).modNode src fun x => { x with tmoCnt := satInc x.tmoCnt }).niEvt src 1) ∧ ((u.nodeAt tgt).isolated = false)) ∧
    (∃ (s : State) (n : Fin 384) (src tag : Nat), (s.gated = false) ∧ ((s.nodeAt n).notice = some (src, tag))) ∧
    (∃ (s u : State) (o : _), (s.leat.arm = true) ∧ (s.leat.checked = false) ∧ (u = (s.checkStaged.modLeat fun l => { l with checked := true, horizonStg := BitVec.ofNat 24 s.checkStaged.stagedState.computeHorizon.h, armOrigin := none })) ∧ (s.checkStaged.leat.armOrigin = some o)) ∧
    (∃ (s u : State), (s.leat.arm = true) ∧ (s.leat.checked = false) ∧ (u = (s.checkStaged.modLeat fun l => { l with checked := true, horizonStg := BitVec.ofNat 24 s.checkStaged.stagedState.computeHorizon.h, armOrigin := none })) ∧ (s.checkStaged.leat.armOrigin = none)) ∧
    (∃ (s : State), (s.atOnce = false)) :=
  ⟨⟨{ dev with leat.node := [(328, { reqs := [{ asker := .bar4Read, dest := 383, cmd := .read, addr := 0, len := 1 }] })] }, _, 328, 383, { asker := .bar4Read, dest := 383, cmd := .read, addr := 0, len := 1 }, by exact ⟨by decide +kernel, by decide +kernel, rfl, by decide +kernel, by decide +kernel⟩⟩,
   ⟨{ dev with leat.node := [(328, { reqs := [{ asker := .bar4Read, dest := 383, cmd := .read, addr := 0, len := 1 }], retry := [383] })] }, _, 328, 383, { asker := .bar4Read, dest := 383, cmd := .read, addr := 0, len := 1 }, by exact ⟨by decide +kernel, by decide +kernel, rfl, by decide +kernel, by decide +kernel⟩⟩,
   ⟨{ dev with leat.node := [(328, { reqs := [{ asker := .bar4Read, dest := 383, cmd := .read, addr := 0, len := 1 }] }), (383, { pwrPend := true })] }, _, 328, 383, { asker := .bar4Read, dest := 383, cmd := .read, addr := 0, len := 1 }, by exact ⟨by decide +kernel, by decide +kernel, rfl, by decide +kernel, by decide +kernel⟩⟩,
   ⟨{ dev with leat.node := [(328, { reqs := [{ asker := .bar4Read, dest := 383, cmd := .read, addr := 0, len := 1 }], retry := [383] }), (383, { pwrPend := true })] }, _, 328, 383, { asker := .bar4Read, dest := 383, cmd := .read, addr := 0, len := 1 }, by exact ⟨by decide +kernel, by decide +kernel, rfl, by decide +kernel, by decide +kernel⟩⟩,
   ⟨{ dev with leat.node := [(328, { reqs := [{ asker := .bar4Read, dest := 383, cmd := .read, addr := 0, len := 1 }] }), (383, { tgt := (List.range 256).map fun i => (i, some { src := 0, standing := true, credit := 0 }) })] }, _, 328, 383, { asker := .bar4Read, dest := 383, cmd := .read, addr := 0, len := 1 }, .refused, by exact ⟨by decide +kernel, by decide +kernel, rfl, by decide +kernel, by decide +kernel, by decide +kernel⟩⟩,
   ⟨{ dev with leat.node := [(328, { reqs := [{ asker := .bar4Read, dest := 383, cmd := .read, addr := 0, len := 1 }], retry := [383] }), (383, { tgt := (List.range 256).map fun i => (i, some { src := 0, standing := true, credit := 0 }) })] }, _, 328, 383, { asker := .bar4Read, dest := 383, cmd := .read, addr := 0, len := 1 }, .refused, by exact ⟨by decide +kernel, by decide +kernel, rfl, by decide +kernel, by decide +kernel, by decide +kernel⟩⟩,
   ⟨{ dev with leat.node := [(383, { srcs := [{ target := 383, rsv := 0, standing := false, size := 4, credit := 4 }] })] }, 383, 383, by decide +kernel⟩,
   ⟨{ dev with leat.node := [(319, { reqs := [{ asker := .offtakeRead 0, dest := 383, cmd := .read, addr := 0, len := 1, lastTag := some 127, units := 1 }] }), (383, { isolated := true })] }, _, 319, 383, 127, { asker := .offtakeRead 0, dest := 383, cmd := .read, addr := 0, len := 1, lastTag := some 127, units := 1 }, by exact ⟨by decide +kernel, by decide +kernel, rfl, by decide +kernel⟩⟩,
   ⟨{ dev with leat.node := [(319, { reqs := [{ asker := .offtakeRead 0, dest := 383, cmd := .read, addr := 0, len := 1, lastTag := some 127, units := 1 }] })] }, _, 319, 383, 127, { asker := .offtakeRead 0, dest := 383, cmd := .read, addr := 0, len := 1, lastTag := some 127, units := 1 }, by exact ⟨by decide +kernel, by decide +kernel, rfl, by decide +kernel⟩⟩,
   ⟨{ dev with leat.node := [(383, { notice := some (0, 127) })] }, 383, 0, 127, by decide +kernel⟩,
   ⟨{ dev with win.st := .ready, leat.arm := true, leat.armOrigin := some og }, _, og, by exact ⟨by decide +kernel, by decide +kernel, rfl, by decide +kernel⟩⟩,
   ⟨{ dev with win.st := .ready, leat.arm := true }, _, by exact ⟨by decide +kernel, by decide +kernel, rfl, by decide +kernel⟩⟩,
   ⟨{ dev with win.st := .ready }, by decide +kernel⟩⟩

/-- Witnesses of the hypotheses of Bar0AccessesAreJudged. -/
theorem test_wit_Bar0AccessesAreJudged :
    (∃ (s : State) (f : Func) (be : BitVec 4) (off : BitVec 26) (data : W32), (s.funcOpen f = true) ∧ (s.csrJudge f be off.toNat = none)) ∧
    (∃ (s : State) (f : Func) (be : BitVec 4) (off : BitVec 26) (data : W32) (kind : Nat) (err : BitVec 3), (s.funcOpen f = true) ∧ (s.csrJudge f be off.toNat = some (kind, err))) ∧
    (∃ (s : State) (f : Func) (be : BitVec 4) (off : Nat), (f = .pf1 ∨ (s.lk.owner ≠ 1 ∧ inView off = false))) ∧
    (∃ (s : State) (f : Func) (be : BitVec 4) (off : Nat), (f = .pf0) ∧ (s.lk.owner = 1 ∨ inView off = true) ∧ (be ≠ 15)) ∧
    (∃ (s : State) (f : Func) (be : BitVec 4) (off : Nat), (f = .pf0) ∧ (s.lk.owner = 1 ∨ inView off = true) ∧ (be = 15) ∧ (s.offAt off = true)) ∧
    (∃ (s : State) (f : Func) (be : BitVec 4) (off : Nat), (f = .pf0) ∧ (s.lk.owner = 1 ∨ inView off = true) ∧ (be = 15) ∧ (s.offAt off = false)) ∧
    (∃ (s : State) (f : Func) (be : BitVec 4) (off : BitVec 26), (s.funcOpen f = true) ∧ (s.offAt off.toNat = true)) ∧
    (∃ (s : State) (f : Func) (be : BitVec 4) (off : BitVec 26), (s.funcOpen f = true) ∧ (s.offAt off.toNat = false)) ∧
    (∃ (s : State) (f : Func) (be : BitVec 4) (off : BitVec 26) (data : W32), (s.funcOpen f = false)) :=
  ⟨⟨dev, .pf0, 15, 0x2FFFFFC, 0, by decide +kernel⟩,
   ⟨dev, .pf1, 15, 0, 0, 2, 2, by decide +kernel⟩,
   ⟨dev, .pf1, 15, 0, by decide +kernel⟩,
   ⟨dev, .pf0, 7, 0, by decide +kernel⟩,
   ⟨{ dev with pwr.dom := [(35, { st := .off })] }, .pf0, 15, 0x1810F00, by decide +kernel⟩,
   ⟨dev, .pf0, 15, 0x2FFFFFC, by decide +kernel⟩,
   ⟨{ dev with pwr.dom := [(1, { st := .off })] }, .pf1, 15, 0x7FFFFC, by decide +kernel⟩,
   ⟨dev, .pf1, 15, 0x2FFFFFC, by decide +kernel⟩,
   ⟨{ dev with host.linkUp := false }, .pf0, 15, 0, 0, by decide +kernel⟩⟩

/-- Witnesses of the hypotheses of RegisterRowsReachTheirRegisters. -/
theorem test_wit_RegisterRowsReachTheirRegisters :
    (∃ (s : State) (f : Func) (be : BitVec 4) (m : Fin 40), (s.funcOpen f = true)) ∧
    (∃ (s : State) (v : W32) (m : Fin 40) (u : State), (s.funcOpen .pf0 = true) ∧ (s.lk.owner = 1) ∧ (u = s.modCtl m (fun c => { c with patrolEn := v.getLsbD 0 }))) ∧
    (∃ (s : State) (v : W32) (u : State), (s.funcOpen .pf0 = true) ∧ (s.lk.owner = 1) ∧ (s.domRun 1 = true) ∧ (u = (if v.getLsbD 3 then s.modLeat fun l => { l with swapDone := false } else s))) ∧
    (∃ (s : State) (v : W32) (link : Bool), (s.funcOpen .pf0 = true) ∧ (s.lk.owner = 1) ∧ (s.domRun 1 = true)) ∧
    (∃ (s : State) (c : Fin 32) (v : W32) (u : State), (s.funcOpen .pf0 = true) ∧ (s.lk.owner = 1) ∧ (s.domRun 1 = true) ∧ (u = s.modFlmCh c (fun x => { x with run := v.getLsbD 0, halted := x.halted && !v.getLsbD 0 }))) ∧
    (∃ (s : State) (f : Func) (be : BitVec 4) (v : W32) (m : Fin 40) (link : Bool) (c : Fin 32) (p : _) (kind : Nat) (err : BitVec 3), (p ∈ [(0x1000008 + m.val * 0x10000, Instr.memChFill f be m v), (0xE00000, .leatCommitArm f be v), (0xE00010, .leatIsolClr f be v), (if link then 0xE0000C else 0xE00008, .leatSvcWrite f be link v), (0x400014 + c.val * 0x100, .flmChTailWrite f be c v), (0x400000 + c.val * 0x100, .flmRun f be c v), (0x400000 + c.val * 0x100, .flmAbort f be c v), (0x400008 + c.val * 0x100, .flmRingLoWrite f be c v), (0x240001C, .cfgReleaseGo f be v)]) ∧ (s.funcOpen f = true) ∧ (s.csrJudge f be p.1 = some (kind, err))) ∧
    (∃ (s : State) (f : Func) (be : BitVec 4) (v : W32) (m : Fin 40) (link : Bool) (c : Fin 32) (p : _), (p ∈ [(0x1000008 + m.val * 0x10000, Instr.memChFill f be m v), (0xE00000, .leatCommitArm f be v), (0xE00010, .leatIsolClr f be v), (if link then 0xE0000C else 0xE00008, .leatSvcWrite f be link v), (0x400014 + c.val * 0x100, .flmChTailWrite f be c v), (0x400000 + c.val * 0x100, .flmRun f be c v), (0x400000 + c.val * 0x100, .flmAbort f be c v), (0x400008 + c.val * 0x100, .flmRingLoWrite f be c v), (0x240001C, .cfgReleaseGo f be v)]) ∧ (s.funcOpen f = false)) :=
  ⟨⟨dev, .pf1, 15, 39, by decide +kernel⟩,
   ⟨dev, 1, 39, _, by exact ⟨by decide +kernel, by decide +kernel, rfl⟩⟩,
   ⟨dev, 0, _, by exact ⟨by decide +kernel, by decide +kernel, by decide +kernel, rfl⟩⟩,
   ⟨dev, 0, true, by decide +kernel⟩,
   ⟨dev, 31, 1, _, by exact ⟨by decide +kernel, by decide +kernel, by decide +kernel, rfl⟩⟩,
   ⟨dev, .pf1, 15, 0, 39, true, 31, (0xE00000, .leatCommitArm .pf1 15 0), 2, 2, by decide +kernel⟩,
   ⟨{ dev with host.linkUp := false }, .pf1, 15, 0, 39, true, 31, (0xE00000, .leatCommitArm .pf1 15 0), by decide +kernel⟩⟩

/-- Witnesses of the hypotheses of LinkClockAndPowerRegisterRowsAct. -/
theorem test_wit_LinkClockAndPowerRegisterRowsAct :
    (∃ (s : State) (i : Fin 16) (v : W32) (u : State) (i' : _), (s.funcOpen .pf0 = true) ∧ (s.lk.owner = 1) ∧ (u = (if v.getLsbD 0 then (if ((s.modLink i fun x => { x with en := true }).linkAt i).st = .disabled ∧ s.released = true then (s.modLink i fun x => { x with en := true }).train i else s.modLink i fun x => { x with en := true }) else s.modLink i fun x => { x with en := false, st := .disabled, active := false })) ∧ (i' ∈ [Instr.lnkCtlEn .pf0 15 i v, .lnkCtlRetrain .pf0 15 i v])) ∧
    (∃ (s : State) (v : W32), (s.funcOpen .pf0 = true) ∧ (s.lk.owner = 1) ∧ (bitsOf 2 v = 3)) ∧
    (∃ (s : State) (v : W32) (r : _), (s.funcOpen .pf0 = true) ∧ (s.lk.owner = 1) ∧ (bitsOf 2 v ≠ 3) ∧ (s.clk.inUse = some r) ∧ (refAllowed (bitsOf 2 v) r = true)) ∧
    (∃ (s : State) (v : W32) (r : _), (s.funcOpen .pf0 = true) ∧ (s.lk.owner = 1) ∧ (bitsOf 2 v ≠ 3) ∧ (s.clk.inUse = some r) ∧ (refAllowed (bitsOf 2 v) r = false) ∧ (s.clk.valid r.other = true)) ∧
    (∃ (s : State) (v : W32) (r : _), (s.funcOpen .pf0 = true) ∧ (s.lk.owner = 1) ∧ (bitsOf 2 v ≠ 3) ∧ (s.clk.inUse = some r) ∧ (refAllowed (bitsOf 2 v) r = false) ∧ (s.clk.valid r.other = false)) ∧
    (∃ (s : State) (v : W32) (u : State), (s.funcOpen .pf0 = true) ∧ (s.lk.owner = 1) ∧ (bitsOf 2 v ≠ 3) ∧ (s.clk.inUse = none) ∧ (u = s.modClk (fun c => { c with select := bitsOf 2 v }))) ∧
    (∃ (s : State) (n : Fin 56) (v : W32) (u : State), (s.funcOpen .pf0 = true) ∧ (s.lk.owner = 1) ∧ (u = (if v.getLsbD 7 then s.modSlc n fun x => { x with fail := false } else s)) ∧ (10 < n.val ∨ bitsOf 2 v = 3 ∨ (bitsOf 2 v = 0 ∧ (u.slcAt n).req = 0))) ∧
    (∃ (s : State) (n : Fin 56) (v : W32) (u : State), (s.funcOpen .pf0 = true) ∧ (s.lk.owner = 1) ∧ (u = (if v.getLsbD 7 then s.modSlc n fun x => { x with fail := false } else s)) ∧ (n.val ≤ 10) ∧ (bitsOf 2 v ≠ 3) ∧ (¬(bitsOf 2 v = 0 ∧ (u.slcAt n).req = 0))) ∧
    (∃ (s : State) (v : W32) (u : State) (i : _), (s.funcOpen .pf0 = true) ∧ (s.lk.owner = 1) ∧ (u = (if v.getLsbD 1 = true ∧ ¬(s.win.st = .boundary ∧ 6 ≤ s.win.step) then s.sleepWithdraw else s)) ∧ (i ∈ [Instr.pwrOffReq .pf0 15 v, .pwrCancel .pf0 15 v])) ∧
    (∃ (s : State) (f : Func) (be : BitVec 4) (v : W32) (i : Fin 16) (n : Fin 56) (p : _) (kind : Nat) (err : BitVec 3), (p ∈ [(0x1800000 + i.val * 0x100, Instr.lnkCtlEn f be i v), (0x1800000 + i.val * 0x100, .lnkCtlRetrain f be i v), (0x100008, .clkRefSelectWrite f be v), (0x100100 + 4 * n.val, .sluiceReqWrite f be n v), (0x200004, .pwrOffReq f be v), (0x200004, .pwrCancel f be v)]) ∧ (s.funcOpen f = true) ∧ (s.csrJudge f be p.1 = some (kind, err))) ∧
    (∃ (s : State) (f : Func) (be : BitVec 4) (v : W32) (i : Fin 16) (n : Fin 56) (p : _), (p ∈ [(0x1800000 + i.val * 0x100, Instr.lnkCtlEn f be i v), (0x1800000 + i.val * 0x100, .lnkCtlRetrain f be i v), (0x100008, .clkRefSelectWrite f be v), (0x100100 + 4 * n.val, .sluiceReqWrite f be n v), (0x200004, .pwrOffReq f be v), (0x200004, .pwrCancel f be v)]) ∧ (s.funcOpen f = false)) :=
  ⟨⟨dev, 15, 2, _, .lnkCtlEn .pf0 15 15 2, by exact ⟨by decide +kernel, by decide +kernel, rfl, by decide +kernel⟩⟩,
   ⟨dev, 3, by decide +kernel⟩,
   ⟨{ dev with clk.inUse := some .a }, 0, .a, by decide +kernel⟩,
   ⟨{ dev with clk.inUse := some .a, clk.validB := true }, 2, .a, by decide +kernel⟩,
   ⟨{ dev with clk.inUse := some .a }, 2, .a, by decide +kernel⟩,
   ⟨dev, 0, _, by exact ⟨by decide +kernel, by decide +kernel, by decide +kernel, by decide +kernel, rfl⟩⟩,
   ⟨dev, 55, 0, _, by exact ⟨by decide +kernel, by decide +kernel, rfl, by decide +kernel⟩⟩,
   ⟨dev, 10, 1, _, by exact ⟨by decide +kernel, by decide +kernel, rfl, by decide +kernel, by decide +kernel, by decide +kernel⟩⟩,
   ⟨dev, 2, _, .pwrOffReq .pf0 15 2, by exact ⟨by decide +kernel, by decide +kernel, rfl, by decide +kernel⟩⟩,
   ⟨dev, .pf1, 15, 0, 15, 55, (0x100008, .clkRefSelectWrite .pf1 15 0), 2, 2, by decide +kernel⟩,
   ⟨{ dev with host.linkUp := false }, .pf1, 15, 0, 15, 55, (0x100008, .clkRefSelectWrite .pf1 15 0), by decide +kernel⟩⟩

/-- Witnesses of the hypotheses of FlumeEventsAct. -/
theorem test_wit_FlumeEventsAct :
    (∃ (s : State) (c : Fin 32), ((s.flmAt c).run = true) ∧ ((s.flmAt c).halted = false) ∧ ((s.flmAt c).head ≠ (s.flmAt c).tail) ∧ ((s.flmAt c).desc = none) ∧ ((s.flmAt c).fetching = false) ∧ (s.flmOpen = true) ∧ (s.hostOpen = true) ∧ (s.nodeStill nodeFlumeRead = false)) ∧
    (∃ (s : State) (c : Fin 32), ((s.flmAt c).run = false ∨ (s.flmAt c).halted = true ∨ (s.flmAt c).head = (s.flmAt c).tail ∨ (s.flmAt c).desc.isSome = true ∨ (s.flmAt c).fetching = true ∨ s.flmOpen = false ∨ s.hostOpen = false ∨ s.nodeStill nodeFlumeRead = true)) ∧
    (∃ (s u : State) (c : Fin 32) (words : List W32) (d : FDesc), ((s.flmAt c).fetching = true) ∧ (u = s.modFlmCh c (fun x => { x with fetching := false })) ∧ (d = { raw := words }) ∧ (words.length = 16) ∧ (d.bit 0 = false)) ∧
    (∃ (s u : State) (c : Fin 32) (words : List W32) (d : FDesc), ((s.flmAt c).fetching = true) ∧ (u = s.modFlmCh c (fun x => { x with fetching := false })) ∧ (d = { raw := words }) ∧ (words.length = 16) ∧ (d.bit 0 = true) ∧ (d.good = false)) ∧
    (∃ (s u : State) (c : Fin 32) (words : List W32) (d : FDesc), ((s.flmAt c).fetching = true) ∧ (u = s.modFlmCh c (fun x => { x with fetching := false })) ∧ (d = { raw := words }) ∧ (words.length = 16) ∧ (d.bit 0 = true) ∧ (d.good = true) ∧ (d.overlaps = true) ∧ (d.circ = true)) ∧
    (∃ (s u : State) (c : Fin 32) (words : List W32) (d : FDesc) (down : _), ((s.flmAt c).fetching = true) ∧ (u = s.modFlmCh c (fun x => { x with fetching := false })) ∧ (d = { raw := words }) ∧ (words.length = 16) ∧ (d.bit 0 = true) ∧ (d.good = true) ∧ (d.overlaps = false ∨ d.circ = false) ∧ (down = (d.overlaps && decide (d.src < d.dst)))) ∧
    (∃ (s : State) (c : Fin 32) (words : List W32) (good : Bool), ((s.flmAt c).fetching = false)) ∧
    (∃ (s : State) (c : Nat) (d : FDesc) (a n : Nat), (s.flmOpen = true) ∧ (s.nodeStill nodeFlumeRead = false) ∧ (roundRobin s.flm.rdPtr.toNat (fun c => s.flmReadable c && s.flmReadCovered c) = some c) ∧ ((s.flmAt c).desc = some d) ∧ (d.nextBurst = some (a, n))) ∧
    (∃ (s : State) (c : Nat) (d : FDesc) (b : FBurst), (s.flmOpen = true) ∧ (s.nodeStill nodeFlumeWrite = false) ∧ (roundRobin s.flm.wrPtr.toNat (fun c => (s.flmAt c).desc.isSome && (s.flmAt c).nextWrite.isSome && s.flmWriteCovered c) = some c) ∧ ((s.flmAt c).desc = some d) ∧ ((s.flmAt c).nextWrite = some b)) ∧
    (∃ (s : State), (s.flmOpen = false ∨ s.nodeStill nodeFlumeRead = true ∨ roundRobin s.flm.rdPtr.toNat (fun c => s.flmReadable c && s.flmReadCovered c) = none)) ∧
    (∃ (s : State), (s.flmOpen = false ∨ s.nodeStill nodeFlumeWrite = true ∨ roundRobin s.flm.wrPtr.toNat (fun c => (s.flmAt c).desc.isSome && (s.flmAt c).nextWrite.isSome && s.flmWriteCovered c) = none)) ∧
    (∃ (s u : State) (c : Fin 32) (d : FDesc) (st : Nat) (v w : State), (s.nodeStill nodeFlumeWrite = false) ∧ ((s.flmAt c).desc = some d) ∧ (d.done = some st) ∧ (u = s.flmWriteback c st d) ∧ (st = 0) ∧ (v = (if d.evtFab then u.modFlmCh c fun x => { x with evtPend := true } else u)) ∧ (w = (if d.evtTrig then v.flmTrigger d.trigCh else v))) ∧
    (∃ (s u : State) (c : Fin 32) (d : FDesc) (st : Nat), (s.nodeStill nodeFlumeWrite = false) ∧ ((s.flmAt c).desc = some d) ∧ (d.done = some st) ∧ (u = s.flmWriteback c st d) ∧ (st = 0x11 ∨ st = 0x12)) ∧
    (∃ (s u : State) (c : Fin 32) (d : FDesc) (st : Nat), (s.nodeStill nodeFlumeWrite = false) ∧ ((s.flmAt c).desc = some d) ∧ (d.done = some st) ∧ (u = s.flmWriteback c st d) ∧ (st = 0x10)) ∧
    (∃ (s u : State) (c : Fin 32) (d : FDesc) (st : Nat) (v : State), (s.nodeStill nodeFlumeWrite = false) ∧ ((s.flmAt c).desc = some d) ∧ (d.done = some st) ∧ (u = s.flmWriteback c st d) ∧ (st ≠ 0) ∧ (st ≠ 0x10) ∧ (st ≠ 0x11) ∧ (st ≠ 0x12) ∧ (v = (u.modFlmCh c fun x => { x with halted := true }).flmEvt c 1)) :=
  ⟨⟨{ devRun with flm.chan := [(31, { run := true, tail := 1 })] }, 31, by decide +kernel⟩,
   ⟨dev, 31, by decide +kernel⟩,
   ⟨{ dev with flm.chan := [(31, { fetching := true })] }, _, 31, List.replicate 16 0, _, by exact ⟨by decide +kernel, rfl, rfl, by decide +kernel, by decide +kernel⟩⟩,
   ⟨{ dev with flm.chan := [(31, { fetching := true })] }, _, 31, 0x6001 :: List.replicate 15 0, _, by exact ⟨by decide +kernel, rfl, rfl, by decide +kernel, by decide +kernel, by decide +kernel⟩⟩,
   ⟨{ dev with flm.chan := [(31, { fetching := true })] }, _, 31, [0x441, 0, 0, 0, 0, 16] ++ List.replicate 10 0, _, by exact ⟨by decide +kernel, rfl, rfl, by decide +kernel, by decide +kernel, by decide +kernel, by decide +kernel, by decide +kernel⟩⟩,
   ⟨{ dev with flm.chan := [(31, { fetching := true })] }, _, 31, [1, 0, 0, 100, 0, 1] ++ List.replicate 10 0, _, _, by exact ⟨by decide +kernel, rfl, rfl, by decide +kernel, by decide +kernel, by decide +kernel, by decide +kernel, rfl⟩⟩,
   ⟨dev, 31, [], true, by decide +kernel⟩,
   ⟨{ devRun with flm.chan := [(31, { desc := some { raw := [2, 0, 0, 0, 0, 512], started := true } })] }, 31, { raw := [2, 0, 0, 0, 0, 512], started := true }, 0, 512, by decide +kernel⟩,
   ⟨{ devRun with flm.chan := [(31, { desc := some { raw := [8] }, bursts := [{ first := 0, len := 1, need := 0 }] })] }, 31, { raw := [8] }, { first := 0, len := 1, need := 0 }, by decide +kernel⟩,
   ⟨dev, by decide +kernel⟩,
   ⟨dev, by decide +kernel⟩,
   ⟨{ dev with flm.chan := [(31, { desc := some { raw := [], done := some 0 } })] }, _, 31, { raw := [], done := some 0 }, 0, _, _, by exact ⟨by decide +kernel, by decide +kernel, by decide +kernel, rfl, by decide +kernel, rfl, rfl⟩⟩,
   ⟨{ dev with flm.chan := [(31, { desc := some { raw := [], done := some 0x11 } })] }, _, 31, { raw := [], done := some 0x11 }, 0x11, by exact ⟨by decide +kernel, by decide +kernel, by decide +kernel, rfl, by decide +kernel⟩⟩,
   ⟨{ dev with flm.chan := [(31, { desc := some { raw := [], done := some 0x10 } })] }, _, 31, { raw := [], done := some 0x10 }, 0x10, by exact ⟨by decide +kernel, by decide +kernel, by decide +kernel, rfl, by decide +kernel⟩⟩,
   ⟨{ dev with flm.chan := [(31, { desc := some { raw := [], done := some 3 } })] }, _, 31, { raw := [], done := some 3 }, 3, _, by exact ⟨by decide +kernel, by decide +kernel, by decide +kernel, rfl, by decide +kernel, by decide +kernel, by decide +kernel, by decide +kernel, rfl⟩⟩⟩

/-- Witnesses of the hypotheses of ConfigurationEventsAct. -/
theorem test_wit_ConfigurationEventsAct :
    (∃ (s : State) (l : Load), (s.img.load = some l)) ∧
    (∃ (s : State) (a : Apply), (s.img.app = some a) ∧ (a.reload = true)) ∧
    (∃ (s : State) (a : Apply) (p : _), (s.img.app = some a) ∧ (a.reload = false) ∧ ((s.img.bank s.img.act).pendingPatch = some p)) ∧
    (∃ (s : State) (a : Apply), (s.img.app = some a) ∧ (s.img.load = none)) ∧
    (∃ (s : State), (s.img.app = none)) ∧
    (∃ (s : State), (s.img.load = none) ∧ (s.img.app = none)) ∧
    (∃ (s u : State) (p : PendOp), (s.img.pend = some p) ∧ (u = s.modImg (fun x => { x with pend := some { p with copied := true, missed := decide (s.win.st = .boundary ∧ 6 ≤ s.win.step) } }))) ∧
    (∃ (s : State), (s.img.pend = none)) ∧
    (∃ (s : State) (vccio : List Nat), (s.mayRelease = false ∨ (s.img.stepAt s.img.steps = 1 ∧ s.tapDrives = true))) ∧
    (∃ (s : State) (vccio : List Nat), (s.mayRelease = true) ∧ (¬(s.img.stepAt s.img.steps = 1 ∧ s.tapDrives = true)) ∧ (s.img.manual.getLsbD s.img.steps = false ∨ s.img.go = true)) ∧
    (∃ (s : State) (vccio : List Nat), (s.mayRelease = true) ∧ (¬(s.img.stepAt s.img.steps = 1 ∧ s.tapDrives = true)) ∧ (s.img.manual.getLsbD s.img.steps = true) ∧ (s.img.go = false)) ∧
    (∃ (s : State) (o : Origin) (row : Nat) (u : State), (s.img.readback = some o) ∧ (row = s.imgCheck (s.img.bank s.img.stg).base none rowsStaged) ∧ (u = s.modImg (fun x => { x with readback := none, stgValid := decide (row = 0) }))) ∧
    (∃ (s : State) (o : Origin) (role row : Nat) (u : State), (s.img.verify = some (o, role)) ∧ (row = s.verifyRow role) ∧ (u = s.modImg (fun x => { x with verify := none }))) ∧
    (∃ (s : State), (s.img.readback = none)) ∧
    (∃ (s : State), (s.img.verify = none)) :=
  ⟨⟨{ dev with img.load := some { why := .start, bank := 2 } }, { why := .start, bank := 2 }, by decide +kernel⟩,
   ⟨{ dev with img.app := some { origin := none, rects := [], join := false, reload := true } }, { origin := none, rects := [], join := false, reload := true }, by decide +kernel⟩,
   ⟨{ dev with img.app := some { origin := none, rects := [], join := false }, img.bank0.patches := [{ bytes := [], len := 0, applied := false }] }, { origin := none, rects := [], join := false }, { bytes := [], len := 0, applied := false }, by decide +kernel⟩,
   ⟨{ dev with img.app := some { origin := none, rects := [], join := false } }, { origin := none, rects := [], join := false }, by decide +kernel⟩,
   ⟨dev, by decide +kernel⟩,
   ⟨dev, by decide +kernel⟩,
   ⟨{ dev with img.pend := some { kind := .partialCommit, atStart := false, origin := none } }, _, { kind := .partialCommit, atStart := false, origin := none }, by exact ⟨by decide +kernel, rfl⟩⟩,
   ⟨dev, by decide +kernel⟩,
   ⟨dev, [], by decide +kernel⟩,
   ⟨{ dev with img.st := .releasing, clk.lock := 0x1F }, [], by decide +kernel⟩,
   ⟨{ dev with img.st := .releasing, clk.lock := 0x1F, img.manual := 1 }, [], by decide +kernel⟩,
   ⟨{ dev with img.readback := some og }, og, _, _, by exact ⟨by decide +kernel, rfl, rfl⟩⟩,
   ⟨{ dev with img.verify := some (og, 2) }, og, 2, _, _, by exact ⟨by decide +kernel, rfl, rfl⟩⟩,
   ⟨dev, by decide +kernel⟩,
   ⟨dev, by decide +kernel⟩⟩

/-- Witnesses of the hypotheses of ScrubberEventsAct. -/
theorem test_wit_ScrubberEventsAct :
    (∃ (s : State), (s.img.scrubEn = true) ∧ (s.img.halted = false) ∧ (s.scrubPaused = false) ∧ ((∃ a, s.img.app = some a ∧ inRects a.rects (s.img.sweepPos / 257) = true) ∨ s.bistPlot (s.img.sweepPos / 257) = true)) ∧
    (∃ (s : State), (s.img.scrubEn = true) ∧ (s.img.halted = false) ∧ (s.scrubPaused = false) ∧ ((∀ a, s.img.app = some a → inRects a.rects (s.img.sweepPos / 257) = false)) ∧ (s.bistPlot (s.img.sweepPos / 257) = false) ∧ (tget s.img.crc none s.img.sweepPos = some (w32 (frameCrc32 s.img.sweepPos (s.frameNow s.img.sweepPos))))) ∧
    (∃ (s : State) (u : State), (s.img.scrubEn = true) ∧ (s.img.halted = false) ∧ (s.scrubPaused = false) ∧ ((∀ a, s.img.app = some a → inRects a.rects (s.img.sweepPos / 257) = false)) ∧ (s.bistPlot (s.img.sweepPos / 257) = false) ∧ (tget s.img.crc none s.img.sweepPos ≠ some (w32 (frameCrc32 s.img.sweepPos (s.frameNow s.img.sweepPos)))) ∧ (u = s.modImg (fun x => { x with mismatch := satInc x.mismatch, last := frameAddr s.img.sweepPos })) ∧ (s.img.repairEn = true)) ∧
    (∃ (s : State) (u : State), (s.img.scrubEn = true) ∧ (s.img.halted = false) ∧ (s.scrubPaused = false) ∧ ((∀ a, s.img.app = some a → inRects a.rects (s.img.sweepPos / 257) = false)) ∧ (s.bistPlot (s.img.sweepPos / 257) = false) ∧ (tget s.img.crc none s.img.sweepPos ≠ some (w32 (frameCrc32 s.img.sweepPos (s.frameNow s.img.sweepPos)))) ∧ (u = s.modImg (fun x => { x with mismatch := satInc x.mismatch, last := frameAddr s.img.sweepPos })) ∧ (s.img.repairEn = false)) ∧
    (∃ (s : State), (s.img.scrubEn = false ∨ s.img.halted = true ∨ s.scrubPaused = true)) ∧
    (∃ (s u : State) (r : Repair) (bad : Bool), (s.img.fixes.find? (fun r => !r.arrived) = some r) ∧ (u = s.modImg (fun x => { x with fixes := x.fixes.filter fun y => y.frame ≠ r.frame })) ∧ (s.frameLoads r.frame = true)) ∧
    (∃ (s u : State) (r : Repair) (bad : Bool), (s.img.fixes.find? (fun r => !r.arrived) = some r) ∧ (u = s.modImg (fun x => { x with fixes := x.fixes.filter fun y => y.frame ≠ r.frame })) ∧ (s.frameLoads r.frame = false) ∧ (bad = true)) ∧
    (∃ (s u : State) (r : Repair) (bad : Bool), (s.img.fixes.find? (fun r => !r.arrived) = some r) ∧ (u = s.modImg (fun x => { x with fixes := x.fixes.filter fun y => y.frame ≠ r.frame })) ∧ (s.frameLoads r.frame = false) ∧ (bad = false)) ∧
    (∃ (s : State) (bad : Bool), (s.img.fixes.find? (fun r => !r.arrived) = none)) ∧
    (∃ (s u : State) (halt : Bool), (s.img.scrubEn = true) ∧ (s.img.halted = false) ∧ (s.scrubPaused = false) ∧ (s.lk.inService = true) ∧ (halt = decide (3 ≤ s.img.wdogRun + 1)) ∧ (u = s.modImg (fun x => { x with wdog := satInc x.wdog, wdogRun := x.wdogRun + 1, sweepPos := 0, halted := halt }))) ∧
    (∃ (s : State), (s.lk.inService = false)) :=
  ⟨⟨{ dev with img.st := .released, bist.run := some { kind := 0, inst := 0, origin := og } }, by exact ⟨by decide +kernel, by decide +kernel, by decide +kernel, .inr (by decide +kernel)⟩⟩,
   ⟨{ dev with img.st := .released, img.crc := [(0, some (w32 (frameCrc32 0 (dev.frameNow 0))))] }, by exact ⟨by decide +kernel, by decide +kernel, by decide +kernel, (by intro a h; cases h), by decide +kernel, rfl⟩⟩,
   ⟨{ dev with img.st := .released }, _, by exact ⟨by decide +kernel, by decide +kernel, by decide +kernel, (by intro a h; cases h), by decide +kernel, by decide +kernel, rfl, by decide +kernel⟩⟩,
   ⟨{ dev with img.st := .released, img.repairEn := false }, _, by exact ⟨by decide +kernel, by decide +kernel, by decide +kernel, (by intro a h; cases h), by decide +kernel, by decide +kernel, rfl, by decide +kernel⟩⟩,
   ⟨{ dev with img.scrubEn := false }, by decide +kernel⟩,
   ⟨{ dev with img.fixes := [{ frame := 0 }], img.load := some { why := .start, bank := 2 } }, _, { frame := 0 }, true, by exact ⟨by decide +kernel, rfl, by decide +kernel⟩⟩,
   ⟨{ dev with img.fixes := [{ frame := 0 }] }, _, { frame := 0 }, true, by exact ⟨by decide +kernel, rfl, by decide +kernel, by decide +kernel⟩⟩,
   ⟨{ dev with img.fixes := [{ frame := 0 }] }, _, { frame := 0 }, false, by exact ⟨by decide +kernel, rfl, by decide +kernel, by decide +kernel⟩⟩,
   ⟨dev, true, by decide +kernel⟩,
   ⟨{ dev with img.st := .released }, _, _, by exact ⟨by decide +kernel, by decide +kernel, by decide +kernel, by decide +kernel, rfl, rfl⟩⟩,
   ⟨{ dev with lk.inService := false }, by decide +kernel⟩⟩

/-- Witnesses of the hypotheses of LaneEventsAct. -/
theorem test_wit_LaneEventsAct :
    (∃ (s : State) (g : Fin 16) (o : LaneObs), (o.driver = true)) ∧
    (∃ (s : State) (g : Fin 16) (o : LaneObs), (o.driver = false)) ∧
    (∃ (s u : State) (g : Fin 16) (l : Fin 9) (payload : BitVec 64), (startField payload 0 8 = 0x1E ∨ startField payload 0 8 = 0x78 ∨ startField payload 0 8 = 0x87)) ∧
    (∃ (s u : State) (g : Fin 16) (l : Fin 9) (payload : BitVec 64), (startField payload 0 8 ≠ 0x1E) ∧ (startField payload 0 8 ≠ 0x78) ∧ (startField payload 0 8 ≠ 0x87) ∧ (startField payload 0 8 ≠ 0x4B)) ∧
    (∃ (s u : State) (g : Fin 16) (l : Fin 9) (payload : BitVec 64), (startField payload 0 8 = 0x4B) ∧ (u = s.modGroup g (fun x => { x with lock := x.lock ||| (1#9 <<< l.val), align := tset x.align none l (some payload) })) ∧ (l.val = 8)) ∧
    (∃ (s u : State) (g : Fin 16) (l : Fin 9) (payload : BitVec 64), (startField payload 0 8 = 0x4B) ∧ (u = s.modGroup g (fun x => { x with lock := x.lock ||| (1#9 <<< l.val), align := tset x.align none l (some payload) })) ∧ (l.val ≠ 8)) ∧
    (∃ (s : State) (i : Fin 16) (fill : Nat), ((s.linkAt i).isUp = true) ∧ ((s.linkAt i).plesio = true) ∧ (12 < fill ∨ fill < 4)) ∧
    (∃ (s : State) (i : Fin 16) (fill : Nat), ((s.linkAt i).isUp = false ∨ (s.linkAt i).plesio = false ∨ (4 ≤ fill ∧ fill ≤ 12))) ∧
    (∃ (s : State) (g : Fin 16) (n : Nat), (n = (s.groupAt g).pllNo g) ∧ ((s.groupAt g).pll = 3)) ∧
    (∃ (s : State) (g : Fin 16) (n : Nat), (n = (s.groupAt g).pllNo g) ∧ ((s.groupAt g).pll ≠ 3)) ∧
    (∃ (s : State) (g : Fin 16) (k : _), (s.freeStandbys.head? = some k) ∧ ((s.groupAt g).sought = true)) ∧
    (∃ (s : State) (g : Fin 16), (s.freeStandbys = [] ∨ (s.groupAt g).sought = false)) ∧
    (∃ (s u v : State) (i : Fin 16) (o : LinkObs), ((s.linkAt i).en = true) ∧ ((s.linkAt i).valid = true) ∧ ((s.linkAt i).st = .training ∨ (s.linkAt i).st = .down) ∧ (s.domRun (20 + (s.linkAt i).group) = true) ∧ ((s.groupAt (s.linkAt i).group).pll ≠ 3) ∧ (u = s.setLanes (s.linkAt i).group o.eyes) ∧ (v = u.modLink i (fun x => { x with skew := BitVec.ofNat 6 (min o.skew 63) })) ∧ ((s.linkAt i).tolerance < o.ppm)) ∧
    (∃ (s u v : State) (i : Fin 16) (o : LinkObs), ((s.linkAt i).en = true) ∧ ((s.linkAt i).valid = true) ∧ ((s.linkAt i).st = .training ∨ (s.linkAt i).st = .down) ∧ (s.domRun (20 + (s.linkAt i).group) = true) ∧ ((s.groupAt (s.linkAt i).group).pll ≠ 3) ∧ (u = s.setLanes (s.linkAt i).group o.eyes) ∧ (v = u.modLink i (fun x => { x with skew := BitVec.ofNat 6 (min o.skew 63) })) ∧ (o.ppm ≤ (s.linkAt i).tolerance) ∧ (u.aligned i = false)) ∧
    (∃ (s u v : State) (i : Fin 16) (o : LinkObs), ((s.linkAt i).en = true) ∧ ((s.linkAt i).valid = true) ∧ ((s.linkAt i).st = .training ∨ (s.linkAt i).st = .down) ∧ (s.domRun (20 + (s.linkAt i).group) = true) ∧ ((s.groupAt (s.linkAt i).group).pll ≠ 3) ∧ (u = s.setLanes (s.linkAt i).group o.eyes) ∧ (v = u.modLink i (fun x => { x with skew := BitVec.ofNat 6 (min o.skew 63) })) ∧ (o.ppm ≤ (s.linkAt i).tolerance) ∧ (u.aligned i = true) ∧ (32 < o.skew)) ∧
    (∃ (s u v : State) (i : Fin 16) (o : LinkObs), ((s.linkAt i).en = true) ∧ ((s.linkAt i).valid = true) ∧ ((s.linkAt i).st = .training ∨ (s.linkAt i).st = .down) ∧ (s.domRun (20 + (s.linkAt i).group) = true) ∧ ((s.groupAt (s.linkAt i).group).pll ≠ 3) ∧ (u = s.setLanes (s.linkAt i).group o.eyes) ∧ (v = u.modLink i (fun x => { x with skew := BitVec.ofNat 6 (min o.skew 63) })) ∧ (o.ppm ≤ (s.linkAt i).tolerance) ∧ (u.aligned i = true) ∧ (o.skew ≤ 32) ∧ (v.partnerOk i = false)) ∧
    (∃ (s u v : State) (i : Fin 16) (o : LinkObs) (w : State) (d : _), ((s.linkAt i).en = true) ∧ ((s.linkAt i).valid = true) ∧ ((s.linkAt i).st = .training ∨ (s.linkAt i).st = .down) ∧ (s.domRun (20 + (s.linkAt i).group) = true) ∧ ((s.groupAt (s.linkAt i).group).pll ≠ 3) ∧ (u = s.setLanes (s.linkAt i).group o.eyes) ∧ (v = u.modLink i (fun x => { x with skew := BitVec.ofNat 6 (min o.skew 63) })) ∧ (o.ppm ≤ (s.linkAt i).tolerance) ∧ (u.aligned i = true) ∧ (o.skew ≤ 32) ∧ (v.partnerOk i = true) ∧ (w = (v.modLink i fun x => { x with st := .up, active := true, nbSlotOut := o.slotOut, resend := x.replay.length, tries := 0, ctrlDue := true, mgmtQ := x.mgmtQ ++ [.slotOut (BitVec.ofNat 16 x.slotOutBits)] }).linkEvt i 5) ∧ (w.lnk.array = .joined) ∧ (o.ident = some d) ∧ (d ≠ w.lnk.ident)) ∧
    (∃ (s u v : State) (i : Fin 16) (o : LinkObs) (w : State), ((s.linkAt i).en = true) ∧ ((s.linkAt i).valid = true) ∧ ((s.linkAt i).st = .training ∨ (s.linkAt i).st = .down) ∧ (s.domRun (20 + (s.linkAt i).group) = true) ∧ ((s.groupAt (s.linkAt i).group).pll ≠ 3) ∧ (u = s.setLanes (s.linkAt i).group o.eyes) ∧ (v = u.modLink i (fun x => { x with skew := BitVec.ofNat 6 (min o.skew 63) })) ∧ (o.ppm ≤ (s.linkAt i).tolerance) ∧ (u.aligned i = true) ∧ (o.skew ≤ 32) ∧ (v.partnerOk i = true) ∧ (w = (v.modLink i fun x => { x with st := .up, active := true, nbSlotOut := o.slotOut, resend := x.replay.length, tries := 0, ctrlDue := true, mgmtQ := x.mgmtQ ++ [.slotOut (BitVec.ofNat 16 x.slotOutBits)] }).linkEvt i 5) ∧ (w.lnk.array ≠ .joined ∨ o.ident = none ∨ o.ident = some w.lnk.ident)) ∧
    (∃ (s : State) (i : Fin 16) (o : LinkObs), ((s.linkAt i).en = false ∨ (s.linkAt i).valid = false ∨ ((s.linkAt i).st ≠ .training ∧ (s.linkAt i).st ≠ .down) ∨ s.domRun (20 + (s.linkAt i).group) = false ∨ (s.groupAt (s.linkAt i).group).pll = 3)) :=
  ⟨⟨dev, 15, { lane := 8, driver := true }, by decide +kernel⟩,
   ⟨dev, 15, { lane := 8 }, by decide +kernel⟩,
   ⟨dev, dev, 15, 8, 0x1E, by decide +kernel⟩,
   ⟨dev, dev, 15, 8, 0, by decide +kernel⟩,
   ⟨dev, _, 15, 8, 0x4B, by exact ⟨by decide +kernel, rfl, by decide +kernel⟩⟩,
   ⟨dev, _, 15, 7, 0x4B, by exact ⟨by decide +kernel, rfl, by decide +kernel⟩⟩,
   ⟨{ dev with lnk.link := [(15, { st := .up, cfg0 := 0x40000 })] }, 15, 13, by decide +kernel⟩,
   ⟨dev, 15, 8, by decide +kernel⟩,
   ⟨dev, 15, _, by exact ⟨rfl, by decide +kernel⟩⟩,
   ⟨{ dev with lnk.group := [(15, { pll := 0 })] }, 15, _, by exact ⟨rfl, by decide +kernel⟩⟩,
   ⟨{ dev with clk.lock := 0x800000, lnk.group := [(15, { pll := 0, sought := true })] }, 15, 0, by decide +kernel⟩,
   ⟨dev, 15, by decide +kernel⟩,
   ⟨{ dev with lnk.link := [(15, { en := true, cfg0 := 0x80000000, st := .training })], lnk.group := [(0, { pll := 0 })] }, _, _, 15, { skew := 32, ppm := 6, eyes := [], slotOut := 0, ident := none }, by exact ⟨by decide +kernel, by decide +kernel, by decide +kernel, by decide +kernel, by decide +kernel, rfl, rfl, by decide +kernel⟩⟩,
   ⟨{ dev with lnk.link := [(15, { en := true, cfg0 := 0x80000000, st := .training })], lnk.group := [(0, { pll := 0 })] }, _, _, 15, { skew := 32, ppm := 5, eyes := [], slotOut := 0, ident := none }, by exact ⟨by decide +kernel, by decide +kernel, by decide +kernel, by decide +kernel, by decide +kernel, rfl, rfl, by decide +kernel, by decide +kernel⟩⟩,
   ⟨{ dev with lnk.link := [(15, { en := true, cfg0 := 0x80000000, st := .training })], lnk.group := [(0, { pll := 0, align := [(0, some 0x4B)] })] }, _, _, 15, { skew := 33, ppm := 5, eyes := [], slotOut := 0, ident := none }, by exact ⟨by decide +kernel, by decide +kernel, by decide +kernel, by decide +kernel, by decide +kernel, rfl, rfl, by decide +kernel, by decide +kernel, by decide +kernel⟩⟩,
   ⟨{ dev with lnk.link := [(15, { en := true, cfg0 := 0x80000000, st := .training })], lnk.group := [(0, { pll := 0, align := [(0, some 0x14B)] })] }, _, _, 15, { skew := 32, ppm := 5, eyes := [], slotOut := 0, ident := none }, by exact ⟨by decide +kernel, by decide +kernel, by decide +kernel, by decide +kernel, by decide +kernel, rfl, rfl, by decide +kernel, by decide +kernel, by decide +kernel, by decide +kernel⟩⟩,
   ⟨{ dev with lnk.link := [(15, { en := true, cfg0 := 0x80000000, st := .training })], lnk.group := [(0, { pll := 0, align := [(0, some 0x4B)] })], lnk.array := .joined }, _, _, 15, { skew := 32, ppm := 5, eyes := [], slotOut := 0, ident := some 5 }, _, 5, by exact ⟨by decide +kernel, by decide +kernel, by decide +kernel, by decide +kernel, by decide +kernel, rfl, rfl, by decide +kernel, by decide +kernel, by decide +kernel, by decide +kernel, rfl, by decide +kernel, by decide +kernel, by decide +kernel⟩⟩,
   ⟨{ dev with lnk.link := [(15, { en := true, cfg0 := 0x80000000, st := .training })], lnk.group := [(0, { pll := 0, align := [(0, some 0x4B)] })] }, _, _, 15, { skew := 32, ppm := 5, eyes := [], slotOut := 0, ident := none }, _, by exact ⟨by decide +kernel, by decide +kernel, by decide +kernel, by decide +kernel, by decide +kernel, rfl, rfl, by decide +kernel, by decide +kernel, by decide +kernel, by decide +kernel, rfl, by decide +kernel⟩⟩,
   ⟨dev, 15, { skew := 0, ppm := 0, eyes := [], slotOut := 0, ident := none }, by decide +kernel⟩⟩

/-- Witnesses of the hypotheses of FramesAreSentInOrder. -/
theorem test_wit_FramesAreSentInOrder :
    (∃ (s u : State) (i : Fin 16) (o : SendObs), (u = s.sendFill i o) ∧ ((s.linkAt i).valid = false ∨ s.domRun (20 + (s.linkAt i).group) = false)) ∧
    (∃ (s u : State) (i : Fin 16) (o : SendObs) (v : State), (u = s.sendFill i o) ∧ ((s.linkAt i).valid = true) ∧ (s.domRun (20 + (s.linkAt i).group) = true) ∧ (v = (if o.align then s.sendAlign i else s))) ∧
    (∃ (s u : State) (i : Fin 16) (o : SendObs), (u = s.sendFill i o) ∧ ((u.linkAt i).isUp = false)) ∧
    (∃ (s u : State) (i : Fin 16) (o : SendObs), (u = s.sendFill i o) ∧ ((u.linkAt i).isUp = true) ∧ (0 < (u.linkAt i).resend)) ∧
    (∃ (s u : State) (i : Fin 16) (o : SendObs), (u = s.sendFill i o) ∧ ((u.linkAt i).isUp = true) ∧ ((u.linkAt i).resend = 0) ∧ (256 ≤ (u.linkAt i).replay.length)) ∧
    (∃ (s u : State) (i : Fin 16) (o : SendObs), (u = s.sendFill i o) ∧ ((u.linkAt i).isUp = true) ∧ ((u.linkAt i).resend = 0) ∧ ((u.linkAt i).replay.length < 256) ∧ (u.ctrlPending i = true)) ∧
    (∃ (s u : State) (i : Fin 16) (o : SendObs) (v : SlotVal) (l : List SlotVal), (u = s.sendFill i o) ∧ ((u.linkAt i).isUp = true) ∧ ((u.linkAt i).resend = 0) ∧ ((u.linkAt i).replay.length < 256) ∧ (u.ctrlPending i = false) ∧ ((u.linkAt i).slotQ = v :: l)) ∧
    (∃ (s u : State) (i : Fin 16) (o : SendObs) (ws : List W32) (l : List Mgmt), (u = s.sendFill i o) ∧ ((u.linkAt i).isUp = true) ∧ ((u.linkAt i).resend = 0) ∧ ((u.linkAt i).replay.length < 256) ∧ (u.ctrlPending i = false) ∧ ((u.linkAt i).slotQ = []) ∧ ((u.linkAt i).mgmtQ = .words ws :: l)) ∧
    (∃ (s u : State) (i : Fin 16) (o : SendObs) (m : Mgmt) (l : List Mgmt), (u = s.sendFill i o) ∧ ((u.linkAt i).isUp = true) ∧ ((u.linkAt i).resend = 0) ∧ ((u.linkAt i).replay.length < 256) ∧ (u.ctrlPending i = false) ∧ ((u.linkAt i).slotQ = []) ∧ ((u.linkAt i).mgmtQ = m :: l) ∧ (m = .go ∨ (∃ b, m = .slotOut b))) ∧
    (∃ (s u : State) (i : Fin 16) (o : SendObs) (p : TxnPkt) (l : List TxnPkt), (u = s.sendFill i o) ∧ ((u.linkAt i).isUp = true) ∧ ((u.linkAt i).resend = 0) ∧ ((u.linkAt i).replay.length < 256) ∧ (u.ctrlPending i = false) ∧ ((u.linkAt i).slotQ = []) ∧ ((u.linkAt i).mgmtQ = []) ∧ ((u.linkAt i).txnQ = p :: l)) ∧
    (∃ (s u : State) (i : Fin 16) (o : SendObs), (u = s.sendFill i o) ∧ ((u.linkAt i).isUp = true) ∧ ((u.linkAt i).resend = 0) ∧ ((u.linkAt i).replay.length < 256) ∧ (u.ctrlPending i = false) ∧ ((u.linkAt i).slotQ = []) ∧ ((u.linkAt i).mgmtQ = []) ∧ ((u.linkAt i).txnQ = [])) :=
  ⟨⟨dev, _, 15, {}, by exact ⟨rfl, by decide +kernel⟩⟩,
   ⟨{ dev with lnk.link := [(15, { cfg0 := 0x80000000 })] }, _, 15, {}, _, by exact ⟨rfl, by decide +kernel, by decide +kernel, rfl⟩⟩,
   ⟨dev, _, 15, {}, by exact ⟨rfl, by decide +kernel⟩⟩,
   ⟨{ dev with lnk.link := [(15, { st := .up, resend := 1 })] }, _, 15, {}, by exact ⟨rfl, by decide +kernel, by decide +kernel⟩⟩,
   ⟨{ dev with lnk.link := [(15, { st := .up, replay := List.replicate 256 ⟨0, [], none⟩ })] }, _, 15, {}, by exact ⟨rfl, by decide +kernel, by decide +kernel, by decide +kernel⟩⟩,
   ⟨{ dev with lnk.link := [(15, { st := .up, ctrlDue := true, replay := List.replicate 255 ⟨0, [], none⟩ })] }, _, 15, {}, by exact ⟨rfl, by decide +kernel, by decide +kernel, by decide +kernel, by decide +kernel⟩⟩,
   ⟨{ dev with lnk.link := [(15, { st := .up, slotQ := [⟨0, 0, 0⟩] })] }, _, 15, {}, ⟨0, 0, 0⟩, [], by exact ⟨rfl, by decide +kernel, by decide +kernel, by decide +kernel, by decide +kernel, by decide +kernel⟩⟩,
   ⟨{ dev with lnk.link := [(15, { st := .up, mgmtQ := [.words (List.replicate 64 0)] })] }, _, 15, {}, List.replicate 64 0, [], by exact ⟨rfl, by decide +kernel, by decide +kernel, by decide +kernel, by decide +kernel, by decide +kernel, by decide +kernel⟩⟩,
   ⟨{ dev with lnk.link := [(15, { st := .up, mgmtQ := [.go] })] }, _, 15, {}, .go, [], by exact ⟨rfl, by decide +kernel, by decide +kernel, by decide +kernel, by decide +kernel, by decide +kernel, by decide +kernel, .inl rfl⟩⟩,
   ⟨{ dev with lnk.link := [(15, { st := .up, txnQ := [{ pkt := { dest := 0, src := 0, cmd := .read }, origin := 0, resp := false }] })] }, _, 15, {}, { pkt := { dest := 0, src := 0, cmd := .read }, origin := 0, resp := false }, [], by exact ⟨rfl, by decide +kernel, by decide +kernel, by decide +kernel, by decide +kernel, by decide +kernel, by decide +kernel, by decide +kernel⟩⟩,
   ⟨{ dev with lnk.link := [(15, { st := .up })] }, _, 15, {}, by exact ⟨rfl, by decide +kernel, by decide +kernel, by decide +kernel, by decide +kernel, by decide +kernel, by decide +kernel, by decide +kernel⟩⟩⟩

/-- Witnesses of the hypotheses of AFrameIsAcceptedOnceAndInOrder. -/
theorem test_wit_AFrameIsAcceptedOnceAndInOrder :
    (∃ (s u : State) (i : Nat) (f : RxFrame) (d : Nat), ((s.linkAt i).isUp = true) ∧ (f.bad = []) ∧ (frameKind f.start ≤ 3) ∧ (f.data.length = frameLen f.start) ∧ (f.crc = frameCrc f.start f.data) ∧ (d = (frameSeq f.start - (s.linkAt i).rxSeq).toNat) ∧ (u = s.modLink i (fun x => { (x.acked (frameAck f.start)) with rxSeq := frameSeq f.start })) ∧ (d = 1)) ∧
    (∃ (s u : State) (i : Nat) (f : RxFrame) (d : Nat), ((s.linkAt i).isUp = true) ∧ (f.bad = []) ∧ (frameKind f.start ≤ 3) ∧ (f.data.length = frameLen f.start) ∧ (f.crc = frameCrc f.start f.data) ∧ (d = (frameSeq f.start - (s.linkAt i).rxSeq).toNat) ∧ (u = s.modLink i (fun x => { (x.acked (frameAck f.start)) with rxSeq := frameSeq f.start })) ∧ (d = 0 ∨ 2048 ≤ d)) ∧
    (∃ (s u : State) (i : Nat) (f : RxFrame) (d : Nat), ((s.linkAt i).isUp = true) ∧ (f.bad = []) ∧ (frameKind f.start ≤ 3) ∧ (f.data.length = frameLen f.start) ∧ (f.crc = frameCrc f.start f.data) ∧ (d = (frameSeq f.start - (s.linkAt i).rxSeq).toNat) ∧ (u = s.modLink i (fun x => { (x.acked (frameAck f.start)) with rxSeq := frameSeq f.start })) ∧ (1 < d) ∧ (d < 2048)) ∧
    (∃ (s u : State) (i : Nat) (f : RxFrame), (u = f.bad.foldl (fun (u : State) l => u.laneBad (s.linkAt i).group l 1) s) ∧ ((s.linkAt i).isUp = false)) ∧
    (∃ (s u : State) (i : Nat) (f : RxFrame), (u = f.bad.foldl (fun (u : State) l => u.laneBad (s.linkAt i).group l 1) s) ∧ ((s.linkAt i).isUp = true) ∧ (f.bad ≠ [] ∨ 3 < frameKind f.start ∨ f.data.length ≠ frameLen f.start ∨ f.crc ≠ frameCrc f.start f.data)) ∧
    (∃ (s : State) (i : Fin 16) (f : RxFrame), ((s.acceptFrame i f).2 = false)) :=
  ⟨⟨{ dev with lnk.link := [(15, { st := .up })] }, _, 15, rxf 0x4B [0], _, by exact ⟨by decide +kernel, by decide +kernel, by decide +kernel, by decide +kernel, by decide +kernel, rfl, rfl, rfl⟩⟩,
   ⟨{ dev with lnk.link := [(15, { st := .up })] }, _, 15, rxf 0x1FFE004B [0], _, by exact ⟨by decide +kernel, by decide +kernel, by decide +kernel, by decide +kernel, by decide +kernel, rfl, rfl, by decide +kernel⟩⟩,
   ⟨{ dev with lnk.link := [(15, { st := .up })] }, _, 15, rxf 0x2004B [0], _, by exact ⟨by decide +kernel, by decide +kernel, by decide +kernel, by decide +kernel, by decide +kernel, rfl, rfl, by decide +kernel, by decide +kernel⟩⟩,
   ⟨dev, _, 15, rxf 0x4B [0], by exact ⟨rfl, by decide +kernel⟩⟩,
   ⟨{ dev with lnk.link := [(15, { st := .up })] }, _, 15, { rxf 0x4B [0] with crc := frameCrc 0x4B [0] + 1 }, by exact ⟨rfl, by decide +kernel, by decide +kernel⟩⟩,
   ⟨dev, 15, rxf 0x4B [0], by decide +kernel⟩⟩

/-- Witnesses of the hypotheses of ReceivedFramesAct. -/
theorem test_wit_ReceivedFramesAct :
    (∃ (s u : State) (i : Fin 16) (f : RxFrame), (s.acceptFrame i f = (u, true)) ∧ (frameKind f.start ≠ kindSlot)) ∧
    (∃ (s u : State) (i : Fin 16) (f : RxFrame), (s.acceptFrame i f = (u, true)) ∧ (frameKind f.start ≠ kindCtrl)) ∧
    (∃ (s u : State) (i : Fin 16) (f : RxFrame), (s.acceptFrame i f = (u, true)) ∧ (frameKind f.start ≠ kindTxn)) ∧
    (∃ (s u : State) (i : Fin 16) (f : RxFrame) (t : State), (s.acceptFrame i f = (u, true)) ∧ (frameKind f.start = kindSlot) ∧ (startField f.start 42 16 = (u.linkAt i).slotTurn % 2 ^ 16) ∧ (startField f.start 58 3 = (u.linkAt i).slotStrand) ∧ (t = u.modLink i (fun x => { x with slotIn := x.slotIn ++ [{ turn := x.slotTurn, strand := x.slotStrand, bits := blocksNat f.data % 2 ^ (slotBits u.fab.turnLen (u.linkAt i).slotInBits (u.linkAt i).slotStrand).length }], slotTurn := (u.nextSlot i).1, slotStrand := (u.nextSlot i).2 }))) ∧
    (∃ (s u : State) (i : Fin 16) (f : RxFrame), (s.acceptFrame i f = (u, true)) ∧ (frameKind f.start = kindSlot) ∧ (startField f.start 42 16 ≠ (u.linkAt i).slotTurn % 2 ^ 16 ∨ startField f.start 58 3 ≠ (u.linkAt i).slotStrand)) ∧
    (∃ (s u : State) (i : Fin 16) (f : RxFrame), (s.acceptFrame i f = (u, true)) ∧ (frameKind f.start = kindCtrl) ∧ (f.data.length < 2)) ∧
    (∃ (s u : State) (i : Fin 16) (f : RxFrame) (b0 b1 : BitVec 64) (es : List (BitVec 64)) (v w : State), (s.acceptFrame i f = (u, true)) ∧ (frameKind f.start = kindCtrl) ∧ (f.data = b0 :: b1 :: es) ∧ (v = (u.modLink i fun x => { x with nbTurn := BitVec.ofNat 32 (startField b0 0 32), nbSeen := true, nbWcnt := BitVec.ofNat 16 (startField b0 32 16), credit := min 4096 (x.credit + startField b1 0 16), drained := x.drained || b1.getLsbD 16 }).takeMcnt (BitVec.ofNat 16 (startField b0 48 16))) ∧ (w = (if b1.getLsbD 20 then v.laneFail (v.linkAt i).group (startField b1 17 3) true else v))) ∧
    (∃ (s u : State) (i : Fin 16) (f : RxFrame) (us : List (BitVec 144)) (part : Nat), (s.acceptFrame i f = (u, true)) ∧ (frameKind f.start = kindTxn) ∧ (part = startField f.start 42 2) ∧ (us = (if part = 0 ∨ part = 1 then unpackUnits f.data else (u.linkAt i).txnIn ++ unpackUnits f.data)) ∧ (part = 1 ∨ part = 2)) ∧
    (∃ (s u : State) (i : Fin 16) (f : RxFrame) (us : List (BitVec 144)) (part : Nat), (s.acceptFrame i f = (u, true)) ∧ (frameKind f.start = kindTxn) ∧ (part = startField f.start 42 2) ∧ (us = (if part = 0 ∨ part = 1 then unpackUnits f.data else (u.linkAt i).txnIn ++ unpackUnits f.data)) ∧ (part = 0 ∨ part = 3)) ∧
    (∃ (s u : State) (i : Fin 16) (f : RxFrame), (s.acceptFrame i f = (u, true)) ∧ (frameKind f.start = kindMgmt ∧ u.lnk.array = .exchanging ∧ u.lnk.gone = false ∧ u.lnk.startLink.isSome = true)) ∧
    (∃ (s u : State) (i : Fin 16) (f : RxFrame), (s.acceptFrame i f = (u, true)) ∧ (¬(frameKind f.start = kindMgmt ∧ u.lnk.array = .exchanging ∧ u.lnk.gone = false ∧ u.lnk.startLink.isSome = true))) ∧
    (∃ (s u : State) (i : Fin 16) (f : RxFrame) (m : Option (List W32)), (s.mgmtTake i f = (u, m)) ∧ (m = none)) ∧
    (∃ (s u : State) (i : Fin 16) (f : RxFrame) (m : Option (List W32)) (ws : _), (s.mgmtTake i f = (u, m)) ∧ (m = some ws) ∧ (mgmtType ws ≠ 1 ∨ (ws.getD 2 0 = u.lnk.ident ∧ u.lnk.array ≠ .alone))) ∧
    (∃ (s u : State) (i : Fin 16) (f : RxFrame) (m : Option (List W32)) (ws : _), (s.mgmtTake i f = (u, m)) ∧ (m = some ws) ∧ (mgmtType ws = 1) ∧ (ws.getD 2 0 ≠ u.lnk.ident ∨ u.lnk.array = .alone) ∧ (u.lnk.array = .joined) ∧ (u.windowRunning = true)) ∧
    (∃ (s u : State) (i : Fin 16) (f : RxFrame) (m : Option (List W32)) (ws : _), (s.mgmtTake i f = (u, m)) ∧ (m = some ws) ∧ (mgmtType ws = 1) ∧ (ws.getD 2 0 ≠ u.lnk.ident ∨ u.lnk.array = .alone) ∧ (u.lnk.array = .exchanging)) ∧
    (∃ (s u : State) (i : Fin 16) (f : RxFrame) (m : Option (List W32)) (ws : _), (s.mgmtTake i f = (u, m)) ∧ (m = some ws) ∧ (mgmtType ws = 1) ∧ (ws.getD 2 0 ≠ u.lnk.ident ∨ u.lnk.array = .alone) ∧ (u.lnk.array ≠ .exchanging) ∧ (¬(u.lnk.array = .joined ∧ u.windowRunning = true))) ∧
    (∃ (s u : State) (i : Fin 16) (f : RxFrame) (m : Option (List W32)) (ws : _), (s.mgmtTake i f = (u, m)) ∧ (m = some ws) ∧ (mgmtType ws ≠ 2 ∨ ws.getD 2 0 ≠ u.lnk.ident ∨ (u.lnk.startOrigin = none ∧ u.lnk.startLink = none))) ∧
    (∃ (s u : State) (i : Fin 16) (f : RxFrame) (m : Option (List W32)) (ws : _), (s.mgmtTake i f = (u, m)) ∧ (m = some ws) ∧ (mgmtType ws = 2) ∧ (ws.getD 2 0 = u.lnk.ident) ∧ (u.lnk.startOrigin.isSome = true)) ∧
    (∃ (s u : State) (i : Fin 16) (f : RxFrame) (m : Option (List W32)) (ws : _) (k : _), (s.mgmtTake i f = (u, m)) ∧ (m = some ws) ∧ (mgmtType ws = 2) ∧ (ws.getD 2 0 = u.lnk.ident) ∧ (u.lnk.startOrigin = none) ∧ (u.lnk.startLink = some k)) ∧
    (∃ (s u : State) (i : Fin 16) (f : RxFrame) (m : Option (List W32)) (ws : _) (w l : _), (s.mgmtTake i f = (u, m)) ∧ (m = some ws) ∧ (ws = w :: l) ∧ (mgmtType ws = 0x10) ∧ (u.lk.array.held = none)) ∧
    (∃ (s u : State) (i : Fin 16) (f : RxFrame) (m : Option (List W32)) (ws : _) (w l : _) (r : _), (s.mgmtTake i f = (u, m)) ∧ (m = some ws) ∧ (ws = w :: l) ∧ (mgmtType ws = 0x10) ∧ (u.lk.array.held.isSome = true) ∧ (r = replyWords u (l.getD 1 0) stBusy false true [])) ∧
    (∃ (s u : State) (i : Fin 16) (f : RxFrame) (m : Option (List W32)) (ws : _) (w l : _), (s.mgmtTake i f = (u, m)) ∧ (m = some ws) ∧ (ws = w :: l) ∧ (mgmtType ws ≠ 0x10)) ∧
    (∃ (s u : State) (i : Fin 16) (f : RxFrame) (m : Option (List W32)) (ws : _) (w l : _) (fw : _), (s.mgmtTake i f = (u, m)) ∧ (m = some ws) ∧ (ws = w :: l) ∧ (mgmtType ws = 0x11) ∧ (u.lk.forwards.find? (fun x => x.link = i.val && !x.replied) = some fw)) ∧
    (∃ (s u : State) (i : Fin 16) (f : RxFrame) (m : Option (List W32)) (ws : _) (w l : _), (s.mgmtTake i f = (u, m)) ∧ (m = some ws) ∧ (ws = w :: l) ∧ (mgmtType ws ≠ 0x11 ∨ u.lk.forwards.find? (fun x => x.link = i.val && !x.replied) = none)) ∧
    (∃ (s u : State) (i : Fin 16) (f : RxFrame) (m : Option (List W32)) (ws : _) (w l : _) (fw : _), (s.mgmtTake i f = (u, m)) ∧ (m = some ws) ∧ (ws = w :: l) ∧ (mgmtType ws = 0x12) ∧ (u.lk.forwards.find? (fun x => x.link = i.val && x.replied) = some fw)) ∧
    (∃ (s u : State) (i : Fin 16) (f : RxFrame) (m : Option (List W32)) (ws : _) (w l : _), (s.mgmtTake i f = (u, m)) ∧ (m = some ws) ∧ (ws = w :: l) ∧ (mgmtType ws ≠ 0x12 ∨ u.lk.forwards.find? (fun x => x.link = i.val && x.replied) = none)) ∧
    (∃ (s : State) (i : Fin 16) (fw : _), (s.lk.forwards.find? (fun x => x.link = i.val && !x.replied) = some fw)) ∧
    (∃ (s : State) (i : Fin 16), (s.lk.forwards.find? (fun x => x.link = i.val && !x.replied) = none)) ∧
    (∃ (s : State), (s.lnk.array = .exchanging)) ∧
    (∃ (s : State), (s.lnk.array ≠ .exchanging)) ∧
    (∃ (s : State) (i : Fin 16) (p l : _), (s.nodeStill (nodeLink i) = false) ∧ ((s.nodeAt (nodeLink i)).work = p :: l)) ∧
    (∃ (s : State) (i : Fin 16), (s.nodeStill (nodeLink i) = true ∨ (s.nodeAt (nodeLink i)).work = [])) :=
  ⟨⟨{ dev with lnk.link := [(15, { st := .up })] }, _, 15, rxf 0x24B [0], by exact ⟨pairOfSnd (by decide +kernel), by decide +kernel⟩⟩,
   ⟨{ dev with lnk.link := [(15, { st := .up })] }, _, 15, rxf 0x4B [0], by exact ⟨pairOfSnd (by decide +kernel), by decide +kernel⟩⟩,
   ⟨{ dev with lnk.link := [(15, { st := .up })] }, _, 15, rxf 0x4B [0], by exact ⟨pairOfSnd (by decide +kernel), by decide +kernel⟩⟩,
   ⟨{ dev with lnk.link := [(15, { st := .up })] }, _, 15, rxf 0x4B [0], _, by exact ⟨pairOfSnd (by decide +kernel), by decide +kernel, by decide +kernel, by decide +kernel, rfl⟩⟩,
   ⟨{ dev with lnk.link := [(15, { st := .up })] }, _, 15, rxf 0x4000000004B [0], by exact ⟨pairOfSnd (by decide +kernel), by decide +kernel, by decide +kernel⟩⟩,
   ⟨{ dev with lnk.link := [(15, { st := .up })] }, _, 15, rxf 0x14B [0], by exact ⟨pairOfSnd (by decide +kernel), by decide +kernel, by decide +kernel⟩⟩,
   ⟨{ dev with lnk.link := [(15, { st := .up })] }, _, 15, rxf 0x114B [0, 0], 0, 0, [], _, _, by exact ⟨pairOfSnd (by decide +kernel), by decide +kernel, by decide +kernel, rfl, rfl⟩⟩,
   ⟨{ dev with lnk.link := [(15, { st := .up })] }, _, 15, rxf 0x4000000024B [0], _, _, by exact ⟨pairOfSnd (by decide +kernel), by decide +kernel, rfl, rfl, by decide +kernel⟩⟩,
   ⟨{ dev with lnk.link := [(15, { st := .up })] }, _, 15, rxf 0x24B [0], _, _, by exact ⟨pairOfSnd (by decide +kernel), by decide +kernel, rfl, rfl, by decide +kernel⟩⟩,
   ⟨{ dev with lnk.link := [(15, { st := .up })], lnk.array := .exchanging, lnk.startLink := some 0 }, _, 15, rxf 0x34B [0], by exact ⟨pairOfSnd (by decide +kernel), by decide +kernel⟩⟩,
   ⟨{ dev with lnk.link := [(15, { st := .up })] }, _, 15, rxf 0x4B [0], by exact ⟨pairOfSnd (by decide +kernel), by decide +kernel⟩⟩,
   ⟨{ dev with lnk.link := [(15, { st := .up })] }, _, 15, rxf 0x4B [0], none, by exact ⟨pairOfSnd (by decide +kernel), by decide +kernel⟩⟩,
   ⟨{ dev with lnk.link := [(15, { st := .up })] }, _, 15, rxf 0x134B [0x20010, 0x0], some [0x20010, 0, 0], [0x20010, 0, 0], by exact ⟨pairOfSnd (by decide +kernel), by decide +kernel, by decide +kernel⟩⟩,
   ⟨{ devRun with lnk.link := [(15, { st := .up })], lnk.array := .joined }, _, 15, rxf 0x134B [0x20001, 0x1], some [0x20001, 0, 1], [0x20001, 0, 1], by exact ⟨pairOfSnd (by decide +kernel), by decide +kernel, by decide +kernel, by decide +kernel, by decide +kernel, by decide +kernel⟩⟩,
   ⟨{ dev with lnk.link := [(15, { st := .up })], lnk.array := .exchanging }, _, 15, rxf 0x134B [0x20001, 0x1], some [0x20001, 0, 1], [0x20001, 0, 1], by exact ⟨pairOfSnd (by decide +kernel), by decide +kernel, by decide +kernel, by decide +kernel, by decide +kernel⟩⟩,
   ⟨{ dev with lnk.link := [(15, { st := .up })] }, _, 15, rxf 0x134B [0x20001, 0x1], some [0x20001, 0, 1], [0x20001, 0, 1], by exact ⟨pairOfSnd (by decide +kernel), by decide +kernel, by decide +kernel, by decide +kernel, by decide +kernel, by decide +kernel⟩⟩,
   ⟨{ dev with lnk.link := [(15, { st := .up })] }, _, 15, rxf 0x134B [0x20010, 0x0], some [0x20010, 0, 0], [0x20010, 0, 0], by exact ⟨pairOfSnd (by decide +kernel), by decide +kernel, by decide +kernel⟩⟩,
   ⟨{ dev with lnk.link := [(15, { st := .up })], lnk.startOrigin := some og }, _, 15, rxf 0x134B [0x20002, 0x0], some [0x20002, 0, 0], [0x20002, 0, 0], by exact ⟨pairOfSnd (by decide +kernel), by decide +kernel, by decide +kernel, by decide +kernel, by decide +kernel⟩⟩,
   ⟨{ dev with lnk.link := [(15, { st := .up })], lnk.startLink := some 0 }, _, 15, rxf 0x134B [0x20002, 0x0], some [0x20002, 0, 0], [0x20002, 0, 0], 0, by exact ⟨pairOfSnd (by decide +kernel), by decide +kernel, by decide +kernel, by decide +kernel, by decide +kernel, by decide +kernel⟩⟩,
   ⟨{ dev with lnk.link := [(15, { st := .up })] }, _, 15, rxf 0x134B [0x20010, 0x0], some [0x20010, 0, 0], [0x20010, 0, 0], 0x20010, [0, 0], by exact ⟨pairOfSnd (by decide +kernel), by decide +kernel, by decide +kernel, by decide +kernel, by decide +kernel⟩⟩,
   ⟨{ dev with lnk.link := [(15, { st := .up })], lk.array.held := some [] }, _, 15, rxf 0x134B [0x20010, 0x0], some [0x20010, 0, 0], [0x20010, 0, 0], 0x20010, [0, 0], _, by exact ⟨pairOfSnd (by decide +kernel), by decide +kernel, by decide +kernel, by decide +kernel, by decide +kernel, rfl⟩⟩,
   ⟨{ dev with lnk.link := [(15, { st := .up })] }, _, 15, rxf 0x134B [0x20011, 0x0], some [0x20011, 0, 0], [0x20011, 0, 0], 0x20011, [0, 0], by exact ⟨pairOfSnd (by decide +kernel), by decide +kernel, by decide +kernel, by decide +kernel⟩⟩,
   ⟨{ dev with lnk.link := [(15, { st := .up })], lk.forwards := [{ origin := og, link := 15 }] }, _, 15, rxf 0x134B [0x20011, 0x0], some [0x20011, 0, 0], [0x20011, 0, 0], 0x20011, [0, 0], { origin := og, link := 15 }, by exact ⟨pairOfSnd (by decide +kernel), by decide +kernel, by decide +kernel, by decide +kernel, by decide +kernel⟩⟩,
   ⟨{ dev with lnk.link := [(15, { st := .up })] }, _, 15, rxf 0x134B [0x20011, 0x0], some [0x20011, 0, 0], [0x20011, 0, 0], 0x20011, [0, 0], by exact ⟨pairOfSnd (by decide +kernel), by decide +kernel, by decide +kernel, by decide +kernel⟩⟩,
   ⟨{ dev with lnk.link := [(15, { st := .up })], lk.forwards := [{ origin := og, link := 15, replied := true }] }, _, 15, rxf 0x134B [0x20012, 0x0], some [0x20012, 0, 0], [0x20012, 0, 0], 0x20012, [0, 0], { origin := og, link := 15, replied := true }, by exact ⟨pairOfSnd (by decide +kernel), by decide +kernel, by decide +kernel, by decide +kernel, by decide +kernel⟩⟩,
   ⟨{ dev with lnk.link := [(15, { st := .up })] }, _, 15, rxf 0x134B [0x20012, 0x0], some [0x20012, 0, 0], [0x20012, 0, 0], 0x20012, [0, 0], by exact ⟨pairOfSnd (by decide +kernel), by decide +kernel, by decide +kernel, by decide +kernel⟩⟩,
   ⟨{ dev with lk.forwards := [{ origin := og, link := 15 }] }, 15, { origin := og, link := 15 }, by decide +kernel⟩,
   ⟨dev, 15, by decide +kernel⟩,
   ⟨{ dev with lnk.array := .exchanging }, by decide +kernel⟩,
   ⟨dev, by decide +kernel⟩,
   ⟨{ dev with leat.node := [(347, { work := [{ dest := 0, src := 0, cmd := .read }] })] }, 15, { dest := 0, src := 0, cmd := .read }, [], by decide +kernel⟩,
   ⟨dev, 15, by decide +kernel⟩⟩

/-- Witnesses of the hypotheses of EndpointEventsAct. -/
theorem test_wit_EndpointEventsAct :
    (∃ (s : State) (f : _), ((s.host.func f).d3hot = false)) ∧
    (∃ (s : State), ((s.host.func .pf1).d3hot = true)) ∧
    (∃ (s : State) (u : State), ((s.host.func .pf0).d3hot = true) ∧ (u = (s.modFunc .pf0 fun x => { x with d3hot := false }).sendPending .pf0)) ∧
    (∃ (s : State), (s.pwr.dev ≠ .off)) ∧
    (∃ (s : State), (s.pwr.dev = .off)) ∧
    (∃ (s : State) (speed : BitVec 3) (width : BitVec 4) (c0 c1 : PcieCfg), (s.host.perst = false) ∧ (s.domRun 36 = true)) ∧
    (∃ (s : State) (speed : BitVec 3) (width : BitVec 4) (c0 c1 : PcieCfg), (s.host.perst = true ∨ s.domRun 36 = false)) :=
  ⟨⟨dev, .pf0, by decide +kernel⟩,
   ⟨{ dev with host.pf1.d3hot := true }, by decide +kernel⟩,
   ⟨{ dev with host.pf0.d3hot := true }, _, by exact ⟨by decide +kernel, rfl⟩⟩,
   ⟨dev, by decide +kernel⟩,
   ⟨{ dev with pwr.dev := .off }, by decide +kernel⟩,
   ⟨dev, 5, 15, ⟨true, true, true, 4096, 512⟩, ⟨true, true, true, 4096, 512⟩, by decide +kernel⟩,
   ⟨{ dev with host.perst := true }, 5, 15, ⟨true, true, true, 4096, 512⟩, ⟨true, true, true, 4096, 512⟩, by decide +kernel⟩⟩

/-- Witnesses of the hypotheses of MailboxAndSmbusEventsAct. -/
theorem test_wit_MailboxAndSmbusEventsAct :
    (∃ (s : State) (f : Func) (words : List W32) (tail : Option (BitVec 6)) (data : W32), (s.funcOpen f = true)) ∧
    (∃ (s : State) (f : Func) (words : List W32) (tail : Option (BitVec 6)) (data : W32), (s.funcOpen f = false)) ∧
    (∃ (s : State) (f : Func) (data : W32), (data.getLsbD 0 = false)) ∧
    (∃ (s : State) (f : Func) (data : W32), (data.getLsbD 0 = true) ∧ ((s.lk.port f.port).held.isSome = true)) ∧
    (∃ (s : State) (f : Func) (data : W32), (data.getLsbD 0 = true) ∧ ((s.lk.port f.port).held = none)) ∧
    (∃ (s : State) (bytes : List Byte) (p : Option Byte), (s.inReset = false) ∧ (s.lk.smbus.held.isSome = true)) ∧
    (∃ (s : State) (bytes : List Byte) (p : Option Byte), (s.inReset = false) ∧ (s.lk.smbus.held = none) ∧ (s.pecFails (0x40 :: BitVec.ofNat 8 bytes.length :: bytes) p = true)) ∧
    (∃ (s : State) (bytes : List Byte) (p : Option Byte), (s.inReset = false) ∧ (s.lk.smbus.held = none) ∧ (s.pecFails (0x41 :: BitVec.ofNat 8 bytes.length :: bytes) p = true)) ∧
    (∃ (s : State) (bytes : List Byte) (p : Option Byte), (s.inReset = false) ∧ (s.lk.smbus.held = none) ∧ (s.pecFails (0x40 :: BitVec.ofNat 8 bytes.length :: bytes) p = false)) ∧
    (∃ (s : State) (bytes : List Byte) (p : Option Byte) (all : _), (s.inReset = false) ∧ (s.lk.smbus.held = none) ∧ (s.pecFails (0x41 :: BitVec.ofNat 8 bytes.length :: bytes) p = false) ∧ (all = s.lk.smbus.partialBytes ++ bytes)) ∧
    (∃ (s : State) (bytes : List Byte) (p : Option Byte) (data : Byte), (s.inReset = false) ∧ (s.pecFails [0x42, data] p = true)) ∧
    (∃ (s : State) (bytes : List Byte) (p : Option Byte) (data : Byte), (s.inReset = false) ∧ (s.pecFails [0x42, data] p = false)) ∧
    (∃ (s : State), (s.inReset = false) ∧ (s.lk.smbus.replyReady = false)) ∧
    (∃ (s : State) (c pos : _), (s.inReset = false) ∧ (s.lk.smbus.replyReady = true) ∧ (c = smbChunk s.lk.smbus.reply s.lk.smbus.replyPos) ∧ (pos = s.lk.smbus.replyPos + (c.length - 1))) ∧
    (∃ (s : State), (s.inReset = false) ∧ (s.lk.smbus.records = [])) ∧
    (∃ (s : State) (r l c pos : _), (s.inReset = false) ∧ (s.lk.smbus.records = r :: l) ∧ (c = smbChunk r s.lk.smbus.recordPos) ∧ (pos = s.lk.smbus.recordPos + (c.length - 1))) ∧
    (∃ (s : State) (b : Byte), (s.inReset = false) ∧ (b = BitVec.ofNat 8 (bitAt s.lk.smbus.held.isSome 0 ||| bitAt s.lk.smbus.replyReady 1 ||| bitAt (!s.lk.smbus.records.isEmpty) 2 ||| bitAt s.lk.smbus.hwReply 3 ||| bitAt s.lk.smbus.chunkErr 4 ||| bitAt s.lk.inService 5).toNat)) ∧
    (∃ (s : State), (s.inReset = false) ∧ (s.alertOut = true)) ∧
    (∃ (s : State), (s.inReset = false) ∧ (s.alertOut = false)) ∧
    (∃ (s : State) (bytes : List Byte) (data : Byte) (p : Option Byte), (s.inReset = true)) ∧
    (∃ (s : State) (addr : BitVec 7), (addr.toNat = 0x5A + s.host.addrSel.toNat)) ∧
    (∃ (s : State) (addr : BitVec 7), (addr.toNat ≠ 0x5A + s.host.addrSel.toNat)) :=
  ⟨⟨dev, .pf1, [], none, 1, by decide +kernel⟩,
   ⟨{ dev with host.linkUp := false }, .pf1, [], none, 1, by decide +kernel⟩,
   ⟨dev, .pf1, 0, by decide +kernel⟩,
   ⟨{ dev with lk.pf1.held := some [] }, .pf1, 1, by decide +kernel⟩,
   ⟨dev, .pf1, 1, by decide +kernel⟩,
   ⟨{ dev with lk.smbus.held := some [] }, [], none, by decide +kernel⟩,
   ⟨{ dev with host.pecReq := true }, [], none, by decide +kernel⟩,
   ⟨{ dev with host.pecReq := true }, [], none, by decide +kernel⟩,
   ⟨dev, [], none, by decide +kernel⟩,
   ⟨dev, [], none, _, by exact ⟨by decide +kernel, by decide +kernel, by decide +kernel, rfl⟩⟩,
   ⟨{ dev with host.pecReq := true }, [], none, 0, by decide +kernel⟩,
   ⟨dev, [], none, 0, by decide +kernel⟩,
   ⟨dev, by decide +kernel⟩,
   ⟨{ dev with lk.smbus.replyReady := true }, _, _, by exact ⟨by decide +kernel, by decide +kernel, rfl, rfl⟩⟩,
   ⟨dev, by decide +kernel⟩,
   ⟨{ dev with lk.smbus.records := [List.replicate 63 0] }, List.replicate 63 0, [], _, _, by exact ⟨by decide +kernel, by decide +kernel, rfl, rfl⟩⟩,
   ⟨dev, _, by exact ⟨by decide +kernel, rfl⟩⟩,
   ⟨{ dev with host.alertArmed := true, host.logAlert := true }, by decide +kernel⟩,
   ⟨dev, by decide +kernel⟩,
   ⟨{ dev with rst.st := .held }, [], 0, none, by decide +kernel⟩,
   ⟨{ dev with host.addrSel := 3 }, 0x5D, by decide +kernel⟩,
   ⟨{ dev with host.addrSel := 3 }, 0x5C, by decide +kernel⟩⟩

/-- Witnesses of the hypotheses of JtagEventsAct. -/
theorem test_wit_JtagEventsAct :
    (∃ (s : State), (s.win.shown = .notReleased)) ∧
    (∃ (s : State), (s.win.shown ≠ .notReleased)) ∧
    (∃ (s : State) (code : Byte), (tapCodes.contains code = false)) ∧
    (∃ (s : State) (w : W32), (s.host.ir = 0x10) ∧ (s.inReset = false) ∧ (s.lk.jtag.held = none)) ∧
    (∃ (s : State) (w : W32), (s.host.ir ≠ 0x10 ∨ s.inReset = true ∨ s.lk.jtag.held.isSome = true)) ∧
    (∃ (s : State), (s.host.ir = 0x10) ∧ (s.host.cmdDr.toNat / 2 ^ 32 = 1)) ∧
    (∃ (s : State), (s.host.ir = 0x10) ∧ (s.host.cmdDr.toNat / 2 ^ 32 = 2)) ∧
    (∃ (s : State), (s.host.ir = 0x10) ∧ (s.host.cmdDr.toNat / 2 ^ 32 ≠ 1) ∧ (s.host.cmdDr.toNat / 2 ^ 32 ≠ 2)) ∧
    (∃ (s : State), (s.host.ir ≠ 0x10)) :=
  ⟨⟨{ dev with win.st := .notReleased }, by decide +kernel⟩,
   ⟨dev, by decide +kernel⟩,
   ⟨dev, 0x80, by decide +kernel⟩,
   ⟨{ dev with host.ir := 0x10 }, 0, by decide +kernel⟩,
   ⟨dev, 0, by decide +kernel⟩,
   ⟨{ dev with host.ir := 0x10, host.cmdDr := 0x1FFFFFFFF }, by decide +kernel⟩,
   ⟨{ dev with host.ir := 0x10, host.cmdDr := 0x200000000 }, by decide +kernel⟩,
   ⟨{ dev with host.ir := 0x10 }, by decide +kernel⟩,
   ⟨dev, by decide +kernel⟩⟩

/-- Witnesses of the hypotheses of LockkeeperEventsAct. -/
theorem test_wit_LockkeeperEventsAct :
    (∃ (s : State), (s.lk.inService = false) ∧ (s.rst.st ≠ .dead)) ∧
    (∃ (s : State), (s.lk.inService = true ∨ s.rst.st = .dead)) ∧
    (∃ (s : State) (l : List Nat), (s.lk.inService = true) ∧ (l = (s.lk.mismatches.filter fun t => decide (1000 * s.lk.seconds.toNat + s.lk.ms < t + 1000)) ++ [1000 * s.lk.seconds.toNat + s.lk.ms]) ∧ (l.length < 3)) ∧
    (∃ (s : State) (l : List Nat), (s.lk.inService = true) ∧ (l = (s.lk.mismatches.filter fun t => decide (1000 * s.lk.seconds.toNat + s.lk.ms < t + 1000)) ++ [1000 * s.lk.seconds.toNat + s.lk.ms]) ∧ (3 ≤ l.length)) ∧
    (∃ (s : State) (l : List Nat), (s.lk.inService = true) ∧ (l = (s.lk.mismatches.filter fun t => decide (1000 * s.lk.seconds.toNat + s.lk.ms < t + 1000)) ++ [1000 * s.lk.seconds.toNat + s.lk.ms])) ∧
    (∃ (s : State) (l : List Nat), (s.lk.inService = true) ∧ (l = (s.lk.mismatches.filter fun t => decide (1000 * s.lk.seconds.toNat + s.lk.ms < t + 1000)) ++ [1000 * s.lk.seconds.toNat + s.lk.ms]) ∧ (s.pwr.railsGood = true)) ∧
    (∃ (s : State) (l : List Nat), (s.lk.inService = true) ∧ (l = (s.lk.mismatches.filter fun t => decide (1000 * s.lk.seconds.toNat + s.lk.ms < t + 1000)) ++ [1000 * s.lk.seconds.toNat + s.lk.ms]) ∧ (s.pwr.railsGood = false)) ∧
    (∃ (s : State) (l : List Nat) (opcode : BitVec 16) (r : Req), (s.lk.inService = true) ∧ (l = (s.lk.mismatches.filter fun t => decide (1000 * s.lk.seconds.toNat + s.lk.ms < t + 1000)) ++ [1000 * s.lk.seconds.toNat + s.lk.ms]) ∧ (r.badLength = true)) ∧
    (∃ (s : State) (l : List Nat) (opcode : BitVec 16) (r : Req), (s.lk.inService = true) ∧ (l = (s.lk.mismatches.filter fun t => decide (1000 * s.lk.seconds.toNat + s.lk.ms < t + 1000)) ++ [1000 * s.lk.seconds.toNat + s.lk.ms]) ∧ (r.badLength = false) ∧ (opcodes.contains opcode.toNat = false)) ∧
    (∃ (s : State) (lo hi : W32) (data : Bool) (opcode : BitVec 16) (r : Req), (s.lk.inService = false)) ∧
    (∃ (s : State) (p : Port) (o : _), (s.lk.memOps.find? (fun o => o.req.port = p && !o.accepted && !o.mute) = some o)) ∧
    (∃ (s : State) (p : Port) (n r : _), (s.lk.memOps.find? (fun o => o.req.port = p && !o.accepted && !o.mute) = none) ∧ (s.sluiceWaiting p = some (n, r))) ∧
    (∃ (s : State) (p : Port) (ws : _), (s.lk.memOps.find? (fun o => o.req.port = p && !o.accepted && !o.mute) = none) ∧ (s.sluiceWaiting p = none) ∧ ((s.lk.port p).held = some ws)) ∧
    (∃ (s : State) (p : Port), (s.lk.memOps.find? (fun o => o.req.port = p && !o.accepted && !o.mute) = none) ∧ (s.sluiceWaiting p = none) ∧ ((s.lk.port p).held = none)) ∧
    (∃ (s : State) (v : VChan), (v.present = true) ∧ (v.ring = true)) ∧
    (∃ (s : State) (v : VChan), (v.present = false ∨ v.ring = false)) :=
  ⟨⟨{ dev with lk.inService := false }, by decide +kernel⟩,
   ⟨dev, by decide +kernel⟩,
   ⟨{ dev with lk.mismatches := [0] }, _, by exact ⟨by decide +kernel, rfl, by decide +kernel⟩⟩,
   ⟨{ dev with lk.mismatches := [0, 0] }, _, by exact ⟨by decide +kernel, rfl, by decide +kernel⟩⟩,
   ⟨dev, _, by exact ⟨by decide +kernel, rfl⟩⟩,
   ⟨dev, _, by exact ⟨by decide +kernel, rfl, by decide +kernel⟩⟩,
   ⟨{ dev with pwr.railsGood := false }, _, by exact ⟨by decide +kernel, rfl, by decide +kernel⟩⟩,
   ⟨dev, _, 1, { rq [] with length := 3 }, by exact ⟨by decide +kernel, rfl, by decide +kernel⟩⟩,
   ⟨dev, _, 0xFFFF, rq [], by exact ⟨by decide +kernel, rfl, by decide +kernel, by decide +kernel⟩⟩,
   ⟨{ dev with lk.inService := false }, 0, 0, false, 0, rq [], by decide +kernel⟩,
   ⟨{ dev with lk.memOps := [{ id := 0, req := rq [], write := false, addr := 0, count := 1 }] }, .pf0, { id := 0, req := rq [], write := false, addr := 0, count := 1 }, by decide +kernel⟩,
   ⟨{ dev with clk.slc := [(10, { waiter := some (rq []) })] }, .pf0, 10, rq [], by decide +kernel⟩,
   ⟨{ dev with lk.pf1.held := some [] }, .pf1, [], by decide +kernel⟩,
   ⟨dev, .pf1, by decide +kernel⟩,
   ⟨dev, vrl, by decide +kernel⟩,
   ⟨dev, vch, by decide +kernel⟩⟩

/-- Witnesses of the hypotheses of ClockEventsAct. -/
theorem test_wit_ClockEventsAct :
    (∃ (s u : State) (r : RefIn), (u = s.modClk (fun c => { c with validA := c.validA && decide (r ≠ .a), validB := c.validB && decide (r ≠ .b) })) ∧ (s.clk.inUse = none)) ∧
    (∃ (s u : State) (r : RefIn) (q : _), (u = s.modClk (fun c => { c with validA := c.validA && decide (r ≠ .a), validB := c.validB && decide (r ≠ .b) })) ∧ (s.clk.inUse = some q) ∧ (u.clk.valid q = true)) ∧
    (∃ (s u : State) (r : RefIn), (u = s.modClk (fun c => { c with validA := c.validA && decide (r ≠ .a), validB := c.validB && decide (r ≠ .b) })) ∧ (s.clk.inUse = some r) ∧ (s.clk.select = 0) ∧ (u.clk.valid r.other = true)) ∧
    (∃ (s u : State) (r : RefIn) (q : _), (u = s.modClk (fun c => { c with validA := c.validA && decide (r ≠ .a), validB := c.validB && decide (r ≠ .b) })) ∧ (s.clk.inUse = some q) ∧ (u.clk.valid q = false) ∧ (q ≠ r ∨ s.clk.select ≠ 0 ∨ u.clk.valid r.other = false)) ∧
    (∃ (s u : State) (r : RefIn), (u = s.modClk (fun c => { c with validA := c.validA || decide (r = .a), validB := c.validB || decide (r = .b), driftLogged := false })) ∧ (s.refPresent r = false)) ∧
    (∃ (s u : State) (r : RefIn), (u = s.modClk (fun c => { c with validA := c.validA || decide (r = .a), validB := c.validB || decide (r = .b), driftLogged := false })) ∧ (s.refPresent r = true)) ∧
    (∃ (s : State) (ppm : Nat), (s.clk.validA = true) ∧ (s.clk.validB = true) ∧ (s.clk.driftLogged = false) ∧ (200 < ppm)) ∧
    (∃ (s : State) (ppm : Nat), (s.clk.validA = false ∨ s.clk.validB = false ∨ s.clk.driftLogged = true ∨ ppm ≤ 200)) ∧
    (∃ (s : State) (m : Fin 6), (s.clk.current m = none)) ∧
    (∃ (s : State) (m : Fin 6) (x : MuxSwitch) (u : State), (s.clk.current m = some x) ∧ (u = s.modClk (fun c => { c with sw := c.sw.erase x }))) ∧
    (∃ (s : State) (m : Fin 6), (s.switching m = false)) ∧
    (∃ (s : State) (m : Fin 6) (u v : State) (w : State) (q : _), (s.switching m = true) ∧ (u = s.modClk (fun c => { c with sw := match c.current m with | some x => c.sw.erase x | none => c.sw })) ∧ (v = (if m.val = 3 then (List.range 16).foldl (fun (t : State) g => t.modGroup g fun x => { x with sought := false }) u else u)) ∧ (w = ((v.modVert fun x => { x with switchA := if m.val = 4 then 0 else x.switchA, switchB := x.switchB && decide (m.val ≠ 5) }).log 0x0C07 true false (w32 m) 0 0).clkEvt 6) ∧ (w.clk.inUse = some q)) ∧
    (∃ (s : State) (m : Fin 6) (u v : State) (w : State), (s.switching m = true) ∧ (u = s.modClk (fun c => { c with sw := match c.current m with | some x => c.sw.erase x | none => c.sw })) ∧ (v = (if m.val = 3 then (List.range 16).foldl (fun (t : State) g => t.modGroup g fun x => { x with sought := false }) u else u)) ∧ (w = ((v.modVert fun x => { x with switchA := if m.val = 4 then 0 else x.switchA, switchB := x.switchB && decide (m.val ≠ 5) }).log 0x0C07 true false (w32 m) 0 0).clkEvt 6) ∧ (w.clk.inUse = none)) ∧
    (∃ (s : State), (s.clk.holdover = true) ∧ (s.clk.inUse = none) ∧ (s.clk.safe = false)) ∧
    (∃ (s : State), (s.clk.holdover = false ∨ s.clk.inUse.isSome = true ∨ s.clk.safe = true)) ∧
    (∃ (s : State) (r : _), (s.clk.inUse = some r) ∧ (s.clk.safe = true) ∧ (s.clk.resuming = true) ∧ (s.coreLocked = true)) ∧
    (∃ (s : State), (s.clk.inUse = none ∨ s.clk.safe = false ∨ s.clk.resuming = false ∨ s.coreLocked = false)) ∧
    (∃ (s : State) (p : Fin 25), (s.clk.lock.getLsbD p = false ∨ s.clk.inUse = none ∨ s.clk.holdover = true ∨ s.vert.held p = true)) ∧
    (∃ (s : State) (p : Fin 25) (u : State), (s.clk.lock.getLsbD p = true) ∧ (s.clk.inUse.isSome = true) ∧ (s.clk.holdover = false) ∧ (s.vert.held p = false) ∧ (u = ((s.modClk fun c => { c with lock := c.lock &&& ~~~(1#25 <<< p.val), fosc := if p.val = 0 then 0 else c.fosc }).log 0x0C05 true false (w32 p) 0 0).clkEvt 4) ∧ (p.val = 0)) ∧
    (∃ (s : State) (p : Fin 25) (u : State), (s.clk.lock.getLsbD p = true) ∧ (s.clk.inUse.isSome = true) ∧ (s.clk.holdover = false) ∧ (s.vert.held p = false) ∧ (u = ((s.modClk fun c => { c with lock := c.lock &&& ~~~(1#25 <<< p.val), fosc := if p.val = 0 then 0 else c.fosc }).log 0x0C05 true false (w32 p) 0 0).clkEvt 4) ∧ (1 ≤ p.val) ∧ (p.val ≤ 4)) ∧
    (∃ (s : State) (p : Fin 25) (u : State), (s.clk.lock.getLsbD p = true) ∧ (s.clk.inUse.isSome = true) ∧ (s.clk.holdover = false) ∧ (s.vert.held p = false) ∧ (u = ((s.modClk fun c => { c with lock := c.lock &&& ~~~(1#25 <<< p.val), fosc := if p.val = 0 then 0 else c.fosc }).log 0x0C05 true false (w32 p) 0 0).clkEvt 4) ∧ (5 ≤ p.val) ∧ (p.val ≤ 6)) ∧
    (∃ (s : State) (p : Fin 25) (u : State), (s.clk.lock.getLsbD p = true) ∧ (s.clk.inUse.isSome = true) ∧ (s.clk.holdover = false) ∧ (s.vert.held p = false) ∧ (u = ((s.modClk fun c => { c with lock := c.lock &&& ~~~(1#25 <<< p.val), fosc := if p.val = 0 then 0 else c.fosc }).log 0x0C05 true false (w32 p) 0 0).clkEvt 4) ∧ (7 ≤ p.val) ∧ (p.val ≤ 22)) ∧
    (∃ (s : State) (p : Fin 25) (u : State) (g : _), (s.clk.lock.getLsbD p = true) ∧ (s.clk.inUse.isSome = true) ∧ (s.clk.holdover = false) ∧ (s.vert.held p = false) ∧ (u = ((s.modClk fun c => { c with lock := c.lock &&& ~~~(1#25 <<< p.val), fosc := if p.val = 0 then 0 else c.fosc }).log 0x0C05 true false (w32 p) 0 0).clkEvt 4) ∧ (23 ≤ p.val) ∧ ((List.range 16).find? (fun g => (u.groupAt g).pll.toNat = p.val - 22) = some g)) ∧
    (∃ (s : State) (p : Fin 25) (u : State), (s.clk.lock.getLsbD p = true) ∧ (s.clk.inUse.isSome = true) ∧ (s.clk.holdover = false) ∧ (s.vert.held p = false) ∧ (u = ((s.modClk fun c => { c with lock := c.lock &&& ~~~(1#25 <<< p.val), fosc := if p.val = 0 then 0 else c.fosc }).log 0x0C05 true false (w32 p) 0 0).clkEvt 4) ∧ (23 ≤ p.val) ∧ ((List.range 16).find? (fun g => (u.groupAt g).pll.toNat = p.val - 22) = none)) ∧
    (∃ (s : State) (n : Fin 56), ((s.slcAt n).closing = true) ∧ (s.slcIdle n = true)) ∧
    (∃ (s : State) (n : Fin 56), ((s.slcAt n).closing = true) ∧ (s.slcIdle n = false)) ∧
    (∃ (s : State) (n : Fin 56), ((s.slcAt n).closing = false)) ∧
    (∃ (s : State) (n : Fin 56), (n.val ≤ 10) ∧ (s.slcOpen n = false) ∧ (s.slcWork n = true) ∧ ((slcCtls n).all (fun m => (s.ctlAt m).pstate = .run) = true)) ∧
    (∃ (s : State) (n : Fin 56), (10 < n.val ∨ s.slcOpen n = true ∨ s.slcWork n = false ∨ (slcCtls n).all (fun m => (s.ctlAt m).pstate = .run) = false)) :=
  ⟨⟨dev, _, .a, by exact ⟨rfl, by decide +kernel⟩⟩,
   ⟨{ dev with clk.inUse := some .a, clk.validA := true }, _, .b, .a, by exact ⟨rfl, by decide +kernel, by decide +kernel⟩⟩,
   ⟨{ dev with clk.inUse := some .a, clk.validB := true }, _, .a, by exact ⟨rfl, by decide +kernel, by decide +kernel, by decide +kernel⟩⟩,
   ⟨{ dev with clk.inUse := some .a }, _, .b, .a, by exact ⟨rfl, by decide +kernel, by decide +kernel, by decide +kernel⟩⟩,
   ⟨dev, _, .a, by exact ⟨rfl, by decide +kernel⟩⟩,
   ⟨{ dev with clk.modeA := 1 }, _, .a, by exact ⟨rfl, by decide +kernel⟩⟩,
   ⟨{ dev with clk.validA := true, clk.validB := true }, 201, by decide +kernel⟩,
   ⟨dev, 0, by decide +kernel⟩,
   ⟨dev, 0, by decide +kernel⟩,
   ⟨{ dev with clk.sw := [{ mux := 0, target := 0 }] }, 0, { mux := 0, target := 0 }, _, by exact ⟨by decide +kernel, rfl⟩⟩,
   ⟨dev, 0, by decide +kernel⟩,
   ⟨{ dev with clk.inUse := some .a, clk.sw := [{ mux := 5, target := 0 }] }, 5, _, _, _, .a, by exact ⟨by decide +kernel, rfl, rfl, rfl, by decide +kernel⟩⟩,
   ⟨{ dev with clk.sw := [{ mux := 5, target := 0 }] }, 5, _, _, _, by exact ⟨by decide +kernel, rfl, rfl, rfl, by decide +kernel⟩⟩,
   ⟨{ dev with clk.holdover := true }, by decide +kernel⟩,
   ⟨dev, by decide +kernel⟩,
   ⟨{ dev with clk.inUse := some .a, clk.lock := 0x1F, clk.safe := true, clk.resuming := true }, .a, by decide +kernel⟩,
   ⟨dev, by decide +kernel⟩,
   ⟨dev, 0, by decide +kernel⟩,
   ⟨{ dev with clk.inUse := some .a, clk.lock := 1 }, 0, _, by exact ⟨by decide +kernel, by decide +kernel, by decide +kernel, by decide +kernel, rfl, by decide +kernel⟩⟩,
   ⟨{ dev with clk.inUse := some .a, clk.lock := 0x10 }, 4, _, by exact ⟨by decide +kernel, by decide +kernel, by decide +kernel, by decide +kernel, rfl, by decide +kernel, by decide +kernel⟩⟩,
   ⟨{ dev with clk.inUse := some .a, clk.lock := 0x20 }, 5, _, by exact ⟨by decide +kernel, by decide +kernel, by decide +kernel, by decide +kernel, rfl, by decide +kernel, by decide +kernel⟩⟩,
   ⟨{ dev with clk.inUse := some .a, clk.lock := 0x80 }, 7, _, by exact ⟨by decide +kernel, by decide +kernel, by decide +kernel, by decide +kernel, rfl, by decide +kernel, by decide +kernel⟩⟩,
   ⟨{ dev with clk.inUse := some .a, clk.lock := 0x800000, lnk.group := [(0, { pll := 1 })] }, 23, _, 0, by exact ⟨by decide +kernel, by decide +kernel, by decide +kernel, by decide +kernel, rfl, by decide +kernel, by decide +kernel⟩⟩,
   ⟨{ dev with clk.inUse := some .a, clk.lock := 0x800000 }, 23, _, by exact ⟨by decide +kernel, by decide +kernel, by decide +kernel, by decide +kernel, rfl, by decide +kernel, by decide +kernel⟩⟩,
   ⟨{ dev with clk.slc := [(10, { st := 2, closing := true })] }, 10, by decide +kernel⟩,
   ⟨{ dev with clk.slc := [(8, { st := 2, closing := true })], leat.node := [(383, { work := [{ dest := 0, src := 0, cmd := .read }] })] }, 8, by decide +kernel⟩,
   ⟨dev, 0, by decide +kernel⟩,
   ⟨{ dev with clk.slc := [(8, { st := 2 })], leat.node := [(383, { work := [{ dest := 0, src := 0, cmd := .read }] })] }, 8, by decide +kernel⟩,
   ⟨dev, 55, by decide +kernel⟩⟩

/-- Witnesses of the hypotheses of SleepAndWakeEventsAct. -/
theorem test_wit_SleepAndWakeEventsAct :
    (∃ (s : State) (d : Fin 64) (mv : Nat) (q : _), (s.pwr.changed.find? (fun q => q.dom = d.val) = some q)) ∧
    (∃ (s : State) (d : Fin 64) (mv : Nat), (s.pwr.changed.find? (fun q => q.dom = d.val) = none)) ∧
    (∃ (s : State) (q : Fin 8) (banks : List Nat), (s.domSt (2 + q.val) = .waking) ∧ (s.pwr.changed.any (fun r => r.dom = 2 + q.val) = false)) ∧
    (∃ (s : State) (q : Fin 8) (banks : List Nat), (s.domSt (2 + q.val) ≠ .waking ∨ s.pwr.changed.any (fun r => r.dom = 2 + q.val) = true)) ∧
    (∃ (s : State), (s.pwr.timer = 0)) ∧
    (∃ (s : State), (s.pwr.timer ≠ 0)) ∧
    (∃ (s : State), (s.pwr.dev ≠ .entering ∨ s.pwr.entry = none)) ∧
    (∃ (s u : State) (q : SleepReq), (s.pwr.dev = .entering) ∧ (s.pwr.entry = some q) ∧ (u = s.pwr.changed.foldl (fun (s : State) c => s.domEnd c) s) ∧ ((List.range 9).any (fun n => (slcCtls n).any (fun m => u.domRun (ctlDomain m)) && !u.slcIdle n) = true)) ∧
    (∃ (s u : State) (q : SleepReq) (v w : State) (dev : DevSt), (s.pwr.dev = .entering) ∧ (s.pwr.entry = some q) ∧ (u = s.pwr.changed.foldl (fun (s : State) c => s.domEnd c) s) ∧ ((List.range 9).any (fun n => (slcCtls n).any (fun m => u.domRun (ctlDomain m)) && !u.slcIdle n) = false) ∧ (v = (if q.st = 1 then u.domsDown false else (u.domsDown true).deepClocks)) ∧ (w = (if q.st = 3 then (((([10, 12, 13, 14, 15, 16, 17, 18, 19] : List Nat).foldl (fun (s : State) d => s.memLeave d .off) v).modPwr fun p => { p with pwrEn := false, railsGood := false }).emit (.pwrEn false)) else v)) ∧ (dev = (if q.st = 1 then .sleep else if q.st = 2 then .deep else .off))) ∧
    (∃ (s : State) (o : WakeObs), (s.pwr.dev ≠ .waking ∨ s.pwr.wake = none)) ∧
    (∃ (s : State) (w : Wake) (o : WakeObs), (s.pwr.dev = .waking) ∧ (s.pwr.wake = some w) ∧ (w.left = .off)) ∧
    (∃ (s : State) (w : Wake) (o : WakeObs), (s.pwr.dev = .waking) ∧ (s.pwr.wake = some w) ∧ (w.left = .thermal)) ∧
    (∃ (s : State) (w : Wake) (o : WakeObs), (s.pwr.dev = .waking) ∧ (s.pwr.wake = some w) ∧ (w.left ≠ .off) ∧ (w.left ≠ .thermal) ∧ (w.left ≠ .deep)) ∧
    (∃ (s : State) (w : Wake) (o : WakeObs) (failing : List Nat) (u : State), (s.pwr.dev = .waking) ∧ (s.pwr.wake = some w) ∧ (w.left = .deep) ∧ (failing = (o.banks.filter fun b => decide (b < 128) && (List.range 8).any fun i => (quadBanks (2 + i)).contains b && decide ((s.domAt (2 + i)).deepest = .deep))) ∧ (u = (deepPlls.foldl (fun (s : State) p => s.pllLock p) s).safeEnd)) :=
  ⟨⟨{ dev with pwr.changed := [⟨63, .off, none, 0⟩] }, 63, 750, ⟨63, .off, none, 0⟩, by decide +kernel⟩,
   ⟨dev, 63, 750, by decide +kernel⟩,
   ⟨{ dev with pwr.dom := [(9, { st := .waking })] }, 7, [], by decide +kernel⟩,
   ⟨dev, 7, [], by decide +kernel⟩,
   ⟨dev, by decide +kernel⟩,
   ⟨{ dev with pwr.timer := 1 }, by decide +kernel⟩,
   ⟨dev, by decide +kernel⟩,
   ⟨{ dev with pwr.dev := .entering, pwr.entry := some { st := 1, origin := none }, leat.node := [(383, { work := [{ dest := 0, src := 0, cmd := .read }] })] }, _, { st := 1, origin := none }, by exact ⟨by decide +kernel, by decide +kernel, rfl, by decide +kernel⟩⟩,
   ⟨{ dev with pwr.dev := .entering, pwr.entry := some { st := 1, origin := none } }, _, { st := 1, origin := none }, _, _, _, by exact ⟨by decide +kernel, by decide +kernel, rfl, by decide +kernel, rfl, rfl, rfl⟩⟩,
   ⟨dev, ⟨0, []⟩, by decide +kernel⟩,
   ⟨{ dev with pwr.dev := .waking, pwr.wake := some { src := 5, left := .off, origin := none } }, { src := 5, left := .off, origin := none }, ⟨0, []⟩, by decide +kernel⟩,
   ⟨{ dev with pwr.dev := .waking, pwr.wake := some { src := 5, left := .thermal, origin := none } }, { src := 5, left := .thermal, origin := none }, ⟨0, []⟩, by decide +kernel⟩,
   ⟨{ dev with pwr.dev := .waking, pwr.wake := some { src := 5, left := .sleep, origin := none } }, { src := 5, left := .sleep, origin := none }, ⟨0, []⟩, by decide +kernel⟩,
   ⟨{ dev with pwr.dev := .waking, pwr.wake := some { src := 5, left := .deep, origin := none } }, { src := 5, left := .deep, origin := none }, ⟨0, []⟩, _, _, by exact ⟨by decide +kernel, by decide +kernel, by decide +kernel, rfl, rfl⟩⟩⟩

/-- Witnesses of the hypotheses of ThermalEventsAct. -/
theorem test_wit_ThermalEventsAct :
    (∃ (s : State) (o : SensorObs) (u : State), (s.rst.st ≠ .dead) ∧ (u = ((((s.tickMs.sampleDiodes o.diodes).sampleHot.sampleTarget.sampleMon o.mv).railWatch.sampleRest o).orderlyStop).bistSample)) ∧
    (∃ (s : State) (o : SensorObs), (s.rst.st = .dead)) ∧
    (∃ (s u : State), (u = s.modThm (fun t => { t with stopMs := max t.stopMs 5 })) ∧ (s.thm.stopping = false)) ∧
    (∃ (s u : State), (u = s.modThm (fun t => { t with stopMs := max t.stopMs 5 })) ∧ (s.thm.stopping = true) ∧ (s.win.st = .running)) ∧
    (∃ (s u : State), (u = s.modThm (fun t => { t with stopMs := max t.stopMs 5 })) ∧ (s.thm.stopping = true) ∧ (s.win.st = .boundary)) ∧
    (∃ (s u : State), (u = s.modThm (fun t => { t with stopMs := max t.stopMs 5 })) ∧ (s.thm.stopping = true) ∧ (s.win.st = .held ∨ s.win.st = .notReleased ∨ (s.win.st = .ready ∧ s.win.edgeAccepted = false))) ∧
    (∃ (s u : State), (u = s.modThm (fun t => { t with stopMs := max t.stopMs 5 })) ∧ (s.thm.stopping = true) ∧ (s.win.st = .starting ∨ (s.win.st = .ready ∧ s.win.edgeAccepted = true))) ∧
    (∃ (s u : State) (d : BitVec 6), (d ≠ 0) ∧ (s.rst.st ≠ .dead) ∧ (u = s.dropThermalCap.modThm (fun t => { t with stopping := false, shdn := true, tripped := t.tripped ||| d })) ∧ (s.thm.shdn = false)) ∧
    (∃ (s u : State) (d : BitVec 6), (d ≠ 0) ∧ (s.rst.st ≠ .dead) ∧ (u = s.dropThermalCap.modThm (fun t => { t with stopping := false, shdn := true, tripped := t.tripped ||| d })) ∧ (s.thm.shdn = true)) ∧
    (∃ (s : State) (d : BitVec 6), (d = 0 ∨ s.rst.st = .dead)) :=
  ⟨⟨dev, { foscKhz := 50000, diodes := [], mv := [], amps := [], vccio := [] }, _, by exact ⟨by decide +kernel, rfl⟩⟩,
   ⟨{ dev with rst.st := .dead }, { foscKhz := 50000, diodes := [], mv := [], amps := [], vccio := [] }, by decide +kernel⟩,
   ⟨dev, _, by exact ⟨rfl, by decide +kernel⟩⟩,
   ⟨{ devRun with thm.stopping := true }, _, by exact ⟨rfl, by decide +kernel, by decide +kernel⟩⟩,
   ⟨{ dev with thm.stopping := true, win.st := .boundary }, _, by exact ⟨rfl, by decide +kernel, by decide +kernel⟩⟩,
   ⟨{ dev with thm.stopping := true }, _, by exact ⟨rfl, by decide +kernel, by decide +kernel⟩⟩,
   ⟨{ dev with thm.stopping := true, win.st := .starting }, _, by exact ⟨rfl, by decide +kernel, by decide +kernel⟩⟩,
   ⟨dev, _, 63, by exact ⟨by decide +kernel, by decide +kernel, rfl, by decide +kernel⟩⟩,
   ⟨{ dev with thm.shdn := true }, _, 63, by exact ⟨by decide +kernel, by decide +kernel, rfl, by decide +kernel⟩⟩,
   ⟨dev, 0, by decide +kernel⟩⟩

/-- Witnesses of the hypotheses of ResetEventsAct. -/
theorem test_wit_ResetEventsAct :
    (∃ (s u : State), (u = s.modRst (fun r => { r with resetN := true })) ∧ (s.rst.st = .dead)) ∧
    (∃ (s u : State), (u = s.modRst (fun r => { r with resetN := true })) ∧ (s.rst.st = .held ∨ s.rst.st = .quiescing)) ∧
    (∃ (s u : State), (u = s.modRst (fun r => { r with resetN := true })) ∧ (s.rst.st ≠ .dead) ∧ (s.rst.st ≠ .held) ∧ (s.rst.st ≠ .quiescing)) ∧
    (∃ (s : State), (s.rst.deviceReset = true) ∧ (s.rst.st ≠ .dead) ∧ (s.rst.st ≠ .held) ∧ (s.rst.st ≠ .quiescing)) ∧
    (∃ (s : State), (s.rst.deviceReset = false ∨ s.rst.st = .dead ∨ s.rst.st = .held ∨ s.rst.st = .quiescing)) ∧
    (∃ (s : State) (ctls l : List Nat), (l = (ctls.filter fun m => decide (m < 40)).eraseDups) ∧ (s.rst.st = .quiescing)) ∧
    (∃ (s : State) (ctls l : List Nat), (l = (ctls.filter fun m => decide (m < 40)).eraseDups) ∧ (s.rst.st ≠ .quiescing)) ∧
    (∃ (s : State) (w cool : Bool), (s.rst.st = .dead ∨ s.rst.resetN = false)) ∧
    (∃ (s : State) (w cool : Bool) (u v : State), (s.rst.st ≠ .dead) ∧ (s.rst.resetN = true) ∧ (u = (s.modRst fun r => { r with resetN := false }).modWin (fun x => { x with winMstr := w, modeReg := if w then 2 else 0, mode := if w then 2 else 0 })) ∧ (v = (if s.thm.shdn = true ∧ cool = true then (u.modThm fun t => { t with shdn := false }).modRst fun r => { r with cause := .trip } else u))) ∧
    (∃ (s : State), (s.rst.st = .dead ∨ s.pwr.pwrEn = false ∨ s.pwr.railsGood = true)) ∧
    (∃ (s : State) (u : State), (s.rst.st ≠ .dead) ∧ (s.pwr.pwrEn = true) ∧ (s.pwr.railsGood = false) ∧ (u = s.modPwr (fun p => { p with railsGood := true, railMs := 0 })) ∧ (s.pwr.dev = .waking ∧ (∃ w, s.pwr.wake = some w ∧ w.left = .off) ∧ s.rst.st = .none)) ∧
    (∃ (s : State) (u : State), (s.rst.st ≠ .dead) ∧ (s.pwr.pwrEn = true) ∧ (s.pwr.railsGood = false) ∧ (u = s.modPwr (fun p => { p with railsGood := true, railMs := 0 })) ∧ (s.pwr.dev ≠ .waking ∨ (∀ w, s.pwr.wake = some w → w.left ≠ .off) ∨ s.rst.st ≠ .none)) ∧
    (∃ (s : State) (q : Forced), (s.rst.forced = some q) ∧ (q.released = false)) ∧
    (∃ (s : State) (q : Forced) (u v : State), (s.rst.forced = some q) ∧ (q.released = true) ∧ (u = s.forcedEnd q) ∧ (v = u.modWin (fun w => { w with paused := false }))) ∧
    (∃ (s : State), (s.rst.forced = none)) :=
  ⟨⟨{ dev with rst.st := .dead }, _, by exact ⟨rfl, by decide +kernel⟩⟩,
   ⟨{ dev with rst.st := .held }, _, by exact ⟨rfl, by decide +kernel⟩⟩,
   ⟨dev, _, by exact ⟨rfl, by decide +kernel, by decide +kernel, by decide +kernel⟩⟩,
   ⟨{ dev with rst.deviceReset := true }, by decide +kernel⟩,
   ⟨dev, by decide +kernel⟩,
   ⟨{ dev with rst.st := .quiescing }, [39, 40], _, by exact ⟨rfl, by decide +kernel⟩⟩,
   ⟨dev, [], _, by exact ⟨rfl, by decide +kernel⟩⟩,
   ⟨{ dev with rst.st := .dead }, true, true, by decide +kernel⟩,
   ⟨{ dev with rst.st := .held }, true, true, _, _, by exact ⟨by decide +kernel, by decide +kernel, rfl, rfl⟩⟩,
   ⟨dev, by decide +kernel⟩,
   ⟨{ dev with pwr.railsGood := false, pwr.dev := .waking, pwr.wake := some { src := 5, left := .off, origin := none } }, _, by exact ⟨by decide +kernel, by decide +kernel, by decide +kernel, rfl, by decide +kernel⟩⟩,
   ⟨{ dev with pwr.railsGood := false }, _, by exact ⟨by decide +kernel, by decide +kernel, by decide +kernel, rfl, by decide +kernel⟩⟩,
   ⟨{ dev with rst.forced := some { origin := og } }, { origin := og }, by decide +kernel⟩,
   ⟨{ dev with rst.forced := some { origin := og, released := true } }, { origin := og, released := true }, _, _, by exact ⟨by decide +kernel, by decide +kernel, rfl, rfl⟩⟩,
   ⟨dev, by decide +kernel⟩⟩

/-- Witnesses of the hypotheses of StepExecutesTheFrontCommand. -/
theorem test_wit_StepExecutesTheFrontCommand :
    (∃ (s : State), (s.pending = [])) :=
  ⟨dev, by decide +kernel⟩

/-- Witnesses of the hypotheses of EveryStepKeepsTheInvariants. -/
theorem test_wit_EveryStepKeepsTheInvariants :
    (∃ (s t : State), (s.memWf) ∧ (s.rowsWf) ∧ (s.lk.legal) ∧ (step s = .next t)) :=
  ⟨dev, dev, by exact ⟨by simp only [State.memWf]; decide +kernel, by simp only [State.rowsWf]; decide +kernel, by simp only [LkState.legal]; decide +kernel, rfl⟩⟩

/-- Witnesses of the hypotheses of RequestsAreJudgedInOrder. -/
theorem test_wit_RequestsAreJudgedInOrder :
    (∃ (s : State) (r : Req), (s.lk.inService = false)) ∧
    (∃ (s : State) (r : Req), (s.lk.inService = true) ∧ (s.lk.memOps = []) ∧ (r.badLength = true)) ∧
    (∃ (s : State) (r : Req), (s.lk.inService = true) ∧ (s.lk.memOps = []) ∧ (r.badLength = false) ∧ (s.sec.recovery = true)) ∧
    (∃ (s : State) (r : Req), (s.lk.inService = true) ∧ (s.lk.memOps = []) ∧ (r.badLength = false) ∧ (s.sec.recovery = false) ∧ (r.length ≠ 2)) ∧
    (∃ (s : State) (r : Req), (s.lk.inService = true) ∧ (s.lk.memOps = []) ∧ (r.badLength = false) ∧ (s.sec.recovery = false) ∧ (r.length = 2) ∧ (s.isOwner r.port = false)) ∧
    (∃ (s : State) (r : Req), (s.lk.inService = true) ∧ (s.lk.memOps = []) ∧ (r.badLength = false) ∧ (s.sec.recovery = false) ∧ (r.length = 2) ∧ (s.isOwner r.port = true) ∧ (r.flags ≠ 0)) :=
  ⟨⟨State.reset, rq [], by decide +kernel⟩,
   ⟨dev, { rq [] with length := 3 }, by decide +kernel⟩,
   ⟨{ dev with sec.recovery := true }, rq [], by decide +kernel⟩,
   ⟨dev, rq [0], by decide +kernel⟩,
   ⟨dev, { rq [] with port := .pf1 }, by decide +kernel⟩,
   ⟨dev, { rq [] with flags := 8 }, by decide +kernel⟩⟩

/-- Witnesses of the hypotheses of ACommittedReplyStandsInTheMailbox. -/
theorem test_wit_ACommittedReplyStandsInTheMailbox :
    (∃ (s : State) (r : Req) (opcode status : Nat) (own : Own) (payload : List W32), (r.port = .pf0) ∧ (s.lk.owner = 1)) ∧
    (∃ (s : State) (r : Req) (opcode status : Nat) (own : Own) (payload : List W32), (r.port = .pf0) ∧ (s.lk.owner ≠ 1)) ∧
    (∃ (s : State) (r : Req) (opcode status : Nat) (own : Own) (payload : List W32), (r.port = .pf0) ∧ (own = .anyone)) :=
  ⟨⟨dev, rq [], 0, 0, .owner, [], by decide +kernel⟩,
   ⟨{ dev with lk.owner := 4 }, rq [], 0, 0, .owner, [], by decide +kernel⟩,
   ⟨dev, rq [], 0, 0, .anyone, [], by decide +kernel⟩⟩

/-- Witnesses of the hypotheses of LogEntriesAreQueuedDroppedOrDisplace. -/
theorem test_wit_LogEntriesAreQueuedDroppedOrDisplace :
    (∃ (s : State) (code : Nat) (int fault : Bool) (p0 p1 p2 : W32), (s.lk.log.queue.length < 512)) ∧
    (∃ (s : State) (code : Nat) (int fault : Bool) (p0 p1 p2 : W32), (512 ≤ s.lk.log.queue.length) ∧ (fault = false)) ∧
    (∃ (s : State) (code : Nat) (int fault : Bool) (p0 p1 p2 : W32), (512 ≤ s.lk.log.queue.length) ∧ (fault = true) ∧ ((s.lk.log.queue.any fun e => !e.fault) = true)) :=
  ⟨⟨{ dev with lk.log.queue := List.replicate 511 {} }, 0, false, false, 0, 0, 0, by decide +kernel⟩,
   ⟨{ dev with lk.log.queue := List.replicate 512 {} }, 0, false, false, 0, 0, 0, by decide +kernel⟩,
   ⟨{ dev with lk.log.queue := List.replicate 512 {} }, 0, false, true, 0, 0, 0, by decide +kernel⟩⟩

/-- Witnesses of the hypotheses of EventBitsRaiseTheirVector. -/
theorem test_wit_EventBitsRaiseTheirVector :
    (∃ (s : State) (f : Func) (v : Nat), ((s.host.func f).msixEn = true) ∧ ((s.host.func f).msixMask.getLsbD v = false) ∧ (s.host.linkUp = true) ∧ ((s.host.func f).bme = true) ∧ ((s.host.func f).d3hot = false)) ∧
    (∃ (s : State) (f : Func) (v : Nat), (v < 32) ∧ ((s.host.func f).msixEn = false ∨ (s.host.func f).msixMask.getLsbD v = true ∨ s.host.linkUp = false ∨ (s.host.func f).bme = false ∨ (s.host.func f).d3hot = true)) ∧
    (∃ (s : State) (w v i : Nat) (evt en : BitVec w), (i < w) ∧ (en.getLsbD i = true) ∧ (evt.getLsbD i = false)) ∧
    (∃ (s : State) (w v i : Nat) (evt en : BitVec w), (i < w) ∧ (en.getLsbD i = false ∨ evt.getLsbD i = true)) :=
  ⟨⟨{ dev with host.linkUp := true, host.pf0.msixEn := true, host.pf0.msixMask := 0, host.pf0.bme := true, host.pf0.d3hot := false }, .pf0, 31, by decide +kernel⟩,
   ⟨dev, .pf0, 31, by decide +kernel⟩,
   ⟨dev, 8, 0, 7, 0, 0x80, by decide +kernel⟩,
   ⟨dev, 8, 0, 7, 0, 0, by decide +kernel⟩⟩

/-- Witnesses of the hypotheses of TheLightCodeCorrectsOneBit. -/
theorem test_wit_TheLightCodeCorrectsOneBit :
    (∃ (d : Word18) (i : Nat), (i < 24)) :=
  ⟨0x3FFFF, 23, by decide +kernel⟩

/-- Witnesses of the hypotheses of TheGoverningTemperatureIsTheHighestValid. -/
theorem test_wit_TheGoverningTemperatureIsTheHighestValid :
    (∃ (s : State) (d : Nat), (d < 6) ∧ ((s.diodeAt d).valid = true)) ∧
    (∃ (s : State), ((∀ d, d < 6 → (s.diodeAt d).valid = false))) ∧
    (∃ (s : State), (s.thm.hot = 7)) :=
  ⟨⟨{ dev with thm.diode := [(5, { valid := true })] }, 5, by decide +kernel⟩,
   ⟨dev, by decide +kernel⟩,
   ⟨dev, by decide +kernel⟩⟩

/-- Witnesses of the hypotheses of AFirmwareSlotPassesOnlyIfEveryCheckHolds. -/
theorem test_wit_AFirmwareSlotPassesOnlyIfEveryCheckHolds :
    (∃ (t : Tab Byte) (body : Nat), (fwFormat t body = true)) ∧
    (∃ (s : State), (s.bootCause s.sec.fwNamed = none)) ∧
    (∃ (s : State) (c : Nat), (s.bootCause s.sec.fwNamed = some c) ∧ (s.bootCause (~~~s.sec.fwNamed) = none)) :=
  ⟨⟨[(0, 0x80), (1, 0x20), (2, 0x4B), (3, 0x4C), (4, 1)], 0, by decide +kernel⟩,
   ⟨dev, by decide +kernel⟩,
   ⟨{ dev with sec.fwOk0 := false }, 0, by decide +kernel⟩⟩

/-- Witnesses of the hypotheses of TheOwnerMayHandOverOrRelease. -/
theorem test_wit_TheOwnerMayHandOverOrRelease :
    (∃ (s : State) (r : Req), (s.takes r .owner (r.length = 3)) ∧ (1 ≤ (r.p 0).toNat) ∧ ((r.p 0).toNat ≤ 4)) ∧
    (∃ (s : State) (r : Req), (s.takes r .owner (r.length = 3)) ∧ ((r.p 0).toNat = 0 ∨ 5 ≤ (r.p 0).toNat)) ∧
    (∃ (s : State) (r : Req), (s.takes r .owner (r.length = 2))) :=
  ⟨⟨dev, rq [4], by simp only [State.takes]; decide +kernel⟩,
   ⟨dev, rq [5], by simp only [State.takes]; decide +kernel⟩,
   ⟨dev, rq [], by simp only [State.takes]; decide +kernel⟩⟩

/-- Witnesses of the hypotheses of AWarmResetKeepsAndClears. -/
theorem test_wit_AWarmResetKeepsAndClears :
    (∃ (s : State), (s.rst.st = .quiescing) ∧ (s.rst.resetN = true)) :=
  ⟨{ dev with rst.st := .quiescing }, by decide +kernel⟩

end Sys2Proof.Tests
end

section
/-! SUPPORT. What the events of the stack's crossings do, one equation for each case of an operation: splice shadows and fallback
packets (04 R79, R85 to R87), vertical channels (01 R18 to R20) and clock couplers (01 R23). They settle O20. -/
namespace Sys2Proof.Machine

/-! ### Splice shadows (04 R79) -/

/-- The receiver of a due shadow takes the copy. -/
theorem exec_spliceShadowTakeover_of_due {s : State} {c : Nat} (hst : (s.spl.chanAt c).st = .shadowed)
    (hdue : (s.spl.chanAt c).due = true) :
    exec (.spliceShadowTakeover c) s = .next (s.modSpl fun x => x.putChan c { x.chanAt c with taken := true }) := by
  change execSpliceShadowTakeover c s = _
  simp only [execSpliceShadowTakeover, State.modSpl, hst, hdue, and_self, if_true]

/-! ### Fallback packets (04 R85 to R87, 08 R183) -/

/-- A receiving interface after it took a fallback packet: the next tag is due, and the units go back unless it is isolated. -/
def NodeRec.fallbackTaken (p : Packet) (x : NodeRec) : NodeRec :=
  { x with rxFb := x.rxFb.erase p, fbNext := (x.fbNext + 1) % 128,
           resp := x.resp ++ if x.isolated then [] else [creditOf p] }

/-- Two changes that agree on a node's record change the state alike. -/
theorem State.modNode_congr {s : State} {n : Nat} {f g : NodeRec → NodeRec} (h : f (s.nodeAt n) = g (s.nodeAt n)) :
    s.modNode n f = s.modNode n g :=
  congrArg (fun x => s.modLeat fun l => { l with node := tset l.node {} n x }) h

/-- Taking the packet and, unless the interface is isolated, answering with its units is one change of the interface. -/
theorem State.modNode_fallbackTaken (s : State) (n : Nat) (p : Packet) :
    (if (s.nodeAt n).isolated = true then
        s.modNode n fun x => { x with rxFb := x.rxFb.erase p, fbNext := (x.fbNext + 1) % 128 }
      else (s.modNode n fun x => { x with rxFb := x.rxFb.erase p, fbNext := (x.fbNext + 1) % 128 }).modNode n fun x =>
        { x with resp := x.resp ++ [creditOf p] }) = s.modNode n (NodeRec.fallbackTaken p) := by
  cases hiso : (s.nodeAt n).isolated with
  | true => exact State.modNode_congr (by simp [NodeRec.fallbackTaken, hiso])
  | false => exact (State.modNode_modNode ..).trans (State.modNode_congr (by simp [NodeRec.fallbackTaken, hiso]))

/-- The packet that is next in order is taken by the interface, and its values are stored. -/
theorem exec_fallbackPacketReceive_of_next {s : State} {path : Fin 160} {dir : Fin 2} {p : Packet}
    (hrun : s.nodeStill (fbReceiver path dir) = false)
    (hnext : (s.nodeAt (fbReceiver path dir)).rxFb.find?
      (fun p => p.tag = (s.nodeAt (fbReceiver path dir)).fbNext) = some p) :
    exec (.fallbackPacketReceive path dir) s =
      .next ((s.modNode (fbReceiver path dir) (NodeRec.fallbackTaken p)).modSpl fun x =>
        x.storeFallback path dir (s.fbTurn p.addr) (p.words.map (·.data))) := by
  change execFallbackPacketReceive path dir s = _
  simp only [execFallbackPacketReceive, hrun, hnext, Bool.false_eq_true, if_false, State.nodeAt_modNode, if_true,
    State.modNode_fallbackTaken]
  rfl

/-! ### Vertical channels (01 R18 to R20) -/

section Vertical
variable {s : State} {v : VChan} {frame : BitVec 56}

/-- A channel without a spare is not declared failed again. -/
theorem State.vFail_of_bare (h : (s.vert.chanRec v).bare = true) : s.vFail v = s := by
  simp only [State.vFail, h, if_true]

theorem State.vFail_of_headgate (h : (s.vert.chanRec v).bare = false) (hk : v.kind = .headgate) :
    s.vFail v = s.vHeadgate (s.vert.chanRec v) := by
  simp only [State.vFail, h, hk, Bool.false_eq_true, if_false, if_true]

/-- The failure is logged and the channel given the lowest free spare; a spare that carried it is given up. -/
theorem State.vFail_of_freeSpare {k : Nat} (h : (s.vert.chanRec v).bare = false) (hk : v.kind ≠ .headgate)
    (hspare : s.vert.freeSpare v = some k) :
    s.vFail v = (s.log 0x0401 false false (vP0 v k) (w32 v.ch.val) 0).modVert fun t =>
      t.put { s.vert.chanRec v with
        failed := true, rejects := 0, spare := some k, shadowing := false, swapped := false, late := s.pastItem .c,
        spent := (s.vert.chanRec v).spent ++ (s.vert.chanRec v).spare.toList } := by
  simp only [State.vFail, h, hk, hspare, Bool.false_eq_true, if_false]

theorem State.vFail_of_noSpare (h : (s.vert.chanRec v).bare = false) (hk : v.kind ≠ .headgate)
    (hspare : s.vert.freeSpare v = none) : s.vFail v = s.vNoSpare (s.vert.chanRec v) := by
  simp only [State.vFail, h, hk, hspare, Bool.false_eq_true, if_false]

theorem exec_verticalFrameReceive (hp : v.present = true) (good : Bool) :
    exec (.verticalFrameReceive v frame good) s = .next (s.vFrame v frame good) := by
  change execVerticalFrameReceive v frame good s = _
  rw [execVerticalFrameReceive, if_pos hp]

/-- A good frame ends a resend. -/
theorem State.vFrame_good : s.vFrame v frame true =
    s.modVert fun t => t.put { (s.vert.chanRec v).sent frame with resend := false } := rfl

/-- Without a spare, or moved, a rejected frame is resent and not counted. -/
theorem State.vFrame_rejected_of_bare_or_moved
    (h : ((s.vert.chanRec v).sent frame).bare = true ∨ ((s.vert.chanRec v).sent frame).moved = true) :
    s.vFrame v frame false =
      s.modVert fun t => t.put { (s.vert.chanRec v).sent frame with resend := true } := by
  simp only [State.vFrame, h, Bool.false_eq_true, if_false, if_true]

/-- Otherwise it is counted and resent, and the third of a window declares the channel failed. -/
theorem State.vFrame_rejected (hb : ((s.vert.chanRec v).sent frame).bare = false)
    (hm : ((s.vert.chanRec v).sent frame).moved = false) :
    s.vFrame v frame false =
      if ((s.vert.chanRec v).sent frame).rejects + 1 < 3 then
        s.modVert fun t => t.put { (s.vert.chanRec v).sent frame with
          rejects := ((s.vert.chanRec v).sent frame).rejects + 1, resend := true }
      else (s.modVert fun t => t.put { (s.vert.chanRec v).sent frame with
          rejects := ((s.vert.chanRec v).sent frame).rejects + 1, resend := true }).vFail v := by
  simp only [State.vFrame, hb, hm, Bool.false_eq_true, or_self, if_false]

theorem exec_frameAlignmentLoss (hp : v.present = true) (hm : (s.vert.chanRec v).moved = false) :
    exec (.frameAlignmentLoss v) s = .next (s.vFail v) := by
  change execFrameAlignmentLoss v s = _
  rw [execFrameAlignmentLoss, if_pos ⟨hp, by rw [hm]; rfl⟩]

/-- A failed channel is duplicated onto the spare it was given. -/
theorem exec_verticalShadowStart_of_failed (hf : (s.vert.chanRec v).failed = true)
    (hspare : (s.vert.chanRec v).spare.isSome = true) (hw : (s.vert.chanRec v).swapped = false) :
    exec (.verticalShadowStart v) s = .next (s.modVert fun t => t.put { s.vert.chanRec v with shadowing := true }) := by
  change execVerticalShadowStart v s = _
  simp only [execVerticalShadowStart, hf, hspare, hw, Bool.not_false, and_self, if_true]

end Vertical

/-! ### Clock couplers (01 R23) -/

section Couplers
variable {s : State} {k : Fin 6} {i : Nat}

theorem State.modVert_modVert (f g : VerticalState → VerticalState) :
    (s.modVert f).modVert g = s.modVert fun v => g (f v) := rfl

theorem exec_clockCouplerFail_sill_standby (hk : k.val < 4) (h : s.vert.sillA.getD k.val .failed = .standby) :
    exec (.clockCouplerFail k) s =
      .next ((s.modVert fun v => { v with sillA := v.sillA.set k.val .failed }).log 0x0C0A false false 0 (w32 k.val) 0) := by
  change execClockCouplerFail k s = _
  simp only [execClockCouplerFail, hk, decide_true, if_true, h]

theorem exec_clockCouplerFail_sill_active (hk : k.val < 4) (h : s.vert.sillA.getD k.val .failed = .active) :
    exec (.clockCouplerFail k) s =
      .next (s.modVert fun v => { v with sillA := v.sillA.set k.val .failed, switchA := v.switchA + 1 }) := by
  change execClockCouplerFail k s = _
  simp only [execClockCouplerFail, hk, decide_true, if_true, h, State.modVert_modVert]

theorem exec_clockCouplerFail_tier_standby (hk : 4 ≤ k.val) (h : s.vert.ab.getD (k.val - 4) .failed = .standby) :
    exec (.clockCouplerFail k) s =
      .next ((s.modVert fun v => { v with ab := v.ab.set (k.val - 4) .failed }).log 0x0C0A false false 1 (w32 (k.val - 4)) 0) := by
  change execClockCouplerFail k s = _
  simp only [execClockCouplerFail, hk.not_gt, decide_false, Bool.false_eq_true, if_false, h]

theorem exec_clockCouplerFail_tier_active (hk : 4 ≤ k.val) (h : s.vert.ab.getD (k.val - 4) .failed = .active) :
    exec (.clockCouplerFail k) s =
      .next (s.modVert fun v => { v with ab := v.ab.set (k.val - 4) .failed, switchB := true }) := by
  change execClockCouplerFail k s = _
  simp only [execClockCouplerFail, hk.not_gt, decide_false, Bool.false_eq_true, if_false, h, State.modVert_modVert]

/-- The first standby into Tier A takes over. -/
theorem exec_clockCouplerSwitch_sill_standby (hs : s.vert.switchA ≠ 0)
    (h : s.vert.sillA.findIdx? (· = .standby) = some i) :
    exec (.clockCouplerSwitch false) s = .next ((s.modVert fun v =>
      { v with switchA := v.switchA - 1, sillA := v.sillA.set i .active }).log 0x0C0A false false 0 (w32 i) 0) := by
  change execClockCouplerSwitch false s = _
  simp only [execClockCouplerSwitch, h, hs, Bool.false_eq_true, if_false, ne_eq, not_false_eq_true, decide_true, Bool.not_true,
    State.modVert_modVert]
  rfl

/-- With no coupler into Tier A left, its PLLs hold over and the clocks stop. -/
theorem exec_clockCouplerSwitch_sill_lost (hs : s.vert.switchA ≠ 0)
    (h : s.vert.sillA.findIdx? (· = .standby) = none) (ha : s.vert.sillA.any (· = .active) = false) :
    exec (.clockCouplerSwitch false) s = .next ((s.modVert fun v =>
      { v with switchA := v.switchA - 1, holdA := true }).clockStop (stopCoupler 0)) := by
  change execClockCouplerSwitch false s = _
  simp only [execClockCouplerSwitch, h, ha, hs, Bool.false_eq_true, if_false, ne_eq, not_false_eq_true, decide_true, Bool.not_true,
    State.couplersLost, State.modVert_modVert]

/-- The standby from Tier A to Tier B takes over. -/
theorem exec_clockCouplerSwitch_tier_standby (hs : s.vert.switchB = true)
    (h : s.vert.ab.findIdx? (· = .standby) = some i) :
    exec (.clockCouplerSwitch true) s = .next ((s.modVert fun v =>
      { v with switchB := false, ab := v.ab.set i .active }).log 0x0C0A false false 1 (w32 i) 0) := by
  change execClockCouplerSwitch true s = _
  simp only [execClockCouplerSwitch, h, hs, if_true, Bool.not_true, Bool.false_eq_true, if_false, State.modVert_modVert]
  rfl

/-- With no coupler to Tier B left, its PLLs hold over and the clocks stop. -/
theorem exec_clockCouplerSwitch_tier_lost (hs : s.vert.switchB = true)
    (h : s.vert.ab.findIdx? (· = .standby) = none) (ha : s.vert.ab.any (· = .active) = false) :
    exec (.clockCouplerSwitch true) s = .next ((s.modVert fun v =>
      { v with switchB := false, holdB := true }).clockStop (stopCoupler 1)) := by
  change execClockCouplerSwitch true s = _
  simp only [execClockCouplerSwitch, h, ha, hs, if_true, Bool.not_true, Bool.false_eq_true, if_false, State.couplersLost,
    State.modVert_modVert]

end Couplers

/-! ### The obligation -/

/-- Settles O20: each clause is the equation of its event for that case. A rejected frame and a loss of alignment come down to the
cases of `State.vFail`, a fallback packet to one change of the receiving interface. -/
theorem spliceAndVerticalEventsAct : Obligations.SpliceAndVerticalEventsAct := by
  unfold Obligations.SpliceAndVerticalEventsAct
  refine ⟨fun s c => exec_spliceShadowTakeover_of_due, ?fallback, ?frame, ?alignment,
    fun s v => exec_verticalShadowStart_of_failed,
    fun s k hk => ⟨exec_clockCouplerFail_sill_standby hk, exec_clockCouplerFail_sill_active hk⟩,
    fun s k hk => ⟨exec_clockCouplerFail_tier_standby hk, exec_clockCouplerFail_tier_active hk⟩,
    fun s hs => ⟨fun i => exec_clockCouplerSwitch_sill_standby hs, exec_clockCouplerSwitch_sill_lost hs⟩,
    fun s hs => ⟨fun i => exec_clockCouplerSwitch_tier_standby hs, exec_clockCouplerSwitch_tier_lost hs⟩⟩
  case fallback =>
    intro s path dir p hrun hnext
    have hnode := s.nodeAt_modNode (fbReceiver path dir) (f := NodeRec.fallbackTaken p)
    have hself := (hnode (fbReceiver path dir)).trans (if_pos rfl)
    exact ⟨_, exec_fallbackPacketReceive_of_next hrun hnext, rfl, congrArg NodeRec.rxFb hself, congrArg NodeRec.fbNext hself,
      congrArg NodeRec.resp hself, fun k hk => (hnode k).trans (if_neg hk), rfl⟩
  case frame =>
    rintro s v frame r hp rfl
    simp only [exec_verticalFrameReceive hp]
    exact ⟨congrArg _ State.vFrame_good, fun h => congrArg _ (State.vFrame_rejected_of_bare_or_moved h),
      fun hb hm hn => congrArg _ ((State.vFrame_rejected hb hm).trans (if_pos hn)),
      fun hb hm hn => congrArg _ ((State.vFrame_rejected hb hm).trans (if_neg hn.not_gt))⟩
  case alignment =>
    intro s v hp hm
    rw [exec_frameAlignmentLoss hp hm]
    exact ⟨fun h => congrArg _ (State.vFail_of_bare h), fun h hk => congrArg _ (State.vFail_of_headgate h hk),
      fun k h hk hspare => congrArg _ (State.vFail_of_freeSpare h hk hspare),
      fun h hk hspare => congrArg _ (State.vFail_of_noSpare h hk hspare)⟩

end Sys2Proof.Machine
end

section
/-! SUPPORT. What the events of the fabric do, one equation for each case of an operation: a configuration upset (02 R32, R42), the
end and the length of a stall (05 R113, R116, R117), the frames of an I/O bank (05 R119) and the entries of a free-running bank (12
R308, R309). They settle O19. -/
namespace Sys2Proof.Machine

/-! ### Configuration upsets (02 R32, R42) -/

/-- What a key reads as after a write that takes place only where `keep` is false. -/
theorem tget_ite_tset {α : Type} [DecidableEq α] {t : Tab α} {d v : α} {k j : Nat} {keep : Bool} :
    tget (if keep = true then t else tset t d k v) d j = if j = k ∧ keep = false then v else tget t d j := by
  cases keep with
  | true => simp
  | false => simp [tget_tset]

/-- An upset flips its bit, and a flip-flop that is out of use in the word that results holds the reset value in it. -/
theorem exec_configurationUpset_of_lt {s : State} {knot : Nat} {strand : Fin 8} {bit : Fin 160} {w : BitVec 160}
    (hk : knot < 20971520) (hw : w = tget s.fab.latch 0 (knot * 8 + strand.val) ^^^ (1#160 <<< bit.val)) :
    exec (.configurationUpset knot strand bit) s = .next (s.modFab fun f =>
      { f with
        latch := tset f.latch 0 (knot * 8 + strand.val) w
        qa := if kInUse w 120 = true then f.qa else tset f.qa false (knot * 8 + strand.val) (w.getLsbD 126)
        qb := if kInUse w 128 = true then f.qb else tset f.qb false (knot * 8 + strand.val) (w.getLsbD 134) }) := by
  subst hw
  change execConfigurationUpset knot strand bit s = _
  rw [execConfigurationUpset, if_neg hk.not_ge]

/-! ### Stalls (05 R113, R116, R117) -/

section Stalls
variable {s : State} {x : Stall}

/-- A device that runs alone leaves its stall when nothing keeps it up. -/
theorem exec_stallEnd_alone (ha : s.inArray = false) (hr : s.win.st = .running) (hx : s.win.stall.isSome = true)
    (hm : s.mustStall = false) : exec .stallEnd s = .next s.endStall := by
  change execStallEnd s = _
  simp [execStallEnd, ha, hr, hx, hm]

/-- In an array the device first resumes what it named itself. -/
theorem exec_stallEnd_array (ha : s.inArray = true) (hr : s.win.st = .running) (hx : s.win.stall.isSome = true)
    (hm : s.resumeOwn.mustStall = false) : exec .stallEnd s = .next s.resumeOwn.endStall := by
  have hr' : s.resumeOwn.win.st = .running := hr
  have hx' : s.resumeOwn.win.stall.isSome = true := hx
  change execStallEnd s = _
  simp [execStallEnd, ha, hr', hx', hm]

/-- A stall that has just become long is logged and marked. -/
theorem exec_longStall_of_new (hx : s.win.stall = some x) (hl : x.long = false) (hlim : s.win.stallLimit ≠ 0) :
    exec .longStall s = .next (((s.log 0x0205 true false (w32 x.due.turn) 0 0).winEvt 5).modWin fun w =>
      { w with stall := some { x with long := true } }) := by
  have hnew : ¬(x.long = true ∨ s.win.stallLimit = 0) := not_or.2 ⟨ne_true_of_eq_false hl, hlim⟩
  change execLongStall s = _
  simp only [execLongStall, hx, if_neg hnew]

/-- A stall already marked long, or with no limit set, is not logged. -/
theorem exec_longStall_of_marked_or_no_limit (hx : s.win.stall = some x) (h : x.long = true ∨ s.win.stallLimit = 0) :
    exec .longStall s = .next s := by
  change execLongStall s = _
  simp only [execLongStall, hx, if_pos h]

end Stalls

/-! ### Output frames of an I/O bank (05 R119) -/

/-- The state after a frame of an I/O bank has reached the Sill. -/
def State.frameArrives (f : OutFrame) (s : State) : State :=
  s.modIo fun io => { io with frames := io.frames.map fun x => if x = f then { x with here := true } else x }

section Frames
variable {s : State} {b : Fin 20} {f : OutFrame}

/-- The oldest frame on its way arrives; one behind its turn is late. -/
theorem exec_ioOutputFrame_of_some (hf : s.io.frames.find? (fun f => f.bank = b.val && !f.here) = some f) :
    exec (.ioOutputFrame b) s = .next
      (if f.due < s.win.turnCount then (s.frameArrives f).logLate (.ioBank b) 0 else s.frameArrives f) := by
  change execIoOutputFrame b s = _
  simp only [execIoOutputFrame, hf]
  rfl

/-- With no frame on its way nothing happens. -/
theorem exec_ioOutputFrame_of_none (hf : s.io.frames.find? (fun f => f.bank = b.val && !f.here) = none) :
    exec (.ioOutputFrame b) s = .next s := by
  change execIoOutputFrame b s = _
  simp only [execIoOutputFrame, hf]

end Frames

/-! ### Entries of a free-running bank (12 R308, R309) -/

section FreeRunning
variable {s : State} {b : Fin 20} {bits e : Nat} {l : List Nat}

/-- A drop into an input FIFO is logged when it is the bank's first in the window. -/
theorem State.frDrop_input (s : State) (b : Nat) :
    s.frDrop b false = if s.io.inDrop.contains b = true then s
      else (s.log 0x0B02 false false (w32 b) 0 0).modIo fun io => { io with inDrop := b :: io.inDrop } := rfl

/-- A live free-running bank queues the entry, or drops it when its FIFO is full. -/
theorem exec_frInputEntry_of_live (hl : s.bankLive b = true) (hf : s.bankFree b = true) :
    exec (.frInputEntry b bits) s = .next
      (if 512 ≤ (tget s.io.inF [] b.val).length then s.frDrop b false
      else s.modIo fun io =>
        { io with inF := tmod io.inF [] b.val fun l => l ++ [bits % 2 ^ frBits (s.bankCfg b)] }) := by
  change execFrInputEntry b bits s = _
  simp [execFrInputEntry, hl, hf]

/-- The pins of a live free-running bank take the oldest entry. -/
theorem exec_frOutputEntry_of_cons (hl : s.bankLive b = true) (hf : s.bankFree b = true)
    (he : tget s.io.outF [] b.val = e :: l) :
    exec (.frOutputEntry b) s =
      .next ((s.modIo fun io => { io with outF := tset io.outF [] b.val l }).emit (.frEntry b e)) := by
  change execFrOutputEntry b s = _
  simp [execFrOutputEntry, hl, hf, he]

/-- With no entry waiting the pins take none. -/
theorem exec_frOutputEntry_of_nil (hl : s.bankLive b = true) (hf : s.bankFree b = true)
    (he : tget s.io.outF [] b.val = []) : exec (.frOutputEntry b) s = .next s := by
  change execFrOutputEntry b s = _
  simp [execFrOutputEntry, hl, hf, he]

/-- The pins of a bank that is not live, or not free-running, fill no entry. -/
theorem exec_frInputEntry_of_off (h : s.bankLive b = false ∨ s.bankFree b = false) :
    exec (.frInputEntry b bits) s = .next s := by
  change execFrInputEntry b bits s = _
  simp [execFrInputEntry, h]

/-- The pins of a bank that is not live, or not free-running, take no entry. -/
theorem exec_frOutputEntry_of_off (h : s.bankLive b = false ∨ s.bankFree b = false) :
    exec (.frOutputEntry b) s = .next s := by
  change execFrOutputEntry b s = _
  simp [execFrOutputEntry, h]

end FreeRunning

/-! ### The obligation -/

/-- Settles O19: each clause is the equation of its event for that case. What an upset leaves in the tables of the latches and the
flip-flops is what a key reads as after a write. -/
theorem fabricEventsAct : Obligations.FabricEventsAct := by
  unfold Obligations.FabricEventsAct
  refine ⟨?upset, fun s => exec_stallEnd_alone, fun s => exec_stallEnd_array,
    fun s x hx => ⟨exec_longStall_of_new hx, exec_longStall_of_marked_or_no_limit hx⟩, ?frame,
    fun s b => exec_ioOutputFrame_of_none, ?input,
    fun s b hl hf => ⟨fun e l => exec_frOutputEntry_of_cons hl hf, exec_frOutputEntry_of_nil hl hf⟩,
    fun s b bits h => ⟨exec_frInputEntry_of_off h, exec_frOutputEntry_of_off h⟩⟩
  case upset =>
    intro s knot strand bit w hk hw
    exact ⟨_, exec_configurationUpset_of_lt hk hw, fun k => tget_tset, fun k => tget_ite_tset, fun k => tget_ite_tset, rfl⟩
  case frame =>
    intro s b f hf
    rw [exec_ioOutputFrame_of_some hf]
    exact ⟨fun h => congrArg _ (if_neg h.not_gt), fun h => congrArg _ (if_pos h)⟩
  case input =>
    intro s b bits hl hf
    rw [exec_frInputEntry_of_live hl hf, State.frDrop_input]
    refine ⟨fun h => congrArg _ (if_neg h.not_ge), fun h hd => ?_, fun h hd => ?_⟩
    · rw [if_pos h, if_neg (ne_true_of_eq_false hd)]
    · rw [if_pos h, if_pos hd]

end Sys2Proof.Machine
end

section
/-! SUPPORT. What the ends of pulses and turns leave in the flip-flops (03 R55, R57, R58): the values that a pulse makes pending, and
those that the commit of a turn takes. They settle O18. -/
namespace Sys2Proof.Machine

/-- A key that the writes name, always with the same value, reads as that value. -/
theorem tget_tsetAll_of_agree {α : Type} [DecidableEq α] {d v : α} {k : Nat} {l : List (Nat × α)} {t : Tab α}
    (hmem : (k, v) ∈ l) (hall : ∀ e ∈ l, e.1 = k → e.2 = v) : tget (tsetAll d t l) d k = v := by
  induction l generalizing t with
  | nil => cases hmem
  | cons e l ih =>
    change tget (tsetAll d (tset t d e.1 e.2) l) d k = v
    by_cases hl : (k, v) ∈ l
    · exact ih hl fun x hx => hall x (List.mem_cons_of_mem _ hx)
    · obtain rfl : (k, v) = e := (List.mem_cons.1 hmem).resolve_right hl
      rw [tget_tsetAll_other, tget_tset_same]
      exact fun x hx hk => hl (hall x (List.mem_cons_of_mem _ hx) hk ▸ hk ▸ hx)

/-- A key that does not read as the default is listed. -/
theorem exists_mem_of_tget_ne {α : Type} {t : Tab α} {d : α} {k : Nat} (h : tget t d k ≠ d) : ∃ e ∈ t, e.1 = k := by
  induction t with
  | nil => exact absurd rfl h
  | cons e t ih =>
    by_cases hk : e.1 = k
    · exact ⟨e, List.mem_cons_self, hk⟩
    · obtain ⟨x, hx, hxk⟩ := ih (by simpa only [tget, if_neg hk] using h)
      exact ⟨x, List.mem_cons_of_mem _ hx, hxk⟩

/-! ### The end of a pulse (03 R57) -/

variable {s : State} {wrong : List Nat} {k : Nat}

/-- A knot of a running plot whose latch of the current strand is not zero takes part in the pulse. -/
theorem State.mem_liveKnots (hl : tget s.fab.latch 0 (k * 8 + s.win.strand) ≠ 0) (ht : s.win.strand < 8)
    (hp : s.plotRuns (k / 4096) = true) : k ∈ s.liveKnots := by
  obtain ⟨e, he, hk⟩ := exists_mem_of_tget_ne hl
  refine List.mem_map.2 ⟨e, List.mem_filter.2 ⟨he, ?_⟩, by omega⟩
  have hstrand : e.1 % 8 = s.win.strand := by omega
  have hplot : e.1 / 32768 = k / 4096 := by omega
  rw [hplot, hp, decide_eq_true hstrand]
  rfl

/-- The pending values that a pulse leaves, by strand key; b is 120 for QA, 128 for QB. -/
def State.pulsePends (s : State) (wrong : List Nat) (b : Nat) : List (Nat × Option Bool) :=
  (s.liveKnots.filter fun k => kInUse (s.fab.latchAt k s.win.strand) b).map fun k =>
    (k * 8 + s.win.strand, some (s.dValue wrong k b))

theorem State.pulseKnots_pendA : (s.pulseKnots wrong).fab.pendA = tsetAll none s.fab.pendA (s.pulsePends wrong 120) := rfl

theorem State.pulseKnots_pendB : (s.pulseKnots wrong).fab.pendB = tsetAll none s.fab.pendB (s.pulsePends wrong 128) := rfl

/-- After the writes of a pulse, a flip-flop in use of a live knot has the value of its D source pending. -/
theorem State.tget_pulsePends {b : Nat} {t : Tab (Option Bool)} (hk : k ∈ s.liveKnots)
    (hu : kInUse (s.fab.latchAt k s.win.strand) b = true) :
    tget (tsetAll none t (s.pulsePends wrong b)) none (k * 8 + s.win.strand) = some (s.dValue wrong k b) := by
  refine tget_tsetAll_of_agree (List.mem_map.2 ⟨k, List.mem_filter.2 ⟨hk, hu⟩, rfl⟩) fun e he heq => ?_
  obtain ⟨j, -, rfl⟩ := List.mem_map.1 he
  obtain rfl : j = k := by simp only at heq; omega
  rfl

/-! ### The commit of a turn (03 R58) -/

/-- The latch entry `e` lets its flip-flop take its pending value at the commit; b is 120 for QA, 128 for QB. -/
def State.commits (s : State) (b : Nat) (e : Nat × BitVec 160) : Bool :=
  s.fab.srFree && ((kInUse e.2 b && s.patternValue (e.1 / 32768) (e.2.toNat >>> (b + 2) % 16)) &&
    (decide (e.1 % 8 < s.fab.turnLen) && s.plotRuns (e.1 / 32768)))

/-- What the commit writes. -/
def State.turnTakes (s : State) (b : Nat) : List (Nat × Bool) :=
  (s.fab.latch.filter (s.commits b)).map fun e => (e.1, s.pendValue b e.1)

/-- The commit writes what the flip-flops take, nothing while it is shut, and leaves nothing pending. -/
theorem State.commitTurn_eq (s : State) :
    s.commitTurn = s.modFab fun f =>
      { f with
        qa := tsetAll false f.qa (s.turnTakes 120)
        qb := tsetAll false f.qb (s.turnTakes 128)
        pendA := []
        pendB := [] } := by
  cases h : s.fab.srFree with
  | false =>
    have hnone (b : Nat) : s.turnTakes b = [] := by simp [State.turnTakes, State.commits, h]
    simp only [State.commitTurn, h, hnone, Bool.not_false, if_true]
    rfl
  | true =>
    have hsome (b : Nat) : s.turnTakes b = ((s.fab.latch.filter fun e => decide (e.1 % 8 < s.fab.turnLen) &&
        s.plotRuns (e.1 / 32768)).filter fun e => kInUse e.2 b && s.patternValue (e.1 / 32768)
          (e.2.toNat >>> (b + 2) % 16)).map fun e => (e.1, s.pendValue b e.1) := by
      rw [List.filter_filter, State.turnTakes]
      exact congrArg _ (List.filter_congr fun e _ => by rw [State.commits, h, Bool.true_and])
    simp only [State.commitTurn, h, hsome, Bool.not_true, Bool.false_eq_true, if_false]

theorem State.commitTurn_qa (s : State) : s.commitTurn.fab.qa = tsetAll false s.fab.qa (s.turnTakes 120) := by
  rw [State.commitTurn_eq]; rfl

theorem State.commitTurn_qb (s : State) : s.commitTurn.fab.qb = tsetAll false s.fab.qb (s.turnTakes 128) := by
  rw [State.commitTurn_eq]; rfl

/-- The commit changes the fabric alone, and leaves nothing pending. -/
theorem State.commitTurn_frame (s : State) :
    s.commitTurn.fab.pendA = [] ∧ s.commitTurn.fab.pendB = [] ∧ s.commitTurn = { s with fab := s.commitTurn.fab } := by
  rw [State.commitTurn_eq]
  exact ⟨rfl, rfl, rfl⟩

variable {b : Nat} {t : Tab Bool}

/-- A flip-flop in use whose entry is 1, of a running plot and a strand below the turn length, holds its pending value after the
writes of an open commit. -/
theorem State.tget_turnTakes {e : Nat × BitVec 160} (hs : s.fab.srFree = true) (he : e ∈ s.fab.latch)
    (hl : e.1 % 8 < s.fab.turnLen) (hp : s.plotRuns (e.1 / 32768) = true) (hu : kInUse e.2 b = true)
    (hv : s.patternValue (e.1 / 32768) (e.2.toNat >>> (b + 2) % 16) = true) :
    tget (tsetAll false t (s.turnTakes b)) false e.1 = s.pendValue b e.1 := by
  have hc : s.commits b e = true := by simp [State.commits, hs, hl, hp, hu, hv]
  refine tget_tsetAll_of_agree (List.mem_map.2 ⟨e, List.mem_filter.2 ⟨he, hc⟩, rfl⟩) fun x hx hk => ?_
  obtain ⟨y, -, rfl⟩ := List.mem_map.1 hx
  exact congrArg (s.pendValue b) hk

/-- A flip-flop that no listed latch lets take a value is not written. -/
theorem State.tget_turnTakes_other (h : s.fab.srFree = false ∨ ∀ e ∈ s.fab.latch, e.1 = k → s.fab.turnLen ≤ k % 8 ∨
      s.plotRuns (k / 32768) = false ∨ kInUse e.2 b = false ∨
      s.patternValue (k / 32768) (e.2.toNat >>> (b + 2) % 16) = false) :
    tget (tsetAll false t (s.turnTakes b)) false k = tget t false k := by
  refine tget_tsetAll_other fun x hx hk => ?_
  obtain ⟨e, he, rfl⟩ := List.mem_map.1 hx
  obtain ⟨hmem, hc⟩ := List.mem_filter.1 he
  simp only [State.commits, Bool.and_eq_true, decide_eq_true_eq] at hc
  obtain ⟨hs, ⟨hu, hv⟩, hl, hp⟩ := hc
  rcases h with h | h
  · exact absurd hs (ne_true_of_eq_false h)
  · obtain rfl : e.1 = k := hk
    have h := h e hmem rfl
    simp [hl.not_ge, hp, hu, hv] at h

theorem State.pendValue_of_pendA {v : Bool} (h : tget s.fab.pendA none k = some v) : s.pendValue 120 k = v := by
  simp [State.pendValue, h]

theorem State.pendValue_of_pendB {v : Bool} (h : tget s.fab.pendB none k = some v) : s.pendValue 128 k = v := by
  simp [State.pendValue, h]

/-! ### The obligation -/

/-- Settles O18: the writes of a pulse and of a commit name a flip-flop with one value each, whatever latch entry they come from. -/
theorem turnEndCommitsEveryFlipFlopAtOnce : Obligations.TurnEndCommitsEveryFlipFlopAtOnce := by
  unfold Obligations.TurnEndCommitsEveryFlipFlopAtOnce
  refine ⟨?pulse, ?taken, fun s k v => ⟨State.pendValue_of_pendA, State.pendValue_of_pendB⟩, ?keptA, ?keptB,
    State.commitTurn_frame⟩
  case pulse =>
    intro s wrong k hl ht hp
    rw [State.pulseKnots_pendA, State.pulseKnots_pendB]
    exact ⟨State.tget_pulsePends (State.mem_liveKnots hl ht hp), State.tget_pulsePends (State.mem_liveKnots hl ht hp)⟩
  case taken =>
    intro s e hs he hl hp
    rw [State.commitTurn_qa, State.commitTurn_qb]
    exact ⟨State.tget_turnTakes hs he hl hp, State.tget_turnTakes hs he hl hp⟩
  case keptA =>
    intro s k h
    rw [State.commitTurn_qa, State.tget_turnTakes_other h]
  case keptB =>
    intro s k h
    rw [State.commitTurn_qb, State.tget_turnTakes_other h]

end Sys2Proof.Machine
end

section
/-! SUPPORT. What PULSE does, one equation for each case (03 R48, R55, R66, 04 R83, 05 R113 to R118). They settle O17. -/
namespace Sys2Proof.Machine

variable {s : State} {o : PulseObs}

/-! ### What the steps before a pulse leave -/

theorem State.inputsCome_nil (h : o.came = []) : s.inputsCome o = s := by
  rw [State.inputsCome, h, List.foldl_nil]

@[simp] theorem State.inputsCome_lnk (s : State) (o : PulseObs) : (s.inputsCome o).lnk = s.lnk :=
  List.foldlRecOn (motive := fun t : State => t.lnk = s.lnk) o.came _ rfl fun _ ih _ _ => ih

@[simp] theorem State.winEvt_lnk (s : State) (i : Nat) : (s.winEvt i).lnk = s.lnk := by simp [State.winEvt]

@[simp] theorem State.logLate_lnk (s : State) (src : LateSrc) (n : Nat) : (s.logLate src n).lnk = s.lnk := by
  simp [State.logLate]

@[simp] theorem State.endStall_lnk (s : State) : s.endStall.lnk = s.lnk := by
  cases h : s.win.stall with
  | none => simp only [State.endStall, h]
  | some x =>
    simp only [State.endStall, h]
    exact List.foldlRecOn (motive := fun t : State => t.lnk = s.lnk) x.srcs _ rfl fun t ih src _ => (t.logLate_lnk src _).trans ih

/-! ### One pulse period of a running window (05 R113 to R118) -/

/-- The state in which a pulse is judged: samples held up have come, and in an array what this device named and is now complete is
resumed. -/
def State.atPulse (o : PulseObs) (s : State) : State :=
  if (s.inputsCome o).inArray then (s.inputsCome o).resumeOwn else s.inputsCome o

theorem State.inputsCome_inArray (s : State) (o : PulseObs) : (s.inputsCome o).inArray = s.inArray := by
  simp only [State.inArray, State.inputsCome_lnk]

theorem State.atPulse_alone (ha : s.inArray = false) : s.atPulse o = s.inputsCome o :=
  if_neg (by simp [State.inputsCome_inArray, ha])

theorem State.atPulse_array (ha : s.inArray = true) : s.atPulse o = (s.inputsCome o).resumeOwn :=
  if_pos (by simp [State.inputsCome_inArray, ha])

/-- A stall holds the pulse; else the stall that stood ends, and the pulse waits for its slots and neighbours, or executes. -/
theorem State.pulse_eq (o : PulseObs) (s : State) :
    s.pulse o =
      if (s.atPulse o).mustStall then
        (if (s.atPulse o).win.stall.isSome then s.atPulse o else (s.atPulse o).beginStall).heldPulse
      else if !(s.atPulse o).endStall.slotsReady ∨ !(s.atPulse o).endStall.paced then
        ((s.atPulse o).endStall.cstPulseEnd []).modWin fun w => { w with slotWait := true, slotNow := satInc w.slotNow }
      else ((s.atPulse o).endStall.modWin fun w => { w with slotWait := false }).pulseRun o := rfl

/-- A device that runs alone waits for no slot. -/
theorem State.slotsReady_alone (ha : s.inArray = false) : s.slotsReady = true := by
  have h : s.lnk.array ≠ .joined := of_decide_eq_false ha
  simp [State.slotsReady, h]

/-- A device that runs alone waits for no neighbour. -/
theorem State.paced_alone (ha : s.inArray = false) : s.paced = true := by simp [State.paced, ha]

theorem exec_pulse_running (hr : s.win.st = .running) (hc : s.fab.clockStop = []) :
    exec (.pulse o) s = .next (s.pulse o) := by
  change execPulse o s = _
  rw [execPulse, if_pos ⟨hr, by rw [hc]; rfl⟩]

section Running
variable (hr : s.win.st = .running) (hc : s.fab.clockStop = [])
include hr hc

/-- A delivery or notice that is due begins a stall, and the pulse is held. -/
theorem exec_pulse_stalls (hm : (s.atPulse o).mustStall = true) (hx : (s.atPulse o).win.stall = none) :
    exec (.pulse o) s = .next (s.atPulse o).beginStall.heldPulse := by
  rw [exec_pulse_running hr hc, State.pulse_eq, if_pos hm, hx]
  rfl

/-- While the stall stands, the pulse is held. -/
theorem exec_pulse_stalled (hm : (s.atPulse o).mustStall = true) (hx : (s.atPulse o).win.stall.isSome = true) :
    exec (.pulse o) s = .next (s.atPulse o).heldPulse := by
  rw [exec_pulse_running hr hc, State.pulse_eq, if_pos hm, if_pos hx]

/-- With its slots there and its neighbours paced, the pulse executes. -/
theorem exec_pulse_executes (hm : (s.atPulse o).mustStall = false) (hs : (s.atPulse o).endStall.slotsReady = true)
    (hp : (s.atPulse o).endStall.paced = true) :
    exec (.pulse o) s = .next (((s.atPulse o).endStall.modWin fun w => { w with slotWait := false }).pulseRun o) := by
  rw [exec_pulse_running hr hc, State.pulse_eq, if_neg (ne_true_of_eq_false hm), if_neg (by simp [hs, hp])]

/-- A slot that is not there, or a neighbour that is not paced, is waited for, and counted as a slot wait (log entry 79). -/
theorem exec_pulse_waits (hm : (s.atPulse o).mustStall = false)
    (hw : (s.atPulse o).endStall.slotsReady = false ∨ (s.atPulse o).endStall.paced = false) :
    exec (.pulse o) s = .next (((s.atPulse o).endStall.cstPulseEnd []).modWin fun w =>
      { w with slotWait := true, slotNow := satInc w.slotNow }) := by
  rw [exec_pulse_running hr hc, State.pulse_eq, if_neg (ne_true_of_eq_false hm), if_pos (by simpa using hw)]

/-- Out of an array a pulse that no delivery stalls executes (log entry 44). -/
theorem exec_pulse_executes_alone (ha : s.inArray = false) (hm : (s.atPulse o).mustStall = false) :
    exec (.pulse o) s = .next (((s.atPulse o).endStall.modWin fun w => { w with slotWait := false }).pulseRun o) := by
  have halone : (s.atPulse o).endStall.inArray = false := by
    rw [← ha, State.atPulse_alone ha]
    simp only [State.inArray, State.endStall_lnk, State.inputsCome_lnk]
  exact exec_pulse_executes hr hc hm (State.slotsReady_alone halone) (State.paced_alone halone)

end Running

/-! ### After a pulse (03 R55) -/

theorem State.pulseRun_nextStrand (h : (s.pulseBody o).win.strand + 1 < (s.pulseBody o).fab.turnLen) :
    s.pulseRun o = (s.pulseBody o).modWin fun w => { w with strand := w.strand + 1 } := if_pos h

theorem State.pulseRun_turnEnd (h : (s.pulseBody o).fab.turnLen ≤ (s.pulseBody o).win.strand + 1) :
    s.pulseRun o = (s.pulseBody o).turnEnd := if_neg h.not_gt

/-! ### A pulse period in which no window runs, or a clock stop stands (03 R66, 04 R83) -/

theorem exec_pulse_still (h : s.win.st ≠ .running ∨ s.fab.clockStop ≠ []) :
    exec (.pulse o) s =
      .next (if s.gated then s else if s.img.load.isSome then s.loadRefresh o else s.heldActs) := by
  change execPulse o s = _
  rw [execPulse, if_neg]
  rintro ⟨hr, hc⟩
  exact h.elim (· hr) (· (List.isEmpty_iff.1 hc))

/-! ### The obligation -/

/-- Settles O17: each clause is the equation of PULSE for that case, read at the state in which the pulse is judged. -/
theorem pulseExecutesOneStrand : Obligations.PulseExecutesOneStrand := by
  unfold Obligations.PulseExecutesOneStrand
  refine ⟨?noInputs, ?alone, ?array, fun s o => ⟨State.pulseRun_nextStrand, State.pulseRun_turnEnd⟩, ?still⟩
  case noInputs =>
    intro s o hr hc ha hcame
    have hat : s.atPulse o = s := (State.atPulse_alone ha).trans (State.inputsCome_nil hcame)
    have hruns := exec_pulse_executes_alone (o := o) hr hc ha
    have hstalls := exec_pulse_stalls (o := o) hr hc
    have hstalled := exec_pulse_stalled (o := o) hr hc
    rw [hat] at hruns hstalls hstalled
    exact ⟨hruns, hstalls, hstalled⟩
  case alone =>
    intro s o hr hc ha
    rw [← State.atPulse_alone ha]
    exact exec_pulse_executes_alone hr hc ha
  case array =>
    intro s o hr hc ha
    rw [← State.atPulse_array ha]
    exact ⟨exec_pulse_stalls hr hc, exec_pulse_stalled hr hc, exec_pulse_executes hr hc, exec_pulse_waits hr hc⟩
  case still =>
    intro s o h
    rw [exec_pulse_still h]
    refine ⟨fun hg => ?_, fun hg hl => ?_, fun hg hl => ?_⟩
    · rw [if_pos hg]
    · rw [if_neg (ne_true_of_eq_false hg), if_pos hl]
    · rw [if_neg (ne_true_of_eq_false hg), hl]
      rfl

end Sys2Proof.Machine
end

section
/-! SUPPORT. What each controller, link and key slot holds after power-on reset. They settle O48. -/
namespace Sys2Proof.Machine

/-- Every memory controller holds its reset record (07 R164). -/
theorem State.reset_ctlAt (m : Nat) : State.reset.ctlAt m = {} := tget_nil _ m

/-- Every link holds its reset record. -/
theorem State.reset_linkAt (i : Nat) : State.reset.linkAt i = {} := tget_nil _ i

/-- Every key slot holds its reset record (log entry 4). -/
theorem State.reset_keySlot (i : Nat) : State.reset.sec.slot i = {} := by
  match i with
  | 0 | 1 | 2 | _ + 3 => rfl

/-- Settles O48: the single fields hold their reset values, and every controller, link and key slot its reset record. -/
theorem resetHoldsTheStatedValues : Obligations.ResetHoldsTheStatedValues := by
  unfold Obligations.ResetHoldsTheStatedValues
  refine ⟨rfl, rfl, rfl, rfl, rfl, rfl, rfl, rfl, rfl, rfl, fun m => ?_, fun i => ?_, rfl, fun i => ?_⟩
  · rw [State.reset_ctlAt]
    exact ⟨rfl, rfl⟩
  · rw [State.reset_linkAt]
    rfl
  · rw [State.reset_keySlot]

end Sys2Proof.Machine
end

section
/-! SUPPORT. What the sensor, splice and log commands reply once the Lockkeeper takes them (04 R90, R91, 13 R323, 14 R360). They
settle O8. -/
namespace Sys2Proof.Machine

variable {s s' : State} {r : Req} {own : Own} {ok : Bool} {op : Nat} {body : State → Res} {payload : List W32}

/-- The reply of a command that is taken and whose own checks pass (13 R344). -/
theorem State.serveCmd_of_takes_of_ok (h : s.takes r own ok) (hbody : body s = .ok s' payload) :
    s.serveCmd r op own ok body = s'.commit r op own stOk false payload := by
  simp only [State.serveCmd, serve_takes h, hbody]

/-- A new epoch of free values changes nothing that the Lockkeeper looks at before it takes a request. -/
theorem State.takes_freshen (h : s.takes r own ok) : s.freshen.takes r own ok := h

/-! ### Sensors and splices -/

theorem exec_sensorRead_of_takes (h : s.takes r .anyone (r.length = 2)) :
    exec (.sensorRead r) s = .next (s.commit r 0x0600 .anyone stOk false s.sensorWords) := by
  change execSensorRead r s = _
  rw [execSensorRead, State.serveCmd_of_takes_of_ok h rfl]

theorem exec_spliceSummary_of_takes (h : s.takes r .anyone (r.length = 2)) :
    exec (.spliceSummary r) s = .next (s.commit r 0x0601 .anyone stOk false
      [w32 (655360 - spareTaken s.spl.spare 0), w32 (655360 - spareTaken s.spl.spare 1), w32 (40960 - spareTaken s.spl.pool 0),
        w32 (40960 - spareTaken s.spl.pool 1),
        w32 (s.spl.pairsIn .fallback).length ||| at_ (s.spl.pair.filter fun e => e.2.frozen).length 16, s.spl.weakCnt, s.spl.verrCnt,
        w32 s.spl.minPool.1 ||| at_ (pairPx s.spl.minPool.2) 8 ||| at_ (pairPy s.spl.minPool.2) 16]) := by
  change execSpliceSummary r s = _
  rw [execSpliceSummary, State.serveCmd_of_takes_of_ok h rfl]

theorem exec_splicePair_of_takes (h : s.takes r .anyone (r.length = 4)) (hx : (r.p 0).toNat ≤ 63) (hy : (r.p 1).toNat ≤ 39) :
    exec (.splicePair r) s = .next (s.commit r 0x0602 .anyone stOk false
      (s.pairHead (64 * (r.p 1).toNat + (r.p 0).toNat)
        ++ ((List.range 256).map fun g => s.spl.groupWord ((64 * (r.p 1).toNat + (r.p 0).toNat) * 256 + g))
        ++ (List.range 32).map fun i => s.spl.poolWord (64 * (r.p 1).toNat + (r.p 0).toNat) (i / 16) (i % 16))) := by
  have hpair : ¬ (63 < (r.p 0).toNat ∨ 39 < (r.p 1).toNat) := by omega
  change execSplicePair r s = _
  rw [execSplicePair, State.serveCmd_of_takes_of_ok h (if_neg hpair)]

/-! ### The log -/

theorem exec_logRead_of_takes (h : s.takes r .anyone (r.length = 4)) (hmin : 1 ≤ (r.p 1).toNat) (hmax : (r.p 1).toNat ≤ 127) :
    exec (.logRead r) s = .next (s.commit r 0x0603 .anyone stOk false
      ((((s.lk.log.read (r.p 0).toNat (r.p 1).toNat).head?).map (·.index)).getD (r.p 0)
        :: w32 (s.lk.log.read (r.p 0).toNat (r.p 1).toNat).length
        :: (s.lk.log.read (r.p 0).toNat (r.p 1).toNat).flatMap LogEntry.words)) := by
  have hcount : ¬ ((r.p 1).toNat = 0 ∨ 127 < (r.p 1).toNat) := by omega
  change execLogRead r s = _
  rw [execLogRead, State.serveCmd_of_takes_of_ok h (if_neg hcount)]

/-- LOG_INFO is served in a new epoch of free values, which stand for the indices while no entry is held (log entry 135). -/
theorem exec_logInfo_of_takes (h : s.takes r .anyone (r.length = 2)) :
    exec (.logInfo r) s = .next (s.freshen.commit r 0x0604 .anyone stOk false
      [((s.lk.log.held.getLast?).map (·.index)).getD (Config.freeWord s.freshen.fresh 0),
        ((s.lk.log.held.head?).map (·.index)).getD (Config.freeWord s.freshen.fresh 1), s.lk.log.dropped,
        w32 s.lk.log.queue.length]) := by
  change execLogInfo r s = _
  rw [execLogInfo, State.serveCmd_of_takes_of_ok (State.takes_freshen h) rfl]
  rfl

/-! ### The obligation -/

/-- Settles O8: each clause is the equation of its command for a request that is taken with its parameters in range. -/
theorem logAndSpliceCommandsAnswer : Obligations.LogAndSpliceCommandsAnswer := by
  unfold Obligations.LogAndSpliceCommandsAnswer
  exact ⟨fun s r => exec_sensorRead_of_takes, fun s r => exec_spliceSummary_of_takes, fun s r => exec_splicePair_of_takes,
    fun s r => exec_logRead_of_takes, fun s r => exec_logInfo_of_takes⟩

end Sys2Proof.Machine
end

section
/-! SUPPORT. What the BAR0 rows of window, memory, Leat, Flume and release registers do: the offset and the judgement that each row
comes down to (12 R294), then the register it reaches (05 R120, 07 R160, R164, 08 R189, R191, R194, R206, 09 R226, 10 R258). They
settle O30. -/
namespace Sys2Proof.Machine

variable {s : State} {f : Func} {be : BitVec 4} {off m r c : Nat} {v : W32}

/-! ### The judgement of an access (12 R294, R297) -/

theorem State.bar0Write_of_shut (h : s.funcOpen f = false) : s.bar0Write f be off v = s := by
  simp only [State.bar0Write, h, Bool.not_false, if_true]

theorem State.bar0Read_of_shut (h : s.funcOpen f = false) : s.bar0Read f be off = s := by
  simp only [State.bar0Read, h, Bool.not_false, if_true]

theorem State.bar0Write_of_dropped {kind : Nat} {err : BitVec 3} (ho : s.funcOpen f = true)
    (hj : s.csrJudge f be off = some (kind, err)) : s.bar0Write f be off v = s.csrDrop f kind off err := by
  simp only [State.bar0Write, ho, hj, Bool.not_true, Bool.false_eq_true, if_false]

/-- Function 0 of the owner writes whole words of any block in Run. -/
theorem State.bar0Write_of_owner (ho : s.funcOpen .pf0 = true) (hown : s.lk.owner = 1) (hrun : s.offAt off = false) :
    s.bar0Write .pf0 15 off v = s.regWrite off v := by
  simp [State.bar0Write, State.csrJudge, ho, hown, hrun]

/-- A read of a block in Run latches what belongs to it, and answers with the register as it was. -/
theorem State.bar0Read_of_run (ho : s.funcOpen f = true) (hrun : s.offAt off = false) :
    s.bar0Read f be off = (s.readLatch off).emit (.bar0Read f (bytesAsked be (s.regAt f.port off))) := by
  simp only [State.bar0Read, State.csrRead, ho, hrun, Bool.not_true, Bool.false_eq_true, if_false]

/-- The registers below Flume, of memory, and from the window on are never off. -/
theorem State.offAt_of_alwaysOn (h : off < 0x400000 ∨ 0x1000000 ≤ off ∧ off < 0x1810000 ∨ 0x1811000 ≤ off) :
    s.offAt off = false := by
  have hdom : offDomain off = none := by simp (disch := omega) only [offDomain, if_neg]
  simp only [State.offAt, hdom]

/-- Flume and what the Leat shares stand in the Sill core. -/
theorem State.offAt_of_sillCore (h : 0x400000 ≤ off ∧ off < 0x800000 ∨ 0xE00000 ≤ off ∧ off < 0x1000000)
    (hrun : s.domRun 1 = true) : s.offAt off = false := by
  have hdom : offDomain off = some 1 := by
    rcases h with h | h <;> simp (disch := omega) only [offDomain, if_neg, if_pos]
  simp only [State.offAt, hdom, hrun, Bool.not_true]

/-! ### Window (05 R120) -/

theorem exec_winStampRead_of_open (ho : s.funcOpen f = true) :
    exec (.winStampRead f be) s = .next ((s.modWin fun w =>
      { w with stamp1 := s.stamp.words.getD 1 0, stamp2 := s.stamp.words.getD 2 0 }).emit
        (.bar0Read f (bytesAsked be (s.stamp.words.getD 0 0)))) :=
  congrArg Host.Outcome.next (State.bar0Read_of_run ho (State.offAt_of_alwaysOn (by decide)))

theorem exec_winCntLoRead_of_open (ho : s.funcOpen f = true) :
    exec (.winCntLoRead f be) s = .next ((s.modWin fun w =>
      { w with cntHi := BitVec.ofNat 16 (w.cnt.toNat >>> 32) }).emit (.bar0Read f (bytesAsked be (wordOf s.win.cnt 0)))) :=
  congrArg Host.Outcome.next (State.bar0Read_of_run ho (State.offAt_of_alwaysOn (by decide)))

/-! ### Memory (07 R160, R164) -/

/-- The block, the controller and the place of a register. -/
theorem memReg_place (hm : m < 40) (hr : r < 0x10000) : 0x1000000 + m * 0x10000 + r - 0x1000000 = m * 0x10000 + r ∧
    (m * 0x10000 + r) / 0x10000 = m ∧ (m * 0x10000 + r) % 0x10000 = r := by omega

theorem State.regAt_mem (reader : Port) (hm : m < 40) (hr : r < 0x10000) (h4 : r % 4 = 0) :
    s.regAt reader (0x1000000 + m * 0x10000 + r) = s.ctlReg m r := by
  obtain ⟨hoff, hctl, hreg⟩ := memReg_place hm hr
  simp (disch := omega) only [State.regAt, State.memReg, if_neg, if_pos, hoff, hctl, hreg]

theorem State.regWrite_mem (hm : m < 40) (hr : r < 0x10000) (h4 : r % 4 = 0) :
    s.regWrite (0x1000000 + m * 0x10000 + r) v = s.ctlWrite m r v := by
  obtain ⟨hoff, hctl, hreg⟩ := memReg_place hm hr
  simp (disch := omega) only [State.regWrite, State.memWrite, if_neg, if_pos, hoff, hctl, hreg]

theorem State.readLatch_memLastAddr (hm : m < 40) :
    s.readLatch (0x1000000 + m * 0x10000 + 0x30) =
      s.modCtl m fun c => { c with hiLatch := BitVec.ofNat 16 (c.lastAddr.toNat >>> 32) } := by
  have hctl : (0x1000000 + m * 0x10000 + 0x30 - 0x1000000) / 0x10000 = m := by omega
  simp (disch := omega) only [State.readLatch, if_neg, if_pos, hctl]

theorem exec_memLastAddrRead_of_open (ho : s.funcOpen f = true) (m : Fin 40) :
    exec (.memLastAddrRead f be m) s = .next ((s.modCtl m fun c =>
      { c with hiLatch := BitVec.ofNat 16 (c.lastAddr.toNat >>> 32) }).emit
        (.bar0Read f (bytesAsked be (wordOf (s.ctlAt m).lastAddr 0)))) := by
  change execMemLastAddrRead f be m s = _
  rw [execMemLastAddrRead, State.bar0Read_of_run ho (State.offAt_of_alwaysOn (by omega)), State.readLatch_memLastAddr m.isLt,
    State.regAt_mem _ m.isLt (by decide) (by decide)]
  rfl

/-- FILL starts a fill unless the window runs, the channel is absent or a fill is in progress. -/
theorem State.memFill_eq (s : State) (m : Nat) :
    s.memFill m = if s.windowRunning = false ∧ (s.ctlAt m).present m = true ∧ (s.ctlAt m).filling = false then s.startFill m
      else s := by
  have hnot : (s.windowRunning ∨ !(s.ctlAt m).present m ∨ (s.ctlAt m).filling) ↔
      ¬(s.windowRunning = false ∧ (s.ctlAt m).present m = true ∧ (s.ctlAt m).filling = false) := by
    simp only [not_and_or, Bool.not_eq_false, Bool.not_eq_true, Bool.not_eq_eq_eq_not, Bool.not_true]
  rw [State.memFill, if_congr hnot rfl rfl, ite_not]

theorem State.memCtlWrite_eq {u : State} (hu : u = s.modCtl m fun c => { c with patrolEn := v.getLsbD 0 }) :
    s.memCtlWrite m v = if v.getLsbD 1 = true ∧ s.windowRunning = false ∧ (u.ctlAt m).present m = true ∧
      (u.ctlAt m).filling = false then u.startFill m else u := by
  have hw : u.windowRunning = s.windowRunning := by rw [hu]; rfl
  rw [← hw, State.memCtlWrite, ← hu, State.memFill_eq]
  cases v.getLsbD 1 <;> simp

/-! ### Leat (08 R189, R191, R194, R206) -/

/-- A register that the Leat shares, by its place. -/
theorem State.regWrite_leatShared (hr : r < 0x200000) (h4 : r % 4 = 0) :
    s.regWrite (0xE00000 + r) v = s.leatWrite (0x600000 + r) v := by
  have hoff : 0xE00000 + r - 0x800000 = 0x600000 + r := by omega
  simp (disch := omega) only [State.regWrite, if_neg, if_pos, hoff]

theorem State.leatCommit_eq {u : State} (hu : u = if v.getLsbD 3 then s.modLeat fun l => { l with swapDone := false } else s) :
    s.leatCommit v = if v.getLsbD 0 = false then u.stagedWrite else if s.leat.arm = true then u
      else u.modLeat fun l => { l with arm := true, checked := false, checkFail := false, horizonStg := 0, armOrigin := none } := by
  have harm : u.leat.arm = s.leat.arm := by rw [hu]; split <;> rfl
  rw [State.leatCommit, ← hu, harm]
  cases v.getLsbD 0 <;> rfl

/-! ### Flume (09 R226) -/

/-- A register of a Flume channel, by its number and its place. -/
theorem State.regWrite_flm (hc : c < 32) (hr : r < 0x100) (h4 : r % 4 = 0) :
    s.regWrite (0x400000 + c * 0x100 + r) v = s.flmWrite (c * 0x100 + r) v := by
  have hoff : 0x400000 + c * 0x100 + r - 0x400000 = c * 0x100 + r := by omega
  simp (disch := omega) only [State.regWrite, if_neg, if_pos, hoff]

/-- The channel and the place of a register. -/
theorem State.flmWrite_place (hc : c < 32) (hr : r < 0x100) : ¬ 0x2000 ≤ c * 0x100 + r ∧ (c * 0x100 + r) / 0x100 = c ∧
    (c * 0x100 + r) % 0x100 = r := by omega

theorem State.flmWrite_ctl (hc : c < 32) : s.flmWrite (c * 0x100 + 0) v = s.flmCtl c (v.getLsbD 0) (v.getLsbD 1) := by
  obtain ⟨hlow, hquot, hrem⟩ := State.flmWrite_place hc (r := 0) (by decide)
  simp only [State.flmWrite, hlow, hquot, hrem, if_false, if_true]

theorem State.flmWrite_ringLo (hc : c < 32) : s.flmWrite (c * 0x100 + 0x08) v = s.flmRingLo c v := by
  obtain ⟨hlow, hquot, hrem⟩ := State.flmWrite_place hc (r := 0x08) (by decide)
  simp [State.flmWrite, hlow, hquot, hrem]

theorem State.flmWrite_tail (hc : c < 32) : s.flmWrite (c * 0x100 + 0x14) v = s.flmTail c (field v 0 12) := by
  obtain ⟨hlow, hquot, hrem⟩ := State.flmWrite_place hc (r := 0x14) (by decide)
  simp [State.flmWrite, hlow, hquot, hrem]

/-! ### The rows as writes of their offsets -/

/-- Each row that writes a register is the write of its offset. -/
theorem exec_eq_bar0Write (s : State) (f : Func) (be : BitVec 4) (v : W32) (m : Fin 40) (link : Bool) (c : Fin 32) :
    ∀ p ∈ [(0x1000008 + m.val * 0x10000, Instr.memChFill f be m v), (0xE00000, .leatCommitArm f be v),
        (0xE00010, .leatIsolClr f be v), (if link then 0xE0000C else 0xE00008, .leatSvcWrite f be link v),
        (0x400014 + c.val * 0x100, .flmChTailWrite f be c v), (0x400000 + c.val * 0x100, .flmRun f be c v),
        (0x400000 + c.val * 0x100, .flmAbort f be c v), (0x400008 + c.val * 0x100, .flmRingLoWrite f be c v),
        (0x240001C, .cfgReleaseGo f be v)],
      exec p.2 s = .next (s.bar0Write f be p.1 v) := by
  have hmem : 0x1000008 + m.val * 0x10000 = 0x1000000 + m.val * 0x10000 + 0x08 := by omega
  have htail : 0x400014 + c.val * 0x100 = 0x400000 + c.val * 0x100 + 0x14 := by omega
  have hring : 0x400008 + c.val * 0x100 = 0x400000 + c.val * 0x100 + 0x08 := by omega
  simp only [hmem, htail, hring, List.forall_mem_cons]
  exact ⟨rfl, rfl, rfl, rfl, rfl, rfl, rfl, rfl, rfl, List.forall_mem_nil _⟩

/-! ### The rows by the owner, with every byte and the block in Run -/

section Owner
variable (ho : s.funcOpen .pf0 = true) (hown : s.lk.owner = 1)
include ho hown

theorem exec_memChFill_of_owner (m : Fin 40) {u : State} (hu : u = s.modCtl m fun c => { c with patrolEn := v.getLsbD 0 }) :
    exec (.memChFill .pf0 15 m v) s = .next (if v.getLsbD 1 = true ∧ s.windowRunning = false ∧ (u.ctlAt m).present m = true ∧
      (u.ctlAt m).filling = false then u.startFill m else u) := by
  change execMemChFill .pf0 15 m v s = _
  rw [execMemChFill, State.bar0Write_of_owner ho hown (State.offAt_of_alwaysOn (by omega)),
    State.regWrite_mem m.isLt (by decide) (by decide), ← State.memCtlWrite_eq hu]
  rfl

theorem exec_cfgReleaseGo_of_owner :
    exec (.cfgReleaseGo .pf0 15 v) s = .next (if v.getLsbD 0 = true ∧ s.img.stepWait = true then
      s.modImg fun x => { x with go := true, stepWait := false } else s) := by
  have hwrite : s.regWrite 0x240001C v = if v.getLsbD 0 then s.releaseGo else s := rfl
  change execCfgReleaseGo .pf0 15 v s = _
  rw [execCfgReleaseGo, State.bar0Write_of_owner ho hown (State.offAt_of_alwaysOn (by decide)), hwrite, State.releaseGo, ite_and]

variable (hrun : s.domRun 1 = true)
include hrun

theorem State.bar0Write_leatShared_of_owner (hr : r < 0x200000) (h4 : r % 4 = 0) :
    s.bar0Write .pf0 15 (0xE00000 + r) v = s.leatWrite (0x600000 + r) v := by
  rw [State.bar0Write_of_owner ho hown (State.offAt_of_sillCore (by omega) hrun), State.regWrite_leatShared hr h4]

theorem exec_leatCommitArm_of_owner {u : State}
    (hu : u = if v.getLsbD 3 then s.modLeat fun l => { l with swapDone := false } else s) :
    exec (.leatCommitArm .pf0 15 v) s = .next (if v.getLsbD 0 = false then u.stagedWrite else if s.leat.arm = true then u
      else u.modLeat fun l =>
        { l with arm := true, checked := false, checkFail := false, horizonStg := 0, armOrigin := none }) := by
  rw [← State.leatCommit_eq hu]
  exact congrArg _ (State.bar0Write_leatShared_of_owner ho hown hrun (r := 0) (by decide) (by decide))

theorem exec_leatIsolClr_of_owner :
    exec (.leatIsolClr .pf0 15 v) s = .next (s.isolClear (field v 0 9) (v.getLsbD 31)) :=
  congrArg Host.Outcome.next (State.bar0Write_leatShared_of_owner ho hown hrun (r := 0x10) (by decide) (by decide))

theorem exec_leatSvcWrite_of_owner (link : Bool) :
    exec (.leatSvcWrite .pf0 15 link v) s = .next (s.svcWrite link (bitsOf 24 v)) := by
  cases link with
  | false => exact congrArg _ (State.bar0Write_leatShared_of_owner ho hown hrun (r := 0x08) (by decide) (by decide))
  | true => exact congrArg _ (State.bar0Write_leatShared_of_owner ho hown hrun (r := 0x0C) (by decide) (by decide))

/-- What a write to a register of a channel does, by its place. -/
theorem State.bar0Write_flm_of_owner (c : Fin 32) (hr : r < 0x100) (h4 : r % 4 = 0) :
    s.bar0Write .pf0 15 (0x400000 + c.val * 0x100 + r) v = s.flmWrite (c.val * 0x100 + r) v := by
  rw [State.bar0Write_of_owner ho hown (State.offAt_of_sillCore (by omega) hrun), State.regWrite_flm c.isLt hr h4]

theorem State.bar0Write_flmCtl_of_owner (c : Fin 32) {u : State}
    (hu : u = s.modFlmCh c fun x => { x with run := v.getLsbD 0, halted := x.halted && !v.getLsbD 0 }) :
    s.bar0Write .pf0 15 (0x400000 + c.val * 0x100) v = if v.getLsbD 1 then u.flmAbort c else u := by
  rw [← Nat.add_zero (0x400000 + c.val * 0x100), State.bar0Write_flm_of_owner ho hown hrun c (by decide) (by decide),
    State.flmWrite_ctl c.isLt, State.flmCtl, ← hu]

theorem exec_flmChTailWrite_of_owner (c : Fin 32) :
    exec (.flmChTailWrite .pf0 15 c v) s =
      .next (s.modFlmCh c fun x => { x with tail := BitVec.ofNat 12 (x.mask (field v 0 12)) }) :=
  congrArg Host.Outcome.next
    ((State.bar0Write_flm_of_owner ho hown hrun c (by decide) (by decide)).trans (State.flmWrite_tail c.isLt))

theorem exec_flmRingLoWrite_of_owner (c : Fin 32) :
    exec (.flmRingLoWrite .pf0 15 c v) s = .next (if s.flmRingFree c then s.modFlmCh c fun x =>
      { x with ring := (x.ring &&& 0xFFFFFFFF00000000#64) ||| BitVec.ofNat 64 (v.toNat / 64 * 64), head := 0 } else s) :=
  congrArg Host.Outcome.next
    ((State.bar0Write_flm_of_owner ho hown hrun c (by decide) (by decide)).trans (State.flmWrite_ringLo c.isLt))

end Owner

/-! ### The obligation -/

/-- Settles O30: each row is the read or write of its offset, whose judgement lets it reach its register or drops it. -/
theorem registerRowsReachTheirRegisters : Obligations.RegisterRowsReachTheirRegisters := by
  unfold Obligations.RegisterRowsReachTheirRegisters
  refine ⟨fun s f be ho => ⟨exec_winStampRead_of_open ho, exec_winCntLoRead_of_open ho, exec_memLastAddrRead_of_open ho⟩, ?owner,
    ?flume, ?dropped⟩
  case owner =>
    intro s v ho hown
    exact ⟨fun m u => exec_memChFill_of_owner ho hown m, fun hrun u => exec_leatCommitArm_of_owner ho hown hrun,
      fun hrun => ⟨exec_leatIsolClr_of_owner ho hown hrun, exec_leatSvcWrite_of_owner ho hown hrun⟩,
      exec_cfgReleaseGo_of_owner ho hown⟩
  case flume =>
    intro s c v u ho hown hrun hu
    have hctl := State.bar0Write_flmCtl_of_owner ho hown hrun c hu
    exact ⟨exec_flmChTailWrite_of_owner ho hown hrun c, congrArg _ hctl, congrArg _ hctl,
      exec_flmRingLoWrite_of_owner ho hown hrun c⟩
  case dropped =>
    intro s f be v m link c p hp
    rw [exec_eq_bar0Write s f be v m link c p hp]
    exact ⟨fun kind err ho hj => congrArg _ (State.bar0Write_of_dropped ho hj), fun hshut =>
      ⟨congrArg _ (State.bar0Write_of_shut hshut), congrArg _ (State.bar0Read_of_shut hshut),
        congrArg _ (State.bar0Read_of_shut hshut), congrArg _ (State.bar0Read_of_shut hshut)⟩⟩

end Sys2Proof.Machine
end

section
/-! SUPPORT. What the window commands do once the Lockkeeper takes them: each is the reply that its own checks answer with (05 R102,
11 R277, R279, 14 R356, R357). They settle O5. -/
namespace Sys2Proof.Machine

variable {s s' : State} {r : Req} {own : Own} {ok : Bool} {op : Nat} {body : State → Res}

/-! ### Replies with more than a payload (13 R339, R343, R344) -/

/-- The reply of a command that changes something and is answered with a status of its own. -/
theorem State.serveCmd_of_takes_of_partly {st : Nat} {payload : List W32} (h : s.takes r own ok)
    (hbody : body s = .partly s' st payload) : s.serveCmd r op own ok body = s'.commit r op own st false payload := by
  simp only [State.serveCmd, serve_takes h, hbody]

/-- The reply of a command whose operation goes on, where the port has room for its record. -/
theorem State.serveCmd_of_takes_of_acceptThen {next : State → State} (h : s.takes r own ok) (hroom : s.room r)
    (hbody : body s = .acceptThen s' next) : s.serveCmd r op own ok body = next (s'.accepts r op own) := by
  simp only [State.serveCmd, serve_takes h, hbody, accepted_room hroom]

/-! ### The commands (14 R356, R357) -/

/-- WIN_STATUS is served in a new epoch of free values, of which the level of WAIT_N takes one. -/
theorem exec_winStatus_of_takes (h : s.takes r .anyone (r.length = 2)) :
    exec (.winStatus r) s = .next (s.freshen.commit r 0x0300 .anyone stOk false
      ([s.freshen.winState, w32 s.win.hold.toNat, wordOf s.win.cnt 0, wordOf s.win.cnt 1, s.freshen.winReg 0x28,
        w32 s.win.horizon.toNat, s.win.minLen, w32 s.win.evt.toNat, s.win.lateCnt, s.win.stallPulses, s.win.slotPulses,
        s.win.bndTime, s.win.earlyCnt] ++ s.stamp.words)) := by
  change execWinStatus r s = _
  rw [execWinStatus, State.serveCmd_of_takes_of_ok (State.takes_freshen h) rfl]
  rfl

theorem exec_winHold_of_takes (h : s.takes r .owner (r.length = 3)) (hp : only (r.p 0) 1 = true) :
    exec (.winHold r) s = .next ((s.winHold (decide (r.p 0 = 1))).commit r 0x0301 .owner stOk false []) := by
  change execWinHold r s = _
  rw [execWinHold, State.serveCmd_of_takes_of_ok h (if_neg (by simp [hp]))]

theorem exec_winConfig_of_takes (h : s.takes r .owner (r.length = 7)) (hmode : (r.p 0).toNat ≤ 2)
    (hlead : only (r.p 3) 5 = true) (hlimit : only (r.p 4) 20 = true) :
    exec (.winConfig r) s = .next (((((s.winMode (bitsOf 2 (r.p 0))).winLen (r.p 1)).modWin fun w =>
      { w with genPeriod := r.p 2, stallLimit := bitsOf 20 (r.p 4) }).winLead (bitsOf 5 (r.p 3))).commit r 0x0302 .owner stOk
        false []) := by
  have hgood : ¬(2 < (r.p 0).toNat ∨ !only (r.p 3) 5 ∨ !only (r.p 4) 20) := by simp [hmode, hlead, hlimit]
  change execWinConfig r s = _
  rw [execWinConfig, State.serveCmd_of_takes_of_ok h (if_neg hgood)]

/-- A start device with no start under way sends its start once it has answered ACCEPTED (11 R279). -/
theorem exec_arrayStart_of_takes (h : s.takes r .owner (r.length = 3)) (hroom : s.room r) (hmin : 2 ≤ (r.p 0).toNat)
    (hmax : (r.p 0).toNat ≤ 32) (hcan : s.canStart = true) (hstill : s.windowRunning = false)
    (hfree : s.lnk.startOrigin = none) :
    exec (.arrayStart r) s = .next ((s.accepts r 0x0303 .owner).arrayStart (r.origin 0x0303) (r.p 0).toNat) := by
  have hgood : ¬((r.p 0).toNat < 2 ∨ 32 < (r.p 0).toNat ∨ !s.canStart) := by simp [hmin.not_gt, hmax.not_gt, hcan]
  have hnone : ¬s.lnk.startOrigin.isSome := by simp [hfree]
  change execArrayStart r s = _
  rw [execArrayStart, State.serveCmd_of_takes_of_acceptThen h hroom
    ((if_neg hgood).trans ((if_neg (ne_true_of_eq_false hstill)).trans (if_neg hnone)))]

/-- What FAULT_CLEAR clears: cause 3, and cause 2 unless a link uses a lane direction that fails (11 R277, 14 R357). -/
def State.faultCleared (s : State) : State :=
  if (s.clearCause 3).laneBare then s.clearCause 3 else (s.clearCause 3).clearCause 2

theorem exec_faultClear_of_noneLeft (h : s.takes r .owner (r.length = 2)) (hleft : w32 s.faultCleared.win.causes.toNat = 0) :
    exec (.faultClear r) s = .next (s.faultCleared.commit r 0x0304 .owner stOk false [0]) := by
  change execFaultClear r s = _
  rw [execFaultClear, State.serveCmd_of_takes_of_ok h (if_pos hleft), ← State.faultCleared, hleft]

theorem exec_faultClear_of_left (h : s.takes r .owner (r.length = 2)) (hleft : w32 s.faultCleared.win.causes.toNat ≠ 0) :
    exec (.faultClear r) s =
      .next (s.faultCleared.commit r 0x0304 .owner stHwFault false [w32 s.faultCleared.win.causes.toNat]) := by
  change execFaultClear r s = _
  rw [execFaultClear, State.serveCmd_of_takes_of_partly h (if_neg hleft), ← State.faultCleared]

/-! ### The obligation -/

/-- Settles O5: each clause is the equation of its command for a request that is taken with its parameters in range. -/
theorem windowCommandsAnswer : Obligations.WindowCommandsAnswer := by
  unfold Obligations.WindowCommandsAnswer
  refine ⟨fun s r => exec_winStatus_of_takes, fun s r => exec_winHold_of_takes, fun s r => exec_winConfig_of_takes,
    fun s r => exec_arrayStart_of_takes, ?faultClear⟩
  rintro s u r h (rfl : u = s.faultCleared)
  exact ⟨exec_faultClear_of_noneLeft h, exec_faultClear_of_left h⟩

end Sys2Proof.Machine
end

section
/-! SUPPORT. What the events that end an item of the boundary do, one equation for each case (05 R106 to R108, 07 R154, 14 R369, R371,
16 R402, 17 R433). They settle O22. -/
namespace Sys2Proof.Machine

variable {s : State} {q : CapReq}

/-! ### The end of a drain (05 R106, R107) -/

/-- Step 2 ends once every queue of the Leat is empty. -/
theorem exec_leatDrainComplete_of_step2 (hb : s.win.st = .boundary) (hstep : s.win.step = 2) (hgo : s.win.paused = false)
    (hd : s.drained = true) :
    exec .leatDrainComplete s = .next (s.releaseDynamic.modWin fun w => { w with step := 4 }) := by
  change execLeatDrainComplete s = _
  rw [execLeatDrainComplete, if_pos hb, if_pos ⟨hstep, by simp [hgo], hd⟩, State.boundaryDrained]

section RouteCommit
variable (hb : s.win.st ≠ .boundary) (hw : s.leat.swapWait = true) (he : s.leatEmpty = true)
include hb hw he

/-- Outside a boundary the armed and checked tables that waited for the drain are committed (log entry 28). -/
theorem exec_leatDrainComplete_of_armed (hnow : s.atOnce = true) (ha : s.leat.arm = true) (hc : s.leat.checked = true) :
    exec .leatDrainComplete s = .next s.commitHeld := by
  change execLeatDrainComplete s = _
  rw [execLeatDrainComplete, if_neg hb, if_pos ⟨hw, he⟩, if_pos ⟨hnow, ha, hc⟩]

/-- With no commit left to make, the wait ends and admission opens again. -/
theorem exec_leatDrainComplete_of_idle (h : s.atOnce = false ∨ s.leat.arm = false ∨ s.leat.checked = false) :
    exec .leatDrainComplete s = .next (s.modLeat fun l => { l with swapWait := false, admission := true }) := by
  have hidle : ¬(s.atOnce ∧ s.leat.arm ∧ s.leat.checked) := by simpa only [not_and_or, Bool.not_eq_true] using h
  change execLeatDrainComplete s = _
  rw [execLeatDrainComplete, if_neg hb, if_pos ⟨hw, he⟩, if_neg hidle]

end RouteCommit

/-! ### The end of the ledger flush (05 R107, 07 R154) -/

theorem exec_ledgerFlushComplete_of_step4 (hb : s.win.st = .boundary) (hstep : s.win.step = 4) (hgo : s.win.paused = false) :
    exec .ledgerFlushComplete s =
      .next ((s.flushLedgers.modWin fun w => { w with step := 5 }).routeStep).itemA := by
  change execLedgerFlushComplete s = _
  rw [execLedgerFlushComplete, if_pos ⟨hb, hstep, by simp [hgo]⟩]

/-! ### The end of a capture or restore (05 R108, 14 R369, R371, 17 R433) -/

section Capture
variable (hrun : s.rst.capRun = some q) (hgo : s.win.paused = false) (hmem : s.deepRuns q.addr = true)
include hrun hgo hmem

/-- A capture that was asked for posts its record. -/
theorem exec_captureCopyComplete_of_asked (hkind : q.restore = false) (ho : q.origin.isSome = true) :
    exec .captureCopyComplete s = .next (((((s.capture q).1.modRst fun r => { r with capRun := none }).clearHold
      holdCapture).postRecord? q.origin stOk (s.capture q).2).boundaryGoOn) := by
  have hasked : q.origin.isNone = false := Option.isNone_eq_false_iff.2 ho
  change execCaptureCopyComplete s = _
  simp only [execCaptureCopyComplete, hrun, hgo, hmem, hkind, hasked, Bool.false_eq_true, Bool.not_true, or_self, if_false]

/-- An orderly stop notes that it has captured (17 R433). -/
theorem exec_captureCopyComplete_of_stop (hkind : q.restore = false) (ho : q.origin = none) :
    exec .captureCopyComplete s = .next (((((s.capture q).1.modRst fun r => { r with capRun := none }).clearHold
      holdCapture).modThm fun t => { t with stopCaptured := true }).boundaryGoOn) := by
  change execCaptureCopyComplete s = _
  simp only [execCaptureCopyComplete, hrun, hgo, hmem, hkind, ho, Option.isNone_none, Bool.false_eq_true, Bool.not_true, or_self,
    if_false, if_true, State.postRecord?]

theorem exec_restoreComplete_of_restore (hkind : q.restore = true) :
    exec .restoreComplete s = .next (((((s.freshen.restoreAll q.addr).1.modRst fun r => { r with capRun := none }).clearHold
      holdCapture).postRecord? q.origin (s.freshen.restoreAll q.addr).2.1 (s.freshen.restoreAll q.addr).2.2).boundaryGoOn) := by
  change execRestoreComplete s = _
  simp only [execRestoreComplete, hrun, hgo, hmem, hkind, Bool.false_eq_true, Bool.not_true, or_self, if_false]

end Capture

/-! ### The new pulse rate (05 R102, 16 R402) -/

theorem exec_throttleRelockComplete_of_rate {k : Nat} (hrate : s.rst.rate = some k) (hgo : s.win.paused = false) :
    exec .throttleRelockComplete s = .next ((((s.modClk fun c => { c with pulseNow := k }).modRst fun q =>
      { q with rate := none }).clearHold holdThrottle).boundaryGoOn) := by
  change execThrottleRelockComplete s = _
  simp only [execThrottleRelockComplete, hrate, hgo, Bool.false_eq_true, if_false]

/-! ### The obligation -/

/-- Settles O22: each clause is the equation of its event for that case. -/
theorem boundarySequenceSteps : Obligations.BoundarySequenceSteps := by
  unfold Obligations.BoundarySequenceSteps
  exact ⟨fun s => exec_leatDrainComplete_of_step2,
    fun s hb hw he => ⟨exec_leatDrainComplete_of_armed hb hw he, exec_leatDrainComplete_of_idle hb hw he⟩,
    fun s => exec_ledgerFlushComplete_of_step4,
    fun s q hrun hkind hgo hmem =>
      ⟨exec_captureCopyComplete_of_asked hrun hgo hmem hkind, exec_captureCopyComplete_of_stop hrun hgo hmem hkind⟩,
    fun s q hrun hkind hgo hmem => exec_restoreComplete_of_restore hrun hgo hmem hkind,
    fun s k => exec_throttleRelockComplete_of_rate⟩

end Sys2Proof.Machine
end

section
/-! SUPPORT. What the events that start a window do, one equation for each case (05 R94, R95, R98 to R101, R103, R110), and what they
leave in the window's registers. They settle O21. -/
namespace Sys2Proof.Machine

variable {s t : State}

/-! ### Edges (05 R98 to R100, R103) -/

theorem exec_winEdge_of_ready (hr : s.inReset = false) (hmode : (s.wakeBy 2 none).win.mode = 0)
    (hpart : (s.wakeBy 2 none).lnk.array ≠ .notPart) (hst : (s.wakeBy 2 none).win.st = .ready)
    (hnew : (s.wakeBy 2 none).win.edgeAccepted = false) (hsafe : (s.wakeBy 2 none).clk.safe = false) :
    exec .winEdge s = .next ((s.wakeBy 2 none).modWin fun w => { w with edgeAccepted := true }) := by
  change execWinEdge s = _
  simp only [execWinEdge, hr, hmode, hpart, hst, hnew, hsafe, Bool.false_eq_true, Bool.not_false, ne_eq, not_true, or_self,
    and_self, if_true, if_false, State.acceptEdge]

theorem exec_winEdge_of_notReady (hr : s.inReset = false) (hmode : (s.wakeBy 2 none).win.mode = 0)
    (hpart : (s.wakeBy 2 none).lnk.array ≠ .notPart) (hst : (s.wakeBy 2 none).win.st ≠ .ready) :
    exec .winEdge s = .next (s.wakeBy 2 none).earlyEdge := by
  change execWinEdge s = _
  simp only [execWinEdge, hr, hmode, hpart, hst, Bool.false_eq_true, ne_eq, not_true, or_self, false_and, if_false]

/-- Another mode, or no part in the array, and the edge only wakes the device. -/
theorem exec_winEdge_of_ignored (hr : s.inReset = false)
    (h : (s.wakeBy 2 none).win.mode ≠ 0 ∨ (s.wakeBy 2 none).lnk.array = .notPart) :
    exec .winEdge s = .next (s.wakeBy 2 none) := by
  change execWinEdge s = _
  simp only [execWinEdge, hr, h, Bool.false_eq_true, if_true, if_false]

/-- An event bit changes no other register of the window. -/
theorem State.winEvt_win (s : State) (i : Nat) : (s.winEvt i).win = { s.win with evt := s.win.evt ||| (1#8 <<< i) } := by
  simp only [State.winEvt, State.modWin_win, State.evtAssert_win]

/-- An early edge is counted, and pending where none is. -/
theorem State.earlyEdge_win_of_none (h : s.win.edgePending = false) :
    s.earlyEdge.win.edgePending = true ∧ s.earlyEdge.win.earlyCnt = satInc s.win.earlyCnt := by
  simp [State.earlyEdge, State.winEvt_win, h]

theorem exec_generatorFire_of_ready (hmode : s.win.mode = 1 ∨ s.win.mode = 2) (hst : s.win.st = .ready)
    (hnew : s.win.edgeAccepted = false) (hsafe : s.clk.safe = false) (hpart : s.lnk.array ≠ .notPart) :
    exec .generatorFire s =
      .next ((if s.win.mode = 2 then s.emit .winOut else s).modWin fun w => { w with edgeAccepted := true }) := by
  change execGeneratorFire s = _
  rw [execGeneratorFire, if_pos ⟨hmode, hst, by simp [hnew], by simp [hsafe], hpart⟩]
  rfl

/-! ### The edge pulse (05 R94, R95, R101) -/

/-- The window that an edge pulse begins: one more, its counts new, between-window admission closed, and CTRL frames due. -/
def State.windowBegun (s : State) : State :=
  ((s.modWin fun w =>
    { w with st := .starting, cnt := w.cnt + 1, edgeAccepted := false, hold := w.hold ||| holdBit holdRun }).newCounts.modLeat fun l =>
      { l with admission := false }).ctrlAll

/-- What every change of a fold leaves, the fold leaves. -/
theorem foldl_leaves {α β : Type} {op : State → α → State} {part : State → β} (h : ∀ t a, part (op t a) = part t) (l : List α)
    (s : State) : part (l.foldl op s) = part s :=
  List.foldlRecOn (motive := fun t => part t = part s) l op rfl fun t ih a _ => (h t a).trans ih

theorem State.ctrlAll_win (s : State) : s.ctrlAll.win = s.win := foldl_leaves (part := State.win) (fun _ _ => by rfl) _ s

theorem State.ctrlAll_leat (s : State) : s.ctrlAll.leat = s.leat := foldl_leaves (part := State.leat) (fun _ _ => by rfl) _ s

theorem State.ctrlAll_inArray (s : State) : s.ctrlAll.inArray = s.inArray :=
  foldl_leaves (part := State.inArray) (fun _ _ => by rfl) _ s

/-- The counts of the window before are shown, and those of the new window begin at 0. -/
def WindowState.newCounts (w : WindowState) : WindowState :=
  { w with stallPulses := w.stallNow, slotPulses := w.slotNow, stallNow := 0, slotNow := 0 }

/-- An interface as a new window finds it. -/
def NodeRec.newWindow (x : NodeRec) : NodeRec := { x with used := 0, inflight := 0, wrLogged := false }

theorem State.newCounts_win (s : State) : s.newCounts.win = s.win.newCounts :=
  congrArg WindowState.newCounts
    (foldl_leaves (part := State.win) (op := fun (s : State) n => s.modNode n NodeRec.newWindow) (fun _ _ => rfl) _ _)

theorem State.newCounts_inArray (s : State) : s.newCounts.inArray = s.inArray :=
  foldl_leaves (part := State.inArray) (op := fun (s : State) n => s.modNode n NodeRec.newWindow) (fun _ _ => rfl) _ _

theorem State.windowBegun_inArray (s : State) : s.windowBegun.inArray = s.inArray :=
  (State.ctrlAll_inArray _).trans (State.newCounts_inArray _)

theorem State.windowBegun_win (s : State) : s.windowBegun.win = WindowState.newCounts
    { s.win with st := .starting, cnt := s.win.cnt + 1, edgeAccepted := false, hold := s.win.hold ||| holdBit holdRun } := by
  simp only [State.windowBegun, State.ctrlAll_win, State.modLeat_win, State.newCounts_win, State.modWin_win]

theorem State.windowBegun_admission (s : State) : s.windowBegun.leat.admission = false := by
  simp only [State.windowBegun, State.ctrlAll_leat, State.modLeat_leat]

section EdgePulse
variable (hedge : s.win.edgeAccepted = true) (hc : s.fab.clockStop = []) (hg : s.gated = false)
include hedge hc hg

/-- In an array the count is sent by the count master, and compared by another device that has it. -/
theorem exec_edgePulse_of_accepted : exec .edgePulse s = .next
    (if s.windowBegun.inArray = false then s.windowBegun
    else if s.windowBegun.countMaster = true then s.windowBegun.sendMcnt
    else if s.windowBegun.lnk.mcntNew = true then (s.windowBegun.modLnk fun x => { x with mcntNew := false }).compareCount
    else s.windowBegun) := by
  change execEdgePulse s = _
  rw [execEdgePulse, if_pos ⟨hedge, by simp [hc], by simp [hg]⟩]
  simp only [Bool.not_eq_true']
  rfl

theorem exec_edgePulse_alone (ha : s.inArray = false) : exec .edgePulse s = .next s.windowBegun := by
  rw [exec_edgePulse_of_accepted hedge hc hg, if_pos (s.windowBegun_inArray.trans ha)]

theorem exec_edgePulse_sends (ha : s.windowBegun.inArray = true) (hm : s.windowBegun.countMaster = true) :
    exec .edgePulse s = .next s.windowBegun.sendMcnt := by
  rw [exec_edgePulse_of_accepted hedge hc hg, if_neg (by simp [ha]), if_pos hm]

theorem exec_edgePulse_compares (ha : s.windowBegun.inArray = true) (hm : s.windowBegun.countMaster = false)
    (hnew : s.windowBegun.lnk.mcntNew = true) :
    exec .edgePulse s = .next (s.windowBegun.modLnk fun x => { x with mcntNew := false }).compareCount := by
  rw [exec_edgePulse_of_accepted hedge hc hg, if_neg (by simp [ha]), if_neg (by simp [hm]), if_pos hnew]

/-- A device that the master's count has not reached yet compares it later. -/
theorem exec_edgePulse_awaits (ha : s.windowBegun.inArray = true) (hm : s.windowBegun.countMaster = false)
    (hnew : s.windowBegun.lnk.mcntNew = false) : exec .edgePulse s = .next s.windowBegun := by
  rw [exec_edgePulse_of_accepted hedge hc hg, if_neg (by simp [ha]), if_neg (by simp [hm]), if_neg (by simp [hnew])]

end EdgePulse

/-! ### The start of strand 0 (05 R98, R110) -/

/-- Where the window stands: its state, count, turn and strand. -/
def State.windowPlace (s : State) : WinSt × BitVec 48 × W32 × Nat := (s.win.st, s.win.cnt, s.win.turn, s.win.strand)

theorem State.windowPlace_of_win (h : t.win = s.win) : t.windowPlace = s.windowPlace := by simp only [State.windowPlace, h]

theorem State.dropStopped_win (s : State) : s.dropStopped.win = s.win := by
  refine foldl_leaves (part := State.win) (fun t n => ?_) _ s
  split <;> rfl

theorem State.linkServe_win (s : State) (i : Nat) (r : LinkReq) : (s.linkServe i r).win = s.win := by
  simp only [State.linkServe]
  split
  · rfl
  · split <;> rfl

theorem State.linkWindowStart_win (s : State) (i : Nat) : (s.linkWindowStart i).win = s.win :=
  (foldl_leaves (part := State.win) (fun _ _ => State.linkServe_win ..) _ _).trans rfl

theorem State.linksWindowStart_win (s : State) : s.linksWindowStart.win = s.win := by
  refine foldl_leaves (part := State.win) (fun t i => ?_) _ s
  split
  · exact t.linkWindowStart_win i
  · rfl

theorem State.flumeWindowStart_win (s : State) : s.flumeWindowStart.win = s.win :=
  foldl_leaves (part := State.win) (fun _ _ => by rfl) _ s

theorem State.promiseRaised_windowPlace (s : State) (src : LateSrc) (old new : Nat) :
    (s.promiseRaised src old new).windowPlace = s.windowPlace := by
  rw [State.promiseRaised]
  split
  · rfl
  · simp only [State.windowPlace, State.modWin_win, State.winEvt_win, State.log_win]

/-- Raised promises are logged and listed; the window stands where it stood. -/
theorem State.raisePromises_windowPlace (s : State) : s.raisePromises.windowPlace = s.windowPlace := by
  rw [State.raisePromises]
  split
  · rfl
  refine (foldl_leaves (part := State.windowPlace) (fun t p => ?paths) _ _).trans ?banks
  case paths =>
    split
    · split
      · exact t.promiseRaised_windowPlace ..
      · rfl
    · rfl
  case banks =>
    split
    · refine foldl_leaves (part := State.windowPlace) (fun t b => ?_) _ s
      split
      · exact t.promiseRaised_windowPlace ..
      · rfl
    · rfl

theorem exec_windowStart_of_empty (hst : s.win.st = .starting) (he : s.leatEmpty = true) (hc : s.fab.clockStop = [])
    (hg : s.gated = false) :
    ∃ t, exec .windowStart s = .next t ∧ t.windowPlace = (.running, s.win.cnt, 0, 0) := by
  refine ⟨_, congrArg Host.Outcome.next (if_pos ⟨hst, he, by simp [hc], by simp [hg]⟩), ?_⟩
  rw [State.raisePromises_windowPlace,
    State.windowPlace_of_win ((State.flumeWindowStart_win _).trans (State.linksWindowStart_win _))]
  simp only [State.windowPlace, State.modPwr_win, State.modWin_win, State.dropStopped_win]

/-! ### The obligation -/

/-- Settles O21: each clause is the equation of its event for that case, and the registers are read from the window that the event
leaves. -/
theorem windowStartSequence : Obligations.WindowStartSequence := by
  unfold Obligations.WindowStartSequence
  refine ⟨?edge, fun s => exec_winEdge_of_ignored, fun s => exec_generatorFire_of_ready, ?pulse, ?registers, ?start⟩
  case edge =>
    intro s hr hmode hpart
    exact ⟨exec_winEdge_of_ready hr hmode hpart, fun hst hpend =>
      ⟨_, exec_winEdge_of_notReady hr hmode hpart hst, State.earlyEdge_win_of_none hpend⟩⟩
  case pulse =>
    rintro s u hedge hc hg (rfl : u = s.windowBegun)
    exact ⟨exec_edgePulse_alone hedge hc hg, exec_edgePulse_sends hedge hc hg, exec_edgePulse_compares hedge hc hg,
      exec_edgePulse_awaits hedge hc hg⟩
  case registers =>
    intro s hedge hc hg ha
    refine ⟨_, exec_edgePulse_alone hedge hc hg ha, ?_⟩
    rw [State.windowBegun_win, State.windowBegun_admission]
    exact ⟨rfl, rfl, rfl, rfl, rfl, rfl, rfl, rfl⟩
  case start =>
    intro s hst he hc hg
    obtain ⟨t, ht, hplace⟩ := exec_windowStart_of_empty hst he hc hg
    simp only [State.windowPlace, Prod.mk.injEq] at hplace
    obtain ⟨hrun, hcnt, hturn, hstrand⟩ := hplace
    exact ⟨t, ht, hrun, hturn, hstrand, hcnt⟩

end Sys2Proof.Machine
end

section
/-! SUPPORT. The light code is linear: check bits, syndromes and the correction of a decode go through exclusive or, so a stored word
with an error decodes as the error alone does (06 R131, R133, 07 R143, R148). This settles O56. -/
namespace Sys2Proof.Machine

/-! ### Check bits (07 R148) -/

theorem parity_succ (n x : Nat) : parity (n + 1) x = (parity n x ^^ x.testBit n) := by
  simp only [parity, List.range_succ, List.foldl_append, List.foldl_cons, List.foldl_nil]

theorem parity_xor (n x y : Nat) : parity n (x ^^^ y) = (parity n x ^^ parity n y) := by
  induction n with
  | zero => rfl
  | succ n ih =>
    simp only [parity_succ, ih, Nat.testBit_xor, Bool.xor_assoc, Bool.xor_left_comm]

/-- The number whose low `n` bits are given. -/
def numOfBits (n : Nat) (f : Nat → Bool) : Nat := (List.range n).foldl (fun c i => if f i then c + 2 ^ i else c) 0

theorem numOfBits_succ (n : Nat) (f : Nat → Bool) :
    numOfBits (n + 1) f = if f n then numOfBits n f + 2 ^ n else numOfBits n f := by
  simp only [numOfBits, List.range_succ, List.foldl_append, List.foldl_cons, List.foldl_nil]

theorem numOfBits_lt (n : Nat) (f : Nat → Bool) : numOfBits n f < 2 ^ n := by
  induction n with
  | zero => exact Nat.one_pos
  | succ n ih => rw [numOfBits_succ]; split <;> omega

/-- The bits below `n` are the given ones. -/
theorem testBit_numOfBits (n i : Nat) (f : Nat → Bool) : (numOfBits n f).testBit i = (decide (i < n) && f i) := by
  induction n with
  | zero => simp [numOfBits]
  | succ n ih =>
    rcases Nat.lt_trichotomy i n with h | rfl | h
    · rw [numOfBits_succ, Nat.add_comm]
      simp [Nat.testBit_two_pow_add_gt h, ih, h, h.trans n.lt_succ_self, apply_ite (Nat.testBit · i)]
    · rw [numOfBits_succ, Nat.add_comm]
      simp [Nat.testBit_two_pow_add_eq, Nat.testBit_lt_two_pow (numOfBits_lt i f), apply_ite (Nat.testBit · i)]
    · have hpow : 2 ^ (n + 1) ≤ 2 ^ i := Nat.pow_le_pow_right Nat.two_pos h
      simp [Nat.testBit_lt_two_pow ((numOfBits_lt (n + 1) f).trans_le hpow), Nat.not_lt.2 (Nat.succ_le_of_lt h)]

theorem lightCheck_eq (d : Nat) : lightCheck d = numOfBits 6 fun i => parity 18 (d &&& lightMasks.getD i 0) := rfl

theorem lightCheck_lt (d : Nat) : lightCheck d < 2 ^ 6 := numOfBits_lt 6 _

theorem lightCheck_xor (x y : Nat) : lightCheck (x ^^^ y) = lightCheck x ^^^ lightCheck y := by
  refine Nat.eq_of_testBit_eq fun i => ?_
  simp only [lightCheck_eq, testBit_numOfBits, Nat.testBit_xor, Nat.and_xor_distrib_right, parity_xor, Bool.and_xor_distrib_left]

/-! ### Syndromes (07 R148) -/

theorem lightSyndrome_xor (w e : Stored) : lightSyndrome (w ^^^ e) = lightSyndrome w ^^^ lightSyndrome e := by
  simp only [lightSyndrome, BitVec.toNat_xor, Nat.shiftRight_xor_distrib, Nat.xor_mod_two_pow, lightCheck_xor]
  ac_rfl

theorem toNat_lightEncode (d : Word18) : (lightEncode d).toNat = d.toNat + 2 ^ 18 * lightCheck d.toNat := by
  have hd := d.isLt
  have hc := lightCheck_lt d.toNat
  exact Nat.mod_eq_of_lt (by omega)

theorem toNat_lightEncode_mod (d : Word18) : (lightEncode d).toNat % 2 ^ 18 = d.toNat := by
  have hd := d.isLt
  rw [toNat_lightEncode]
  omega

theorem toNat_lightEncode_shiftRight (d : Word18) : (lightEncode d).toNat >>> 18 = lightCheck d.toNat := by
  have hd := d.isLt
  rw [toNat_lightEncode]
  omega

theorem lightSyndrome_lightEncode (d : Word18) : lightSyndrome (lightEncode d) = 0 := by
  rw [lightSyndrome, toNat_lightEncode_mod, toNat_lightEncode_shiftRight, Nat.xor_self]

/-! ### Decoding (06 R131, R133, 07 R148) -/

/-- The data bits of a stored word are the data, and an error in them stays beside the data. -/
theorem ofNat_toNat_lightEncode_xor (d : Word18) (e : Stored) :
    BitVec.ofNat 18 (lightEncode d ^^^ e).toNat = d ^^^ BitVec.ofNat 18 e.toNat := by
  apply BitVec.eq_of_toNat_eq
  simp only [BitVec.toNat_ofNat, BitVec.toNat_xor, Nat.xor_mod_two_pow, toNat_lightEncode_mod]

/-- A stored word with an error decodes as the error alone does, over the data that were stored: the syndrome tells what is found and
what is corrected, and the stored word adds nothing to it. -/
theorem lightDecode_lightEncode_xor (d : Word18) (e : Stored) :
    lightDecode (lightEncode d ^^^ e) = ⟨(lightDecode e).kind, d ^^^ (lightDecode e).data⟩ := by
  have hsyn : lightSyndrome (lightEncode d ^^^ e) = lightSyndrome e := by
    rw [lightSyndrome_xor, lightSyndrome_lightEncode, Nat.zero_xor]
  simp only [lightDecode, hsyn, ofNat_toNat_lightEncode_xor]
  split
  next => rfl
  next =>
    split
    next => rfl
    next =>
      split
      next => rfl
      next =>
        cases (List.range 18).find? fun i => decide (lightColumn i = lightSyndrome e) with
        | none => rfl
        | some i => simp only [BitVec.xor_assoc]

/-- Where the error alone decodes to the data 0, the data that were stored are given back. -/
theorem lightDecode_lightEncode_xor_of_zero {e : Stored} {k : Light} (h : lightDecode e = ⟨k, 0⟩) (d : Word18) :
    lightDecode (lightEncode d ^^^ e) = ⟨k, d⟩ := by
  rw [lightDecode_lightEncode_xor, h]
  simp

theorem lightDecode_lightEncode (d : Word18) : lightDecode (lightEncode d) = ⟨.clean, d⟩ :=
  BitVec.xor_zero (x := lightEncode d) ▸ lightDecode_lightEncode_xor_of_zero (by decide) d

theorem lightDecode_lightPoison (d : Word18) : lightDecode (lightPoison d) = ⟨.poison, d⟩ :=
  lightDecode_lightEncode_xor_of_zero (by decide) d

/-- Each of the 24 bits alone, data or check, has a syndrome of its own, and is taken back. -/
theorem lightDecode_oneBit : ∀ i < 24, lightDecode (1#24 <<< i) = ⟨.single, 0⟩ := by decide

/-! ### The obligation -/

/-- Settles O56: what a stored word with an error decodes to is told by the error alone, which is none, one bit, or the two check bits
of the poison pattern. -/
theorem theLightCodeCorrectsOneBit : Obligations.TheLightCodeCorrectsOneBit := by
  unfold Obligations.TheLightCodeCorrectsOneBit
  exact ⟨lightDecode_lightEncode, fun d i hi => lightDecode_lightEncode_xor_of_zero (lightDecode_oneBit i hi) d,
    lightDecode_lightPoison⟩

end Sys2Proof.Machine
end

section
/-! SUPPORT. What the memory commands reply once the Lockkeeper takes them, and what they leave running (06 R140, 07 R160, 14 R362,
R363). They settle O9. -/
namespace Sys2Proof.Machine

variable {s s' : State} {r : Req} {own : Own} {ok : Bool} {op : Nat} {body : State → Res}

/-! ### Replies that come later (13 R339, R343, R344) -/

/-- A command that answers ACCEPTED, where the port has room for its record. -/
theorem State.serveCmd_of_takes_of_accept (h : s.takes r own ok) (hroom : s.room r) (hbody : body s = .accept s') :
    s.serveCmd r op own ok body = s'.accepts r op own := by
  simp only [State.serveCmd, serve_takes h, hbody, accepted_room hroom]

/-- A command that begins and does not answer yet. -/
theorem State.serveCmd_of_takes_of_wait (h : s.takes r own ok) (hbody : body s = .wait s') : s.serveCmd r op own ok body = s' := by
  simp only [State.serveCmd, serve_takes h, hbody]

/-! ### Status, fill and scrub (06 R140, 07 R160, 14 R362) -/

theorem exec_memStatus_of_takes {u : State} (h : s.takes r .anyone (r.length = 3)) (hm : (r.p 0).toNat ≤ 39)
    (hu : u = s.readLatch (0x1000000 + 0x10000 * (r.p 0).toNat + 0x30)) :
    exec (.memStatus r) s = .next (u.commit r 0x0800 .anyone stOk false
      (((List.range 19).map fun k => u.ctlReg (r.p 0).toNat (4 * k))
        ++ [u.ctlReg (r.p 0).toNat 0x80, u.ctlReg (r.p 0).toNat 0x84])) := by
  subst hu
  change execMemStatus r s = _
  rw [execMemStatus, State.serveCmd_of_takes_of_ok h (if_neg hm.not_gt)]

/-- Controllers that are all present and free are each present, and none of them fills. -/
theorem State.ctls_present_and_idle {ms : List Nat} (h : ms.all (fun m => (s.ctlAt m).present m && !(s.ctlAt m).filling) = true) :
    ms.any (fun m => !(s.ctlAt m).present m) = false ∧ ms.any (fun m => (s.ctlAt m).filling) = false := by
  simp only [List.all_eq_true, Bool.and_eq_true, Bool.not_eq_true'] at h
  simp only [List.any_eq_false, Bool.not_eq_true', Bool.not_eq_false, Bool.not_eq_true]
  exact ⟨fun m hm => (h m hm).1, fun m hm => (h m hm).2⟩

theorem exec_memFill_of_takes (h : s.takes r .owner (r.length = 3)) (hroom : s.room r) (honly : only (r.p 0) 9 = true)
    (hsome : r.p 0 ≠ 0) (hidle : (fillCtls (r.p 0)).all (fun m => (s.ctlAt m).present m && !(s.ctlAt m).filling) = true)
    (hstill : s.windowRunning = false) :
    exec (.memFill r) s = .next ((((fillCtls (r.p 0)).foldl (fun (s : State) m => s.startFill m) s).modMem fun x =>
      { x with fills := x.fills ++ [{ origin := r.origin 0x0801, mask := r.p 0, left := fillCtls (r.p 0) }] }).accepts r 0x0801
        .owner) := by
  obtain ⟨hpresent, hfree⟩ := State.ctls_present_and_idle hidle
  have hgood : ¬(!only (r.p 0) 9 ∨ r.p 0 = 0 ∨ (fillCtls (r.p 0)).any fun m => !(s.ctlAt m).present m) := by
    simp only [honly, hsome, hpresent, Bool.not_true, Bool.false_eq_true, or_self, not_false_eq_true]
  change execMemFill r s = _
  rw [execMemFill, State.serveCmd_of_takes_of_accept h hroom
    ((if_neg hgood).trans ((if_neg (ne_true_of_eq_false hstill)).trans (if_neg (ne_true_of_eq_false hfree))))]

section ScrubSet
variable (h : s.takes r .owner (r.length = 5)) (hen : only (r.p 2) 1 = true)
include h hen

/-- Of one controller or of all, the period and the patrol enable are written. -/
theorem exec_scrubSet_of_controllers (ht : (r.p 0).toNat ≤ 39 ∨ (r.p 0).toNat = 0xFF) :
    exec (.scrubSet r) s = .next (((if (r.p 0).toNat = 0xFF then List.range 40 else [(r.p 0).toNat]).foldl
      (fun (s : State) m => s.modCtl m fun c => { c with period := atLeast1 (r.p 1), patrolEn := decide (r.p 2 = 1) }) s).commit
        r 0x0802 .owner stOk false []) := by
  have hgood : ¬((39 < (r.p 0).toNat ∧ (r.p 0).toNat ≠ 0xFF ∧ (r.p 0).toNat ≠ 0x100) ∨ !only (r.p 2) 1) := by
    rw [hen, Bool.not_true, or_iff_left Bool.false_ne_true]
    omega
  have hctl : (r.p 0).toNat ≠ 0x100 := by omega
  change execScrubSet r s = _
  rw [execScrubSet, State.serveCmd_of_takes_of_ok h ((if_neg hgood).trans (if_neg hctl))]

theorem exec_scrubSet_of_controller (ht : (r.p 0).toNat ≤ 39) :
    exec (.scrubSet r) s = .next ((s.modCtl (r.p 0).toNat fun c =>
      { c with period := if r.p 1 = 0 then 1 else r.p 1, patrolEn := decide (r.p 2 = 1) }).commit r 0x0802 .owner stOk false []) := by
  rw [exec_scrubSet_of_controllers h hen (.inl ht), if_neg (by omega)]
  rfl

theorem exec_scrubSet_of_all (ht : (r.p 0).toNat = 0xFF) :
    exec (.scrubSet r) s = .next (((List.range 40).foldl (fun (s : State) m => s.modCtl m fun c =>
      { c with period := if r.p 1 = 0 then 1 else r.p 1, patrolEn := decide (r.p 2 = 1) }) s).commit r 0x0802 .owner stOk
        false []) := by
  rw [exec_scrubSet_of_controllers h hen (.inr ht), if_pos ht]
  rfl

/-- Of the cisterns, the period alone is written. -/
theorem exec_scrubSet_of_cisterns (ht : (r.p 0).toNat = 0x100) :
    exec (.scrubSet r) s = .next ((s.modCst fun c => { c with period := if r.p 1 = 0 then 1 else r.p 1 }).commit r 0x0802 .owner
      stOk false []) := by
  have hgood : ¬((39 < (r.p 0).toNat ∧ (r.p 0).toNat ≠ 0xFF ∧ (r.p 0).toNat ≠ 0x100) ∨ !only (r.p 2) 1) := by
    simp [ht, hen]
  change execScrubSet r s = _
  rw [execScrubSet, State.serveCmd_of_takes_of_ok h ((if_neg hgood).trans (if_pos ht))]
  rfl

end ScrubSet

theorem exec_cisternEcc_of_takes (h : s.takes r .anyone (r.length = 2)) :
    exec (.cisternEcc r) s = .next (s.commit r 0x0803 .anyone stOk false s.cst.eccWords) := by
  change execCisternEcc r s = _
  rw [execCisternEcc, State.serveCmd_of_takes_of_ok h rfl]

/-! ### Reads and writes (14 R363) -/

section Deep
variable (haddr : only (r.p 1) 16 = true) (hmin : 1 ≤ (r.p 2).toNat)
  (hrange : s.deepRangeOk r.deep (r.p 2).toNat = true) (hon : s.deepOff r.deep = false)
include haddr hmin hrange hon

theorem exec_memRead_of_takes (h : s.takes r .anyone (r.length = 5)) (hmax : (r.p 2).toNat ≤ 960) :
    exec (.memRead r) s = .next (s.memBegin
      { id := s.lk.memNext, req := r, write := false, addr := r.deep, count := (r.p 2).toNat }) := by
  have hgood : ¬(!only (r.p 1) 16 ∨ (r.p 2).toNat = 0 ∨ 960 < (r.p 2).toNat ∨ !s.deepRangeOk r.deep (r.p 2).toNat) := by
    simp only [haddr, hrange, Bool.not_true, Bool.false_eq_true, false_or, or_false]
    omega
  change execMemRead r s = _
  rw [execMemRead, State.serveCmd_of_takes_of_wait h ((if_neg hgood).trans (if_neg (ne_true_of_eq_false hon)))]

/-- A write may yet be accepted, so it begins only where the port has room for its record (13 R339). -/
theorem exec_memWrite_of_takes (h : s.takes r .owner (decide (5 ≤ r.length) && r.length = 5 + (r.p 2).toNat)) (hroom : s.room r)
    (hmax : (r.p 2).toNat ≤ 1019) (hwords : ((r.params.drop 3).all fun w => only w 18) = true) :
    exec (.memWrite r) s = .next (s.memBegin
      { id := s.lk.memNext, req := r, write := true, addr := r.deep, count := (r.p 2).toNat,
        words := (r.params.drop 3).map fun (w : W32) => BitVec.ofNat 18 w.toNat }) := by
  have hfit : (r.params.drop 3).any (fun w => !only w 18) = false := by
    rw [← List.not_all_eq_any_not, hwords, Bool.not_true]
  have hgood : ¬(!only (r.p 1) 16 ∨ (r.p 2).toNat = 0 ∨ 1019 < (r.p 2).toNat ∨ (r.params.drop 3).any (fun w => !only w 18) ∨
      !s.deepRangeOk r.deep (r.p 2).toNat) := by
    simp only [haddr, hrange, hfit, Bool.not_true, Bool.false_eq_true, false_or, or_false]
    omega
  change execMemWrite r s = _
  rw [execMemWrite, State.serveCmd_of_takes_of_wait h
    ((if_neg hgood).trans ((if_neg (ne_true_of_eq_false hon)).trans (if_neg (Nat.not_le.2 hroom))))]

end Deep

/-! ### The obligation -/

/-- Settles O9: each clause is the equation of its command for a request that is taken with its parameters in range. -/
theorem memoryCommandsAnswer : Obligations.MemoryCommandsAnswer := by
  unfold Obligations.MemoryCommandsAnswer
  exact ⟨fun s r h hm => exec_memStatus_of_takes h hm rfl, fun s r => exec_memFill_of_takes,
    fun s r h ht hen => exec_scrubSet_of_controller h hen ht, fun s r h ht hen => exec_scrubSet_of_all h hen ht,
    fun s r h ht hen => exec_scrubSet_of_cisterns h hen ht, fun s r => exec_cisternEcc_of_takes,
    fun s r h haddr hmin hmax hrange hon => exec_memRead_of_takes haddr hmin hrange hon h hmax,
    fun s r h hroom haddr hmin hmax hwords hrange hon =>
      exec_memWrite_of_takes haddr hmin hrange hon h hroom hmax hwords⟩

end Sys2Proof.Machine
end

section
/-! SUPPORT. What the events of the cisterns' service and patrol do, one equation for each case (06 R129, R132, R134 to R136, 08 R195,
19 R457). They settle O23. -/
namespace Sys2Proof.Machine

/-! ### Service requests (06 R134, R135, 08 R195, 19 R457) -/

section Request
variable {s u : State} {n : Fin 320} {p : Packet} {l : List Packet}

/-- The weir interface takes its first waiting request, and judges it in the state that this leaves. -/
theorem exec_cisternServiceRequest_of_work (hg : s.gated = false) (hw : (s.nodeAt n).work = p :: l)
    (hu : u = s.modNode n fun x => { x with work := l }) :
    exec (.cisternServiceRequest n) s = .next (
      if u.targetOff n p.addr then u.answerOff n p
      else if !svcAddressOk p then u.answer n p .badAddress []
      else if u.bistPlot ((svcPlace p 0).1 / 8) then u.answer n p .cisternClosed []
      else if u.svcClosed p then u.answer n p .cisternClosed []
      else if p.len = 0 then u.answer n p .ok []
      else u.modCst fun c => { c with service := c.service ++ [{ node := n, pkt := p }] }) := by
  subst hu
  change execCisternServiceRequest n s = _
  rw [execCisternServiceRequest, if_neg (ne_true_of_eq_false hg), hw]

variable (hg : s.gated = false) (hw : (s.nodeAt n).work = p :: l) (hu : u = s.modNode n fun x => { x with work := l })
include hg hw hu

theorem exec_cisternServiceRequest_of_off (hoff : u.targetOff n p.addr = true) :
    exec (.cisternServiceRequest n) s = .next (u.answerOff n p) := by
  rw [exec_cisternServiceRequest_of_work hg hw hu, if_pos hoff]

variable (hon : u.targetOff n p.addr = false)
include hon

theorem exec_cisternServiceRequest_of_badAddress (ha : svcAddressOk p = false) :
    exec (.cisternServiceRequest n) s = .next (u.answer n p .badAddress []) := by
  simp only [exec_cisternServiceRequest_of_work hg hw hu, hon, ha, Bool.false_eq_true, Bool.not_false, if_false, if_true]

variable (ha : svcAddressOk p = true)
include ha

theorem exec_cisternServiceRequest_of_closed (hc : u.bistPlot ((svcPlace p 0).1 / 8) = true ∨ u.svcClosed p = true) :
    exec (.cisternServiceRequest n) s = .next (u.answer n p .cisternClosed []) := by
  simp only [exec_cisternServiceRequest_of_work hg hw hu, hon, ha, Bool.false_eq_true, Bool.not_true, if_false]
  rcases hc with hbist | hclosed
  · rw [if_pos hbist]
  · rw [if_pos hclosed, ite_self]

variable (hb : u.bistPlot ((svcPlace p 0).1 / 8) = false) (hc : u.svcClosed p = false)
include hb hc

theorem exec_cisternServiceRequest_of_empty (hlen : p.len = 0) :
    exec (.cisternServiceRequest n) s = .next (u.answer n p .ok []) := by
  simp only [exec_cisternServiceRequest_of_work hg hw hu, hon, ha, hb, hc, hlen, Bool.false_eq_true, Bool.not_true, if_false, if_true]

theorem exec_cisternServiceRequest_of_rows (hlen : p.len ≠ 0) :
    exec (.cisternServiceRequest n) s =
      .next (u.modCst fun c => { c with service := c.service ++ [{ node := n, pkt := p }] }) := by
  simp only [exec_cisternServiceRequest_of_work hg hw hu, hon, ha, hb, hc, hlen, Bool.false_eq_true, Bool.not_true, if_false]

end Request

/-! ### Rows of a service request (06 R129, R132, R135) -/

/-- An idle cistern serves in any pulse period. -/
theorem State.svcQualifies_of_idle {s : State} {i : Nat} (h : s.cstIdle i = true) (write : Bool) : s.svcQualifies i write = true := by
  rw [State.svcQualifies, h, Bool.true_or]

section Row
variable {s : State} {i : Fin 40960} {v : Service} (hg : s.gated = false) (hv : s.cst.nextService i = some v)
include hg hv

theorem exec_cisternServiceRow_of_idle_write (hi : s.cstIdle i = true) (hcmd : v.pkt.cmd ≠ .read) :
    exec (.cisternServiceRow i) s = .next ((s.putRow i (svcPlace v.pkt v.done).2
      (lightEncode (v.pkt.words.getD v.done {}).data)).svcDone { v with done := v.done + 1 }) := by
  change execCisternServiceRow i s = _
  simp only [execCisternServiceRow, hg, hv, hi, hcmd, State.svcQualifies_of_idle hi, ne_eq, not_false_eq_true, decide_true,
    Bool.not_true, Bool.false_eq_true, if_false, if_true]

theorem exec_cisternServiceRow_of_idle_read (hi : s.cstIdle i = true) (hcmd : v.pkt.cmd = .read) :
    exec (.cisternServiceRow i) s = .next ((s.cstRead i (svcPlace v.pkt v.done).2 2).1.svcDone
      { v with done := v.done + 1,
               got := v.got ++ [{ data := (s.cstRead i (svcPlace v.pkt v.done).2 2).2.data,
                                  poison := (s.cstRead i (svcPlace v.pkt v.done).2 2).2.poisoned }] }) := by
  change execCisternServiceRow i s = _
  simp only [execCisternServiceRow, hg, hv, hi, hcmd, State.svcQualifies_of_idle hi, ne_eq, not_true_eq_false, decide_false,
    Bool.not_true, Bool.false_eq_true, if_false, if_true]

/-- In a free slot, a read delivers the row now; the slot stands until the pulse ends, which brings the write-back. -/
theorem exec_cisternServiceRow_of_slot_read {rd : LightRead} (hi : s.cstIdle i = false)
    (hrd : rd = lightDecode (s.cstRow i (svcPlace v.pkt v.done).2)) (hcmd : v.pkt.cmd = .read)
    (hq : s.svcQualifies i false = true) :
    exec (.cisternServiceRow i) s = .next ((s.modCst fun c =>
      { c with slot := tset c.slot none i (some { row := (svcPlace v.pkt v.done).2, write := none }) }).svcDone
        { v with done := v.done + 1, got := v.got ++ [{ data := rd.data, poison := rd.poisoned }] }) := by
  subst hrd
  change execCisternServiceRow i s = _
  simp only [execCisternServiceRow, hg, hv, hi, hcmd, hq, ne_eq, not_true_eq_false, decide_false, Bool.not_true,
    Bool.false_eq_true, if_false]

/-- In a free slot, a write waits there for the end of the pulse. -/
theorem exec_cisternServiceRow_of_slot_write (hi : s.cstIdle i = false) (hcmd : v.pkt.cmd ≠ .read)
    (hq : s.svcQualifies i true = true) :
    exec (.cisternServiceRow i) s = .next ((s.modCst fun c =>
      { c with slot := tset c.slot none i (some { row := (svcPlace v.pkt v.done).2,
                                                   write := some (v.pkt.words.getD v.done {}).data }) }).svcDone
        { v with done := v.done + 1 }) := by
  change execCisternServiceRow i s = _
  simp only [execCisternServiceRow, hg, hv, hi, hcmd, hq, ne_eq, not_false_eq_true, decide_true, Bool.not_true,
    Bool.false_eq_true, if_false, if_true]

end Row

/-! ### Patrol scrub (06 R136) -/

section Patrol
variable {s : State} {i : Fin 40960} (hg : s.gated = false)
include hg

theorem exec_cisternPatrolRead_of_idle (hi : s.cstIdle i = true) :
    exec (.cisternPatrolRead i) s = .next ((s.cstRead i (tget s.cst.pos 0 i) 3).1.modCst fun c => c.patrolled i) := by
  change execCisternPatrolRead i s = _
  simp only [execCisternPatrolRead, hg, hi, State.svcQualifies_of_idle hi, Bool.not_true, Bool.false_eq_true, or_self, if_false,
    if_true]

theorem exec_cisternPatrolRead_of_slot (hi : s.cstIdle i = false) (hq : s.svcQualifies i false = true) :
    exec (.cisternPatrolRead i) s = .next (s.modCst fun c =>
      ({ c with slot := tset c.slot none i (some { row := tget s.cst.pos 0 i, scrub := true }) }).patrolled i) := by
  change execCisternPatrolRead i s = _
  simp only [execCisternPatrolRead, hg, hi, hq, Bool.not_true, Bool.false_eq_true, or_self, if_false]

end Patrol

theorem exec_cisternScrubOverrun (s : State) (i : Fin 40960) :
    exec (.cisternScrubOverrun i) s = .next (s.log 0x0502 false false (w32 (cstLoc i 0)) 0 0) := rfl

/-! ### The obligation -/

/-- Settles O23: each clause is the equation of its event for that case. -/
theorem cisternServiceActs : Obligations.CisternServiceActs := by
  unfold Obligations.CisternServiceActs
  refine ⟨?request, ?idle, ?slot, fun s i => exec_cisternPatrolRead_of_idle, fun s i => exec_cisternPatrolRead_of_slot,
    exec_cisternScrubOverrun⟩
  case request =>
    intro s u n p l hg hw hu
    exact ⟨exec_cisternServiceRequest_of_off hg hw hu, exec_cisternServiceRequest_of_badAddress hg hw hu,
      exec_cisternServiceRequest_of_closed hg hw hu, fun hon ha hb hc =>
        ⟨exec_cisternServiceRequest_of_empty hg hw hu hon ha hb hc, exec_cisternServiceRequest_of_rows hg hw hu hon ha hb hc⟩⟩
  case idle =>
    intro s i v hg hv hi
    exact ⟨exec_cisternServiceRow_of_idle_write hg hv hi, exec_cisternServiceRow_of_idle_read hg hv hi⟩
  case slot =>
    intro s i v rd hg hv hi hrd
    exact ⟨exec_cisternServiceRow_of_slot_read hg hv hi hrd, exec_cisternServiceRow_of_slot_write hg hv hi⟩

end Sys2Proof.Machine
end

section
/-! SUPPORT. What every command keeps, and with it every step: the stored words and the rows of the cisterns stay canonical, the log
queue within its 512 entries, the owner legal (07 R148, 13 R324, R332). It settles O49 and O50. -/
namespace Sys2Proof.Machine

/-- Every command answers, and what it answers comes after what stood: one arm for each meaning. -/
theorem exec_keeps {k s : State} (h : Keeps k s) (cmd : Instr) : OutKeeps k (exec cmd s) :=
  match cmd with
  | .pulse o => execPulse_keeps h o
  | .spliceShadowTakeover c => execSpliceShadowTakeover_keeps h c
  | .fallbackPacketReceive path dir => execFallbackPacketReceive_keeps h path dir
  | .configurationUpset knot strand bit => execConfigurationUpset_keeps h knot strand bit
  | .verticalFrameReceive v frame good => execVerticalFrameReceive_keeps h v frame good
  | .verticalShadowStart v => execVerticalShadowStart_keeps h v
  | .clockCouplerFail k => execClockCouplerFail_keeps h k
  | .clockCouplerSwitch tierB => execClockCouplerSwitch_keeps h tierB
  | .winEdge => execWinEdge_keeps h
  | .generatorFire => execGeneratorFire_keeps h
  | .edgePulse => execEdgePulse_keeps h
  | .windowStart => execWindowStart_keeps h
  | .leatDrainComplete => execLeatDrainComplete_keeps h
  | .ledgerFlushComplete => execLedgerFlushComplete_keeps h
  | .captureCopyComplete => execCaptureCopyComplete_keeps h
  | .stallEnd => execStallEnd_keeps h
  | .longStall => execLongStall_keeps h
  | .ioOutputFrame b => execIoOutputFrame_keeps h b
  | .winStampRead f be => execWinStampRead_keeps h f be
  | .winCntLoRead f be => execWinCntLoRead_keeps h f be
  | .cisternServiceRequest n => execCisternServiceRequest_keeps h n
  | .cisternServiceRow i => execCisternServiceRow_keeps h i
  | .cisternPatrolRead i => execCisternPatrolRead_keeps h i
  | .cisternScrubOverrun i => execCisternScrubOverrun_keeps h i
  | .memoryRequest m => execMemoryRequest_keeps h m
  | .pagePathComplete m => execPagePathComplete_keeps h m
  | .ledgerEntryFlush m => execLedgerEntryFlush_keeps h m
  | .patrolScrub m => execPatrolScrub_keeps h m
  | .scrubOverrun m => execScrubOverrun_keeps h m
  | .fillDone m => execFillDone_keeps h m
  | .memChFill f be m data => execMemChFill_keeps h f be m data
  | .memoryWakeComplete d => execMemoryWakeComplete_keeps h d
  | .memoryIdleReturn d => execMemoryIdleReturn_keeps h d
  | .caParityError ch retryOk => execCaParityError_keeps h ch retryOk
  | .memLastAddrRead f be m => execMemLastAddrRead_keeps h f be m
  | .hostWindowRequest => execHostWindowRequest_keeps h
  | .hostCompletion id st ep bytes => execHostCompletion_keeps h id st ep bytes
  | .completionTimeout id => execCompletionTimeout_keeps h id
  | .bar4Read off => execBar4Read_keeps h off
  | .bar4Write off be data => execBar4Write_keeps h off be data
  | .weirHop n held => execWeirHop_keeps h n held
  | .trainInjection n => execTrainInjection_keeps h n
  | .leatRequestReceive n => execLeatRequestReceive_keeps h n
  | .leatResponseReceive n => execLeatResponseReceive_keeps h n
  | .creditReceive n => execCreditReceive_keeps h n
  | .reservationRequest src tgt => execReservationRequest_keeps h src tgt
  | .reservationRetry src tgt => execReservationRetry_keeps h src tgt
  | .reservationIdleRelease src tgt => execReservationIdleRelease_keeps h src tgt
  | .responseTimeout src tgt tag => execResponseTimeout_keeps h src tgt tag
  | .isolation n => execIsolation_keeps h n
  | .leatCommitArm f be data => execLeatCommitArm_keeps h f be data
  | .routeCheckComplete => execRouteCheckComplete_keeps h
  | .leatIsolClr f be data => execLeatIsolClr_keeps h f be data
  | .leatSvcWrite f be link data => execLeatSvcWrite_keeps h f be link data
  | .gwyniorEndpointRequest i => execGwyniorEndpointRequest_keeps h i
  | .flmChTailWrite f be c data => execFlmChTailWrite_keeps h f be c data
  | .flmRun f be c data => execFlmRun_keeps h f be c data
  | .flmAbort f be c data => execFlmAbort_keeps h f be c data
  | .flmRingLoWrite f be c data => execFlmRingLoWrite_keeps h f be c data
  | .descriptorFetch c => execDescriptorFetch_keeps h c
  | .descriptorArrival c words good => execDescriptorArrival_keeps h c words good
  | .readArbiterGrant => execReadArbiterGrant_keeps h
  | .writeArbiterGrant => execWriteArbiterGrant_keeps h
  | .descriptorWriteback c => execDescriptorWriteback_keeps h c
  | .powerOn st => execPowerOn_keeps h st
  | .powerOff => execPowerOff_keeps h
  | .resetNAssert => execResetNAssert_keeps h
  | .warmResetQuiesceDone => execWarmResetQuiesceDone_keeps h
  | .resetTimeout ctls => execResetTimeout_keeps h ctls
  | .resetNRelease winMstr cool => execResetNRelease_keeps h winMstr cool
  | .powerGood => execPowerGood_keeps h
  | .lockkeeperInService => execLockkeeperInService_keeps h
  | .fullLoadComplete => execFullLoadComplete_keeps h
  | .applyFail => execApplyFail_keeps h
  | .pllLock p => execPllLock_keeps h p
  | .releaseStep vccio => execReleaseStep_keeps h vccio
  | .cfgReleaseGo f be data => execCfgReleaseGo_keeps h f be data
  | .stageReadbackComplete => execStageReadbackComplete_keeps h
  | .patchCopyComplete => execPatchCopyComplete_keeps h
  | .partialApplyComplete => execPartialApplyComplete_keeps h
  | .verifyComplete => execVerifyComplete_keeps h
  | .scrubFrameRead => execScrubFrameRead_keeps h
  | .repairFrameArrival bad => execRepairFrameArrival_keeps h bad
  | .scrubWdog => execScrubWdog_keeps h
  | .laneDirectionFailing g tx os => execLaneDirectionFailing_keeps h g tx os
  | .alignBlockReceive g l payload => execAlignBlockReceive_keeps h g l payload
  | .idleColumnAdjust i fill => execIdleColumnAdjust_keeps h i fill
  | .lanePllUnlock g => execLanePllUnlock_keeps h g
  | .standbyPllTakeover g => execStandbyPllTakeover_keeps h g
  | .frameSend i o => execFrameSend_keeps h i o
  | .slotFrameReceive i f => execSlotFrameReceive_keeps h i f
  | .ctrlFrameReceive i f => execCtrlFrameReceive_keeps h i f
  | .txnFrameReceive i f => execTxnFrameReceive_keeps h i f
  | .startReceive i f => execStartReceive_keeps h i f
  | .startAckReceive i f => execStartAckReceive_keeps h i f
  | .goReceive i f => execGoReceive_keeps h i f
  | .arrayStartTimeout => execArrayStartTimeout_keeps h
  | .mgmtCommand i f => execMgmtCommand_keeps h i f
  | .mgmtReply i f => execMgmtReply_keeps h i f
  | .mgmtRecord i f => execMgmtRecord_keeps h i f
  | .forwardTimeout i => execForwardTimeout_keeps h i
  | .replayTimeout i => execReplayTimeout_keeps h i
  | .linkDown i => execLinkDown_keeps h i
  | .linkUp i o => execLinkUp_keeps h i o
  | .lnkCtlEn f be i data => execLnkCtlEn_keeps h f be i data
  | .lnkCtlRetrain f be i data => execLnkCtlRetrain_keeps h f be i data
  | .bar0Write f be off data => execBar0Write_keeps h f be off data
  | .bar0ReadOffDomain f be off => execBar0ReadOffDomain_keeps h f be off
  | .pcieReset k => execPcieReset_keeps h k
  | .functionLevelReset f => execFunctionLevelReset_keeps h f
  | .d3hotEntry f => execD3hotEntry_keeps h f
  | .d3hotExit f => execD3hotExit_keeps h f
  | .smbusReq bytes pec => execSmbusReq_keeps h bytes pec
  | .smbusReqEnd bytes pec => execSmbusReqEnd_keeps h bytes pec
  | .smbusAbort data pec => execSmbusAbort_keeps h data pec
  | .smbusReply => execSmbusReply_keeps h
  | .smbusRecord => execSmbusRecord_keeps h
  | .smbusStatus => execSmbusStatus_keeps h
  | .smbusAlertResponse => execSmbusAlertResponse_keeps h
  | .smbusAddressMatch addr => execSmbusAddressMatch_keeps h addr
  | .smbusTimeout => execSmbusTimeout_keeps h
  | .jtagCmd => execJtagCmd_keeps h
  | .jtagRequestWord w => execJtagRequestWord_keeps h w
  | .jtagLastWord w => execJtagLastWord_keeps h w
  | .jtagAdvance => execJtagAdvance_keeps h
  | .jtagCapture => execJtagCapture_keeps h
  | .extest => execExtest_keeps h
  | .samplePreload cells => execSamplePreload_keeps h cells
  | .clamp => execClamp_keeps h
  | .highz => execHighz_keeps h
  | .idcode => execIdcode_keeps h
  | .usercode => execUsercode_keeps h
  | .bypass code => execBypass_keeps h code
  | .tapReset => execTapReset_keeps h
  | .frInputEntry b bits => execFrInputEntry_keeps h b bits
  | .frOutputEntry b => execFrOutputEntry_keeps h b
  | .mbxDoorbell f words tail data => execMbxDoorbell_keeps h f words tail data
  | .badOpcode opcode r => execBadOpcode_keeps h opcode r
  | .housekeeping => execHousekeeping_keeps h
  | .lockstepMismatch => execLockstepMismatch_keeps h
  | .fetchTrap lo hi dataArea => execFetchTrap_keeps h lo hi dataArea
  | .hwResponderCutoff p => execHwResponderCutoff_keeps h p
  | .leaseExpiry => execLeaseExpiry_keeps h
  | .sensorSample o => execSensorSample_keeps h o
  | .logHeadgateWrite => execLogHeadgateWrite_keeps h
  | .controlRingSegmentFail v => execControlRingSegmentFail_keeps h v
  | .idGet r => execIdGet_keeps h r
  | .ping r => execPing_keeps h r
  | .csrRead r => execCsrRead_keeps h r
  | .csrWrite r => execCsrWrite_keeps h r
  | .claim r => execClaim_keeps h r
  | .release r => execRelease_keeps h r
  | .handover r => execHandover_keeps h r
  | .leaseSet r => execLeaseSet_keeps h r
  | .ownerGet r => execOwnerGet_keeps h r
  | .forward r => execForward_keeps h r
  | .imgStatus r => execImgStatus_keeps h r
  | .stageHost r => execStageHost_keeps h r
  | .stageBegin r => execStageBegin_keeps h r
  | .stageChunk r => execStageChunk_keeps h r
  | .stageEnd r => execStageEnd_keeps h r
  | .rollback r => execRollback_keeps h r
  | .join r => execJoin_keeps h r
  | .cancel r => execCancel_keeps h r
  | .verify r => execVerify_keeps h r
  | .releaseGo r => execReleaseGo_keeps h r
  | .imgHeader r => execImgHeader_keeps h r
  | .winStatus r => execWinStatus_keeps h r
  | .winHold r => execWinHold_keeps h r
  | .winConfig r => execWinConfig_keeps h r
  | .arrayStart r => execArrayStart_keeps h r
  | .faultClear r => execFaultClear_keeps h r
  | .pwrStatus r => execPwrStatus_keeps h r
  | .domainSet r => execDomainSet_keeps h r
  | .deviceSleep r => execDeviceSleep_keeps h r
  | .wakeConfig r => execWakeConfig_keeps h r
  | .wake r => execWake_keeps h r
  | .thermalSet r => execThermalSet_keeps h r
  | .clkStatus r => execClkStatus_keeps h r
  | .refSelect r => execRefSelect_keeps h r
  | .sluiceSet r => execSluiceSet_keeps h r
  | .sensorRead r => execSensorRead_keeps h r
  | .spliceSummary r => execSpliceSummary_keeps h r
  | .splicePair r => execSplicePair_keeps h r
  | .logRead r => execLogRead_keeps h r
  | .logInfo r => execLogInfo_keeps h r
  | .linkStatus r => execLinkStatus_keeps h r
  | .laneGroup r => execLaneGroup_keeps h r
  | .linkSet r => execLinkSet_keeps h r
  | .arrayStatus r => execArrayStatus_keeps h r
  | .memStatus r => execMemStatus_keeps h r
  | .memFill r => execMemFill_keeps h r
  | .scrubSet r => execScrubSet_keeps h r
  | .cisternEcc r => execCisternEcc_keeps h r
  | .memRead r => execMemRead_keeps h r
  | .memWrite r => execMemWrite_keeps h r
  | .flmStatus r => execFlmStatus_keeps h r
  | .flmRing r => execFlmRing_keeps h r
  | .flmTail r => execFlmTail_keeps h r
  | .flmCtl r => execFlmCtl_keeps h r
  | .horizon r => execHorizon_keeps h r
  | .niStatus r => execNiStatus_keeps h r
  | .niSet r => execNiSet_keeps h r
  | .routeWrite r => execRouteWrite_keeps h r
  | .routeRead r => execRouteRead_keeps h r
  | .otkRsvWrite r => execOtkRsvWrite_keeps h r
  | .routeArm r => execRouteArm_keeps h r
  | .isolClear r => execIsolClear_keeps h r
  | .attest r => execAttest_keeps h r
  | .attestReportDone => execAttestReportDone_keeps h
  | .attestGet r => execAttestGet_keeps h r
  | .certGet r => execCertGet_keeps h r
  | .keyStatus r => execKeyStatus_keeps h r
  | .keyInstall r => execKeyInstall_keeps h r
  | .keyRevoke r => execKeyRevoke_keeps h r
  | .fwChunk r => execFwChunk_keeps h r
  | .fwSwitch r => execFwSwitch_keeps h r
  | .fwVerifyComplete => execFwVerifyComplete_keeps h
  | .bistRun r => execBistRun_keeps h r
  | .bistTestComplete o => execBistTestComplete_keeps h o
  | .bistResult r => execBistResult_keeps h r
  | .dieReset r => execDieReset_keeps h r
  | .dieResetComplete die => execDieResetComplete_keeps h die
  | .domainReset r => execDomainReset_keeps h r
  | .domainResetComplete d mv => execDomainResetComplete_keeps h d mv
  | .deviceReset r => execDeviceReset_keeps h r
  | .lkRestart r => execLkRestart_keeps h r
  | .sillResetHoldEnd => execSillResetHoldEnd_keeps h
  | .forcedResetComplete => execForcedResetComplete_keeps h
  | .capture r => execCapture_keeps h r
  | .restore r => execRestore_keeps h r
  | .frameRead r => execFrameRead_keeps h r
  | .ffRead r => execFfRead_keeps h r
  | .refLost r => execRefLost_keeps h r
  | .refQualified r => execRefQualified_keeps h r
  | .refCompare ppm => execRefCompare_keeps h ppm
  | .clkRefSelectWrite f be data => execClkRefSelectWrite_keeps h f be data
  | .muxSwitchComplete m => execMuxSwitchComplete_keeps h m
  | .muxForced m => execMuxForced_keeps h m
  | .muxAbandoned m => execMuxAbandoned_keeps h m
  | .safeEntered => execSafeEntered_keeps h
  | .refRestored => execRefRestored_keeps h
  | .pllUnlock p => execPllUnlock_keeps h p
  | .sluiceReqWrite f be n data => execSluiceReqWrite_keeps h f be n data
  | .sluiceClose n => execSluiceClose_keeps h n
  | .sluiceFail n => execSluiceFail_keeps h n
  | .sluiceReopen n => execSluiceReopen_keeps h n
  | .throttleRelockComplete => execThrottleRelockComplete_keeps h
  | .domainChangeComplete d mv => execDomainChangeComplete_keeps h d mv
  | .sleepEntryComplete => execSleepEntryComplete_keeps h
  | .wakeTimer => execWakeTimer_keeps h
  | .deviceWakeComplete o => execDeviceWakeComplete_keeps h o
  | .quadrantWakeComplete q banks => execQuadrantWakeComplete_keeps h q banks
  | .pwrOffReq f be data => execPwrOffReq_keeps h f be data
  | .pwrCancel f be data => execPwrCancel_keeps h f be data
  | .orderlyStopTimeout => execOrderlyStopTimeout_keeps h
  | .hardTrip diodes => execHardTrip_keeps h diodes
  | .imageCommit r => execImageCommit_keeps h r
  | .frameAlignmentLoss v => execFrameAlignmentLoss_keeps h v
  | .warmResetBegin => execWarmResetBegin_keeps h
  | .perstNRelease => execPerstNRelease_keeps h
  | .pcieLinkUp speed width c0 c1 => execPcieLinkUp_keeps h speed width c0 c1
  | .msixUnmask f v => execMsixUnmask_keeps h f v
  | .ddrTrainingComplete ch spd fail => execDdrTrainingComplete_keeps h ch spd fail
  | .restoreComplete => execRestoreComplete_keeps h

/-- Every step answers, and what it answers comes after the state with its front command taken. -/
theorem step_keeps (s : State) : OutKeeps { s with pending := s.pending.tail } (step s) := by
  unfold step
  cases hp : s.pending with
  | nil => exact next_keeps (by rw [List.tail_nil, ← hp]; exact .refl s)
  | cons c l => exact exec_keeps (.refl _) c

/-- Settles O49: the tables are empty, the log queue too, and nobody owns the device. -/
theorem resetMeetsTheInvariants : Obligations.ResetMeetsTheInvariants := by
  unfold Obligations.ResetMeetsTheInvariants
  exact ⟨rfl, rfl, Nat.zero_le 512, Nat.zero_le 4⟩

/-- Settles O50: the state that a step answers comes after the state before it, and what comes after keeps the three invariants. -/
theorem everyStepKeepsTheInvariants : Obligations.EveryStepKeepsTheInvariants := by
  unfold Obligations.EveryStepKeepsTheInvariants
  intro s t hmem hrows hlegal hstep
  obtain ⟨u, hu, hkeeps⟩ := step_keeps s
  obtain rfl : u = t := Host.Outcome.next.inj (hu.symm.trans hstep)
  exact ⟨hkeeps.words hmem, hkeeps.rows hrows, hkeeps.legal hlegal⟩

end Sys2Proof.Machine
end

section
/-! SUPPORT. What the patrol of a memory controller does to the page it reads, and what it leaves of a page that reads clean (07 R149,
R156, R159). It settles O25. -/
namespace Sys2Proof.Machine

/-! ### A page that reads clean (07 R148, R156) -/

theorem satAdd_zero {w : Nat} (x : BitVec w) : satAdd x 0 = x := by
  simp [satAdd, x.isLt]

section Clean
variable {rs : List LightRead} (h : ∀ r ∈ rs, r.kind = .clean)
include h

/-- Nothing is to be corrected. -/
theorem singleFixes_of_clean (base : Nat) : singleFixes base rs = [] := by
  rw [singleFixes, List.filterMap_eq_nil_iff]
  rintro ⟨j, r⟩ hr
  rw [if_neg (by rw [h r (List.of_mem_zip hr).2]; decide)]

/-- No word is poisoned. -/
theorem pageWhere_poison_of_clean (m page : Nat) : pageWhere m page (fun r => r.kind = Light.poison) rs = [] := by
  have hkind (j : Nat) : (rs.getD j ⟨.clean, 0⟩).kind = .clean := by
    rw [List.getD_eq_getElem?_getD]
    cases hr : rs[j]? with
    | none => rfl
    | some r => exact h r (List.mem_of_getElem? hr)
  simp only [pageWhere, hkind, reduceCtorEq, decide_false, List.filter_false, List.map_nil]

/-- No word is uncorrectable. -/
theorem any_bad_of_clean : (rs.any fun r => r.kind = .bad) = false := by
  rw [List.any_eq_false]
  intro r hr
  rw [h r hr]
  decide

end Clean

section Controller
variable {s : State} {m : Nat}

theorem State.ledgerRead_of_none {page : Nat} (h : (s.ctlAt m).entry page = none) : s.ledgerRead m page = (s, none) := by
  rw [State.ledgerRead, h]

/-- Two changes that agree on a controller's record change the state alike. -/
theorem State.modCtl_congr {f g : MemCtl → MemCtl} (h : f (s.ctlAt m) = g (s.ctlAt m)) : s.modCtl m f = s.modCtl m g :=
  congrArg (fun c => s.modMem fun x => { x with ctl := tset x.ctl {} m c }) h

theorem State.putStored_nil (page : Nat) : s.putStored m page [] = s := rfl

/-- Where no error was corrected, the controller's record is written as it was. -/
theorem State.correct_zero : s.correct m 0 = s.modCtl m fun c => c := by simp only [State.correct, satAdd_zero]

theorem State.poisonDelivered_nil (req : Nat) : s.poisonDelivered m req [] = s := rfl

end Controller

/-! ### The next page (07 R159, R164) -/

theorem MemCtl.patrolled_of_next {c : MemCtl} {m : Nat} (h : c.pos.toNat + 1 < c.pages m) :
    c.patrolled m = { c with pos := c.pos + 1 } := if_pos h

theorem MemCtl.patrolled_of_last {c : MemCtl} {m : Nat} (h : c.pages m ≤ c.pos.toNat + 1) :
    c.patrolled m = { c with pos := 0, pass := satInc c.pass } := if_neg h.not_gt

/-! ### PATROL_SCRUB -/

section Patrol
variable {s : State} {m : Fin 40}

/-- The patrol reads its page in the state that the reading of the ledger leaves, corrects and counts, and goes on. -/
theorem exec_patrolScrub_of_runs {u v : State} {ws : List LightRead} (hruns : s.patrolRuns m = true)
    (hu : u = (s.ledgerRead m (s.ctlAt m).pos.toNat).1) (hws : ws = u.pageRead m (s.ctlAt m).pos.toNat)
    (hv : v = ((u.putStored m (s.ctlAt m).pos.toNat (singleFixes 0 ws)).correct m (singleFixes 0 ws).length).poisonDelivered m
      reqPatrol (pageWhere m (s.ctlAt m).pos.toNat (fun r => r.kind = Light.poison) ws)) :
    exec (.patrolScrub m) s = .next ((if (ws.any fun r => r.kind = .bad) ∨
        pageSyndrome ws ((s.ledgerRead m (s.ctlAt m).pos.toNat).2.getD []) = true then
      v.startPath m (s.ctlAt m).pos.toNat .patrol else v).modCtl m fun c => c.patrolled m) := by
  subst hu hws hv
  change execPatrolScrub m s = _
  simp only [execPatrolScrub, hruns, Bool.not_true, Bool.false_eq_true, if_false, Bool.or_eq_true]

theorem exec_patrolScrub_of_still (hruns : s.patrolRuns m = false) : exec (.patrolScrub m) s = .next s := by
  change execPatrolScrub m s = _
  simp only [execPatrolScrub, hruns, Bool.not_false, if_true]

/-- Of a page without a ledger entry that reads clean, with a zero syndrome, only the place of the patrol changes. -/
theorem exec_patrolScrub_of_clean (hruns : s.patrolRuns m = true) (hentry : (s.ctlAt m).entry (s.ctlAt m).pos.toNat = none)
    (hclean : ∀ r ∈ s.pageRead m (s.ctlAt m).pos.toNat, r.kind = .clean)
    (hsyn : pageSyndrome (s.pageRead m (s.ctlAt m).pos.toNat) [] = false) :
    exec (.patrolScrub m) s = .next (s.modCtl m fun c => c.patrolled m) := by
  have hread := State.ledgerRead_of_none hentry
  rw [exec_patrolScrub_of_runs hruns rfl rfl rfl, hread]
  simp only [singleFixes_of_clean hclean, pageWhere_poison_of_clean hclean, any_bad_of_clean hclean, List.length_nil,
    State.putStored_nil, State.correct_zero, State.poisonDelivered_nil, Option.getD_none, hsyn,
    Bool.false_eq_true, or_self, if_false, State.modCtl_modCtl]

end Patrol

/-! ### The obligation -/

/-- Settles O25: a clean page leaves nothing to correct, count or start, and the place moves on by whether the page is the last. -/
theorem patrolScrubAdvancesThePatrol : Obligations.PatrolScrubAdvancesThePatrol := by
  unfold Obligations.PatrolScrubAdvancesThePatrol
  refine ⟨fun s u m ws hruns hu hws v => exec_patrolScrub_of_runs hruns hu hws, ?clean, fun s m => exec_patrolScrub_of_still⟩
  case clean =>
    intro s m hruns hentry hclean hsyn
    rw [exec_patrolScrub_of_clean hruns hentry hclean hsyn]
    exact ⟨fun h => congrArg _ (State.modCtl_congr (MemCtl.patrolled_of_next h)),
      fun h => congrArg _ (State.modCtl_congr (MemCtl.patrolled_of_last h))⟩

end Sys2Proof.Machine
end

section
/-! SUPPORT. What the events of the memory controllers do, one equation for each case (07 R145, R147, R150, R153, R158 to R161,
17 R415, R417). They settle O24. -/
namespace Sys2Proof.Machine

/-! ### Requests and the page path (07 R141, R150, R158, R161) -/

section Request
variable {s : State} {m : Fin 40}

/-- The next request is served by its kind, once its words exist. -/
theorem State.serveOne_of_next {p : Packet} (hp : s.nextWork m = some p) :
    s.serveOne m = if !s.memRange p.addr p.len then s.finishWork m p .badAddress []
      else if p.cmd = .read then s.serveRead m p else s.serveWrite m p := by
  rw [State.serveOne, hp]

variable (hwork : (s.nodeAt (ctlNode m)).work ≠ []) (hg : s.gated = false)
include hwork hg

theorem exec_memoryRequest_of_work : exec (.memoryRequest m) s =
    .next (if (s.ctlAt m).pstate = .run then s.serveOne m else (s.wakeMem m).memEvt m 6) := by
  change execMemoryRequest m s = _
  rw [execMemoryRequest, if_neg (by simp [hwork, hg])]

theorem exec_memoryRequest_of_asleep (hst : (s.ctlAt m).pstate ≠ .run) :
    exec (.memoryRequest m) s = .next ((s.wakeMem m).memEvt m 6) := by
  rw [exec_memoryRequest_of_work hwork hg, if_neg hst]

section Next
variable {p : Packet} (hst : (s.ctlAt m).pstate = .run) (hp : s.nextWork m = some p)
include hst hp

theorem exec_memoryRequest_of_badAddress (hr : s.memRange p.addr p.len = false) :
    exec (.memoryRequest m) s = .next (s.finishWork m p .badAddress []) := by
  simp only [exec_memoryRequest_of_work hwork hg, hst, State.serveOne_of_next hp, hr, Bool.not_false, if_true]

theorem exec_memoryRequest_of_read (hr : s.memRange p.addr p.len = true) (hcmd : p.cmd = .read) :
    exec (.memoryRequest m) s = .next (s.serveRead m p) := by
  simp only [exec_memoryRequest_of_work hwork hg, hst, State.serveOne_of_next hp, hr, hcmd, Bool.not_true, Bool.false_eq_true,
    if_false, if_true]

theorem exec_memoryRequest_of_write (hr : s.memRange p.addr p.len = true) (hcmd : p.cmd ≠ .read) :
    exec (.memoryRequest m) s = .next (s.serveWrite m p) := by
  simp only [exec_memoryRequest_of_work hwork hg, hst, State.serveOne_of_next hp, hr, hcmd, Bool.not_true, Bool.false_eq_true,
    if_false, if_true]

end Next
end Request

theorem exec_pagePathComplete_of_path {s : State} {m : Fin 40} {page : Nat} {why : PathWhy} (hg : s.gated = false)
    (hpath : (s.ctlAt m).path = some (page, why)) :
    exec (.pagePathComplete m) s = .next ((s.endPath m page).serveAll m) := by
  change execPagePathComplete m s = _
  rw [execPagePathComplete, hpath]
  simp only [hg, Bool.false_eq_true, if_false]

/-! ### The ledger (07 R153) -/

section Ledger
variable {s : State} {m : Fin 40} {e : Ledger} {l : List Ledger} (hl : (s.ctlAt m).ledger = e :: l)
  (hpath : (s.ctlAt m).path = none)
include hl hpath

theorem exec_ledgerEntryFlush_of_entry : exec (.ledgerEntryFlush m) s = .next (
    if s.win.st = .boundary ∧ s.win.step = 4 then s.flushEntry m e false
    else if (s.ctlAt m).draining then
      if (s.ctlAt m).drainOver then s.modCtl m fun c => { c with draining := false }
      else if (s.ctlAt m).flushed ∧ (s.nextWork m).isSome then s
      else (s.flushEntry m e true).modCtl m fun c => { c with draining := c.draining && !c.drainOver, flushed := true }
    else s) := by
  change execLedgerEntryFlush m s = _
  simp only [execLedgerEntryFlush, hl, hpath, Option.isSome_none, Bool.false_eq_true, if_false]

theorem exec_ledgerEntryFlush_of_step4 (hb : s.win.st = .boundary) (hstep : s.win.step = 4) :
    exec (.ledgerEntryFlush m) s = .next (s.flushEntry m e false) := by
  rw [exec_ledgerEntryFlush_of_entry hl hpath, if_pos ⟨hb, hstep⟩]

variable (hb : s.win.st ≠ .boundary) (hd : (s.ctlAt m).draining = true)
include hb hd

/-- The flush of the limit rule ends once the ledger is within it. -/
theorem exec_ledgerEntryFlush_of_drained (hover : (s.ctlAt m).drainOver = true) :
    exec (.ledgerEntryFlush m) s = .next (s.modCtl m fun c => { c with draining := false }) := by
  rw [exec_ledgerEntryFlush_of_entry hl hpath, if_neg fun h => hb h.1, if_pos hd, if_pos hover]

/-- Under the limit rule an entry is flushed where none has been since the last request, or where none waits. -/
theorem exec_ledgerEntryFlush_of_draining (hover : (s.ctlAt m).drainOver = false)
    (hturn : (s.ctlAt m).flushed = false ∨ s.nextWork m = none) :
    exec (.ledgerEntryFlush m) s = .next ((s.flushEntry m e true).modCtl m fun c =>
      { c with draining := c.draining && !c.drainOver, flushed := true }) := by
  have hfree : ¬((s.ctlAt m).flushed = true ∧ (s.nextWork m).isSome = true) := by
    rcases hturn with h | h <;> simp [h]
  rw [exec_ledgerEntryFlush_of_entry hl hpath, if_neg fun h => hb h.1, if_pos hd, if_neg (ne_true_of_eq_false hover), if_neg hfree]

end Ledger

/-! ### Patrol overrun and fill (07 R159, R160) -/

theorem exec_scrubOverrun_of_patrolled {s : State} {m : Fin 40} (hen : (s.ctlAt m).patrolEn = true)
    (hv : (s.ctlAt m).valid = true) :
    exec (.scrubOverrun m) s = .next ((s.log 0x0604 false false (w32 m) (w32 (s.ctlAt m).pos.toNat) 0).memEvt m 4) := by
  change execScrubOverrun m s = _
  rw [execScrubOverrun, if_pos ⟨hen, hv⟩]

theorem exec_fillDone_of_filling {s : State} {m : Fin 40} (hf : (s.ctlAt m).filling = true)
    (hready : m.val < 32 ∨ (s.ctlAt m).ready = true) :
    exec (.fillDone m) s = .next (((s.filled m).fillCounted m).serveAll m) := by
  have hgoes : ¬(!(s.ctlAt m).filling ∨ (32 ≤ m.val ∧ !(s.ctlAt m).ready)) := by
    rcases hready with h | h <;> simp [hf, h]
  change execFillDone m s = _
  rw [execFillDone, if_neg hgoes]

/-! ### Domains of the memory (07 R161, 17 R415, R417) -/

theorem exec_memoryWakeComplete_of_waking {s : State} {d : Fin 9} (hw : s.domSt (memDomain d) = .waking)
    (hc : (s.pwr.changed.any fun q => q.dom = memDomain d) = false) :
    exec (.memoryWakeComplete d) s = .next (s.memUp (memDomain d)) := by
  change execMemoryWakeComplete d s = _
  rw [execMemoryWakeComplete, if_pos ⟨hw, by rw [hc]; rfl⟩]

theorem exec_memoryIdleReturn_of_idle {s : State} {d : Fin 9} {st : PState}
    (hst : ((domainCtls (memDomain d)).filterMap fun k => (s.ctlAt k).wokenFrom).head? = some st)
    (hidle : ∀ k ∈ domainCtls (memDomain d), (s.ctlAt k).pstate = .run ∧ (s.nodeAt (ctlNode k)).work = [] ∧
      (s.nodeAt (ctlNode k)).rxReq = []) :
    exec (.memoryIdleReturn d) s = .next (s.memLeave (memDomain d) st) := by
  have hall : ((domainCtls (memDomain d)).all fun k => (s.ctlAt k).pstate = .run && (s.nodeAt (ctlNode k)).work.isEmpty &&
      (s.nodeAt (ctlNode k)).rxReq.isEmpty) = true := by
    rw [List.all_eq_true]
    intro k hk
    obtain ⟨hrun, hwork, hreq⟩ := hidle k hk
    simp [hrun, hwork, hreq]
  change execMemoryIdleReturn d s = _
  simp only [execMemoryIdleReturn, hst, hall, if_true]

/-! ### Faults and training of the DDR4 channels (07 R145, R147) -/

theorem exec_caParityError (s : State) (ch : Fin 8) (retryOk : Bool) :
    exec (.caParityError ch retryOk) s = .next (if retryOk then s else s.log 0x0606 true false (w32 ch) 0 0) := rfl

section Training
variable (s : State) (ch : Fin 8) {spd : Spd}

theorem exec_ddrTrainingComplete_of_trained (hs : spd.supported = true) :
    exec (.ddrTrainingComplete ch (some spd) none) s = .next (((s.modCtl (32 + ch.val) fun c =>
      { c with spd := some spd, ready := true, trainDone := true, trainFail := false, failLane := 0, failRank := 0 }).setRates
        (ch / 4)).serveAll (32 + ch.val)) := by
  change execDdrTrainingComplete ch (some spd) none s = _
  simp only [execDdrTrainingComplete, Option.filter_some, hs, if_true, Option.isSome_some, Option.isNone_none,
    Option.isSome_none, Bool.and_true, Bool.and_false, Option.map_none, Option.getD_none]

theorem exec_ddrTrainingComplete_of_failed (hs : spd.supported = true) (lane : BitVec 4) (rank : BitVec 2) :
    exec (.ddrTrainingComplete ch (some spd) (some (lane, rank))) s = .next (((s.modCtl (32 + ch.val) fun c =>
      { c with spd := some spd, ready := true, filling := false, trainDone := false, trainFail := true, failLane := lane,
               failRank := rank }).setRates (ch / 4)).serveAll (32 + ch.val)) := by
  change execDdrTrainingComplete ch (some spd) (some (lane, rank)) s = _
  simp only [execDdrTrainingComplete, Option.filter_some, hs, if_true, Option.isSome_some, Option.isNone_some, Bool.and_true,
    Bool.and_false, Option.map_some, Option.getD_some]

/-- An empty slot, or a DIMM that is not supported, leaves the channel without one. -/
theorem exec_ddrTrainingComplete_of_absent {spd : Option Spd} (hs : spd.any Spd.supported = false) :
    exec (.ddrTrainingComplete ch spd none) s = .next (((s.modCtl (32 + ch.val) fun c =>
      { c with spd := none, ready := true, filling := false, trainDone := false, trainFail := false, failLane := 0,
               failRank := 0 }).setRates (ch / 4)).serveAll (32 + ch.val)) := by
  have hnone : spd.filter Spd.supported = none := by
    cases spd with
    | none => rfl
    | some d => exact Option.filter_some_neg hs
  change execDdrTrainingComplete ch spd none s = _
  simp only [execDdrTrainingComplete, hnone, Option.isSome_none, Bool.and_false, Bool.false_and, Option.map_none, Option.getD_none]

end Training

/-! ### The obligation -/

/-- Settles O24: each clause is the equation of its event for that case. -/
theorem memoryControllerEventsAct : Obligations.MemoryControllerEventsAct := by
  unfold Obligations.MemoryControllerEventsAct
  refine ⟨?request, fun s m page w => exec_pagePathComplete_of_path, ?ledger, fun s m => exec_scrubOverrun_of_patrolled,
    fun s m => exec_fillDone_of_filling, fun s d => exec_memoryWakeComplete_of_waking,
    fun s d st => exec_memoryIdleReturn_of_idle, fun s ch => ⟨exec_caParityError s ch true, exec_caParityError s ch false⟩,
    fun s ch spd hs => ⟨exec_ddrTrainingComplete_of_trained s ch hs, exec_ddrTrainingComplete_of_failed s ch hs⟩,
    fun s ch spd => exec_ddrTrainingComplete_of_absent s ch⟩
  case request =>
    intro s m hwork hg
    exact ⟨exec_memoryRequest_of_asleep hwork hg, fun p hst hp => ⟨exec_memoryRequest_of_badAddress hwork hg hst hp,
      exec_memoryRequest_of_read hwork hg hst hp, exec_memoryRequest_of_write hwork hg hst hp⟩⟩
  case ledger =>
    intro s m e l hl hpath
    exact ⟨exec_ledgerEntryFlush_of_step4 hl hpath, exec_ledgerEntryFlush_of_drained hl hpath,
      exec_ledgerEntryFlush_of_draining hl hpath⟩

end Sys2Proof.Machine
end

section
/-! SUPPORT. What the events of the host's memory do, one equation for each case: the host window, completions of PCIe reads and BAR4
(07 R162, R163, 08 R195, R197, 12 R294, R298, 18 R446). They settle O26. -/
namespace Sys2Proof.Machine

/-! ### The host window (07 R162) -/

section Window
variable {s u : State} {p : Packet} {l : List Packet}

theorem exec_hostWindowRequest_of_still (hstill : s.nodeStill nodePcie = true) : exec .hostWindowRequest s = .next s := by
  change execHostWindowRequest s = _
  rw [execHostWindowRequest, if_pos hstill]

variable (hruns : s.nodeStill nodePcie = false)
include hruns

/-- A read that is not wholly sent goes before any new request. -/
theorem exec_hostWindowRequest_of_unsent {h : HostReq}
    (hh : s.mem.host.find? (fun h => !h.stop && h.sent < 4 * h.pkt.len) = some h) :
    exec .hostWindowRequest s = .next (s.hostReqSend h) := by
  change execHostWindowRequest s = _
  rw [execHostWindowRequest, if_neg (ne_true_of_eq_false hruns), hh]

variable (hsent : s.mem.host.find? (fun h => !h.stop && h.sent < 4 * h.pkt.len) = none)
  (hwork : (s.nodeAt nodePcie).work = p :: l) (hu : u = s.modNode nodePcie (fun x => { x with work := l }))
include hsent hwork hu

/-- The endpoint takes the oldest request from its queue, and judges it in the state that this leaves. -/
theorem exec_hostWindowRequest_of_work : exec .hostWindowRequest s = .next (
    if !s.hostOpen then u.answerOff nodePcie p
    else if s.mem.hwSize.toNat < hostWord p + p.len then u.hostAnswer p .badAddress []
    else if p.cmd = .read then
      if p.len = 0 then u.hostAnswer p .ok []
      else (u.modMem fun x => { x with host := x.host ++ [{ pkt := p }] }).hostReqSend { pkt := p }
    else (u.hostPut (u.mem.hwBase.toNat + 4 * hostWord p) (containerBytes (p.words.map (·.data)))).hostAnswer p .ok []) := by
  subst hu
  change execHostWindowRequest s = _
  rw [execHostWindowRequest, if_neg (ne_true_of_eq_false hruns), hsent, hwork]
  rfl

theorem exec_hostWindowRequest_of_shut (ho : s.hostOpen = false) : exec .hostWindowRequest s = .next (u.answerOff nodePcie p) := by
  simp only [exec_hostWindowRequest_of_work hruns hsent hwork hu, ho, Bool.not_false, if_true]

variable (ho : s.hostOpen = true)
include ho

theorem exec_hostWindowRequest_of_beyond (hr : s.mem.hwSize.toNat < hostWord p + p.len) :
    exec .hostWindowRequest s = .next (u.hostAnswer p .badAddress []) := by
  simp only [exec_hostWindowRequest_of_work hruns hsent hwork hu, ho, hr, Bool.not_true, Bool.false_eq_true, if_false, if_true]

variable (hr : hostWord p + p.len ≤ s.mem.hwSize.toNat)
include hr

theorem exec_hostWindowRequest_of_emptyRead (hcmd : p.cmd = .read) (hlen : p.len = 0) :
    exec .hostWindowRequest s = .next (u.hostAnswer p .ok []) := by
  rw [exec_hostWindowRequest_of_work hruns hsent hwork hu, if_neg (by simp [ho]), if_neg hr.not_gt, if_pos hcmd, if_pos hlen]

theorem exec_hostWindowRequest_of_read (hcmd : p.cmd = .read) (hlen : p.len ≠ 0) :
    exec .hostWindowRequest s =
      .next ((u.modMem fun x => { x with host := x.host ++ [{ pkt := p }] }).hostReqSend { pkt := p }) := by
  rw [exec_hostWindowRequest_of_work hruns hsent hwork hu, if_neg (by simp [ho]), if_neg hr.not_gt, if_pos hcmd, if_neg hlen]

theorem exec_hostWindowRequest_of_write (hcmd : p.cmd ≠ .read) :
    exec .hostWindowRequest s = .next ((u.hostPut (u.mem.hwBase.toNat + 4 * hostWord p)
      (containerBytes (p.words.map (·.data)))).hostAnswer p .ok []) := by
  rw [exec_hostWindowRequest_of_work hruns hsent hwork hu, if_neg (by simp [ho]), if_neg hr.not_gt, if_neg hcmd]

end Window

/-! ### Completions (07 R162, 12 R298, 18 R446) -/

section Completion
variable {s : State} {id : Nat}

theorem exec_hostCompletion_of_unknown (st : CplStatus) (ep : Bool) (bytes : List Byte)
    (hr : s.host.reads.find? (fun x => x.id = id) = none) : exec (.hostCompletion id st ep bytes) s = .next s := by
  change execHostCompletion id st ep bytes s = _
  rw [execHostCompletion, hr]

theorem exec_completionTimeout_of_unknown (hr : s.host.reads.find? (fun x => x.id = id) = none) :
    exec (.completionTimeout id) s = .next s := by
  change execCompletionTimeout id s = _
  rw [execCompletionTimeout, hr]

variable {r : HostRead} (hr : s.host.reads.find? (fun x => x.id = id) = some r)
include hr

/-- Bytes of a read are kept, up to its length; with all of them there the read is delivered. -/
theorem exec_hostCompletion_of_data (ep : Bool) (bytes : List Byte) {got : List (Byte × Bool)}
    (hgot : got = (r.got ++ bytes.map fun b => (b, ep)).take r.len) :
    exec (.hostCompletion id .sc ep bytes) s = .next (if r.len ≤ got.length then s.hostDeliver r got
      else s.modHost fun h => { h with reads := h.reads.map fun x => if x.id = id then { x with got := got } else x }) := by
  subst hgot
  change execHostCompletion id .sc ep bytes s = _
  rw [execHostCompletion, hr]

theorem exec_hostCompletion_of_part (ep : Bool) (bytes : List Byte) (hlen : r.got.length + bytes.length < r.len) :
    exec (.hostCompletion id .sc ep bytes) s = .next (s.modHost fun h =>
      { h with reads := h.reads.map fun x => if x.id = id then { x with got := r.got ++ bytes.map fun b => (b, ep) } else x }) := by
  have hlength : (r.got ++ bytes.map fun b => (b, ep)).length < r.len := by simpa using hlen
  rw [exec_hostCompletion_of_data hr ep bytes (List.take_of_length_le hlength.le).symm, if_neg hlength.not_ge]

theorem exec_hostCompletion_of_last (ep : Bool) (bytes : List Byte) (hlen : r.len ≤ r.got.length + bytes.length) :
    exec (.hostCompletion id .sc ep bytes) s =
      .next (s.hostDeliver r ((r.got ++ bytes.map fun b => (b, ep)).take r.len)) := by
  have hlength : r.len ≤ ((r.got ++ bytes.map fun b => (b, ep)).take r.len).length := by simpa using hlen
  rw [exec_hostCompletion_of_data hr ep bytes rfl, if_pos hlength]

theorem exec_hostCompletion_of_error {st : CplStatus} (hst : st ≠ .sc) (ep : Bool) (bytes : List Byte) :
    exec (.hostCompletion id st ep bytes) s = .next ((s.modHost fun h => { h with aerErrors := h.aerErrors + 1 }).hostError r) := by
  change execHostCompletion id st ep bytes s = _
  rw [execHostCompletion, hr]
  cases st with
  | sc => exact absurd rfl hst
  | ur => rfl
  | ca => rfl

theorem exec_completionTimeout_of_read :
    exec (.completionTimeout id) s = .next ((s.modHost fun h => { h with aerTimeouts := h.aerTimeouts + 1 }).hostError r) := by
  change execCompletionTimeout id s = _
  rw [execCompletionTimeout, hr]

end Completion

/-! ### BAR4 (07 R163, 08 R197, 12 R294) -/

section Bar4
variable {s : State} {off : Nat}

theorem exec_bar4Read_of_shut (ho : s.bar4Open = false) : exec (.bar4Read off) s = .next s := by
  change execBar4Read off s = _
  simp only [execBar4Read, ho, Bool.not_false, if_true]

theorem exec_bar4Write_of_shut {be : BitVec 4} {data : W32} (ho : s.bar4Open = false) :
    exec (.bar4Write off be data) s = .next s := by
  change execBar4Write off be data s = _
  simp only [execBar4Write, ho, Bool.not_false, if_true]

variable (ho : s.bar4Open = true)
include ho

section Read

theorem exec_bar4Read_of_forced (hf : s.rst.forced.isSome = true) :
    exec (.bar4Read off) s = .next (s.bar4ReadDone .pathLost []) := by
  change execBar4Read off s = _
  simp only [execBar4Read, ho, hf, Bool.not_true, Bool.false_eq_true, if_false, if_true]

variable (hf : s.rst.forced = none)
include hf

theorem exec_bar4Read_of_routed {d : Nat} (hd : s.sourceCheck nodePcie (s.bar4Word off) = .ok d) :
    exec (.bar4Read off) s = .next (s.enqueue nodePcie
      { asker := .bar4Read, dest := d, cmd := .read, addr := s.bar4Word off, len := 1 }) := by
  change execBar4Read off s = _
  simp only [execBar4Read, ho, hf, hd, Option.isSome_none, Bool.not_true, Bool.false_eq_true, if_false]

theorem exec_bar4Read_of_refused {st : Status} (hst : s.sourceCheck nodePcie (s.bar4Word off) = .error st) :
    exec (.bar4Read off) s =
      .next ((s.niError nodePcie st ((destOf (s.bar4Word off)).getD 0) .read).bar4ReadDone st []) := by
  change execBar4Read off s = _
  simp only [execBar4Read, ho, hf, hst, Option.isSome_none, Bool.not_true, Bool.false_eq_true, if_false]

end Read

section Write
variable {be : BitVec 4} {data : W32}

theorem exec_bar4Write_of_notOwner (hown : s.lk.owner ≠ 1) :
    exec (.bar4Write off be data) s = .next (s.modHost fun h =>
      { h with csrErr := h.csrErr ||| 2, dropCnt := satInc h.dropCnt }) := by
  change execBar4Write off be data s = _
  simp only [execBar4Write, ho, hown, ne_eq, not_false_eq_true, Bool.not_true, Bool.false_eq_true, if_false, if_true]

variable (hown : s.lk.owner = 1)
include hown

/-- The owner's write without all of bytes 0 to 2 is dropped. -/
theorem exec_bar4Write_of_partial (hbe : be &&& 7 ≠ 7) :
    exec (.bar4Write off be data) s = .next (s.modMem fun x => { x with b4Drop := satInc x.b4Drop }) := by
  change execBar4Write off be data s = _
  simp only [execBar4Write, ho, hown, hbe, ne_eq, not_true_eq_false, not_false_eq_true, Bool.not_true, Bool.false_eq_true, if_false,
    if_true]

variable (hbe : be &&& 7 = 7)
include hbe

theorem exec_bar4Write_of_forced (hf : s.rst.forced.isSome = true) :
    exec (.bar4Write off be data) s = .next (s.niError nodePcie .pathLost ((destOf (s.bar4Word off)).getD 0) .write) := by
  change execBar4Write off be data s = _
  simp only [execBar4Write, ho, hown, hbe, hf, ne_eq, not_true_eq_false, Bool.not_true, Bool.false_eq_true, if_false, if_true]

variable (hf : s.rst.forced = none)
include hf

theorem exec_bar4Write_of_routed {d : Nat} (hd : s.sourceCheck nodePcie (s.bar4Word off) = .ok d) :
    exec (.bar4Write off be data) s = .next (s.enqueue nodePcie
      { asker := .bar4Write, dest := d, cmd := .write, addr := s.bar4Word off, len := 1,
        words := [{ data := BitVec.ofNat 18 data.toNat }] }) := by
  change execBar4Write off be data s = _
  simp only [execBar4Write, ho, hown, hbe, hf, hd, ne_eq, not_true_eq_false, Option.isSome_none, Bool.not_true, Bool.false_eq_true,
    if_false]

theorem exec_bar4Write_of_refused {st : Status} (hst : s.sourceCheck nodePcie (s.bar4Word off) = .error st) :
    exec (.bar4Write off be data) s = .next (s.niError nodePcie st ((destOf (s.bar4Word off)).getD 0) .write) := by
  change execBar4Write off be data s = _
  simp only [execBar4Write, ho, hown, hbe, hf, hst, ne_eq, not_true_eq_false, Option.isSome_none, Bool.not_true, Bool.false_eq_true,
    if_false]

end Write
end Bar4

/-! ### The obligation -/

/-- Settles O26: each clause is the equation of its event for that case. -/
theorem hostMemoryEventsAct : Obligations.HostMemoryEventsAct := by
  unfold Obligations.HostMemoryEventsAct
  refine ⟨fun s h hruns => exec_hostWindowRequest_of_unsent hruns, fun s => exec_hostWindowRequest_of_still, ?window, ?completion,
    fun s id st ep bytes hr => ⟨exec_hostCompletion_of_unknown st ep bytes hr, exec_completionTimeout_of_unknown hr⟩, ?read, ?write,
    fun s off be data ho => ⟨exec_bar4Read_of_shut ho, exec_bar4Write_of_shut ho⟩⟩
  case window =>
    intro s u p l hruns hsent hwork hu
    exact ⟨exec_hostWindowRequest_of_shut hruns hsent hwork hu, exec_hostWindowRequest_of_beyond hruns hsent hwork hu,
      fun ho hr => ⟨exec_hostWindowRequest_of_emptyRead hruns hsent hwork hu ho hr,
        exec_hostWindowRequest_of_read hruns hsent hwork hu ho hr, exec_hostWindowRequest_of_write hruns hsent hwork hu ho hr⟩⟩
  case completion =>
    intro s r ep bytes hr
    exact ⟨exec_hostCompletion_of_part hr ep bytes, exec_hostCompletion_of_last hr ep bytes,
      fun st hst => exec_hostCompletion_of_error hr hst ep bytes, exec_completionTimeout_of_read hr⟩
  case read =>
    intro s off ho
    exact ⟨exec_bar4Read_of_forced ho, fun d hf => exec_bar4Read_of_routed ho hf, fun st hf => exec_bar4Read_of_refused ho hf⟩
  case write =>
    intro s off be data ho
    exact ⟨exec_bar4Write_of_notOwner ho, exec_bar4Write_of_partial ho, exec_bar4Write_of_forced ho,
      fun d hown hbe hf => exec_bar4Write_of_routed ho hown hbe hf, fun st hown hbe hf => exec_bar4Write_of_refused ho hown hbe hf⟩

end Sys2Proof.Machine
end

section
/-! SUPPORT. What the Leat route commands reply once the Lockkeeper takes them (08 R191, R194, R204, R205, 14 R365). They settle O11. -/
namespace Sys2Proof.Machine

variable {s : State} {r : Req}

/-! ### The horizon and the interfaces (08 R204, R206) -/

/-- LEAT_HORIZON_STG reads 0 until the staged set is checked. -/
theorem State.leatShared_horizonStg (s : State) :
    s.leatShared 0x04 = if s.leat.checked then w32 s.leat.horizonStg.toNat else 0 := rfl

/-- HORIZON names an interface, whose bound it reports, or with 0x1FF none. -/
theorem exec_horizon_of_takes (h : s.takes r .anyone (r.length = 3)) (hn : (r.p 0).toNat ≤ 383 ∨ (r.p 0).toNat = 0x1FF) :
    exec (.horizon r) s = .next (s.commit r 0x0A00 .anyone stOk false
      [w32 s.win.horizon.toNat, if s.leat.checked then w32 s.leat.horizonStg.toNat else 0, s.commitWord,
        if (r.p 0).toNat = 0x1FF then 0 else s.niReg (r.p 0).toNat 0x34]) := by
  have hgood : ¬(383 < (r.p 0).toNat ∧ (r.p 0).toNat ≠ 0x1FF) := by omega
  change execHorizon r s = _
  rw [execHorizon, State.serveCmd_of_takes_of_ok h (if_neg hgood), State.leatShared_horizonStg]

theorem exec_horizon_of_node (h : s.takes r .anyone (r.length = 3)) (hn : (r.p 0).toNat ≤ 383) :
    exec (.horizon r) s = .next (s.commit r 0x0A00 .anyone stOk false
      [w32 s.win.horizon.toNat, if s.leat.checked then w32 s.leat.horizonStg.toNat else 0, s.commitWord,
        s.niReg (r.p 0).toNat 0x34]) := by
  have hnode : ¬(r.p 0).toNat = 0x1FF := by omega
  rw [exec_horizon_of_takes h (.inl hn), if_neg hnode]

theorem exec_horizon_of_noNode (h : s.takes r .anyone (r.length = 3)) (hn : (r.p 0).toNat = 0x1FF) :
    exec (.horizon r) s = .next (s.commit r 0x0A00 .anyone stOk false
      [w32 s.win.horizon.toNat, if s.leat.checked then w32 s.leat.horizonStg.toNat else 0, s.commitWord, 0]) := by
  rw [exec_horizon_of_takes h (.inr hn), if_pos hn]

theorem exec_niStatus_of_takes (h : s.takes r .anyone (r.length = 3)) (hn : (r.p 0).toNat ≤ 383) :
    exec (.niStatus r) s = .next (s.commit r 0x0A01 .anyone stOk false
      (((List.range 18).map fun k => s.niReg (r.p 0).toNat (4 * k))
        ++ [s.niReg (r.p 0).toNat 0x80, s.niReg (r.p 0).toNat 0x84])) := by
  change execNiStatus r s = _
  rw [execNiStatus, State.serveCmd_of_takes_of_ok h (if_neg hn.not_gt)]

section NiSet
variable (h : s.takes r .owner (r.length = 7)) (hsize : only (r.p 1) 2 = true)
include h hsize

/-- An interface other than a Reservoir front end's takes all four settings. -/
theorem exec_niSet_of_own (hn : (r.p 0).toNat ≤ 351) (hbudget : only (r.p 2) 24 = true) (hlimit : only (r.p 3) 12 = true)
    (htimeout : only (r.p 4) 24 = true) :
    exec (.niSet r) s = .next (((((s.niWrite (r.p 0).toNat 0x04 (r.p 1)).niWrite (r.p 0).toNat 0x08 (r.p 2)).niWrite
      (r.p 0).toNat 0x10 (r.p 3)).niWrite (r.p 0).toNat 0x14 (r.p 4)).commit r 0x0A02 .owner stOk false []) := by
  have hown : (r.p 0).toNat < 352 := by omega
  have hmax : (r.p 0).toNat ≤ 383 := by omega
  have hgood : ¬(383 < (r.p 0).toNat ∨ !only (r.p 1) 2 ∨
      (decide ((r.p 0).toNat < 352) && !(only (r.p 2) 24 && only (r.p 3) 12 && only (r.p 4) 24))) := by
    simp [hsize, hbudget, hlimit, htimeout, hmax.not_gt]
  change execNiSet r s = _
  rw [execNiSet, State.serveCmd_of_takes_of_ok h (if_neg hgood), if_pos (decide_eq_true hown)]

/-- A Reservoir front end takes its size alone. -/
theorem exec_niSet_of_reservoir (hmin : 352 ≤ (r.p 0).toNat) (hmax : (r.p 0).toNat ≤ 383) :
    exec (.niSet r) s = .next ((s.niWrite (r.p 0).toNat 0x04 (r.p 1)).commit r 0x0A02 .owner stOk false []) := by
  have hgood : ¬(383 < (r.p 0).toNat ∨ !only (r.p 1) 2 ∨
      (decide ((r.p 0).toNat < 352) && !(only (r.p 2) 24 && only (r.p 3) 12 && only (r.p 4) 24))) := by
    simp [hsize, hmin.not_gt, hmax.not_gt]
  change execNiSet r s = _
  rw [execNiSet, State.serveCmd_of_takes_of_ok h (if_neg hgood), if_neg (by simpa using hmin)]

end NiSet

/-! ### Routes and reservations (08 R191, R204, R205) -/

theorem exec_routeWrite_of_takes (h : s.takes r .owner (decide (5 ≤ r.length) && r.length = 5 + 2 * (r.p 2).toNat))
    (hn : (r.p 0).toNat ≤ 351) (hmin : 1 ≤ (r.p 2).toNat) (hmax : (r.p 1).toNat + (r.p 2).toNat ≤ 256)
    (hres : ((numbered (2 * (r.p 1).toNat) (r.params.drop 3)).any fun x => rteReserved x.1 x.2) = false) :
    exec (.routeWrite r) s = .next (((numbered (2 * (r.p 1).toNat) (r.params.drop 3)).foldl
      (fun (s : State) (x : Nat × W32) => s.rteStage (r.p 0).toNat x.1 x.2) s).commit r 0x0A03 .owner stOk false []) := by
  have hgood : ¬(351 < (r.p 0).toNat ∨ (r.p 2).toNat = 0 ∨ 256 < (r.p 1).toNat + (r.p 2).toNat ∨
      (numbered (2 * (r.p 1).toNat) (r.params.drop 3)).any fun x => rteReserved x.1 x.2) := by
    rw [hres, or_iff_left_of_imp (fun hx => absurd hx Bool.false_ne_true)]
    omega
  change execRouteWrite r s = _
  rw [execRouteWrite, State.serveCmd_of_takes_of_ok h (if_neg hgood)]

theorem exec_routeRead_of_takes (h : s.takes r .anyone (r.length = 6)) (hn : (r.p 0).toNat ≤ 351) (hset : only (r.p 1) 1 = true)
    (hmin : 1 ≤ (r.p 3).toNat) (hmax : (r.p 2).toNat + (r.p 3).toNat ≤ 256) :
    exec (.routeRead r) s = .next (s.commit r 0x0A04 .anyone stOk false ((List.range (2 * (r.p 3).toNat)).map fun j =>
      s.niReg (r.p 0).toNat ((if r.p 1 = 1 then 0x2000 else 0x1000) + 8 * (r.p 2).toNat + 4 * j))) := by
  have hgood : ¬(351 < (r.p 0).toNat ∨ !only (r.p 1) 1 ∨ (r.p 3).toNat = 0 ∨ 256 < (r.p 2).toNat + (r.p 3).toNat) := by
    simp only [hset, Bool.not_true, Bool.false_eq_true, false_or]
    omega
  change execRouteRead r s = _
  rw [execRouteRead, State.serveCmd_of_takes_of_ok h (if_neg hgood)]

theorem exec_otkRsvWrite_of_takes (h : s.takes r .owner (decide (5 ≤ r.length) && r.length = 5 + (r.p 2).toNat))
    (hn : (r.p 0).toNat ≤ 319) (hmin : 1 ≤ (r.p 2).toNat) (hmax : (r.p 1).toNat + (r.p 2).toNat ≤ 64)
    (hres : ((numbered (r.p 1).toNat (r.params.drop 3)).any fun x => decide (x.2 &&& 0x7FFFFE00 ≠ 0)) = false) :
    exec (.otkRsvWrite r) s = .next (((numbered (r.p 1).toNat (r.params.drop 3)).foldl
      (fun (s : State) (x : Nat × W32) => s.otkStage (r.p 0).toNat x.1 x.2) s).commit r 0x0A05 .owner stOk false []) := by
  have hgood : ¬(319 < (r.p 0).toNat ∨ (r.p 2).toNat = 0 ∨ 64 < (r.p 1).toNat + (r.p 2).toNat ∨
      (numbered (r.p 1).toNat (r.params.drop 3)).any fun x => decide (x.2 &&& 0x7FFFFE00 ≠ 0)) := by
    rw [hres, or_iff_left_of_imp (fun hx => absurd hx Bool.false_ne_true)]
    omega
  change execOtkRsvWrite r s = _
  rw [execOtkRsvWrite, State.serveCmd_of_takes_of_ok h (if_neg hgood)]

/-- ROUTE_ARM is accepted while no other one waits for its record. -/
theorem exec_routeArm_of_takes (h : s.takes r .owner (r.length = 2)) (hroom : s.room r) (hfree : s.leat.armOrigin = none) :
    exec (.routeArm r) s = .next ((s.armCommit (some (r.origin 0x0A06))).accepts r 0x0A06 .owner) := by
  have hnone : ¬s.leat.armOrigin.isSome := by simp [hfree]
  change execRouteArm r s = _
  rw [execRouteArm, State.serveCmd_of_takes_of_accept h hroom (if_neg hnone)]

/-! ### Isolations (08 R194) -/

/-- ISOL_CLEAR marks one interface or all, and clears what is marked where settings take effect at once. -/
theorem exec_isolClear_of_takes (h : s.takes r .owner (r.length = 3)) (hres : r.p 0 &&& 0x7FFFFE00 = 0)
    (hn : (r.p 0).getLsbD 31 = true ∨ (r.p 0).toNat ≤ 383) {u : State}
    (hu : u = s.isolClear (field (r.p 0) 0 9) ((r.p 0).getLsbD 31)) :
    exec (.isolClear r) s =
      .next ((if u.opAtOnce then u.clearIsolations else u).commit r 0x0A07 .owner stOk false []) := by
  have hgood : ¬((r.p 0 &&& 0x7FFFFE00) ≠ 0 ∨ (!(r.p 0).getLsbD 31 && decide (383 < (r.p 0).toNat))) := by
    refine not_or.2 ⟨not_not.2 hres, ?_⟩
    rcases hn with hall | hnode
    · simp [hall]
    · simp [hnode.not_gt]
  subst hu
  change execIsolClear r s = _
  rw [execIsolClear, State.serveCmd_of_takes_of_ok h (if_neg hgood)]

/-! ### The obligation -/

/-- Settles O11: each clause is the equation of its command for a request that is taken with its parameters in range. -/
theorem routeCommandsAnswer : Obligations.RouteCommandsAnswer := by
  unfold Obligations.RouteCommandsAnswer
  refine ⟨fun s r => exec_horizon_of_node, fun s r => exec_horizon_of_noNode, fun s r => exec_niStatus_of_takes,
    fun s r h hn hsize => exec_niSet_of_own h hsize hn, fun s r h hmin hmax hsize => exec_niSet_of_reservoir h hsize hmin hmax,
    fun s r => exec_routeWrite_of_takes, fun s r => exec_routeRead_of_takes, fun s r => exec_otkRsvWrite_of_takes,
    fun s r => exec_routeArm_of_takes, ?isolClear⟩
  intro s u r h hres hn hu
  have hclear := exec_isolClear_of_takes h hres hn hu
  exact ⟨fun hlater => by rw [hclear, if_neg (ne_true_of_eq_false hlater)], fun hnow => by rw [hclear, if_pos hnow]⟩

end Sys2Proof.Machine
end

section
/-! SUPPORT. What the events of the Leat network do, one equation for each case: injection at a weir (08 R177, R183, R203), a hop through
it (R174 to R176), and the receipt of requests, responses and credits (R171, R183, R185, R199). They settle O27. -/
namespace Sys2Proof.Machine

/-! ### Injection (08 R177, R183, R193) -/

section Injection
variable {s : State} {n : Fin 384}

/-- An interface that stands still, or whose weir has no room, waits. -/
theorem exec_trainInjection_of_waits (h : s.nodeStill n = true ∨ s.mayInject n = false) : exec (.trainInjection n) s = .next s := by
  have hwait : s.nodeStill n ∨ !s.mayInject n := by simpa using h
  change execTrainInjection n s = _
  rw [execTrainInjection, if_pos hwait]

variable (hruns : s.nodeStill n = false) (hroom : s.mayInject n = true)
include hruns hroom

theorem exec_trainInjection_of_room : exec (.trainInjection n) s = .next (s.injectOne n) := by
  change execTrainInjection n s = _
  rw [execTrainInjection, if_neg (by simp [hruns, hroom])]

/-- A response or credit goes before anything else. -/
theorem exec_trainInjection_of_response {p : Packet} {l : List Packet} (hresp : (s.nodeAt n).resp = p :: l) :
    exec (.trainInjection n) s = .next ((s.modNode n fun x => { x with resp := l }).inject n p) := by
  rw [exec_trainInjection_of_room hruns hroom, State.injectOne, hresp]

variable (hresp : (s.nodeAt n).resp = [])
include hresp

theorem exec_trainInjection_of_isolated (hiso : (s.nodeAt n).isolated = true) : exec (.trainInjection n) s = .next s := by
  rw [exec_trainInjection_of_room hruns hroom, State.injectOne, hresp]
  exact congrArg _ (if_pos hiso)

theorem exec_trainInjection_of_fallback {p : Packet} (hiso : (s.nodeAt n).isolated = false) (hfb : s.fbSend n = some p) :
    exec (.trainInjection n) s = .next ((s.modNode n fun x =>
      { x with fbOut := x.fbOut.drop 1, fbUsed := x.fbUsed + fbUnits, fbTag := (x.fbTag + 1) % 128 }).inject n
        { p with tag := (s.nodeAt n).fbTag }) := by
  rw [exec_trainInjection_of_room hruns hroom, State.injectOne, hresp, hfb]
  exact congrArg _ (if_neg (ne_true_of_eq_false hiso))

variable (hfb : s.fbSend n = none)
include hfb

theorem exec_trainInjection_of_piece {r : Request} (hiso : (s.nodeAt n).isolated = false) (hsend : s.nextSend n = some r) :
    exec (.trainInjection n) s = .next (s.sendPiece n r) := by
  rw [exec_trainInjection_of_room hruns hroom, State.injectOne, hresp, hfb, hsend]
  exact congrArg _ (if_neg (ne_true_of_eq_false hiso))

theorem exec_trainInjection_of_nothing (hsend : s.nextSend n = none) : exec (.trainInjection n) s = .next s := by
  rw [exec_trainInjection_of_room hruns hroom, State.injectOne, hresp, hfb, hsend]
  exact congrArg _ (ite_self s)

end Injection

/-! ### A hop (08 R174 to R176) -/

theorem exec_weirHop_of_runs {s : State} {n : Fin 352} {held : BitVec 6} (hruns : s.nodeStill n = false) :
    exec (.weirHop n held) s = .next ((sortBy (fun t : Train => (511 - t.pkt.age) * 8 + t.port)
        (s.leat.net.filter fun t => t.weir = n.val)).foldl (fun (a : State × List Nat) t => a.1.hopOne n t a.2)
      (s.modLeat fun l => { l with net := l.net.filter fun t => t.weir ≠ n.val },
        (if s.columnFull n then [4] else []) ++ (List.range 6).filter fun p => held.getLsbD p)).1 := by
  change execWeirHop n held s = _
  rw [execWeirHop, if_neg (ne_true_of_eq_false hruns)]

/-! ### What the log and the events leave of an interface (08 R204) -/

/-- Neither an interrupt nor the log changes an interface. -/
@[simp] theorem State.nodeAt_evtAssert {w : Nat} (s : State) (v : Nat) (a b c d : BitVec w) (k : Nat) :
    (s.evtAssert v a b c d).nodeAt k = s.nodeAt k := by
  simp only [State.nodeAt, State.evtAssert_leat]

@[simp] theorem State.nodeAt_log (s : State) (code : Nat) (int fault : Bool) (p0 p1 p2 : W32) (k : Nat) :
    (s.log code int fault p0 p1 p2).nodeAt k = s.nodeAt k := by
  simp only [State.nodeAt, State.log_leat]

/-- An event of an interface changes no record of an interface but its LEAT_NI_EVT. -/
theorem State.nodeAt_niEvt (s : State) (n i k : Nat) :
    (s.niEvt n i).nodeAt k = if k = n then { s.nodeAt n with evt := (s.nodeAt n).evt ||| (1#8 <<< i) } else s.nodeAt k := by
  simp only [State.niEvt, State.nodeAt_modNode, State.nodeAt_evtAssert]

/-! ### Requests (08 R171, R185) -/

section RequestReceive
variable {s : State} {n : Fin 384}

theorem exec_leatRequestReceive_of_none (hruns : s.nodeStill n = false)
    (hnext : (s.nodeAt n).rxReq.find? (fun p => p.cmd = .reserved || (s.nodeAt n).inOrder p) = none) :
    exec (.leatRequestReceive n) s = .next s := by
  change execLeatRequestReceive n s = _
  simp only [execLeatRequestReceive, hruns, hnext, Bool.false_eq_true, if_false]

variable {p : Packet} (hruns : s.nodeStill n = false)
  (hnext : (s.nodeAt n).rxReq.find? (fun p => p.cmd = .reserved || (s.nodeAt n).inOrder p) = some p)
include hruns hnext

/-- A reserved command is taken from the arrivals, counted and logged. -/
theorem exec_leatRequestReceive_of_reserved (hcmd : p.cmd = .reserved) :
    exec (.leatRequestReceive n) s = .next ((((s.modNode n fun x => { x with rxReq := x.rxReq.erase p }).modNode n fun x =>
      { x with absCnt := satInc x.absCnt }).log 0x0702 false false (w32 n.val) 0 0).niEvt n 7) := by
  change execLeatRequestReceive n s = _
  simp only [execLeatRequestReceive, hruns, hnext, hcmd, Bool.false_eq_true, if_false, if_true]

theorem exec_leatRequestReceive_of_request (hcmd : p.cmd ≠ .reserved) :
    exec (.leatRequestReceive n) s = .next ((s.modNode n fun x => { x with rxReq := x.rxReq.erase p }).modNode n fun x =>
      { x with tgt := tmod x.tgt none p.rsv fun o => o.map (TgtRsv.tagDone p.tag), work := x.work ++ [p] }) := by
  change execLeatRequestReceive n s = _
  simp only [execLeatRequestReceive, hruns, hnext, hcmd, Bool.false_eq_true, if_false]

/-- Of the interface, a reserved command changes the arrivals and the count of absorbed packets, and leaves the work list. -/
theorem leatRequestReceive_discards_reserved (hcmd : p.cmd = .reserved) :
    ∃ t, exec (.leatRequestReceive n) s = .next t ∧ (t.nodeAt n).rxReq = (s.nodeAt n).rxReq.erase p ∧
      (t.nodeAt n).absCnt = satInc (s.nodeAt n).absCnt ∧ (t.nodeAt n).work = (s.nodeAt n).work := by
  refine ⟨_, exec_leatRequestReceive_of_reserved hruns hnext hcmd, ?_⟩
  simp only [State.nodeAt_niEvt, State.nodeAt_log, State.nodeAt_modNode, if_true, and_self]

end RequestReceive

/-! ### Responses (08 R183, R199) -/

section ResponseReceive
variable {s : State} {n : Fin 384} {p : Packet} {l : List Packet} (hruns : s.nodeStill n = false)
  (hresp : (s.nodeAt n).rxResp = p :: l)
include hruns hresp

/-- A response that no request waits for is dropped. -/
theorem exec_leatResponseReceive_of_unasked
    (hreq : (s.nodeAt n).reqs.find? (fun r => r.dest = p.src && r.lastTag = some p.tag) = none) :
    exec (.leatResponseReceive n) s = .next (s.modNode n fun x => { x with rxResp := l }) := by
  change execLeatResponseReceive n s = _
  simp only [execLeatResponseReceive, State.takeResponse, hruns, hresp, hreq, Bool.false_eq_true, if_false]

variable {r : Request} {u : State}
  (hreq : (s.nodeAt n).reqs.find? (fun r => r.dest = p.src && r.lastTag = some p.tag) = some r)
  (hu : u = s.modNode n (fun x =>
    { x with
      rxResp := l, reqs := x.reqs.erase r, inflight := x.inflight - r.units,
      srcs := x.srcs.map fun v => if v.target = r.dest then { v with credit := min v.size (v.credit + r.units) } else v }))
include hreq hu

/-- The request that the response answers ends with its status, which is counted where it is not OK. -/
theorem exec_leatResponseReceive_of_request :
    exec (.leatResponseReceive n) s =
      .next ((if p.status = .ok then u else u.niError n p.status r.dest r.cmd).finish n r p.status p.words) := by
  subst hu
  change execLeatResponseReceive n s = _
  simp only [execLeatResponseReceive, State.takeResponse, hruns, hresp, hreq, Bool.false_eq_true, if_false]

theorem exec_leatResponseReceive_of_ok (hst : p.status = .ok) :
    exec (.leatResponseReceive n) s = .next (u.finish n r .ok p.words) := by
  rw [exec_leatResponseReceive_of_request hruns hresp hreq hu, if_pos hst, hst]

theorem exec_leatResponseReceive_of_error (hst : p.status ≠ .ok) :
    exec (.leatResponseReceive n) s = .next ((u.niError n p.status r.dest r.cmd).finish n r p.status p.words) := by
  rw [exec_leatResponseReceive_of_request hruns hresp hreq hu, if_neg hst]

end ResponseReceive

/-! ### Credits (08 R183) -/

/-- An interface after a CREDIT packet: the units return to the reservation that it names, and to the request whose piece they covered. -/
def NodeRec.credited (p : Packet) (l : List Packet) (x : NodeRec) : NodeRec :=
  { x with
    rxCredit := l
    inflight := x.inflight - p.len
    srcs := x.srcs.map fun v => if v.target = p.src then { v with credit := min v.size (v.credit + p.len) } else v
    reqs := x.reqs.map fun r => if r.dest = p.src ∧ r.lastTag.isNone ∧ 0 < r.units then { r with units := r.units - p.len } else r }

section CreditReceive
variable {s : State} {n : Fin 384} {p : Packet} {l : List Packet} (hruns : s.nodeStill n = false)
  (hcredit : (s.nodeAt n).rxCredit = p :: l)
include hruns hcredit

/-- RSV 0 from the twin of a Tier weir is its fallback sender's. -/
theorem exec_creditReceive_of_fallback (hn : n.val < 320) (hrsv : p.rsv = 0) (hsrc : p.src = fbTwin n) :
    exec (.creditReceive n) s = .next (s.modNode n fun x => { x with rxCredit := l, fbUsed := x.fbUsed - p.len }) := by
  have hfb : n.val < 320 ∧ p.rsv = 0 ∧ p.src = fbTwin n := ⟨hn, hrsv, hsrc⟩
  change execCreditReceive n s = _
  simp only [execCreditReceive, hruns, hcredit, if_pos hfb, Bool.false_eq_true, if_false]

theorem exec_creditReceive_of_reservation (h : 320 ≤ n.val ∨ p.rsv ≠ 0 ∨ p.src ≠ fbTwin n) :
    exec (.creditReceive n) s = .next (s.modNode n (NodeRec.credited p l)) := by
  have hrsv : ¬(n.val < 320 ∧ p.rsv = 0 ∧ p.src = fbTwin n) := by simpa only [not_and_or, not_lt] using h
  change execCreditReceive n s = _
  simp only [execCreditReceive, hruns, hcredit, if_neg hrsv, Bool.false_eq_true, if_false]
  rfl

end CreditReceive

/-! ### The obligation -/

/-- Settles O27: each clause is the equation of its event for that case, or what that equation leaves in the interface. -/
theorem leatEventsAct : Obligations.LeatEventsAct := by
  unfold Obligations.LeatEventsAct
  refine ⟨?injection, fun s n => exec_trainInjection_of_waits, fun s n held => exec_weirHop_of_runs,
    fun s n p hruns hnext =>
      ⟨leatRequestReceive_discards_reserved hruns hnext, exec_leatRequestReceive_of_request hruns hnext⟩,
    fun s n => exec_leatRequestReceive_of_none,
    fun s u n p l r hruns hresp hreq hu =>
      ⟨exec_leatResponseReceive_of_ok hruns hresp hreq hu, exec_leatResponseReceive_of_error hruns hresp hreq hu⟩,
    fun s n p l => exec_leatResponseReceive_of_unasked, ?credit⟩
  case injection =>
    intro s n hruns hroom
    exact ⟨fun p l => exec_trainInjection_of_response hruns hroom, exec_trainInjection_of_isolated hruns hroom,
      fun p hresp => exec_trainInjection_of_fallback hruns hroom hresp,
      fun r hresp hiso hfb => exec_trainInjection_of_piece hruns hroom hresp hfb hiso,
      exec_trainInjection_of_nothing hruns hroom⟩
  case credit =>
    intro s n p l hruns hcredit
    refine ⟨fun h => ⟨_, exec_creditReceive_of_reservation hruns hcredit h, ?_⟩,
      exec_creditReceive_of_fallback hruns hcredit⟩
    have hnode := s.nodeAt_modNode n n (f := NodeRec.credited p l)
    rw [if_pos rfl] at hnode
    rw [hnode]
    exact ⟨rfl, rfl, rfl, fun k hk => (State.nodeAt_modNode ..).trans (if_neg hk)⟩

end Sys2Proof.Machine
end

section
/-! SUPPORT. What the events of dynamic reservations, response timeouts, isolations and route checks do, one equation for each case
(08 R182, R184, R190, R191, R193, R196). They settle O28. -/
namespace Sys2Proof.Machine

/-! ### Dynamic reservations (08 R184, R196) -/

section Reservation
variable {s u : State} {src tgt : Fin 384} {r : Request}

/-- A reservation that is granted is held. -/
theorem State.askRsv_of_granted {src tgt : Nat} (hw : u.wantsRsv src tgt = some r) (hg : (u.grant src tgt false).2 = none) :
    u.askRsv src tgt = (u.grant src tgt false).1 := by
  cases hgrant : u.grant src tgt false with
  | mk t why =>
    obtain rfl : why = none := by simpa only [hgrant] using hg
    simp only [State.askRsv, hw, hgrant]

/-- A target that prepares to be powered down ends the request that asked. -/
theorem State.askRsv_of_powerPending {src tgt : Nat} (hw : u.wantsRsv src tgt = some r)
    (hg : (u.grant src tgt false).2 = some .powerPending) :
    u.askRsv src tgt = ((u.grant src tgt false).1.niEvt src 5).failRequest src r .domainOff := by
  cases hgrant : u.grant src tgt false with
  | mk t why =>
    obtain rfl : why = some .powerPending := by simpa only [hgrant] using hg
    simp only [State.askRsv, hw, hgrant]

/-- Any other refusal leaves the target among those to be asked again. -/
theorem State.askRsv_of_refused {src tgt : Nat} {why : Status} (hw : u.wantsRsv src tgt = some r)
    (hg : (u.grant src tgt false).2 = some why) (hwhy : why ≠ .powerPending) :
    u.askRsv src tgt = ((u.grant src tgt false).1.niEvt src 5).modNode src fun x =>
      { x with retry := if x.retry.contains tgt then x.retry else x.retry ++ [tgt] } := by
  cases hgrant : u.grant src tgt false with
  | mk t why' =>
    obtain rfl : why' = some why := by simpa only [hgrant] using hg
    simp only [State.askRsv, hw, hgrant]

theorem State.askRsv_retries {src tgt : Nat} {why : Status} (hw : u.wantsRsv src tgt = some r)
    (hg : (u.grant src tgt false).2 = some why) (hwhy : why ≠ .powerPending) :
    ((u.askRsv src tgt).nodeAt src).retry.contains tgt = true := by
  rw [State.askRsv_of_refused hw hg hwhy, State.nodeAt_modNode, if_pos rfl]
  split
  · assumption
  · simp

/-- A target that is not to be asked again is asked. -/
theorem exec_reservationRequest_of_new (hruns : s.gated = false) (hnew : (s.nodeAt src).retry.contains tgt.val = false) :
    exec (.reservationRequest src tgt) s = .next (s.askRsv src tgt) := by
  change execReservationRequest src tgt s = _
  rw [execReservationRequest, if_neg (by simp only [hruns, hnew, Bool.false_eq_true, or_self, not_false_eq_true])]

/-- A target that refused is asked again, and counts as new until it refuses again. -/
theorem exec_reservationRetry_of_refused (hruns : s.gated = false) (hold : (s.nodeAt src).retry.contains tgt.val = true) :
    exec (.reservationRetry src tgt) s =
      .next ((s.modNode src fun x => { x with retry := x.retry.filter (· ≠ tgt.val) }).askRsv src tgt) := by
  change execReservationRetry src tgt s = _
  rw [execReservationRetry,
    if_neg (by simp only [hruns, hold, Bool.not_true, Bool.false_eq_true, or_self, not_false_eq_true])]

theorem exec_reservationIdleRelease_of_idle (hruns : s.gated = false)
    (hdyn : (s.nodeAt src).srcs.any (fun x => x.target = tgt.val && !x.standing) = true) (hidle : s.rsvIdle src tgt = true) :
    exec (.reservationIdleRelease src tgt) s = .next (s.releaseRsv src tgt) := by
  change execReservationIdleRelease src tgt s = _
  simp only [execReservationIdleRelease, hruns, hdyn, hidle, Bool.not_false, Bool.and_self, if_true]

end Reservation

/-! ### Timeouts and isolation (08 R193) -/

/-- A request that timed out ends TARGET_ISOLATED and is counted; a target that is not isolated yet receives a notice. -/
theorem exec_responseTimeout_of_request {s u : State} {src tgt : Fin 384} {tag : Fin 128} {r : Request} (hruns : s.gated = false)
    (hreq : (s.nodeAt src).reqs.find? (fun r => decide (r.dest = tgt.val) && decide (r.lastTag = some tag.val)) = some r)
    (hu : u = ((s.failRequest src r .targetIsolated).modNode src fun x => { x with tmoCnt := satInc x.tmoCnt }).niEvt src 1) :
    exec (.responseTimeout src tgt tag) s = .next (if (u.nodeAt tgt).isolated then u
      else u.modNode tgt fun x => { x with notice := some (src.val, tag.val) }) := by
  subst hu
  change execResponseTimeout src tgt tag s = _
  simp only [execResponseTimeout, hruns, hreq, Bool.false_eq_true, if_false]

theorem exec_isolation_of_notice {s : State} {n : Fin 384} {src tag : Nat} (hruns : s.gated = false)
    (hnotice : (s.nodeAt n).notice = some (src, tag)) :
    exec (.isolation n) s = .next (((s.modNode n fun x =>
      { x with isolated := true, notice := none, resp := [] }).log 0x0701 true false (w32 (src + 2 ^ 16 * n)) (w32 tag) 0).niEvt
        n 2) := by
  change execIsolation n s = _
  rw [execIsolation, if_neg (ne_true_of_eq_false hruns), State.isolate, hnotice]

/-! ### Route checks (08 R182, R190, R191) -/

/-- The checks of an armed set end with CHECKED, the staged horizon and the record of the ROUTE_ARM that waits, if one does. -/
theorem exec_routeCheckComplete_of_armed {s u : State} (harm : s.leat.arm = true) (hchecked : s.leat.checked = false)
    (hu : u = (s.checkStaged.modLeat fun l =>
      { l with checked := true, horizonStg := BitVec.ofNat 24 s.checkStaged.stagedState.computeHorizon.h, armOrigin := none })) :
    exec .routeCheckComplete s =
      .next (u.postRecord? s.checkStaged.leat.armOrigin stOk [u.commitWord, w32 u.leat.horizonStg.toNat]).commitHeld := by
  subst hu
  change execRouteCheckComplete s = _
  rw [execRouteCheckComplete, if_pos (by simp [harm, hchecked])]

/-- Only a device that stands held or not released commits before the boundary. -/
theorem State.commitHeld_of_later {s : State} (h : s.atOnce = false) : s.commitHeld = s := by
  rw [State.commitHeld, if_neg (by simp [h])]

/-! ### The obligation -/

/-- Settles O28: each clause is the equation of its event for that case; the state in which a target is asked is the one before the
event, without the note to ask it again. -/
theorem reservationAndTimeoutEventsAct : Obligations.ReservationAndTimeoutEventsAct := by
  unfold Obligations.ReservationAndTimeoutEventsAct
  refine ⟨?reservation, fun s src tgt => exec_reservationIdleRelease_of_idle, ?timeout, fun s n src tag => exec_isolation_of_notice,
    ?routeCheck, fun s => State.commitHeld_of_later⟩
  case reservation =>
    intro s u src tgt r hruns hw hu
    have hrequest (hnew : (s.nodeAt src).retry.contains tgt.val = false) :
        exec (.reservationRequest src tgt) s = .next (u.askRsv src tgt) := by
      rw [hu, if_neg (ne_true_of_eq_false hnew), exec_reservationRequest_of_new hruns hnew]
    have hretry (hold : (s.nodeAt src).retry.contains tgt.val = true) :
        exec (.reservationRetry src tgt) s = .next (u.askRsv src tgt) := by
      rw [hu, if_pos hold, exec_reservationRetry_of_refused hruns hold]
    refine ⟨fun hg => ?_, fun hg => ?_, fun why hg hwhy => ?_⟩
    · rw [← State.askRsv_of_granted hw hg]
      exact ⟨hrequest, hretry⟩
    · rw [← State.askRsv_of_powerPending hw hg]
      exact ⟨hrequest, hretry⟩
    · have hagain := State.askRsv_retries hw hg hwhy
      exact ⟨fun hnew => ⟨_, hrequest hnew, hagain⟩, fun hold => ⟨_, hretry hold, hagain⟩⟩
  case timeout =>
    intro s u src tgt tag r hruns hreq hu
    rw [exec_responseTimeout_of_request hruns hreq hu]
    exact ⟨fun hiso => by rw [if_pos hiso], fun hiso => by rw [if_neg (ne_true_of_eq_false hiso)]⟩
  case routeCheck =>
    intro s u harm hchecked hu
    rw [exec_routeCheckComplete_of_armed harm hchecked hu]
    exact ⟨fun o ho => by rw [ho, State.postRecord?], fun ho => by rw [ho, State.postRecord?]⟩

end Sys2Proof.Machine
end

section
/-! SUPPORT. What the Flume commands reply once the Lockkeeper takes them (09 R223, R226, 14 R364). They settle O10. -/
namespace Sys2Proof.Machine

variable {s : State} {r : Req}

theorem exec_flmStatus_of_takes (h : s.takes r .anyone (r.length = 3)) (hc : (r.p 0).toNat ≤ 31) :
    exec (.flmStatus r) s = .next (s.commit r 0x0900 .anyone stOk false
      ((List.range 11).map fun k => s.flmChReg (r.p 0).toNat (4 * k))) := by
  change execFlmStatus r s = _
  rw [execFlmStatus, State.serveCmd_of_takes_of_ok h (if_neg hc.not_gt)]

theorem exec_flmRing_of_takes (h : s.takes r .owner (r.length = 6)) (hc : (r.p 0).toNat ≤ 31) (hmin : 1 ≤ (r.p 3).toNat)
    (hmax : (r.p 3).toNat ≤ 12) (hfree : s.flmRingFree (r.p 0).toNat = true) :
    exec (.flmRing r) s = .next ((((s.flmSize (r.p 0).toNat (r.p 3).toNat).flmRingHi (r.p 0).toNat (r.p 2)).flmRingLo
      (r.p 0).toNat (r.p 1)).commit r 0x0901 .owner stOk false []) := by
  have hgood : ¬(31 < (r.p 0).toNat ∨ (r.p 3).toNat = 0 ∨ 12 < (r.p 3).toNat) := by omega
  have hnotBusy : ¬((!s.flmRingFree (r.p 0).toNat) = true) := by rw [hfree]; decide
  change execFlmRing r s = _
  rw [execFlmRing, State.serveCmd_of_takes_of_ok h ((if_neg hgood).trans (if_neg hnotBusy))]

/-- A channel's number and a word without reserved bits pass the checks of FLM_TAIL and FLM_CTL. -/
theorem Req.flmParams_good {bits : Nat} (hc : (r.p 0).toNat ≤ 31) (honly : only (r.p 1) bits = true) :
    ¬(31 < (r.p 0).toNat ∨ !only (r.p 1) bits) := by
  rw [honly, Bool.not_true, or_iff_left Bool.false_ne_true]
  exact hc.not_gt

theorem exec_flmTail_of_takes (h : s.takes r .owner (r.length = 4)) (hc : (r.p 0).toNat ≤ 31) (honly : only (r.p 1) 12 = true) :
    exec (.flmTail r) s = .next ((s.flmTail (r.p 0).toNat (r.p 1).toNat).commit r 0x0902 .owner stOk false []) := by
  change execFlmTail r s = _
  rw [execFlmTail, State.serveCmd_of_takes_of_ok h (if_neg (Req.flmParams_good hc honly))]

theorem exec_flmCtl_of_takes (h : s.takes r .owner (r.length = 4)) (hc : (r.p 0).toNat ≤ 31) (honly : only (r.p 1) 2 = true) :
    exec (.flmCtl r) s = .next ((s.flmCtl (r.p 0).toNat ((r.p 1).getLsbD 0) ((r.p 1).getLsbD 1)).commit r 0x0903 .owner stOk
      false []) := by
  change execFlmCtl r s = _
  rw [execFlmCtl, State.serveCmd_of_takes_of_ok h (if_neg (Req.flmParams_good hc honly))]

/-! ### The obligation -/

/-- Settles O10: each clause is the equation of its command for a request that is taken with its parameters in range. -/
theorem flumeCommandsAnswer : Obligations.FlumeCommandsAnswer := by
  unfold Obligations.FlumeCommandsAnswer
  exact ⟨fun s r => exec_flmStatus_of_takes, fun s r => exec_flmRing_of_takes, fun s r => exec_flmTail_of_takes,
    fun s r => exec_flmCtl_of_takes⟩

end Sys2Proof.Machine
end

section
/-! SUPPORT. What the events of the Flume engines do, one equation for each case (09 R209, R211, R214, R216 to R220, R222, R223). They
settle O32. -/
namespace Sys2Proof.Machine

/-! ### Fetching (09 R209, R218) -/

section Fetch
variable {s : State} {c : Fin 32}

theorem exec_descriptorFetch_of_work (hrun : (s.flmAt c).run = true) (hhalted : (s.flmAt c).halted = false)
    (hwork : (s.flmAt c).head ≠ (s.flmAt c).tail) (hdesc : (s.flmAt c).desc = none) (hfetching : (s.flmAt c).fetching = false)
    (hopen : s.flmOpen = true) (hhost : s.hostOpen = true) (hstill : s.nodeStill nodeFlumeRead = false) :
    exec (.descriptorFetch c) s = .next ((s.modFlmCh c fun x => { x with fetching := true }).emit
      (.hostRead (2 ^ 32 + c.val) (((s.flmAt c).ring.toNat + 64 * (s.flmAt c).head.toNat) % 2 ^ 64) 64)) := by
  change execDescriptorFetch c s = _
  rw [execDescriptorFetch, if_pos (by simp [hrun, hhalted, hwork, hdesc, hfetching, hopen, hhost, hstill])]

/-- What stops a fetch, each by itself. -/
theorem exec_descriptorFetch_of_stopped (h : (s.flmAt c).run = false ∨ (s.flmAt c).halted = true ∨
      (s.flmAt c).head = (s.flmAt c).tail ∨ (s.flmAt c).desc.isSome = true ∨ (s.flmAt c).fetching = true ∨ s.flmOpen = false ∨
      s.hostOpen = false ∨ s.nodeStill nodeFlumeRead = true) :
    exec (.descriptorFetch c) s = .next s := by
  change execDescriptorFetch c s = _
  rw [execDescriptorFetch, if_neg]
  rintro ⟨hrun, hhalted, hwork, hdesc, hfetching, hopen, hhost, hstill⟩
  rw [Option.isNone_iff_eq_none] at hdesc
  simp only [Bool.not_eq_true'] at hhalted hfetching hstill
  simp [hrun, hhalted, hwork, hdesc, hfetching, hopen, hhost, hstill] at h

end Fetch

/-! ### The judgement of an entry (09 R211, R216) -/

/-- A valid entry as the checks leave it: ended with BAD_DESC or CIRC_OVERLAP, or put in order to be moved. -/
def FDesc.judged (d : FDesc) : FDesc :=
  if d.good = false then { d with done := some 0x11 }
  else if d.overlaps = true ∧ d.circ = true then { d with done := some 0x12 }
  else { d with overlap := d.overlaps, desc := d.overlaps && decide (d.src < d.dst),
                cursor := if d.overlaps && decide (d.src < d.dst) then d.len else 0 }

/-- A channel takes a descriptor under way, of which nothing has been moved. -/
def FChan.take (d : FDesc) (x : FChan) : FChan := { x with desc := some d, done := 0, crc := 0 }

section Judged
variable {d : FDesc}

theorem FDesc.judged_of_bad (hgood : d.good = false) : d.judged = { d with done := some 0x11 } := by
  rw [FDesc.judged, if_pos hgood]

variable (hgood : d.good = true)
include hgood

theorem FDesc.judged_of_circOverlap (hover : d.overlaps = true) (hcirc : d.circ = true) :
    d.judged = { d with done := some 0x12 } := by
  rw [FDesc.judged, if_neg (ne_false_of_eq_true hgood), if_pos ⟨hover, hcirc⟩]

theorem FDesc.judged_of_move (hmove : d.overlaps = false ∨ d.circ = false) {down : Bool}
    (hdown : down = (d.overlaps && decide (d.src < d.dst))) :
    d.judged = { d with overlap := d.overlaps, desc := down, cursor := if down then d.len else 0 } := by
  subst hdown
  rw [FDesc.judged, if_neg (ne_false_of_eq_true hgood), if_neg]
  rintro ⟨hover, hcirc⟩
  simp [hover, hcirc] at hmove

end Judged

/-! ### The arrival of an entry (09 R209, R211, R216, R218) -/

/-- An entry of 16 words is read as it came. -/
theorem padWords_of_length {words : List W32} (hlen : words.length = 16) :
    (words ++ List.replicate (16 - words.length) 0).take 16 = words := by
  rw [hlen, Nat.sub_self, List.replicate_zero, List.append_nil, ← hlen, List.take_length]

theorem exec_descriptorArrival_of_unasked {s : State} {c : Fin 32} {words : List W32} {good : Bool}
    (hfetching : (s.flmAt c).fetching = false) : exec (.descriptorArrival c words good) s = .next s := by
  change execDescriptorArrival c words good s = _
  rw [execDescriptorArrival, hfetching, Bool.not_false, if_pos rfl]

section Arrival
variable {s u : State} {c : Fin 32} {words : List W32} (hfetching : (s.flmAt c).fetching = true)
  (hu : u = s.modFlmCh c fun x => { x with fetching := false })
include hfetching hu

/-- An entry that the host completed with an error is not read. -/
theorem exec_descriptorArrival_of_failed : exec (.descriptorArrival c words false) s = .next (u.ringErr c) := by
  subst hu
  change execDescriptorArrival c words false s = _
  rw [execDescriptorArrival, hfetching, Bool.not_true, if_neg Bool.false_ne_true, if_pos (.inl rfl)]

variable {d : FDesc} (hd : d = { raw := words }) (hlen : words.length = 16)
include hd hlen

theorem exec_descriptorArrival_of_invalid (hvalid : d.bit 0 = false) :
    exec (.descriptorArrival c words true) s = .next (u.ringErr c) := by
  subst hu hd
  change execDescriptorArrival c words true s = _
  simp only [execDescriptorArrival, hfetching, padWords_of_length hlen, hvalid, Bool.not_true, Bool.not_false,
    Bool.false_eq_true, or_true, if_false, if_true]

variable (hvalid : d.bit 0 = true)
include hvalid

/-- A valid entry is taken as its checks leave it, and started at once where it has not ended and waits for nothing. -/
theorem exec_descriptorArrival_of_valid :
    exec (.descriptorArrival c words true) s = .next (u.modFlmCh c fun x =>
      if d.judged.done.isNone ∧ d.judged.start = 0 ∧ s.flmOpen = true then (x.take d.judged).startDesc else x.take d.judged) := by
  subst hu hd
  change execDescriptorArrival c words true s = _
  simp only [execDescriptorArrival, hfetching, padWords_of_length hlen, hvalid, Bool.not_true, Bool.false_eq_true, or_self, if_false,
    FDesc.judged, Bool.not_eq_true']
  rfl

/-- A descriptor that its checks end is not started. -/
theorem exec_descriptorArrival_of_ended {st : Nat} (hjudged : d.judged = { d with done := some st }) :
    exec (.descriptorArrival c words true) s = .next (u.modFlmCh c fun x =>
      { x with desc := some { d with done := some st }, done := 0, crc := 0 }) := by
  rw [exec_descriptorArrival_of_valid hfetching hu hd hlen hvalid, hjudged]
  rfl

theorem exec_descriptorArrival_of_move (hgood : d.good = true) (hmove : d.overlaps = false ∨ d.circ = false) {down : Bool}
    (hdown : down = (d.overlaps && decide (d.src < d.dst))) :
    exec (.descriptorArrival c words true) s = .next (u.modFlmCh c fun x =>
      if d.start = 0 ∧ s.flmOpen = true then
        ({ x with desc := some { d with overlap := d.overlaps, desc := down, cursor := if down then d.len else 0 },
                  done := 0, crc := 0 } : FChan).startDesc
      else { x with desc := some { d with overlap := d.overlaps, desc := down, cursor := if down then d.len else 0 },
                    done := 0, crc := 0 }) := by
  have hnew : d.done.isNone = true := by rw [hd]; rfl
  rw [exec_descriptorArrival_of_valid hfetching hu hd hlen hvalid, FDesc.judged_of_move hgood hmove hdown]
  simp only [hnew, true_and]
  rfl

end Arrival

/-! ### Arbitration (09 R214, R217) -/

section Read
variable {s : State}

theorem exec_readArbiterGrant_of_grant {c : Nat} {d : FDesc} {a n : Nat} (hopen : s.flmOpen = true)
    (hstill : s.nodeStill nodeFlumeRead = false)
    (hnext : roundRobin s.flm.rdPtr.toNat (fun c => s.flmReadable c && s.flmReadCovered c) = some c)
    (hdesc : (s.flmAt c).desc = some d) (hburst : d.nextBurst = some (a, n)) :
    exec .readArbiterGrant s = .next (((s.modFlm fun f => { f with rdPtr := BitVec.ofNat 5 (c + 1) }).modFlmCh c fun x =>
      { x with desc := some { d with cursor := if d.desc then a else a + n } }).flmReadBurst c
        { d with cursor := if d.desc then a else a + n } a n) := by
  have hptr : ((s.modFlm fun f => { f with rdPtr := BitVec.ofNat 5 (c + 1) }).flmAt c).desc = some d := hdesc
  change execReadArbiterGrant s = _
  simp only [execReadArbiterGrant, hopen, hstill, hnext, hptr, hburst, Bool.not_true, Bool.false_eq_true, or_self, if_false]

theorem exec_readArbiterGrant_of_none (h : s.flmOpen = false ∨ s.nodeStill nodeFlumeRead = true ∨
      roundRobin s.flm.rdPtr.toNat (fun c => s.flmReadable c && s.flmReadCovered c) = none) :
    exec .readArbiterGrant s = .next s := by
  change execReadArbiterGrant s = _
  rw [execReadArbiterGrant]
  rcases h with hopen | hstill | hnext
  · rw [if_pos (.inl (by rw [hopen, Bool.not_false]))]
  · rw [if_pos (.inr hstill)]
  · rw [hnext]
    exact congrArg _ (ite_self s)

end Read

section Write
variable {s : State}

theorem exec_writeArbiterGrant_of_grant {c : Nat} {d : FDesc} {b : FBurst} (hopen : s.flmOpen = true)
    (hstill : s.nodeStill nodeFlumeWrite = false)
    (hnext : roundRobin s.flm.wrPtr.toNat (fun c => (s.flmAt c).desc.isSome && (s.flmAt c).nextWrite.isSome &&
      s.flmWriteCovered c) = some c)
    (hdesc : (s.flmAt c).desc = some d) (hburst : (s.flmAt c).nextWrite = some b) :
    exec .writeArbiterGrant s =
      .next ((s.modFlm fun f => { f with wrPtr := BitVec.ofNat 5 (c + 1) }).flmWriteBurst c d b) := by
  have hptr : (s.modFlm fun f => { f with wrPtr := BitVec.ofNat 5 (c + 1) }).flmAt c = s.flmAt c := rfl
  change execWriteArbiterGrant s = _
  simp only [execWriteArbiterGrant, hopen, hstill, hnext, hptr, hdesc, hburst, Bool.not_true, Bool.false_eq_true, or_self, if_false]

theorem exec_writeArbiterGrant_of_none (h : s.flmOpen = false ∨ s.nodeStill nodeFlumeWrite = true ∨
      roundRobin s.flm.wrPtr.toNat (fun c => (s.flmAt c).desc.isSome && (s.flmAt c).nextWrite.isSome && s.flmWriteCovered c) =
        none) :
    exec .writeArbiterGrant s = .next s := by
  change execWriteArbiterGrant s = _
  rw [execWriteArbiterGrant]
  rcases h with hopen | hstill | hnext
  · rw [if_pos (.inl (by rw [hopen, Bool.not_false]))]
  · rw [if_pos (.inr hstill)]
  · rw [hnext]
    exact congrArg _ (ite_self s)

end Write

/-! ### Completion (09 R219, R220, R222, R223) -/

/-- The write-back sends its posted writes, or none where the host path is closed, and in the channel alone ends the descriptor. -/
theorem State.flmAt_flmWriteback (s : State) (c st : Nat) (d : FDesc) :
    (s.flmWriteback c st d).flmAt c = { s.flmAt c with
      desc := none, bursts := [], cnt := (s.flmAt c).cnt + 1,
      head := BitVec.ofNat 12 ((s.flmAt c).mask ((s.flmAt c).head.toNat + 1)), lastStatus := BitVec.ofNat 8 st } := by
  rw [State.flmWriteback, State.flmAt_modFlmCh, if_pos rfl]
  split <;> rfl

/-- A channel halts and asserts an event. -/
def State.flmHalt (c : Nat) (bits : BitVec 3) (s : State) : State := (s.modFlmCh c fun x => { x with halted := true }).flmEvt c bits

section Writeback
variable {s u : State} {c : Fin 32} {d : FDesc} {st : Nat}

/-- The descriptor is written back, and its status says what follows. -/
theorem exec_descriptorWriteback_of_done (hstill : s.nodeStill nodeFlumeWrite = false) (hdesc : (s.flmAt c).desc = some d)
    (hdone : d.done = some st) (hu : u = s.flmWriteback c st d) {v w : State}
    (hv : v = if d.evtFab then u.modFlmCh c fun x => { x with evtPend := true } else u)
    (hw : w = if d.evtTrig then v.flmTrigger d.trigCh else v) :
    exec (.descriptorWriteback c) s = .next (
      if st = 0 then if d.aborting then w.flmHalt c 2 else w
      else if st = 0x10 then u.flmHalt c 2
      else if st = 0x11 ∨ st = 0x12 then if d.aborting then u.flmHalt c 2 else u
      else if d.aborting then (u.flmHalt c 1).flmEvt c 2 else u.flmHalt c 1) := by
  subst hw hv hu
  change execDescriptorWriteback c s = _
  rw [execDescriptorWriteback, if_neg (ne_true_of_eq_false hstill), hdesc]
  simp only [hdone, State.flmHalt]

variable (hstill : s.nodeStill nodeFlumeWrite = false) (hdesc : (s.flmAt c).desc = some d) (hdone : d.done = some st)
  (hu : u = s.flmWriteback c st d)
include hstill hdesc hdone hu

/-- A descriptor that ended well gives its events; an abort that met its completion halts the channel then. -/
theorem exec_descriptorWriteback_of_ok (hst : st = 0) {v w : State}
    (hv : v = if d.evtFab then u.modFlmCh c fun x => { x with evtPend := true } else u)
    (hw : w = if d.evtTrig then v.flmTrigger d.trigCh else v) :
    exec (.descriptorWriteback c) s = .next (if d.aborting then w.flmHalt c 2 else w) := by
  rw [exec_descriptorWriteback_of_done hstill hdesc hdone hu hv hw, if_pos hst]

theorem exec_descriptorWriteback_of_refused (hst : st = 0x11 ∨ st = 0x12) :
    exec (.descriptorWriteback c) s = .next (if d.aborting then u.flmHalt c 2 else u) := by
  rw [exec_descriptorWriteback_of_done hstill hdesc hdone hu rfl rfl, if_neg (by omega), if_neg (by omega), if_pos hst]

theorem exec_descriptorWriteback_of_aborted (hst : st = 0x10) :
    exec (.descriptorWriteback c) s = .next (u.flmHalt c 2) := by
  rw [exec_descriptorWriteback_of_done hstill hdesc hdone hu rfl rfl, if_neg (by omega), if_pos hst]

theorem exec_descriptorWriteback_of_error (hok : st ≠ 0) (haborted : st ≠ 0x10) (hbad : st ≠ 0x11) (hcirc : st ≠ 0x12) :
    exec (.descriptorWriteback c) s = .next (if d.aborting then (u.flmHalt c 1).flmEvt c 2 else u.flmHalt c 1) := by
  rw [exec_descriptorWriteback_of_done hstill hdesc hdone hu rfl rfl, if_neg hok, if_neg haborted, if_neg (by omega)]

end Writeback

/-! ### The obligation -/

/-- Settles O32: each clause is the equation of its event for that case. -/
theorem flumeEventsAct : Obligations.FlumeEventsAct := by
  unfold Obligations.FlumeEventsAct
  refine ⟨fun s c => exec_descriptorFetch_of_work, fun s c => exec_descriptorFetch_of_stopped, ?arrival,
    fun s c words good => exec_descriptorArrival_of_unasked, fun s c d a n => exec_readArbiterGrant_of_grant,
    fun s c d b => exec_writeArbiterGrant_of_grant,
    fun s => ⟨exec_readArbiterGrant_of_none, exec_writeArbiterGrant_of_none⟩, ?writeback⟩
  case arrival =>
    intro s u c words hfetching hu
    refine ⟨exec_descriptorArrival_of_failed hfetching hu, fun d hd hlen =>
      ⟨exec_descriptorArrival_of_invalid hfetching hu hd hlen, ?_, ?_, ?_⟩⟩
    · intro hvalid hgood
      exact exec_descriptorArrival_of_ended hfetching hu hd hlen hvalid (FDesc.judged_of_bad hgood)
    · intro hvalid hgood hover hcirc
      exact exec_descriptorArrival_of_ended hfetching hu hd hlen hvalid (FDesc.judged_of_circOverlap hgood hover hcirc)
    · intro hvalid hgood hmove down hdown
      exact exec_descriptorArrival_of_move hfetching hu hd hlen hvalid hgood hmove hdown
  case writeback =>
    intro s u c d st hstill hdesc hdone hu
    refine ⟨?_, fun hst v w => exec_descriptorWriteback_of_ok hstill hdesc hdone hu hst,
      exec_descriptorWriteback_of_refused hstill hdesc hdone hu, exec_descriptorWriteback_of_aborted hstill hdesc hdone hu,
      fun hok haborted hbad hcirc v hv => ?_⟩
    · rw [hu, State.flmAt_flmWriteback]
      exact ⟨rfl, rfl, rfl, rfl⟩
    · rw [hv]
      exact exec_descriptorWriteback_of_error hstill hdesc hdone hu hok haborted hbad hcirc

end Sys2Proof.Machine
end

section
/-! SUPPORT. What the events of the configuration scrubber do, one equation for each case (10 R253 to R258, 13 R319). They settle O34. -/
namespace Sys2Proof.Machine

variable {s : State}

/-! ### A scrubber that stands (10 R253, R256) -/

theorem exec_scrubFrameRead_of_stands (h : s.img.scrubEn = false ∨ s.img.halted = true ∨ s.scrubPaused = true) :
    exec .scrubFrameRead s = .next s := by
  change execScrubFrameRead s = _
  rw [execScrubFrameRead, if_pos (by simpa using h)]

theorem exec_scrubWdog_of_stands (h : s.img.scrubEn = false ∨ s.img.halted = true ∨ s.scrubPaused = true ∨ s.lk.inService = false) :
    exec .scrubWdog s = .next s := by
  change execScrubWdog s = _
  rw [execScrubWdog, if_pos (by simpa using h)]

/-! ### The sweep (10 R253, R254, R257) -/

/-- The frame under the sweep lies in a region that an apply writes or a self-test has. -/
def State.sweepSkips (s : State) : Bool :=
  (s.img.app.any fun a => inRects a.rects (s.img.sweepPos / 257)) || s.bistPlot (s.img.sweepPos / 257)

theorem State.sweepSkips_eq_true : s.sweepSkips = true ↔
    (∃ a, s.img.app = some a ∧ inRects a.rects (s.img.sweepPos / 257) = true) ∨ s.bistPlot (s.img.sweepPos / 257) = true := by
  rw [State.sweepSkips, Bool.or_eq_true, Option.any_eq_true]

theorem State.sweepSkips_eq_false (happ : ∀ a, s.img.app = some a → inRects a.rects (s.img.sweepPos / 257) = false)
    (hbist : s.bistPlot (s.img.sweepPos / 257) = false) : s.sweepSkips = false := by
  rw [Bool.eq_false_iff, Ne, State.sweepSkips_eq_true, hbist]
  rintro (⟨a, ha, hin⟩ | hbist)
  · exact Bool.false_ne_true ((happ a ha).symm.trans hin)
  · exact Bool.false_ne_true hbist

section Runs
variable (hen : s.img.scrubEn = true) (hgo : s.img.halted = false) (hruns : s.scrubPaused = false)
include hen hgo hruns

/-- The three outcomes of a frame read while the scrubber runs. -/
theorem exec_scrubFrameRead_of_runs : exec .scrubFrameRead s = .next (
    if s.sweepSkips then s.sweepNext
    else if tget s.img.crc none s.img.sweepPos = some (w32 (frameCrc32 s.img.sweepPos (s.frameNow s.img.sweepPos))) then
      (s.modImg fun x => { x with reported := x.reported.filter (· ≠ s.img.sweepPos) }).sweepNext
    else (s.frameMismatch s.img.sweepPos).sweepNext) := by
  change execScrubFrameRead s = _
  rw [execScrubFrameRead, if_neg (by simp [hen, hgo, hruns]), State.sweepSkips]
  cases s.img.app <;> rfl

section Read
variable (happ : ∀ a, s.img.app = some a → inRects a.rects (s.img.sweepPos / 257) = false)
  (hbist : s.bistPlot (s.img.sweepPos / 257) = false)
include happ hbist

theorem exec_scrubFrameRead_of_agreeing
    (hcrc : tget s.img.crc none s.img.sweepPos = some (w32 (frameCrc32 s.img.sweepPos (s.frameNow s.img.sweepPos)))) :
    exec .scrubFrameRead s = .next (s.modImg fun x =>
      { x with reported := x.reported.filter (· ≠ s.img.sweepPos) }).sweepNext := by
  rw [exec_scrubFrameRead_of_runs hen hgo hruns, if_neg (ne_true_of_eq_false (State.sweepSkips_eq_false happ hbist)), if_pos hcrc]

section Mismatch
variable {u : State} (hcrc : tget s.img.crc none s.img.sweepPos ≠ some (w32 (frameCrc32 s.img.sweepPos (s.frameNow s.img.sweepPos))))
  (hu : u = s.modImg fun x => { x with mismatch := satInc x.mismatch, last := frameAddr s.img.sweepPos })
include hcrc

theorem exec_scrubFrameRead_of_mismatch : exec .scrubFrameRead s = .next (s.frameMismatch s.img.sweepPos).sweepNext := by
  rw [exec_scrubFrameRead_of_runs hen hgo hruns, if_neg (ne_true_of_eq_false (State.sweepSkips_eq_false happ hbist)), if_neg hcrc]

include hu

theorem exec_scrubFrameRead_of_repair (hrepair : s.img.repairEn = true) : exec .scrubFrameRead s = .next (u.modImg fun x =>
    { x with fixes := if x.fixes.any (fun r => r.frame = s.img.sweepPos) then x.fixes
                      else x.fixes ++ [{ frame := s.img.sweepPos }] }).sweepNext := by
  have hrepair' : u.img.repairEn = true := by rw [hu]; exact hrepair
  rw [exec_scrubFrameRead_of_mismatch hen hgo hruns happ hbist hcrc, State.frameMismatch, ← hu, if_pos hrepair']

theorem exec_scrubFrameRead_of_noRepair (hrepair : s.img.repairEn = false) :
    exec .scrubFrameRead s = .next (if s.img.reported.contains s.img.sweepPos then u else
      ((u.log 0x0909 true false (frameAddr s.img.sweepPos) 0 0).cfgEvt 10).modImg fun x =>
        { x with reported := s.img.sweepPos :: x.reported }).sweepNext := by
  have hrepair' : ¬u.img.repairEn = true := by rw [hu]; exact ne_true_of_eq_false hrepair
  have hreported : u.img.reported = s.img.reported := by rw [hu]; rfl
  rw [exec_scrubFrameRead_of_mismatch hen hgo hruns happ hbist hcrc, State.frameMismatch, ← hu, if_neg hrepair', hreported]

end Mismatch
end Read

/-! ### The watchdog (10 R256) -/

theorem exec_scrubWdog_of_runs {u : State} {halt : Bool} (hserv : s.lk.inService = true) (hhalt : halt = decide (3 ≤ s.img.wdogRun + 1))
    (hu : u = s.modImg fun x => { x with wdog := satInc x.wdog, wdogRun := x.wdogRun + 1, sweepPos := 0, halted := halt }) :
    exec .scrubWdog s = .next ((u.log 0x0907 true halt (w32 u.img.wdog.toNat) 0 0).cfgEvt 6) := by
  subst hhalt hu
  change execScrubWdog s = _
  rw [execScrubWdog, if_neg (by simp [hen, hgo, hruns, hserv])]

end Runs

/-! ### Repair frames (10 R254, R257) -/

section Repair
variable {r : Repair}

theorem exec_repairFrameArrival_of_none (bad : Bool) (hnone : s.img.fixes.find? (fun r => !r.arrived) = none) :
    exec (.repairFrameArrival bad) s = .next s := by
  change execRepairFrameArrival bad s = _
  rw [execRepairFrameArrival, hnone]

variable (hfirst : s.img.fixes.find? (fun r => !r.arrived) = some r)
include hfirst

theorem exec_repairFrameArrival_of_loading (bad : Bool) (hload : s.frameLoads r.frame = true) :
    exec (.repairFrameArrival bad) s = .next (s.dropFix r.frame) := by
  change execRepairFrameArrival bad s = _
  simp only [execRepairFrameArrival, hfirst, if_pos hload]

variable (hload : s.frameLoads r.frame = false)
include hload

theorem exec_repairFrameArrival_of_bad :
    exec (.repairFrameArrival true) s = .next ((s.dropFix r.frame).log 0x0905 false false (frameAddr r.frame) 0 0) := by
  change execRepairFrameArrival true s = _
  simp only [execRepairFrameArrival, hfirst, if_neg (ne_true_of_eq_false hload), if_true]

theorem exec_repairFrameArrival_of_good : exec (.repairFrameArrival false) s = .next (
    if s.repairNow r.frame then s.repairFrame r.frame
    else s.modImg fun x => { x with fixes := x.fixes.map fun y => if y.frame = r.frame then { y with arrived := true } else y }) := by
  change execRepairFrameArrival false s = _
  simp only [execRepairFrameArrival, hfirst, if_neg (ne_true_of_eq_false hload), if_neg Bool.false_ne_true]

end Repair

/-! ### The obligation -/

/-- Settles O34: each clause is the equation of its event for that case. -/
theorem scrubberEventsAct : Obligations.ScrubberEventsAct := by
  unfold Obligations.ScrubberEventsAct
  refine ⟨fun s hen hgo hruns => ⟨?skipped, ?read⟩, fun s h => ⟨exec_scrubFrameRead_of_stands h, ?watched⟩, ?repair,
    fun s bad => exec_repairFrameArrival_of_none bad,
    fun s u halt hen hgo hruns => exec_scrubWdog_of_runs hen hgo hruns, ?outOfService⟩
  case skipped =>
    intro hskip
    rw [exec_scrubFrameRead_of_runs hen hgo hruns, if_pos (State.sweepSkips_eq_true.mpr hskip)]
  case read =>
    intro happ hbist
    exact ⟨exec_scrubFrameRead_of_agreeing hen hgo hruns happ hbist, fun hcrc u hu =>
      ⟨exec_scrubFrameRead_of_repair hen hgo hruns happ hbist hcrc hu,
        exec_scrubFrameRead_of_noRepair hen hgo hruns happ hbist hcrc hu⟩⟩
  case watched => exact exec_scrubWdog_of_stands (h.imp_right fun hrest => hrest.imp_right Or.inl)
  case repair =>
    rintro s u r bad hfirst (rfl : u = s.dropFix r.frame)
    refine ⟨exec_repairFrameArrival_of_loading hfirst bad, fun hload hbad => ?_, fun hload hbad => ?_⟩
    · rw [hbad, exec_repairFrameArrival_of_bad hfirst hload]
    · rw [hbad, exec_repairFrameArrival_of_good hfirst hload]
  case outOfService => exact fun s hserv => exec_scrubWdog_of_stands (.inr (.inr (.inr hserv)))

end Sys2Proof.Machine
end

section
/-! SUPPORT. What the staging commands do to the Staged bank once the Lockkeeper takes them (10 R231, 14 R354). They settle O3. -/
namespace Sys2Proof.Machine

variable {s : State} {r : Req}

section Length
variable (hfree : s.stagedTaken = false)
include hfree

theorem exec_stageBegin_of_takes (h : s.takes r .owner (r.length = 3)) (hlen : (r.p 0).toNat ≤ bankBytes) :
    exec (.stageBegin r) s = .next ((s.beginStaged.modImg fun x => { x with chunkLen := some (r.p 0).toNat }).commit r 0x0202
      .owner stOk false []) := by
  change execStageBegin r s = _
  rw [execStageBegin, State.serveCmd_of_takes_of_ok h ((if_neg hlen.not_gt).trans (if_neg (ne_true_of_eq_false hfree)))]

/-- STAGE_HOST asks the host for the image once it has answered ACCEPTED. -/
theorem exec_stageHost_of_takes (h : s.takes r .owner (r.length = 5)) (hroom : s.room r) (hlen : (r.p 2).toNat ≤ bankBytes) :
    exec (.stageHost r) s = .next (((s.beginStaged.modBank s.img.stg fun x => { x with len := (r.p 2).toNat }).modImg fun x =>
      { x with staging := some { origin := r.origin 0x0201, addr := (r.p 0).toNat + 2 ^ 32 * (r.p 1).toNat,
                                 len := (r.p 2).toNat } }).accepts r 0x0201 .owner).stageNext := by
  change execStageHost r s = _
  rw [execStageHost, State.serveCmd_of_takes_of_acceptThen h hroom
    ((if_neg hlen.not_gt).trans (if_neg (ne_true_of_eq_false hfree)))]

end Length

section Begun
variable {len : Nat} (hbegun : s.img.chunkLen = some len) (hfree : s.stagedTaken = false)
include hbegun hfree

theorem exec_stageChunk_of_takes (h : s.takes r .owner (decide (3 ≤ r.length))) (halign : (r.p 0).toNat % 4 = 0)
    (hend : (r.p 0).toNat + 4 * (r.params.drop 1).length ≤ len) :
    exec (.stageChunk r) s = .next (((s.writeStaged (r.p 0).toNat (bytesOfWords (r.params.drop 1))).modBank s.img.stg fun x =>
      { x with mark := none }).commit r 0x0203 .owner stOk false []) := by
  have hgood : ¬((r.p 0).toNat % 4 ≠ 0 ∨ len < (r.p 0).toNat + 4 * (r.params.drop 1).length) := by omega
  change execStageChunk r s = _
  rw [execStageChunk, State.serveCmd_of_takes_of_ok h]
  simp only [hbegun, if_neg hgood, if_neg (ne_true_of_eq_false hfree)]

theorem exec_stageEnd_of_takes (h : s.takes r .owner (r.length = 2)) (hroom : s.room r) :
    exec (.stageEnd r) s = .next (((s.modBank s.img.stg fun x => { x with len := len }).modImg fun x =>
      { x with chunkLen := none, readback := some (r.origin 0x0204) }).accepts r 0x0204 .owner) := by
  change execStageEnd r s = _
  rw [execStageEnd, State.serveCmd_of_takes_of_accept h hroom]
  simp only [hbegun, if_neg (ne_true_of_eq_false hfree)]

end Begun

/-! ### The obligation -/

/-- Settles O3: each clause is the equation of its command for a request that is taken while the Staged bank is free. -/
theorem stagingCommandsWriteTheStagedBank : Obligations.StagingCommandsWriteTheStagedBank := by
  unfold Obligations.StagingCommandsWriteTheStagedBank
  exact ⟨fun s r h hlen hfree => exec_stageBegin_of_takes hfree h hlen,
    fun s r len h hbegun halign hend hfree => exec_stageChunk_of_takes hbegun hfree h halign hend,
    fun s r len h hroom hbegun hfree => exec_stageEnd_of_takes hbegun hfree h hroom,
    fun s r h hroom hlen hfree => exec_stageHost_of_takes hfree h hroom hlen⟩

end Sys2Proof.Machine
end

section
/-! SUPPORT. What the image commands do once the Lockkeeper takes them (10 R243, R244, R248, 14 R353, R355). They settle O4. -/
namespace Sys2Proof.Machine

variable {s : State} {r : Req}

/-! ### Status and header (14 R353) -/

theorem exec_imgStatus_of_takes (h : s.takes r .anyone (r.length = 2)) :
    exec (.imgStatus r) s = .next (s.commit r 0x0200 .anyone stOk false
      [s.cfgStatus, s.actVer, s.actBase, s.prevVer, s.stgVer, s.cfgSlots, s.cfgLevee, s.wearWord 0, s.wearWord 1, s.wearWord 2]) := by
  change execImgStatus r s = _
  rw [execImgStatus, State.serveCmd_of_takes_of_ok h rfl]

theorem exec_imgHeader_of_takes (h : s.takes r .anyone (r.length = 3)) (hrole : (r.p 0).toNat ≤ 2)
    (hheld : (s.img.bank (s.img.roleBank (r.p 0).toNat)).bytes ≠ []) :
    exec (.imgHeader r) s = .next (s.commit r 0x020B .anyone stOk false
      ((List.range 128).map fun i => (s.img.bank (s.img.roleBank (r.p 0).toNat)).base.hw i)) := by
  have hsome : ¬(s.img.bank (s.img.roleBank (r.p 0).toNat)).bytes.isEmpty = true := by rwa [List.isEmpty_iff]
  change execImgHeader r s = _
  rw [execImgHeader, State.serveCmd_of_takes_of_ok h ((if_neg hrole.not_gt).trans (if_neg hsome))]

/-! ### Operations that become pending (10 R243, R244) -/

/-- A parameter without reserved bits and a judgement of 0 let a COMMIT or ROLLBACK reach its operation. -/
theorem Res.of_judged_good {n st : Nat} {p : W32} {x : Res} (hres : only p n = true) (hst : st = 0) :
    (if !only p n then .fail stBadParam else if st ≠ 0 then .fail st else x) = x := by
  simp [hres, hst]

theorem exec_imageCommit_of_takes (h : s.takes r .owner (r.length = 3)) (hroom : s.room r) (hres : only (r.p 0) 1 = true)
    (hjudge : s.commitJudge (s.img.bank s.img.stg).base = 0) :
    exec (.imageCommit r) s = .next (((if (s.img.bank s.img.stg).base.partly then s.addPatch (s.img.bank s.img.stg).base else s).setPendOp
      { kind := if (s.img.bank s.img.stg).base.partly then .partialCommit else .full, atStart := decide (r.p 0 = 1),
        origin := some (r.origin 0x0205), fell := decide (s.img.bootRole = 1) }).accepts r 0x0205 .owner).pendNow := by
  change execImageCommit r s = _
  rw [execImageCommit, State.serveCmd_of_takes_of_acceptThen h hroom (Res.of_judged_good hres hjudge)]

theorem exec_rollback_of_takes (h : s.takes r .owner (r.length = 3)) (hroom : s.room r) (hres : only (r.p 0) 1 = true)
    (hjudge : s.rollbackJudge = 0) :
    exec (.rollback r) s = .next ((s.setPendOp
      { kind := .rollback, atStart := decide (r.p 0 = 1), origin := some (r.origin 0x0206) }).accepts r 0x0206 .owner).pendNow := by
  change execRollback r s = _
  rw [execRollback, State.serveCmd_of_takes_of_acceptThen h hroom (Res.of_judged_good hres hjudge)]

theorem exec_join_of_takes (h : s.takes r .owner (r.length = 2)) (hroom : s.room r)
    (hawait : (s.fab.levees.any (·.awaitJoin)) = true) (hnone : s.img.pend = none) :
    exec (.join r) s = .next ((s.setPendOp
      { kind := .join, atStart := false, origin := some (r.origin 0x0207) }).accepts r 0x0207 .owner).pendNow := by
  have hjoins : ¬(!(s.fab.levees.any (·.awaitJoin))) = true := by rw [hawait]; decide
  have hfree : ¬s.img.pend.isSome = true := by rw [hnone]; decide
  change execJoin r s = _
  rw [execJoin, State.serveCmd_of_takes_of_acceptThen h hroom ((if_neg hjoins).trans (if_neg hfree))]

theorem exec_cancel_of_takes {p : PendOp} (h : s.takes r .owner (r.length = 2)) (hpend : s.img.pend = some p)
    (hahead : s.pastStep6 p = false) :
    exec (.cancel r) s = .next ((((if p.kind = OpKind.partialCommit then
        (s.modImg fun x => { x with pend := none }).modBank s.img.act fun b => { b with patches := b.patches.filter (·.applied) }
      else s.modImg fun x => { x with pend := none }).postRecord? p.origin stBusy [])).commit r 0x0208 .owner stOk false
        [w32 p.kind.opcode]) := by
  change execCancel r s = _
  rw [execCancel, State.serveCmd_of_takes_of_ok h]
  simp only [hpend, if_neg (ne_true_of_eq_false hahead), State.modImg_img]

/-! ### Verify and release (14 R355) -/

theorem exec_verify_of_takes (h : s.takes r .anyone (r.length = 3)) (hroom : s.room r) (hrole : (r.p 0).toNat ≤ 2)
    (hnone : s.img.verify = none) :
    exec (.verify r) s = .next ((s.modImg fun x => { x with verify := some (r.origin 0x0209, (r.p 0).toNat) }).accepts r 0x0209
      .anyone) := by
  have hfree : ¬s.img.verify.isSome = true := by rw [hnone]; decide
  change execVerify r s = _
  rw [execVerify, State.serveCmd_of_takes_of_accept h hroom ((if_neg hrole.not_gt).trans (if_neg hfree))]

theorem exec_releaseGo_of_takes (h : s.takes r .owner (r.length = 2)) (hwait : s.img.stepWait = true) :
    exec (.releaseGo r) s = .next (s.releaseGo.commit r 0x020A .owner stOk false []) := by
  have hwaits : ¬(!s.img.stepWait) = true := by rw [hwait]; decide
  change execReleaseGo r s = _
  rw [execReleaseGo, State.serveCmd_of_takes_of_ok h (if_neg hwaits)]

/-! ### The obligation -/

/-- Settles O4: each clause is the equation of its command for a request that is taken and that nothing refuses. -/
theorem imageCommandsAnswer : Obligations.ImageCommandsAnswer := by
  unfold Obligations.ImageCommandsAnswer
  exact ⟨fun s r => exec_imgStatus_of_takes, fun s r => exec_imgHeader_of_takes,
    fun s r => exec_imageCommit_of_takes, fun s r => exec_rollback_of_takes, fun s r => exec_join_of_takes,
    fun s r p => exec_cancel_of_takes, fun s r => exec_verify_of_takes, fun s r => exec_releaseGo_of_takes⟩

end Sys2Proof.Machine
end

section
/-! SUPPORT. What the events of loads, applies, release and checks of stored images do, one equation for each case (10 R231, R239, R241,
R243, R244, R246, R248, R249, 12 R304). They settle O33. -/
namespace Sys2Proof.Machine

variable {s : State}

/-! ### Full loads (10 R239, R243, R246) -/

section Load
variable {l : Load} (hload : s.img.load = some l)
include hload

theorem exec_fullLoadComplete_of_load : exec .fullLoadComplete s =
    .next (if s.bankCheck l.bank = 0 then s.loadDone l else s.loadFails l (s.bankCheck l.bank)).afterLoad := by
  change execFullLoadComplete s = _
  rw [execFullLoadComplete, hload]

theorem exec_applyFail_of_load : exec .applyFail s =
    .next (s.loadFails l (if s.bankCheck l.bank = 0 then 5 else s.bankCheck l.bank)).afterLoad := by
  change execApplyFail s = _
  rw [execApplyFail, hload]

end Load

section NoLoad
variable (hload : s.img.load = none)
include hload

theorem exec_fullLoadComplete_of_none : exec .fullLoadComplete s = .next s := by
  change execFullLoadComplete s = _
  rw [execFullLoadComplete, hload]

theorem exec_applyFail_of_apply {a : Apply} (happ : s.img.app = some a) : exec .applyFail s =
    .next (if a.reload then s.reloadFails a 5 else s.applyFails a).afterLoad := by
  change execApplyFail s = _
  rw [execApplyFail, hload, happ]

theorem exec_applyFail_of_none (happ : s.img.app = none) : exec .applyFail s = .next s := by
  change execApplyFail s = _
  rw [execApplyFail, hload, happ]

end NoLoad

/-! ### Partial applies (10 R244, R246, R248, R249) -/

theorem exec_partialApplyComplete_of_none (happ : s.img.app = none) : exec .partialApplyComplete s = .next s := by
  change execPartialApplyComplete s = _
  rw [execPartialApplyComplete, happ]

section Apply
variable {a : Apply} (happ : s.img.app = some a)
include happ

theorem exec_partialApplyComplete_of_reload (hreload : a.reload = true) :
    exec .partialApplyComplete s = .next (s.applyReloaded a).afterLoad := by
  change execPartialApplyComplete s = _
  simp only [execPartialApplyComplete, happ, if_pos hreload]

theorem exec_partialApplyComplete_of_patch {p : Patch} (hreload : a.reload = false)
    (hpatch : (s.img.bank s.img.act).pendingPatch = some p) :
    exec .partialApplyComplete s = .next
      (if s.imgCheck p.img (some true) [1, 2, 3, 4, 5, 9] = 0 then s.applyDone a else s.applyFails a).afterLoad := by
  change execPartialApplyComplete s = _
  simp only [execPartialApplyComplete, happ, if_neg (ne_true_of_eq_false hreload), hpatch]

end Apply

theorem exec_patchCopyComplete_of_none (hpend : s.img.pend = none) : exec .patchCopyComplete s = .next s := by
  change execPatchCopyComplete s = _
  rw [execPatchCopyComplete, hpend]

/-- The copy of a partial commit that is complete starts the device it waits for, or is applied where it may be. -/
theorem exec_patchCopyComplete_of_pend {u : State} {p : PendOp} (hpend : s.img.pend = some p) (hu : u = s.modImg fun x =>
      { x with pend := some { p with copied := true, missed := decide (s.win.st = .boundary ∧ 6 ≤ s.win.step) } }) :
    exec .patchCopyComplete s = .next (if p.kind = .partialCommit ∧ p.copied = false then
      (if p.atStart then u.startUp else u.applyPend) else s) := by
  change execPatchCopyComplete s = _
  simp only [execPatchCopyComplete, hpend, ← hu, Bool.not_eq_true']

/-! ### Release (10 R241, 12 R304) -/

section Release
variable (vccio : List Nat)

theorem exec_releaseStep_of_waits (h : s.mayRelease = false ∨ (s.img.stepAt s.img.steps = 1 ∧ s.tapDrives = true)) :
    exec (.releaseStep vccio) s = .next s := by
  change execReleaseStep vccio s = _
  rw [execReleaseStep, if_pos (h.imp_left fun hmay => by rw [hmay]; rfl)]

section May
variable (hmay : s.mayRelease = true) (hpins : ¬(s.img.stepAt s.img.steps = 1 ∧ s.tapDrives = true))
include hmay hpins

/-- A step that is due acts, unless it is manual and has no GO. -/
theorem exec_releaseStep_of_due : exec (.releaseStep vccio) s = .next (
    if s.img.manual.getLsbD s.img.steps ∧ !s.img.go then
      if s.img.stepWait then s else (s.modImg fun x => { x with stepWait := true }).cfgEvt 8
    else s.releaseStep vccio) := by
  change execReleaseStep vccio s = _
  rw [execReleaseStep, if_neg]
  rw [hmay]
  exact not_or_intro (by decide) hpins

theorem exec_releaseStep_of_go (hgo : s.img.manual.getLsbD s.img.steps = false ∨ s.img.go = true) :
    exec (.releaseStep vccio) s = .next (s.releaseStep vccio) := by
  rw [exec_releaseStep_of_due vccio hmay hpins, if_neg]
  rintro ⟨hmanual, hnoGo⟩
  rcases hgo with hauto | hgo
  · exact Bool.false_ne_true (hauto.symm.trans hmanual)
  · rw [hgo] at hnoGo
    exact Bool.false_ne_true hnoGo

theorem exec_releaseStep_of_manual (hmanual : s.img.manual.getLsbD s.img.steps = true) (hgo : s.img.go = false) :
    exec (.releaseStep vccio) s =
      .next (if s.img.stepWait then s else (s.modImg fun x => { x with stepWait := true }).cfgEvt 8) := by
  rw [exec_releaseStep_of_due vccio hmay hpins, if_pos ⟨hmanual, by rw [hgo]; rfl⟩]

end May
end Release

/-! ### Checks of stored images (10 R231, R243) -/

theorem exec_stageReadbackComplete_of_none (hread : s.img.readback = none) : exec .stageReadbackComplete s = .next s := by
  change execStageReadbackComplete s = _
  rw [execStageReadbackComplete, hread]

theorem exec_stageReadbackComplete_of_readback {u : State} {o : Origin} {row : Nat} (hread : s.img.readback = some o)
    (hrow : row = s.imgCheck (s.img.bank s.img.stg).base none rowsStaged)
    (hu : u = s.modImg fun x => { x with readback := none, stgValid := decide (row = 0) }) :
    exec .stageReadbackComplete s = .next ((if row = 0 then u.setMark s.img.stg true else u.sigFail s.img.stg row).postRecord o
      (rowStatus row) [(if row = 0 then u.setMark s.img.stg true else u.sigFail s.img.stg row).cfgSlots]) := by
  change execStageReadbackComplete s = _
  simp only [execStageReadbackComplete, hread, ← hrow, ← hu]

theorem exec_verifyComplete_of_none (hverify : s.img.verify = none) : exec .verifyComplete s = .next s := by
  change execVerifyComplete s = _
  rw [execVerifyComplete, hverify]

theorem exec_verifyComplete_of_verify {u : State} {o : Origin} {role row : Nat} (hverify : s.img.verify = some (o, role))
    (hrow : row = s.verifyRow role) (hu : u = s.modImg fun x => { x with verify := none }) :
    exec .verifyComplete s = .next ((((if row = 0 then u else u.sigFail (s.img.roleBank role) row).setMark (s.img.roleBank role)
      (decide (row = 0))).cfgEvt 7).postRecord o stOk [w32 row, w32 (rowStatus row)]) := by
  change execVerifyComplete s = _
  simp only [execVerifyComplete, hverify, ← hrow, ← hu]

/-! ### The obligation -/

/-- Settles O33: each clause is the equation of its event for that case. -/
theorem configurationEventsAct : Obligations.ConfigurationEventsAct := by
  unfold Obligations.ConfigurationEventsAct
  exact ⟨fun s l hload => ⟨exec_fullLoadComplete_of_load hload, exec_applyFail_of_load hload⟩,
    fun s a happ => ⟨exec_partialApplyComplete_of_reload happ, fun hreload p => exec_partialApplyComplete_of_patch happ hreload,
      fun hload => exec_applyFail_of_apply hload happ⟩,
    fun s => ⟨exec_fullLoadComplete_of_none, exec_partialApplyComplete_of_none, exec_applyFail_of_none⟩,
    fun s u p => exec_patchCopyComplete_of_pend, fun s => exec_patchCopyComplete_of_none,
    fun s vccio => ⟨exec_releaseStep_of_waits vccio, fun hmay hpins =>
      ⟨exec_releaseStep_of_go vccio hmay hpins, exec_releaseStep_of_manual vccio hmay hpins⟩⟩,
    fun s o row hread hrow u => exec_stageReadbackComplete_of_readback hread hrow,
    fun s o role row hverify hrow u => exec_verifyComplete_of_verify hverify hrow,
    fun s => ⟨exec_stageReadbackComplete_of_none, exec_verifyComplete_of_none⟩⟩

end Sys2Proof.Machine
end

section
/-! SUPPORT. What the BAR0 rows of link, clock, sluice and power registers do: the write of its offset that each row comes down to (12
R294), then the register it reaches (11 R270, R291, 16 R396, R408, R412, 17 R420, R437). They settle O31. -/
namespace Sys2Proof.Machine

variable {s u : State} {v : W32}

/-! ### Links (11 R270, R291) -/

/-- LNK_CTL, by the number of its link. -/
theorem State.regWrite_lnkCtl (i : Fin 16) :
    s.regWrite (0x1800000 + i.val * 0x100) v = s.lnkCtl i (v.getLsbD 0) (v.getLsbD 1) := by
  have hoff : 0x1800000 + i.val * 0x100 - 0x1800000 = i.val * 0x100 := by omega
  have hlink : i.val * 0x100 / 0x100 = i.val := by omega
  have hreg : i.val * 0x100 % 0x100 = 0 := by omega
  simp (disch := omega) only [State.regWrite, State.lanesWrite, State.linkWrite, if_neg, if_pos, hoff, hlink, hreg, if_true]

/-- RETRAIN trains a link that the same write leaves enabled. -/
theorem State.lnkCtl_eq {i : Nat} {en retrain : Bool} (hu : u = s.linkEn i en) :
    s.lnkCtl i en retrain = if retrain = true ∧ (u.linkAt i).st ≠ .disabled then u.train i else u := by
  rw [State.lnkCtl, ← hu, State.linkRetrain, ite_and, ite_not]

/-! ### The reference (16 R396) -/

theorem State.selectRef_of_reserved {x : BitVec 2} (hx : x = 3) : s.selectRef x = s := if_pos hx

/-- With no reference in use, the one that SELECT gives is switched to, unless a switch is in progress. -/
def State.refChosen (x : BitVec 2) (s : State) : State :=
  match s.clk.choose x with
  | some q => if s.clk.sw.any (fun m => m.mux = 0) then s else s.refSwitch q false
  | none => s

section Select
variable {x : BitVec 2} (hx : x ≠ 3)
include hx

theorem State.selectRef_of_noneInUse (hnone : s.clk.inUse = none) (hu : u = s.modClk fun c => { c with select := x }) :
    s.selectRef x = u.refChosen x := by
  subst hu
  rw [State.selectRef, if_neg hx, hnone]
  rfl

variable {r : RefIn} (hin : s.clk.inUse = some r)
include hin

theorem State.selectRef_of_allowed (hr : refAllowed x r = true) : s.selectRef x = s.modClk fun c => { c with select := x } := by
  rw [State.selectRef, if_neg hx, hin]
  exact if_pos hr

variable (hr : refAllowed x r = false)
include hr

theorem State.selectRef_of_switches (hother : s.clk.valid r.other = true) :
    s.selectRef x = (s.modClk fun c => { c.hold with select := x }).refSwitch r.other false := by
  rw [State.selectRef, if_neg hx, hin]
  exact (if_neg (ne_true_of_eq_false hr)).trans (if_pos hother)

/-- The write is ignored where the reference it allows is missing. -/
theorem State.selectRef_of_missing (hother : s.clk.valid r.other = false) : s.selectRef x = s.clkEvt 9 := by
  rw [State.selectRef, if_neg hx, hin]
  exact (if_neg (ne_true_of_eq_false hr)).trans (if_neg (ne_true_of_eq_false hother))

end Select

/-! ### Sluices (16 R408, R410) -/

theorem State.regWrite_slcCtl (n : Fin 56) : s.regWrite (0x100100 + 4 * n.val) v = s.slcCtl n v := by
  have hoff : 0x100100 + 4 * n.val - 0x100000 = 0x100 + 4 * n.val := by omega
  have hslc : (0x100 + 4 * n.val - 0x100) / 4 = n.val := by omega
  simp (disch := omega) only [State.regWrite, State.clkWrite, if_neg, if_pos, hoff, hslc]

section Sluice
variable {n : Nat} (hu : u = if v.getLsbD 7 then s.modSlc n fun x => { x with fail := false } else s)
include hu

theorem State.slcCtl_of_ignored (h : 10 < n ∨ bitsOf 2 v = 3 ∨ (bitsOf 2 v = 0 ∧ (u.slcAt n).req = 0)) : s.slcCtl n v = u := by
  rw [State.slcCtl, ← hu, if_pos h]

theorem State.slcCtl_of_request (hn : n ≤ 10) (hv : bitsOf 2 v ≠ 3) (hnew : ¬(bitsOf 2 v = 0 ∧ (u.slcAt n).req = 0)) :
    s.slcCtl n v = if ((u.slcRequest n (bitsOf 2 v)).slcAt n).closing then u.slcRequest n (bitsOf 2 v)
      else (u.slcRequest n (bitsOf 2 v)).slcAnswer n stOk := by
  rw [State.slcCtl, ← hu, if_neg (not_or.2 ⟨hn.not_gt, not_or.2 ⟨hv, hnew⟩⟩)]

end Sluice

/-! ### Power (17 R420) -/

/-- CANCEL meets what was pending before OFF_REQ of the same write. -/
theorem State.pwrCtl_eq {off cancel : Bool}
    (hu : u = if cancel = true ∧ ¬(s.win.st = .boundary ∧ 6 ≤ s.win.step) then s.sleepWithdraw else s) :
    s.pwrCtl off cancel = if off = true ∧ u.pwr.dev = .run then u.sleepRequest 3 none else u := by
  have hcancel : (if cancel then s.pwrCancel else s) = u := by
    rw [hu, ite_and, ite_not]
    rfl
  rw [State.pwrCtl, hcancel]

/-! ### The rows as writes of their offsets -/

/-- Each row is the write of its offset. -/
theorem exec_ctlRow_eq_bar0Write (s : State) (f : Func) (be : BitVec 4) (v : W32) (i : Fin 16) (n : Fin 56) :
    ∀ p ∈ [(0x1800000 + i.val * 0x100, Instr.lnkCtlEn f be i v), (0x1800000 + i.val * 0x100, .lnkCtlRetrain f be i v),
        (0x100008, .clkRefSelectWrite f be v), (0x100100 + 4 * n.val, .sluiceReqWrite f be n v), (0x200004, .pwrOffReq f be v),
        (0x200004, .pwrCancel f be v)],
      exec p.2 s = .next (s.bar0Write f be p.1 v) := by
  simp only [List.forall_mem_cons]
  exact ⟨rfl, rfl, rfl, rfl, rfl, rfl, List.forall_mem_nil _⟩

/-! ### The rows by the owner, with every byte -/

section Owner
variable (ho : s.funcOpen .pf0 = true) (hown : s.lk.owner = 1)
include ho hown

theorem State.bar0Write_lnkCtl_of_owner (i : Fin 16) (hu : u = s.linkEn i (v.getLsbD 0)) :
    s.bar0Write .pf0 15 (0x1800000 + i.val * 0x100) v =
      if v.getLsbD 1 = true ∧ (u.linkAt i).st ≠ .disabled then u.train i else u := by
  rw [State.bar0Write_of_owner ho hown (State.offAt_of_alwaysOn (by omega)), State.regWrite_lnkCtl, State.lnkCtl_eq hu]

theorem exec_clkRefSelectWrite_of_owner : exec (.clkRefSelectWrite .pf0 15 v) s = .next (s.selectRef (bitsOf 2 v)) :=
  congrArg Host.Outcome.next (State.bar0Write_of_owner ho hown (State.offAt_of_alwaysOn (by decide)))

theorem exec_sluiceReqWrite_of_owner (n : Fin 56) : exec (.sluiceReqWrite .pf0 15 n v) s = .next (s.slcCtl n v) :=
  congrArg Host.Outcome.next
    ((State.bar0Write_of_owner ho hown (State.offAt_of_alwaysOn (by omega))).trans (State.regWrite_slcCtl n))

theorem State.bar0Write_pwrCtl_of_owner
    (hu : u = if v.getLsbD 1 = true ∧ ¬(s.win.st = .boundary ∧ 6 ≤ s.win.step) then s.sleepWithdraw else s) :
    s.bar0Write .pf0 15 0x200004 v = if v.getLsbD 0 = true ∧ u.pwr.dev = .run then u.sleepRequest 3 none else u := by
  have hreg : s.regWrite 0x200004 v = s.pwrCtl (v.getLsbD 0) (v.getLsbD 1) := rfl
  rw [State.bar0Write_of_owner ho hown (State.offAt_of_alwaysOn (by decide)), hreg, State.pwrCtl_eq hu]

end Owner

/-! ### The obligation -/

/-- Settles O31: each row is the write of its offset, whose judgement lets it reach its register or drops it. -/
theorem linkClockAndPowerRegisterRowsAct : Obligations.LinkClockAndPowerRegisterRowsAct := by
  unfold Obligations.LinkClockAndPowerRegisterRowsAct
  refine ⟨?link, ?reference, ?sluice, ?power, ?dropped⟩
  case link =>
    intro s i v u ho hown (hu : u = s.linkEn i (v.getLsbD 0))
    have hctl := State.bar0Write_lnkCtl_of_owner ho hown i hu
    exact List.forall_mem_cons.2 ⟨congrArg _ hctl, List.forall_mem_singleton.2 (congrArg _ hctl)⟩
  case reference =>
    intro s v ho hown
    rw [exec_clkRefSelectWrite_of_owner ho hown]
    exact ⟨fun hx => congrArg _ (State.selectRef_of_reserved hx),
      fun r hx hin hr => congrArg _ (State.selectRef_of_allowed hx hin hr),
      fun r hx hin hr hother => congrArg _ (State.selectRef_of_switches hx hin hr hother),
      fun r hx hin hr hother => congrArg _ (State.selectRef_of_missing hx hin hr hother),
      fun hx hnone u hu => congrArg _ (State.selectRef_of_noneInUse hx hnone hu)⟩
  case sluice =>
    intro s n v u ho hown hu
    rw [exec_sluiceReqWrite_of_owner ho hown]
    exact ⟨fun h => congrArg _ (State.slcCtl_of_ignored hu h),
      fun hn hv hnew => congrArg _ (State.slcCtl_of_request hu hn hv hnew)⟩
  case power =>
    intro s v u ho hown hu
    have hctl := State.bar0Write_pwrCtl_of_owner ho hown hu
    exact List.forall_mem_cons.2 ⟨congrArg _ hctl, List.forall_mem_singleton.2 (congrArg _ hctl)⟩
  case dropped =>
    intro s f be v i n p hp
    rw [exec_ctlRow_eq_bar0Write s f be v i n p hp]
    exact ⟨fun kind err ho hj => congrArg _ (State.bar0Write_of_dropped ho hj),
      fun hshut => congrArg _ (State.bar0Write_of_shut hshut)⟩

end Sys2Proof.Machine
end

section
/-! SUPPORT. What the judgement of a received frame leaves, one equation for each case, and what a row does with a frame that is not
accepted (11 R273, R274). They settle O37. -/
namespace Sys2Proof.Machine

variable {s u : State} {f : RxFrame}

/-! ### The judgement (11 R273) -/

/-- Each invalid block counts on its lane, whatever becomes of the frame. -/
def State.badCounted (i : Nat) (f : RxFrame) (s : State) : State :=
  f.bad.foldl (fun (u : State) l => u.laneBad (s.linkAt i).group l 1) s

/-- A frame whose blocks are valid, of a kind there is, of its own length and with its own CRC. -/
def RxFrame.intact (f : RxFrame) : Bool :=
  f.bad.isEmpty && frameKind f.start ≤ 3 && f.data.length = frameLen f.start && f.crc = frameCrc f.start f.data

/-- How far a frame's number lies ahead of the last one accepted. -/
def LinkRec.ahead (x : LinkRec) (f : RxFrame) : Nat := (frameSeq f.start - x.rxSeq).toNat

theorem State.acceptFrame_eq (s : State) (i : Nat) (f : RxFrame) : s.acceptFrame i f =
    if !(s.linkAt i).isUp then (s.badCounted i f, false)
    else if f.intact && (s.linkAt i).ahead f = 1 then
      (if frameNak f.start then ((s.badCounted i f).modLink i fun x =>
          { (x.acked (frameAck f.start)) with rxSeq := frameSeq f.start }).resendAll i
        else (s.badCounted i f).modLink i fun x => { (x.acked (frameAck f.start)) with rxSeq := frameSeq f.start }, true)
    else if f.intact && ((s.linkAt i).ahead f = 0 || 2048 ≤ (s.linkAt i).ahead f) then (s.badCounted i f, false)
    else ((s.badCounted i f).modLink i fun x => { x with crcCnt := satInc x.crcCnt, nak := true }, false) := rfl

theorem RxFrame.intact_iff : f.intact = true ↔
    f.bad = [] ∧ frameKind f.start ≤ 3 ∧ f.data.length = frameLen f.start ∧ f.crc = frameCrc f.start f.data := by
  simp [RxFrame.intact, and_assoc]

theorem RxFrame.not_intact_iff : f.intact = false ↔
    f.bad ≠ [] ∨ 3 < frameKind f.start ∨ f.data.length ≠ frameLen f.start ∨ f.crc ≠ frameCrc f.start f.data := by
  rw [← Bool.not_eq_true, RxFrame.intact_iff]
  simp only [not_and_or, not_le, ne_eq]

theorem State.badCounted_of_intact {i : Nat} (hf : f.intact = true) : s.badCounted i f = s := by
  rw [State.badCounted, (RxFrame.intact_iff.1 hf).1, List.foldl_nil]

section Judged
variable {i : Nat}

theorem State.acceptFrame_of_notUp (hup : (s.linkAt i).isUp = false) : s.acceptFrame i f = (s.badCounted i f, false) := by
  simp [State.acceptFrame_eq, hup]

variable (hup : (s.linkAt i).isUp = true)
include hup

theorem State.acceptFrame_of_next (hf : f.intact = true) (hd : (s.linkAt i).ahead f = 1)
    (hu : u = s.modLink i fun x => { (x.acked (frameAck f.start)) with rxSeq := frameSeq f.start }) :
    s.acceptFrame i f = (if frameNak f.start then u.resendAll i else u, true) := by
  simp [State.acceptFrame_eq, State.badCounted_of_intact hf, hup, hf, hd, hu]

theorem State.acceptFrame_of_repeated (hf : f.intact = true) (hd : (s.linkAt i).ahead f = 0 ∨ 2048 ≤ (s.linkAt i).ahead f) :
    s.acceptFrame i f = (s, false) := by
  have hnext : (s.linkAt i).ahead f ≠ 1 := by omega
  simp [State.acceptFrame_eq, State.badCounted_of_intact hf, hup, hf, hd, hnext]

theorem State.acceptFrame_of_gap (hf : f.intact = true) (hmin : 1 < (s.linkAt i).ahead f) (hmax : (s.linkAt i).ahead f < 2048) :
    s.acceptFrame i f = (s.modLink i fun x => { x with crcCnt := satInc x.crcCnt, nak := true }, false) := by
  have hnew : (s.linkAt i).ahead f ≠ 0 := by omega
  simp [State.acceptFrame_eq, State.badCounted_of_intact hf, hup, hmin.ne', hmax.not_ge, hnew]

theorem State.acceptFrame_of_damaged (hf : f.intact = false) :
    s.acceptFrame i f = ((s.badCounted i f).modLink i fun x => { x with crcCnt := satInc x.crcCnt, nak := true }, false) := by
  simp [State.acceptFrame_eq, hup, hf]

end Judged

/-! ### The rows of frames that are not accepted (11 R273, 13 R330) -/

theorem State.mgmtTake_of_notAccepted {i : Nat} (hno : s.acceptFrame i f = (u, false)) : s.mgmtTake i f = (u, none) := by
  simp [State.mgmtTake, hno]

section Mgmt
variable {i : Fin 16} (hm : s.mgmtTake i f = (u, none))
include hm

/-- With no message whole, the five rows of messages do nothing more. -/
theorem exec_startReceive_of_noMessage : exec (.startReceive i f) s = .next u := by
  change execStartReceive i f s = _
  simp only [execStartReceive, hm]

theorem exec_startAckReceive_of_noMessage : exec (.startAckReceive i f) s = .next u := by
  change execStartAckReceive i f s = _
  simp only [execStartAckReceive, hm]

theorem exec_mgmtCommand_of_noMessage : exec (.mgmtCommand i f) s = .next u := by
  change execMgmtCommand i f s = _
  simp only [execMgmtCommand, hm]

theorem exec_mgmtReply_of_noMessage : exec (.mgmtReply i f) s = .next u := by
  change execMgmtReply i f s = _
  simp only [execMgmtReply, hm]

theorem exec_mgmtRecord_of_noMessage : exec (.mgmtRecord i f) s = .next u := by
  change execMgmtRecord i f s = _
  simp only [execMgmtRecord, hm]

end Mgmt

section Rows
variable {i : Fin 16} (hno : s.acceptFrame i f = (u, false))
include hno

theorem exec_slotFrameReceive_of_notAccepted : exec (.slotFrameReceive i f) s = .next u := by
  change execSlotFrameReceive i f s = _
  simp only [execSlotFrameReceive, hno, Bool.not_false, true_or, if_true]

theorem exec_ctrlFrameReceive_of_notAccepted : exec (.ctrlFrameReceive i f) s = .next u := by
  change execCtrlFrameReceive i f s = _
  simp only [execCtrlFrameReceive, hno, Bool.not_false, true_or, if_true]

theorem exec_txnFrameReceive_of_notAccepted : exec (.txnFrameReceive i f) s = .next u := by
  change execTxnFrameReceive i f s = _
  simp only [execTxnFrameReceive, hno, Bool.not_false, true_or, if_true]

theorem exec_goReceive_of_notAccepted : exec (.goReceive i f) s = .next u := by
  change execGoReceive i f s = _
  simp only [execGoReceive, hno, Bool.false_eq_true, false_and, if_false]

end Rows

/-! ### The obligation -/

/-- Settles O37: the judgement's equation for each case, and a frame not accepted that leaves each row what it left. -/
theorem aFrameIsAcceptedOnceAndInOrder : Obligations.AFrameIsAcceptedOnceAndInOrder := by
  unfold Obligations.AFrameIsAcceptedOnceAndInOrder
  refine ⟨?intact, ?other, ?rows⟩
  case intact =>
    rintro s u i f d hup hbad hkind hlen hcrc (rfl : d = (s.linkAt i).ahead f) hu
    have hf : f.intact = true := RxFrame.intact_iff.2 ⟨hbad, hkind, hlen, hcrc⟩
    exact ⟨fun hd => State.acceptFrame_of_next hup hf hd hu, State.acceptFrame_of_repeated hup hf,
      State.acceptFrame_of_gap hup hf⟩
  case other =>
    rintro s u i f (rfl : u = s.badCounted i f)
    exact ⟨State.acceptFrame_of_notUp, fun hup hbad => State.acceptFrame_of_damaged hup (RxFrame.not_intact_iff.2 hbad)⟩
  case rows =>
    intro s i f hno
    have hacc : s.acceptFrame i f = ((s.acceptFrame i f).1, false) := Prod.ext rfl hno
    have hm := State.mgmtTake_of_notAccepted hacc
    exact ⟨exec_slotFrameReceive_of_notAccepted hacc, exec_ctrlFrameReceive_of_notAccepted hacc,
      exec_txnFrameReceive_of_notAccepted hacc, exec_startReceive_of_noMessage hm, exec_startAckReceive_of_noMessage hm,
      exec_goReceive_of_notAccepted hacc, exec_mgmtCommand_of_noMessage hm, exec_mgmtReply_of_noMessage hm,
      exec_mgmtRecord_of_noMessage hm⟩

end Sys2Proof.Machine
end

section
/-! SUPPORT. What the clock and lane commands do once the Lockkeeper takes them: each is the reply that its own checks answer with (14
R359, R361, 16 R396, R408). They settle O7. -/
namespace Sys2Proof.Machine

variable {s : State} {r : Req}

/-! ### Clocks (14 R359) -/

theorem exec_clkStatus_of_takes (h : s.takes r .anyone (r.length = 2)) :
    exec (.clkStatus r) s = .next (s.commit r 0x0500 .anyone stOk false
      [s.clkStatus &&& 3, w32 s.clk.lock.toNat, w32 s.clk.pulseNow]) := by
  change execClkStatus r s = _
  rw [execClkStatus, State.serveCmd_of_takes_of_ok h rfl]

/-- REF_SELECT replies OK whatever becomes of the write (log entry 134). -/
theorem exec_refSelect_of_takes (h : s.takes r .owner (r.length = 3)) (hmax : (r.p 0).toNat ≤ 2) :
    exec (.refSelect r) s = .next ((s.selectRef (bitsOf 2 (r.p 0))).commit r 0x0501 .owner stOk false []) := by
  change execRefSelect r s = _
  rw [execRefSelect, State.serveCmd_of_takes_of_ok h (if_neg hmax.not_gt)]

section Sluice
variable (hn : (r.p 0).toNat ≤ 10) (hst : (r.p 1).toNat ≤ 2) (hfree : (s.slcAt (r.p 0).toNat).waiter = none)
include hn hst hfree

/-- What SLUICE_SET's own checks let through. -/
theorem sluiceSet_checks : ¬(10 < (r.p 0).toNat ∨ 2 < (r.p 1).toNat) ∧ ¬(s.slcAt (r.p 0).toNat).waiter.isSome :=
  ⟨not_or.2 ⟨hn.not_gt, hst.not_gt⟩, by simp [hfree]⟩

theorem exec_sluiceSet_of_reached (h : s.takes r .owner (r.length = 4))
    (hclosing : ((s.slcRequest (r.p 0).toNat (bitsOf 2 (r.p 1))).slcAt (r.p 0).toNat).closing = false) :
    exec (.sluiceSet r) s = .next ((s.slcRequest (r.p 0).toNat (bitsOf 2 (r.p 1))).commit r 0x0502 .owner stOk false
      [w32 ((s.slcRequest (r.p 0).toNat (bitsOf 2 (r.p 1))).slcAt (r.p 0).toNat).st.toNat]) := by
  obtain ⟨hgood, hnone⟩ := sluiceSet_checks hn hst hfree
  change execSluiceSet r s = _
  rw [execSluiceSet, State.serveCmd_of_takes_of_ok h
    ((if_neg hgood).trans ((if_neg hnone).trans (if_neg (ne_true_of_eq_false hclosing))))]

theorem exec_sluiceSet_of_closing (h : s.takes r .owner (r.length = 4))
    (hclosing : ((s.slcRequest (r.p 0).toNat (bitsOf 2 (r.p 1))).slcAt (r.p 0).toNat).closing = true) :
    exec (.sluiceSet r) s = .next ((s.slcRequest (r.p 0).toNat (bitsOf 2 (r.p 1))).modSlc (r.p 0).toNat fun x =>
      { x with waiter := some r }) := by
  obtain ⟨hgood, hnone⟩ := sluiceSet_checks hn hst hfree
  change execSluiceSet r s = _
  rw [execSluiceSet, State.serveCmd_of_takes_of_wait h ((if_neg hgood).trans ((if_neg hnone).trans (if_pos hclosing)))]

end Sluice

/-! ### Lanes (14 R361) -/

theorem exec_linkStatus_of_takes (h : s.takes r .anyone (r.length = 3)) (hmax : (r.p 0).toNat ≤ 15) :
    exec (.linkStatus r) s = .next (s.commit r 0x0700 .anyone stOk false
      ([0x04, 0x08, 0x0C, 0x10, 0x14, 0x18, 0x1C, 0x20, 0x40].map fun (o : Nat) => s.linkReg (r.p 0).toNat o)) := by
  change execLinkStatus r s = _
  rw [execLinkStatus, State.serveCmd_of_takes_of_ok h (if_neg hmax.not_gt)]

theorem exec_laneGroup_of_takes (h : s.takes r .anyone (r.length = 3)) (hmax : (r.p 0).toNat ≤ 15) :
    exec (.laneGroup r) s = .next (s.commit r 0x0701 .anyone stOk false
      (((List.range 9).map fun l => s.groupReg (r.p 0).toNat (4 * l))
        ++ ((List.range 9).map fun l => s.groupReg (r.p 0).toNat (0x40 + 4 * l)) ++ [s.groupReg (r.p 0).toNat 0x80])) := by
  change execLaneGroup r s = _
  rw [execLaneGroup, State.serveCmd_of_takes_of_ok h (if_neg hmax.not_gt)]

theorem exec_linkSet_of_takes (h : s.takes r .owner (r.length = 4)) (hmax : (r.p 0).toNat ≤ 15) (honly : only (r.p 1) 2 = true) :
    exec (.linkSet r) s = .next ((s.lnkCtl (r.p 0).toNat ((r.p 1).getLsbD 0) ((r.p 1).getLsbD 1)).commit r 0x0702 .owner stOk
      false []) := by
  have hgood : ¬(15 < (r.p 0).toNat ∨ !only (r.p 1) 2) := by simp [hmax.not_gt, honly]
  change execLinkSet r s = _
  rw [execLinkSet, State.serveCmd_of_takes_of_ok h (if_neg hgood)]

theorem exec_arrayStatus_of_takes (h : s.takes r .anyone (r.length = 2)) :
    exec (.arrayStatus r) s = .next (s.commit r 0x0703 .anyone stOk false [s.lnkId, s.arrayWord]) := by
  change execArrayStatus r s = _
  rw [execArrayStatus, State.serveCmd_of_takes_of_ok h rfl]

/-! ### The obligation -/

/-- Settles O7: each clause is the equation of its command for a request that is taken with its parameters in range. -/
theorem clockAndLaneCommandsAnswer : Obligations.ClockAndLaneCommandsAnswer := by
  unfold Obligations.ClockAndLaneCommandsAnswer
  exact ⟨fun s r => exec_clkStatus_of_takes, fun s r => exec_refSelect_of_takes,
    fun s r h hn hst hfree => ⟨exec_sluiceSet_of_reached hn hst hfree h, exec_sluiceSet_of_closing hn hst hfree h⟩,
    fun s r => exec_linkStatus_of_takes, fun s r => exec_laneGroup_of_takes, fun s r => exec_linkSet_of_takes,
    fun s r => exec_arrayStatus_of_takes⟩

end Sys2Proof.Machine
end

section
/-! SUPPORT. What the events of lanes and links do, one equation for each case: failing lane directions and control blocks (11 R264, R268,
R276), IDLE columns (R267), the transmit PLLs of the groups (R262) and a link that comes up (R266, R269, R270, R278, R280). They settle
O35. -/
namespace Sys2Proof.Machine

variable {s u v : State} {g : Fin 16}

/-! ### Failing lane directions (11 R268) -/

/-- One lane direction alone is judged at once. -/
theorem exec_laneDirectionFailing_one (g : Fin 16) (tx : Bool) (o : LaneObs) :
    exec (.laneDirectionFailing g tx [o]) s = .next (s.laneJudge g tx o) := rfl

theorem State.laneJudge_receive (o : LaneObs) : s.laneJudge g false o = s.laneHear g o := rfl

theorem State.laneJudge_of_driver {o : LaneObs} (hdriver : o.driver = true) :
    s.laneJudge g true o = s.laneFail g o.lane true := if_pos hdriver

theorem State.laneJudge_of_noDriver {o : LaneObs} (hdriver : o.driver = false) : s.laneJudge g true o = s :=
  if_neg (ne_true_of_eq_false hdriver)

/-! ### Control blocks (11 R264, R268, R270, R276) -/

section Align
variable {l : Fin 9} {payload : BitVec 64}

/-- IDLE, and the blocks of a frame, are told of elsewhere. -/
theorem exec_alignBlockReceive_of_frame
    (htype : startField payload 0 8 = 0x1E ∨ startField payload 0 8 = 0x78 ∨ startField payload 0 8 = 0x87) :
    exec (.alignBlockReceive g l payload) s = .next s := by
  change execAlignBlockReceive g l payload s = _
  rw [execAlignBlockReceive]
  exact congrArg _ (if_pos htype)

theorem exec_alignBlockReceive_of_invalid (hidle : startField payload 0 8 ≠ 0x1E) (hstart : startField payload 0 8 ≠ 0x78)
    (hend : startField payload 0 8 ≠ 0x87) (halign : startField payload 0 8 ≠ 0x4B) :
    exec (.alignBlockReceive g l payload) s = .next (s.laneBad g l 1) := by
  change execAlignBlockReceive g l payload s = _
  rw [execAlignBlockReceive]
  exact congrArg _ ((if_neg (not_or.2 ⟨hidle, not_or.2 ⟨hstart, hend⟩⟩)).trans (if_pos halign))

variable (halign : startField payload 0 8 = 0x4B) (hu : u = s.modGroup g fun x =>
  { x with lock := x.lock ||| (1#9 <<< l.val), align := tset x.align none l (some payload) })
include halign hu

/-- An ALIGN block names the copy that the spare carries, or the partner of its lane's link. -/
theorem exec_alignBlockReceive_of_align : exec (.alignBlockReceive g l payload) s = .next (if l.val = 8 then
      (if payload.getLsbD 15 = true ∧ (u.groupAt g).rx.spare = .shadowing ∧ !(u.groupAt g).rx.taken ∧
          (u.groupAt g).rx.lane = startField payload 12 3 then
        (u.modHalf g false fun h => { h with taken := true }).laneShadowed g (u.groupAt g).rx.lane false else u)
    else match u.linkOfLane g l with
      | some i => u.modLink i fun x => { x with partnerDev := BitVec.ofNat 5 (startField payload 16 5),
                                                partnerLink := BitVec.ofNat 4 (startField payload 21 4) }
      | none => u) := by
  have hkind : ¬(startField payload 0 8 = 0x1E ∨ startField payload 0 8 = 0x78 ∨ startField payload 0 8 = 0x87) := by
    rw [halign]
    decide
  subst hu
  change execAlignBlockReceive g l payload s = _
  rw [execAlignBlockReceive]
  exact congrArg _ ((if_neg hkind).trans (if_neg (not_not.2 halign)))

theorem exec_alignBlockReceive_of_spare (hl : l.val = 8) : exec (.alignBlockReceive g l payload) s = .next
    (if payload.getLsbD 15 = true ∧ (u.groupAt g).rx.spare = .shadowing ∧ (u.groupAt g).rx.taken = false ∧
        (u.groupAt g).rx.lane = startField payload 12 3 then
      (u.modHalf g false fun h => { h with taken := true }).laneShadowed g (u.groupAt g).rx.lane false else u) := by
  rw [exec_alignBlockReceive_of_align halign hu, if_pos hl]
  simp only [Bool.not_eq_true']

theorem exec_alignBlockReceive_of_data (hl : l.val ≠ 8) : exec (.alignBlockReceive g l payload) s = .next
    (match u.linkOfLane g l with
      | some i => u.modLink i fun x => { x with partnerDev := BitVec.ofNat 5 (startField payload 16 5),
                                                partnerLink := BitVec.ofNat 4 (startField payload 21 4) }
      | none => u) := by
  rw [exec_alignBlockReceive_of_align halign hu, if_neg hl]

end Align

/-! ### IDLE columns (11 R267) -/

section Idle
variable {i : Fin 16} {fill : Nat}

theorem exec_idleColumnAdjust_of_adjusts (hup : (s.linkAt i).isUp = true) (hples : (s.linkAt i).plesio = true)
    (hfill : 12 < fill ∨ fill < 4) :
    exec (.idleColumnAdjust i fill) s = .next (s.modLink i fun x => { x with fillCnt := satInc x.fillCnt }) := by
  change execIdleColumnAdjust i fill s = _
  rw [execIdleColumnAdjust]
  exact congrArg _ (if_pos ⟨hup, hples, hfill⟩)

theorem exec_idleColumnAdjust_of_stands
    (h : (s.linkAt i).isUp = false ∨ (s.linkAt i).plesio = false ∨ (4 ≤ fill ∧ fill ≤ 12)) :
    exec (.idleColumnAdjust i fill) s = .next s := by
  have hstands : ¬((s.linkAt i).isUp ∧ (s.linkAt i).plesio ∧ (12 < fill ∨ fill < 4)) := by
    rintro ⟨hup, hples, hfill⟩
    obtain h | h | h := h
    · exact ne_true_of_eq_false h hup
    · exact ne_true_of_eq_false h hples
    · omega
  change execIdleColumnAdjust i fill s = _
  rw [execIdleColumnAdjust]
  exact congrArg _ (if_neg hstands)

end Idle

/-! ### PLLs of the groups (11 R262) -/

theorem exec_lanePllUnlock_of_none (hpll : (s.groupAt g).pll = 3) : exec (.lanePllUnlock g) s = .next s := by
  change execLanePllUnlock g s = _
  rw [execLanePllUnlock]
  exact congrArg _ (if_pos hpll)

theorem exec_lanePllUnlock_of_runs {n : Nat} (hn : n = (s.groupAt g).pllNo g) (hpll : (s.groupAt g).pll ≠ 3) :
    exec (.lanePllUnlock g) s = .next ((((s.modClk fun c =>
      { c with lock := c.lock &&& ~~~(1#25 <<< n) }).log 0x0C05 true false (w32 n) 0 0).clkEvt 4).groupUnlock g) := by
  subst hn
  change execLanePllUnlock g s = _
  rw [execLanePllUnlock]
  exact congrArg _ (if_neg hpll)

theorem exec_standbyPllTakeover_of_free {k : Nat} (hfree : s.freeStandbys.head? = some k) (hsought : (s.groupAt g).sought = true) :
    exec (.standbyPllTakeover g) s = .next ((s.modGroup g fun x =>
      { x with pll := BitVec.ofNat 2 (1 + k), sought := false }).log 0x0A06 false false (w32 g) 0 0) := by
  change execStandbyPllTakeover g s = _
  rw [execStandbyPllTakeover, hfree]
  exact congrArg _ (if_pos hsought)

theorem exec_standbyPllTakeover_of_stands (h : s.freeStandbys = [] ∨ (s.groupAt g).sought = false) :
    exec (.standbyPllTakeover g) s = .next s := by
  change execStandbyPllTakeover g s = _
  rw [execStandbyPllTakeover]
  obtain h | h := h
  · rw [h, List.head?_nil]
  · simp only [h, Bool.false_eq_true, if_false]
    cases s.freeStandbys.head? <;> rfl

/-! ### A link that comes up (11 R266, R269, R270, R278, R280) -/

section LinkUp
variable {i : Fin 16} {o : LinkObs}

/-- The link is enabled and valid, trains, and its group runs from a PLL. -/
def State.mayRise (s : State) (i : Nat) : Bool :=
  (s.linkAt i).en && (s.linkAt i).valid && ((s.linkAt i).st = .training || (s.linkAt i).st = .down) &&
    s.domRun (20 + (s.linkAt i).group) && (s.groupAt (s.linkAt i).group).pll ≠ 3

theorem State.mayRise_iff {i : Nat} : s.mayRise i = true ↔ (s.linkAt i).en = true ∧ (s.linkAt i).valid = true ∧
    ((s.linkAt i).st = .training ∨ (s.linkAt i).st = .down) ∧ s.domRun (20 + (s.linkAt i).group) = true ∧
      (s.groupAt (s.linkAt i).group).pll ≠ 3 := by
  simp [State.mayRise, and_assoc]

theorem State.not_mayRise_iff {i : Nat} : s.mayRise i = false ↔ (s.linkAt i).en = false ∨ (s.linkAt i).valid = false ∨
    ((s.linkAt i).st ≠ .training ∧ (s.linkAt i).st ≠ .down) ∨ s.domRun (20 + (s.linkAt i).group) = false ∨
      (s.groupAt (s.linkAt i).group).pll = 3 := by
  rw [← Bool.not_eq_true, State.mayRise_iff]
  simp only [not_and_or, not_or, Bool.not_eq_true, ne_eq, not_not]

/-- A link that is up: what it may have to send begins anew, with the report of its SLOT_OUT. -/
def State.risen (i : Nat) (o : LinkObs) (s : State) : State :=
  (s.modLink i fun x =>
    { x with st := .up, active := true, nbSlotOut := o.slotOut, resend := x.replay.length, tries := 0, ctrlDue := true,
             mgmtQ := x.mgmtQ ++ [.slotOut (BitVec.ofNat 16 x.slotOutBits)] }).linkEvt i 5

/-- A joined device logs a neighbour of another start identity. -/
def State.identJudged (i : Nat) (o : LinkObs) (s : State) : State :=
  match o.ident with
  | some d => if s.lnk.array = .joined ∧ d ≠ s.lnk.ident then
      (s.log 0x0A0A true false (w32 i) (w32 s.lnk.startDev.toNat) 0).linkEvt i 9 else s
  | none => s

theorem State.identJudged_of_other {i : Nat} {d : W32} (hjoined : s.lnk.array = .joined) (hd : o.ident = some d)
    (hother : d ≠ s.lnk.ident) :
    s.identJudged i o = (s.log 0x0A0A true false (w32 i) (w32 s.lnk.startDev.toNat) 0).linkEvt i 9 := by
  rw [State.identJudged, hd]
  exact if_pos ⟨hjoined, hother⟩

theorem State.identJudged_of_same {i : Nat} (h : s.lnk.array ≠ .joined ∨ o.ident = none ∨ o.ident = some s.lnk.ident) :
    s.identJudged i o = s := by
  rw [State.identJudged]
  obtain h | h | h := h
  · cases o.ident with
    | none => rfl
    | some d => exact if_neg fun hc => h hc.1
  · rw [h]
  · rw [h]
    exact if_neg fun hc => hc.2 rfl

theorem exec_linkUp_of_stands (hmay : s.mayRise i = false) : exec (.linkUp i o) s = .next s := by
  have hnot : !s.mayRise i := by simp [hmay]
  change execLinkUp i o s = _
  rw [execLinkUp]
  exact congrArg _ (if_pos hnot)

variable (hmay : s.mayRise i = true) (hu : u = s.setLanes (s.linkAt i).group o.eyes)
include hmay hu

/-- The checks of training, in their order. -/
theorem exec_linkUp_of_mayRise (hv : v = u.modLink i fun x => { x with skew := BitVec.ofNat 6 (min o.skew 63) }) :
    exec (.linkUp i o) s = .next (
      if (s.linkAt i).tolerance < o.ppm then u.linkEvt i 8
      else if !u.aligned i then u
      else if 32 < o.skew then v.linkEvt i 6
      else if !v.partnerOk i then v.linkEvt i 7
      else (v.risen i o).identJudged i o) := by
  have hnot : ¬!s.mayRise i := by simp [hmay]
  subst hv hu
  change execLinkUp i o s = _
  rw [execLinkUp]
  exact congrArg _ (if_neg hnot)

theorem exec_linkUp_of_tolerance (hppm : (s.linkAt i).tolerance < o.ppm) : exec (.linkUp i o) s = .next (u.linkEvt i 8) := by
  rw [exec_linkUp_of_mayRise hmay hu rfl, if_pos hppm]

variable (hppm : o.ppm ≤ (s.linkAt i).tolerance)
include hppm

theorem exec_linkUp_of_notAligned (hal : u.aligned i = false) : exec (.linkUp i o) s = .next u := by
  rw [exec_linkUp_of_mayRise hmay hu rfl, if_neg hppm.not_gt, hal]
  rfl

variable (hal : u.aligned i = true) (hv : v = u.modLink i fun x => { x with skew := BitVec.ofNat 6 (min o.skew 63) })
include hal hv

/-- The checks that follow the alignment. -/
theorem exec_linkUp_of_aligned : exec (.linkUp i o) s = .next (
    if 32 < o.skew then v.linkEvt i 6 else if !v.partnerOk i then v.linkEvt i 7 else (v.risen i o).identJudged i o) := by
  rw [exec_linkUp_of_mayRise hmay hu hv, if_neg hppm.not_gt, hal]
  rfl

theorem exec_linkUp_of_skew (hskew : 32 < o.skew) : exec (.linkUp i o) s = .next (v.linkEvt i 6) := by
  rw [exec_linkUp_of_aligned hmay hu hppm hal hv, if_pos hskew]

theorem exec_linkUp_of_wrongPartner (hskew : o.skew ≤ 32) (hp : v.partnerOk i = false) :
    exec (.linkUp i o) s = .next (v.linkEvt i 7) := by
  rw [exec_linkUp_of_aligned hmay hu hppm hal hv, if_neg hskew.not_gt, hp]
  rfl

theorem exec_linkUp_of_rises (hskew : o.skew ≤ 32) (hp : v.partnerOk i = true) :
    exec (.linkUp i o) s = .next ((v.risen i o).identJudged i o) := by
  rw [exec_linkUp_of_aligned hmay hu hppm hal hv, if_neg hskew.not_gt, hp]
  rfl

end LinkUp

/-! ### The obligation -/

/-- Settles O35: each clause is the equation of its event for that case. -/
theorem laneEventsAct : Obligations.LaneEventsAct := by
  unfold Obligations.LaneEventsAct
  refine ⟨fun s g tx os => rfl, fun s g o => ⟨fun hdriver => congrArg _ (State.laneJudge_of_driver hdriver),
      fun hdriver => congrArg _ (State.laneJudge_of_noDriver hdriver), exec_laneDirectionFailing_one g false o⟩,
    fun s i => ⟨rfl, rfl⟩, fun s u g l payload => ⟨exec_alignBlockReceive_of_frame, exec_alignBlockReceive_of_invalid,
      fun halign hu => ⟨exec_alignBlockReceive_of_spare halign hu, exec_alignBlockReceive_of_data halign hu⟩⟩,
    fun s i fill => ⟨exec_idleColumnAdjust_of_adjusts, exec_idleColumnAdjust_of_stands⟩,
    fun s g n hn => ⟨exec_lanePllUnlock_of_none, exec_lanePllUnlock_of_runs hn⟩,
    fun s g => ⟨fun k => exec_standbyPllTakeover_of_free, exec_standbyPllTakeover_of_stands⟩, ?rises,
    fun s i o h => exec_linkUp_of_stands (State.not_mayRise_iff.2 h)⟩
  case rises =>
    intro s u v i o hen hvalid hst hrun hpll hu hv
    have hmay : s.mayRise i = true := State.mayRise_iff.2 ⟨hen, hvalid, hst, hrun, hpll⟩
    refine ⟨exec_linkUp_of_tolerance hmay hu, exec_linkUp_of_notAligned hmay hu, fun hppm hal =>
      ⟨exec_linkUp_of_skew hmay hu hppm hal hv, exec_linkUp_of_wrongPartner hmay hu hppm hal hv, ?up⟩⟩
    case up =>
      rintro hskew hp w (rfl : w = v.risen i o)
      rw [exec_linkUp_of_rises hmay hu hppm hal hv hskew hp]
      exact ⟨fun hjoined d hd hother => congrArg _ (State.identJudged_of_other hjoined hd hother),
        fun h => congrArg _ (State.identJudged_of_same h)⟩

end Sys2Proof.Machine
end

section
/-! SUPPORT. What a frame boundary of a link sends, one equation for each case: the fill that goes before, then the next frame in its
order (11 R265, R267, R272, R274, R275). They settle O36. -/
namespace Sys2Proof.Machine

variable {s u v : State} {i : Nat} {o : SendObs}

/-! ### The fill (11 R265, R267) -/

theorem State.sendFill_of_still (h : (s.linkAt i).valid = false ∨ s.domRun (20 + (s.linkAt i).group) = false) :
    s.sendFill i o = s := by
  have hstill : !(s.linkAt i).valid ∨ !s.domRun (20 + (s.linkAt i).group) := by simpa using h
  rw [State.sendFill, if_pos hstill]

/-- ALIGN blocks go first, then in plesiochronous mode the IDLE column. -/
theorem State.sendFill_of_runs (hvalid : (s.linkAt i).valid = true) (hrun : s.domRun (20 + (s.linkAt i).group) = true)
    (hv : v = if o.align then s.sendAlign i else s) :
    s.sendFill i o = if o.idle = true ∧ (v.linkAt i).plesio = true then v.emit (.linkIdle i) else v := by
  have hruns : ¬(!(s.linkAt i).valid ∨ !s.domRun (20 + (s.linkAt i).group)) := by simp [hvalid, hrun]
  rw [State.sendFill, if_neg hruns, ← hv]

/-! ### The next frame (11 R274, R275) -/

theorem State.sendNext_of_notUp (hup : (u.linkAt i).isUp = false) : u.sendNext i = u := by
  rw [State.sendNext, hup]
  rfl

section Up
variable (hup : (u.linkAt i).isUp = true)
include hup

theorem State.sendNext_of_replay (hre : 0 < (u.linkAt i).resend) : u.sendNext i = u.sendReplay i := by
  rw [State.sendNext, hup]
  exact if_pos hre

variable (hre : (u.linkAt i).resend = 0)
include hre

/-- The replay buffer is full. -/
theorem State.sendNext_of_full (hfull : 256 ≤ (u.linkAt i).replay.length) : u.sendNext i = u := by
  rw [State.sendNext, hup, hre]
  exact if_pos hfull

variable (hroom : (u.linkAt i).replay.length < 256)
include hroom

theorem State.sendNext_of_ctrl (hctrl : u.ctrlPending i = true) : u.sendNext i = u.sendCtrl i := by
  rw [State.sendNext, hup, hre]
  exact (if_neg hroom.not_ge).trans (if_pos hctrl)

variable (hctrl : u.ctrlPending i = false)
include hctrl

theorem State.sendNext_of_slot {x : SlotVal} {l : List SlotVal} (hslot : (u.linkAt i).slotQ = x :: l) :
    u.sendNext i = (u.modLink i fun x => { x with slotQ := l }).sendFrame i kindSlot
      (packSlot (slotBits u.fab.turnLen (u.linkAt i).slotOutBits x.strand).length x.bits)
      (2 ^ 42 * (x.turn % 2 ^ 16) + 2 ^ 58 * x.strand) none := by
  rw [State.sendNext, hup, hre, hctrl, hslot]
  exact if_neg hroom.not_ge

variable (hslot : (u.linkAt i).slotQ = [])
include hslot

/-- A message longer than a frame goes on in the next. -/
theorem State.sendNext_of_words {ws : List W32} {l : List Mgmt} (hmgmt : (u.linkAt i).mgmtQ = .words ws :: l) :
    u.sendNext i = (u.modLink i fun x =>
      { x with mgmtQ := if 64 < ws.length then .words (ws.drop 64) :: l else l }).sendFrame i kindMgmt
        (packWords (ws.take 64)) 0 none := by
  rw [State.sendNext, hup, hre, hctrl, hslot, hmgmt]
  exact if_neg hroom.not_ge

/-- GO and SLOT_OUT are messages of their own, with a zero data block (log entries 39, 157). -/
theorem State.sendNext_of_bare {m : Mgmt} {l : List Mgmt} (hmgmt : (u.linkAt i).mgmtQ = m :: l)
    (hm : m = .go ∨ ∃ b, m = .slotOut b) :
    u.sendNext i = (u.modLink i fun x => { x with mgmtQ := l }).sendFrame i kindMgmt [0] 0 (some m) := by
  rw [State.sendNext, hup, hre, hctrl, hslot, hmgmt]
  obtain rfl | ⟨b, rfl⟩ := hm <;> exact if_neg hroom.not_ge

variable (hmgmt : (u.linkAt i).mgmtQ = [])
include hmgmt

/-- A transaction waits for the credit of all its units, and a CTRL frame goes in its place. -/
theorem State.sendNext_of_txn {p : TxnPkt} {l : List TxnPkt} (htxn : (u.linkAt i).txnQ = p :: l) :
    u.sendNext i = if 0 < p.sent ∨ p.pkt.units.length ≤ (u.linkAt i).credit then u.sendTxn i p else u.sendCtrl i := by
  rw [State.sendNext, hup, hre, hctrl, hslot, hmgmt, htxn]
  exact if_neg hroom.not_ge

theorem State.sendNext_of_idle (htxn : (u.linkAt i).txnQ = []) : u.sendNext i = u.sendCtrl i := by
  rw [State.sendNext, hup, hre, hctrl, hslot, hmgmt, htxn]
  exact if_neg hroom.not_ge

end Up

/-! ### The obligation -/

/-- FRAME_SEND is the fill, then the next frame. -/
theorem exec_frameSend_eq (i : Fin 16) (hu : u = s.sendFill i o) : exec (.frameSend i o) s = .next (u.sendNext i) := by
  subst hu
  rfl

/-- Settles O36: the equation of the fill, and that of the next frame for each case. -/
theorem framesAreSentInOrder : Obligations.FramesAreSentInOrder := by
  unfold Obligations.FramesAreSentInOrder
  intro s u i o hu
  rw [exec_frameSend_eq i hu]
  refine ⟨fun h => hu.trans (State.sendFill_of_still h), fun hvalid hrun v hv => hu.trans (State.sendFill_of_runs hvalid hrun hv),
    fun hup => congrArg _ (State.sendNext_of_notUp hup), fun hup => ⟨fun hre => congrArg _ (State.sendNext_of_replay hup hre),
      fun hre hfull => congrArg _ (State.sendNext_of_full hup hre hfull), ?next⟩⟩
  case next =>
    intro hre hroom
    exact ⟨fun hctrl => congrArg _ (State.sendNext_of_ctrl hup hre hroom hctrl),
      fun v l hctrl hslot => congrArg _ (State.sendNext_of_slot hup hre hroom hctrl hslot),
      fun ws l hctrl hslot hmgmt => congrArg _ (State.sendNext_of_words hup hre hroom hctrl hslot hmgmt),
      fun m l hctrl hslot hmgmt hm => congrArg _ (State.sendNext_of_bare hup hre hroom hctrl hslot hmgmt hm),
      fun p l hctrl hslot hmgmt htxn => congrArg _ (State.sendNext_of_txn hup hre hroom hctrl hslot hmgmt htxn),
      fun hctrl hslot hmgmt htxn => congrArg _ (State.sendNext_of_idle hup hre hroom hctrl hslot hmgmt htxn)⟩

end Sys2Proof.Machine
end

section
/-! SUPPORT. What the rows of accepted frames do, one equation for each case: control slots, CTRL and TXN frames (11 R272, R273, R276,
R284, R286, R287), the messages of the array start and of the array link (11 R279, R280, 13 R330, 14 R352), and the events that wait for
them. They settle O38. -/
namespace Sys2Proof.Machine

variable {s u v w : State} {i : Fin 16} {f : RxFrame}

/-! ### Frames of links (11 R273) -/

/-- The row of an accepted frame of its kind goes on. -/
theorem not_otherKind_of_kind {k : Nat} (hkind : frameKind f.start = k) : ¬((!true) = true ∨ frameKind f.start ≠ k) := by
  simp [hkind]

section Accepted
variable (hacc : s.acceptFrame i f = (u, true))
include hacc

/-- A frame of a kind that its row does not receive changes nothing more. -/
theorem exec_slotFrameReceive_of_otherKind (hkind : frameKind f.start ≠ kindSlot) : exec (.slotFrameReceive i f) s = .next u := by
  change execSlotFrameReceive i f s = _
  rw [execSlotFrameReceive, hacc]
  exact congrArg Host.Outcome.next (if_pos (.inr hkind))

theorem exec_ctrlFrameReceive_of_otherKind (hkind : frameKind f.start ≠ kindCtrl) : exec (.ctrlFrameReceive i f) s = .next u := by
  change execCtrlFrameReceive i f s = _
  rw [execCtrlFrameReceive, hacc]
  exact congrArg Host.Outcome.next (if_pos (.inr hkind))

theorem exec_txnFrameReceive_of_otherKind (hkind : frameKind f.start ≠ kindTxn) : exec (.txnFrameReceive i f) s = .next u := by
  change execTxnFrameReceive i f s = _
  rw [execTxnFrameReceive, hacc]
  exact congrArg Host.Outcome.next (if_pos (.inr hkind))

/-! ### Control slots (11 R283, R284) -/

section Slot
variable (hkind : frameKind f.start = kindSlot)
include hkind

/-- A SLOT frame in sequence is stored, and with the last that a pulse needs the wait for slots ends. -/
theorem exec_slotFrameReceive_of_inSequence (hturn : startField f.start 42 16 = (u.linkAt i).slotTurn % 2 ^ 16)
    (hstrand : startField f.start 58 3 = (u.linkAt i).slotStrand) {t : State}
    (ht : t = u.modLink i fun x =>
      { x with slotIn := x.slotIn ++ [{ turn := x.slotTurn, strand := x.slotStrand, bits := blocksNat f.data % 2 ^
                 (slotBits u.fab.turnLen (u.linkAt i).slotInBits (u.linkAt i).slotStrand).length }],
               slotTurn := (u.nextSlot i).1, slotStrand := (u.nextSlot i).2 }) :
    exec (.slotFrameReceive i f) s = .next (if t.slotsReady then t.modWin fun w => { w with slotWait := false } else t) := by
  subst ht
  change execSlotFrameReceive i f s = _
  rw [execSlotFrameReceive, hacc]
  exact congrArg Host.Outcome.next ((if_neg (not_otherKind_of_kind hkind)).trans (if_pos ⟨hturn, hstrand⟩))

/-- One out of sequence is logged and not stored (log entry 42). -/
theorem exec_slotFrameReceive_of_outOfSequence (h : startField f.start 42 16 ≠ (u.linkAt i).slotTurn % 2 ^ 16 ∨
      startField f.start 58 3 ≠ (u.linkAt i).slotStrand) :
    exec (.slotFrameReceive i f) s = .next (((u.log 0x0A08 true true (w32 i) (w32 (u.linkAt i).slotTurn) 0).linkEvt i
      10).modLnk fun l => { l with seqDue := true }) := by
  change execSlotFrameReceive i f s = _
  rw [execSlotFrameReceive, hacc]
  exact congrArg Host.Outcome.next ((if_neg (not_otherKind_of_kind hkind)).trans (if_neg (not_and_or.2 h)))

end Slot

/-! ### CTRL frames (11 R276, R286, R288, R289) -/

section Ctrl
variable (hkind : frameKind f.start = kindCtrl)
include hkind

theorem exec_ctrlFrameReceive_of_short (hlen : f.data.length < 2) : exec (.ctrlFrameReceive i f) s = .next u := by
  change execCtrlFrameReceive i f s = _
  rw [execCtrlFrameReceive, hacc]
  refine congrArg Host.Outcome.next ((if_neg (not_otherKind_of_kind hkind)).trans ?_)
  match hdata : f.data with
  | [] => rfl
  | [_] => rfl
  | _ :: _ :: _ => simp [hdata] at hlen

/-- What is known of the neighbour is updated, then the request for a shadow and the entries are carried out. -/
theorem exec_ctrlFrameReceive_of_blocks {b0 b1 : BitVec 64} {es : List (BitVec 64)} (hdata : f.data = b0 :: b1 :: es)
    (hv : v = (u.modLink i fun x =>
      { x with nbTurn := BitVec.ofNat 32 (startField b0 0 32), nbSeen := true, nbWcnt := BitVec.ofNat 16 (startField b0 32 16),
               credit := min 4096 (x.credit + startField b1 0 16), drained := x.drained || b1.getLsbD 16 }).takeMcnt
        (BitVec.ofNat 16 (startField b0 48 16)))
    (hw : w = if b1.getLsbD 20 then v.laneFail (v.linkAt i).group (startField b1 17 3) true else v) :
    exec (.ctrlFrameReceive i f) s = .next ((es.take (startField b1 24 8)).foldl (fun s b => s.takeEntry b) w) := by
  subst hw hv
  change execCtrlFrameReceive i f s = _
  rw [execCtrlFrameReceive, hacc, hdata]
  exact congrArg Host.Outcome.next (if_neg (not_otherKind_of_kind hkind))

end Ctrl

/-! ### Transactions (11 R272, R287) -/

section Txn
variable (hkind : frameKind f.start = kindTxn) {us : List (BitVec 144)} {part : Nat} (hpart : part = startField f.start 42 2)
  (hus : us = if part = 0 ∨ part = 1 then unpackUnits f.data else (u.linkAt i).txnIn ++ unpackUnits f.data)
include hkind hpart hus

/-- The first and the middle parts of a packet wait for its last one, which brings the packet. -/
theorem exec_txnFrameReceive_of_part : exec (.txnFrameReceive i f) s = .next (
    if part = 1 ∨ part = 2 then u.modLink i fun x => { x with txnIn := us }
    else (u.modLink i fun x => { x with txnIn := [] }).txnArrive i (packetOf us) (startField f.start 44 2) (f.start.getLsbD 46)) := by
  subst hus hpart
  change execTxnFrameReceive i f s = _
  rw [execTxnFrameReceive, hacc]
  exact congrArg Host.Outcome.next (if_neg (not_otherKind_of_kind hkind))

theorem exec_txnFrameReceive_of_more (hmore : part = 1 ∨ part = 2) :
    exec (.txnFrameReceive i f) s = .next (u.modLink i fun x => { x with txnIn := us }) := by
  rw [exec_txnFrameReceive_of_part hacc hkind hpart hus, if_pos hmore]

theorem exec_txnFrameReceive_of_whole (hwhole : part = 0 ∨ part = 3) :
    exec (.txnFrameReceive i f) s = .next ((u.modLink i fun x => { x with txnIn := [] }).txnArrive i (packetOf us)
      (startField f.start 44 2) (f.start.getLsbD 46)) := by
  have hlast : ¬(part = 1 ∨ part = 2) := by omega
  rw [exec_txnFrameReceive_of_part hacc hkind hpart hus, if_neg hlast]

end Txn

/-! ### GO (11 R279) -/

/-- GO releases a device that joined, and goes on to its other neighbours. -/
theorem exec_goReceive_of_accepted : exec (.goReceive i f) s = .next (
    if frameKind f.start = kindMgmt ∧ u.lnk.array = .exchanging ∧ u.lnk.gone = false ∧ u.lnk.startLink.isSome = true then
      (u.flood .go (some i.val)).go else u) := by
  change execGoReceive i f s = _
  simp only [execGoReceive, hacc, true_and, Bool.not_eq_true']

end Accepted

/-! ### START (11 R278 to R280) -/

section Message
variable {ws : List W32} (hm : s.mgmtTake i f = (u, some ws))
include hm

/-- A message of another type, or a START already taken, changes nothing more. -/
theorem exec_startReceive_of_other (h : mgmtType ws ≠ 1 ∨ (ws.getD 2 0 = u.lnk.ident ∧ u.lnk.array ≠ .alone)) :
    exec (.startReceive i f) s = .next u := by
  change execStartReceive i f s = _
  rw [execStartReceive, hm]
  refine congrArg Host.Outcome.next ?_
  obtain htype | hsame := h
  · exact if_pos htype
  · exact (congrArg _ (if_pos hsame)).trans (ite_self u)

section Start
variable (htype : mgmtType ws = 1) (hnew : ws.getD 2 0 ≠ u.lnk.ident ∨ u.lnk.array = .alone)
include htype hnew

/-- A START that is new: the device's state in the array decides. -/
theorem exec_startReceive_of_new : exec (.startReceive i f) s = .next (
    if u.lnk.array = .joined ∧ u.windowRunning then
      (u.log 0x0A0A true false (w32 i) (w32 (ws.getD 1 0).toNat) 0).linkEvt i 9
    else if u.lnk.array = .exchanging then
      if (ws.getD 1 0).toNat < u.lnk.startDev.toNat then
        ((u.arrayIncomplete 0).log 0x0A09 false false (w32 ((u.lnk.startLink).getD 0)) (w32 u.lnk.startDev.toNat) 0).takeStart i ws
      else u.log 0x0A09 false false (w32 i) (w32 (ws.getD 1 0).toNat) 0
    else u.takeStart i ws) := by
  have hfresh : ¬(ws.getD 2 0 = u.lnk.ident ∧ u.lnk.array ≠ .alone) := by
    rwa [not_and_or, not_not]
  change execStartReceive i f s = _
  rw [execStartReceive, hm]
  exact congrArg Host.Outcome.next ((if_neg (not_not.2 htype)).trans (if_neg hfresh))

theorem exec_startReceive_of_running (hjoined : u.lnk.array = .joined) (hrun : u.windowRunning = true) :
    exec (.startReceive i f) s =
      .next ((u.log 0x0A0A true false (w32 i) (w32 (ws.getD 1 0).toNat) 0).linkEvt i 9) := by
  rw [exec_startReceive_of_new hm htype hnew, if_pos ⟨hjoined, hrun⟩]

/-- Of two exchanges, that of the lower start device goes on. -/
theorem exec_startReceive_of_exchanging (hex : u.lnk.array = .exchanging) :
    exec (.startReceive i f) s = .next (if (ws.getD 1 0).toNat < u.lnk.startDev.toNat then
        ((u.arrayIncomplete 0).log 0x0A09 false false (w32 ((u.lnk.startLink).getD 0)) (w32 u.lnk.startDev.toNat) 0).takeStart i ws
      else u.log 0x0A09 false false (w32 i) (w32 (ws.getD 1 0).toNat) 0) := by
  have hnot : ¬(u.lnk.array = .joined ∧ u.windowRunning) := by simp [hex]
  rw [exec_startReceive_of_new hm htype hnew, if_neg hnot, if_pos hex]

theorem exec_startReceive_of_free (hex : u.lnk.array ≠ .exchanging) (hrun : ¬(u.lnk.array = .joined ∧ u.windowRunning = true)) :
    exec (.startReceive i f) s = .next (u.takeStart i ws) := by
  rw [exec_startReceive_of_new hm htype hnew, if_neg hrun, if_neg hex]

end Start

/-! ### START_ACK (11 R279) -/

/-- A START_ACK of another start, or with no way toward a start device, changes nothing more. -/
theorem exec_startAckReceive_of_other
    (h : mgmtType ws ≠ 2 ∨ ws.getD 2 0 ≠ u.lnk.ident ∨ (u.lnk.startOrigin = none ∧ u.lnk.startLink = none)) :
    exec (.startAckReceive i f) s = .next u := by
  change execStartAckReceive i f s = _
  rw [execStartAckReceive, hm]
  refine congrArg Host.Outcome.next ?_
  obtain htype | hident | ⟨horigin, hlink⟩ := h
  · exact if_pos (.inl htype)
  · exact if_pos (.inr hident)
  · simp only [horigin, hlink, Option.isSome_none, Bool.false_eq_true, if_false, ite_self]

section Ack
variable (htype : mgmtType ws = 2) (hident : ws.getD 2 0 = u.lnk.ident)
include htype hident

theorem exec_startAckReceive_of_startDevice (horigin : u.lnk.startOrigin.isSome = true) :
    exec (.startAckReceive i f) s = .next (u.modLnk fun x => { x with acks := x.acks ++
      [{ dev := field (ws.getD 1 0) 0 5, reason := field (ws.getD 3 0) 0 4, neighbours := ws.getD 5 0 }] }).startDecide := by
  have hown : ¬(mgmtType ws ≠ 2 ∨ ws.getD 2 0 ≠ u.lnk.ident) := not_or.2 ⟨not_not.2 htype, not_not.2 hident⟩
  change execStartAckReceive i f s = _
  rw [execStartAckReceive, hm]
  exact congrArg Host.Outcome.next ((if_neg hown).trans (if_pos horigin))

theorem exec_startAckReceive_of_forwarded {k : Nat} (horigin : u.lnk.startOrigin = none) (hlink : u.lnk.startLink = some k) :
    exec (.startAckReceive i f) s = .next (u.modLink k fun x =>
      { x with mgmtQ := x.mgmtQ ++ [.words (startWord 2 (field (ws.getD 0 0) 8 8 + 1) 8 :: ws.drop 1)] }) := by
  have hown : ¬(mgmtType ws ≠ 2 ∨ ws.getD 2 0 ≠ u.lnk.ident) := not_or.2 ⟨not_not.2 htype, not_not.2 hident⟩
  change execStartAckReceive i f s = _
  rw [execStartAckReceive, hm]
  refine congrArg Host.Outcome.next ((if_neg hown).trans ?_)
  simp only [horigin, hlink, Option.isSome_none, Bool.false_eq_true, if_false]

end Ack
end Message

/-! ### The array link (13 R330, 14 R352) -/

section ArrayLink
variable {w0 : W32} {ws : List W32} (hm : s.mgmtTake i f = (u, some (w0 :: ws)))
include hm

theorem exec_mgmtCommand_of_otherType (htype : mgmtType (w0 :: ws) ≠ 0x10) : exec (.mgmtCommand i f) s = .next u := by
  change execMgmtCommand i f s = _
  rw [execMgmtCommand, hm]
  exact congrArg Host.Outcome.next (if_pos htype)

theorem exec_mgmtCommand_of_free (htype : mgmtType (w0 :: ws) = 0x10) (hheld : u.lk.array.held = none) :
    exec (.mgmtCommand i f) s = .next (u.modPort .array fun x => { x.hold ws with link := i.val }) := by
  have hfree : ¬u.lk.array.held.isSome := by simp [hheld]
  change execMgmtCommand i f s = _
  rw [execMgmtCommand, hm]
  exact congrArg Host.Outcome.next ((if_neg (not_not.2 htype)).trans (if_neg hfree))

theorem exec_mgmtCommand_of_busy (htype : mgmtType (w0 :: ws) = 0x10) (hheld : u.lk.array.held.isSome = true) {r : List W32}
    (hr : r = replyWords u (ws.getD 1 0) stBusy false true []) :
    exec (.mgmtCommand i f) s = .next (u.modLink i fun x =>
      { x with mgmtQ := x.mgmtQ ++ [.words (mgmtWord 0x11 r.length :: r)] }) := by
  subst hr
  change execMgmtCommand i f s = _
  rw [execMgmtCommand, hm]
  exact congrArg Host.Outcome.next ((if_neg (not_not.2 htype)).trans (if_pos hheld))

/-- A reply goes to the oldest FORWARD of its link that waits for one (log entry 102). -/
theorem exec_mgmtReply_of_forward {fw : Forward} (htype : mgmtType (w0 :: ws) = 0x11)
    (hfw : u.lk.forwards.find? (fun x => x.link = i.val && !x.replied) = some fw) :
    exec (.mgmtReply i f) s = .next (u.forwarded fw (decide (field (ws.headD 0) 0 16 = stAccepted)) ws) := by
  change execMgmtReply i f s = _
  simp only [execMgmtReply, hm, hfw, htype, ne_eq, not_true, if_false]

theorem exec_mgmtReply_of_none (h : mgmtType (w0 :: ws) ≠ 0x11 ∨
      u.lk.forwards.find? (fun x => x.link = i.val && !x.replied) = none) : exec (.mgmtReply i f) s = .next u := by
  change execMgmtReply i f s = _
  rw [execMgmtReply, hm]
  refine congrArg Host.Outcome.next ?_
  obtain htype | hnone := h
  · exact if_pos htype
  · simp only [hnone, ite_self]

theorem exec_mgmtRecord_of_forward {fw : Forward} (htype : mgmtType (w0 :: ws) = 0x12)
    (hfw : u.lk.forwards.find? (fun x => x.link = i.val && x.replied) = some fw) :
    exec (.mgmtRecord i f) s = .next (u.forwarded fw false ws) := by
  change execMgmtRecord i f s = _
  simp only [execMgmtRecord, hm, hfw, htype, ne_eq, not_true, if_false]

theorem exec_mgmtRecord_of_none (h : mgmtType (w0 :: ws) ≠ 0x12 ∨
      u.lk.forwards.find? (fun x => x.link = i.val && x.replied) = none) : exec (.mgmtRecord i f) s = .next u := by
  change execMgmtRecord i f s = _
  rw [execMgmtRecord, hm]
  refine congrArg Host.Outcome.next ?_
  obtain htype | hnone := h
  · exact if_pos htype
  · simp only [hnone, ite_self]

end ArrayLink

/-! ### Timeouts (11 R279, 14 R352) -/

theorem exec_forwardTimeout_of_forward {fw : Forward}
    (hfw : s.lk.forwards.find? (fun x => x.link = i.val && !x.replied) = some fw) :
    exec (.forwardTimeout i) s =
      .next ((s.modLk fun k => { k with forwards := k.forwards.erase fw }).postRecord fw.origin stHwFault []) := by
  change execForwardTimeout i s = _
  simp only [execForwardTimeout, hfw]

theorem exec_forwardTimeout_of_none (hnone : s.lk.forwards.find? (fun x => x.link = i.val && !x.replied) = none) :
    exec (.forwardTimeout i) s = .next s := by
  change execForwardTimeout i s = _
  simp only [execForwardTimeout, hnone]

theorem exec_arrayStartTimeout_of_exchanging (hex : s.lnk.array = .exchanging) : exec .arrayStartTimeout s =
    .next (s.arrayIncomplete (((s.lnk.acks.find? fun a => a.reason ≠ 0).map (·.reason)).getD 0)) := by
  change execArrayStartTimeout s = _
  rw [execArrayStartTimeout, if_pos hex]

theorem exec_arrayStartTimeout_of_noExchange (hex : s.lnk.array ≠ .exchanging) : exec .arrayStartTimeout s = .next s := by
  change execArrayStartTimeout s = _
  rw [execArrayStartTimeout, if_neg hex]

/-! ### Endpoint requests (11 R287) -/

theorem exec_gwyniorEndpointRequest_of_work {p : Packet} {l : List Packet} (hruns : s.nodeStill (nodeLink i) = false)
    (hwork : (s.nodeAt (nodeLink i)).work = p :: l) :
    exec (.gwyniorEndpointRequest i) s = .next ((s.modNode (nodeLink i) fun x => { x with work := l }).modLink i fun x =>
      { x with txnQ := x.txnQ ++ [{ pkt := p, origin := originOf p, resp := false }], asked := x.asked ++ [p] }) := by
  change execGwyniorEndpointRequest i s = _
  simp only [execGwyniorEndpointRequest, hruns, hwork, Bool.false_eq_true, if_false]

theorem exec_gwyniorEndpointRequest_of_waits (h : s.nodeStill (nodeLink i) = true ∨ (s.nodeAt (nodeLink i)).work = []) :
    exec (.gwyniorEndpointRequest i) s = .next s := by
  change execGwyniorEndpointRequest i s = _
  obtain hstill | hwork := h
  · simp only [execGwyniorEndpointRequest, hstill, if_true]
  · simp only [execGwyniorEndpointRequest, hwork, ite_self]

/-! ### The obligation -/

/-- Settles O38: each clause is the equation of its row for that case. -/
theorem receivedFramesAct : Obligations.ReceivedFramesAct := by
  unfold Obligations.ReceivedFramesAct
  refine ⟨?frames, ?messages, fun s i => ⟨fun fw => exec_forwardTimeout_of_forward, exec_forwardTimeout_of_none⟩,
    fun s => ⟨exec_arrayStartTimeout_of_exchanging, exec_arrayStartTimeout_of_noExchange⟩,
    fun s i => ⟨fun p l => exec_gwyniorEndpointRequest_of_work, exec_gwyniorEndpointRequest_of_waits⟩⟩
  case frames =>
    intro s u i f hacc
    have hgo := exec_goReceive_of_accepted hacc
    exact ⟨exec_slotFrameReceive_of_otherKind hacc, exec_ctrlFrameReceive_of_otherKind hacc,
      exec_txnFrameReceive_of_otherKind hacc,
      fun hkind => ⟨fun hturn hstrand t => exec_slotFrameReceive_of_inSequence hacc hkind hturn hstrand,
        exec_slotFrameReceive_of_outOfSequence hacc hkind⟩,
      fun hkind => ⟨exec_ctrlFrameReceive_of_short hacc hkind,
        fun b0 b1 es v w => exec_ctrlFrameReceive_of_blocks hacc hkind⟩,
      fun hkind us part hpart hus => ⟨exec_txnFrameReceive_of_more hacc hkind hpart hus,
        exec_txnFrameReceive_of_whole hacc hkind hpart hus⟩,
      fun h => hgo.trans (congrArg _ (if_pos h)), fun h => hgo.trans (congrArg _ (if_neg h))⟩
  case messages =>
    intro s u i f m hm
    refine ⟨?none, ?some⟩
    case none =>
      rintro rfl
      exact ⟨exec_startReceive_of_noMessage hm, exec_startAckReceive_of_noMessage hm, exec_mgmtCommand_of_noMessage hm,
        exec_mgmtReply_of_noMessage hm, exec_mgmtRecord_of_noMessage hm⟩
    case some =>
      rintro ws rfl
      refine ⟨exec_startReceive_of_other hm, fun htype hnew => ⟨exec_startReceive_of_running hm htype hnew,
          exec_startReceive_of_exchanging hm htype hnew, exec_startReceive_of_free hm htype hnew⟩,
        exec_startAckReceive_of_other hm, fun htype hident => ⟨exec_startAckReceive_of_startDevice hm htype hident,
          fun k => exec_startAckReceive_of_forwarded hm htype hident⟩, ?arrayLink⟩
      case arrayLink =>
        rintro w l rfl
        exact ⟨exec_mgmtCommand_of_free hm, fun htype hheld r => exec_mgmtCommand_of_busy hm htype hheld,
          exec_mgmtCommand_of_otherType hm, fun fw => exec_mgmtReply_of_forward hm, exec_mgmtReply_of_none hm,
          fun fw => exec_mgmtRecord_of_forward hm, exec_mgmtRecord_of_none hm⟩

end Sys2Proof.Machine
end

section
/-! SUPPORT. What a step does with the command at the front of the queue, and what it keeps (13 R316, R326, R344, 15 R374, R388, 19 R453).
They settle O47 and O51. -/
namespace Sys2Proof.Machine

theorem step_of_cons (c : Instr) (s : State) : step { s with pending := c :: s.pending } = exec c s := rfl

theorem step_of_nil {s : State} (h : s.pending = []) : step s = .next s := by rw [step, h]

/-- Settles O47: `step` takes the front command off, or finds none. -/
theorem stepExecutesTheFrontCommand : Obligations.StepExecutesTheFrontCommand := by
  unfold Obligations.StepExecutesTheFrontCommand
  exact ⟨step_of_cons, fun s => step_of_nil⟩

/-- Settles O51: the state that a step answers comes after the state with its front command taken. -/
theorem everyStepCompletesAndKeepsWhatManufactureWrote : Obligations.EveryStepCompletesAndKeepsWhatManufactureWrote := by
  unfold Obligations.EveryStepCompletesAndKeepsWhatManufactureWrote
  intro s
  obtain ⟨t, ht, hkeeps⟩ := step_keeps s
  exact ⟨t, ht, hkeeps.pending, hkeeps.out, hkeeps.made⟩

end Sys2Proof.Machine
end

section
/-! SUPPORT. When a vector is sent and when an event bit raises its own (12 R295, R296). They settle O55. -/
namespace Sys2Proof.Machine

variable {s : State} {f : Func} {v : Nat}

theorem State.msixOpen_iff : s.msixOpen f v = true ↔ (s.host.func f).msixEn = true ∧ (s.host.func f).msixMask.getLsbD v = false ∧
    s.host.linkUp = true ∧ (s.host.func f).bme = true ∧ (s.host.func f).d3hot = false := by
  simp [State.msixOpen, and_assoc]

theorem State.raiseVec_of_open (h : s.msixOpen f v = true) :
    s.raiseVec f v = (s.modHost fun x => { x with alertArmed := x.alertArmed || decide (f = .pf0) }).emit (.msix f v) := if_pos h

theorem State.raiseVec_of_shut (h : s.msixOpen f v = false) :
    s.raiseVec f v = (s.modHost fun x => { x with alertArmed := x.alertArmed || decide (f = .pf0) }).modFunc f fun x =>
      { x with pba := x.pba ||| (1#32 <<< v) } := if_neg (by simp [h])

/-- Where the message may not be sent nothing is, and the pending bit of the vector is set. -/
theorem State.raiseVec_pends (hv : v < 32) (h : s.msixOpen f v = false) : (s.raiseVec f v).out = s.out ∧
    ((s.raiseVec f v).host.func f).pba.getLsbD v = true ∧ s.raiseVec f v = { s with host := (s.raiseVec f v).host } := by
  rw [State.raiseVec_of_shut h]
  refine ⟨rfl, ?_, rfl⟩
  rw [State.func_modFunc]
  simp [hv]

/-- The bits that one more event bit makes new among the enabled ones: that bit alone, where it is enabled and was 0. -/
theorem getLsbD_newlyEnabled {w i j : Nat} (hj : j < w) (evt en : BitVec w) :
    ((evt ||| (1#w <<< i)) &&& en &&& ~~~(evt &&& en)).getLsbD j = (decide (j = i) && en.getLsbD j && !evt.getLsbD j) := by
  have hbit : (1#w <<< i).getLsbD j = decide (j = i) := by
    rw [BitVec.getLsbD_shiftLeft, BitVec.getLsbD_one, Bool.eq_iff_iff]
    simp only [Bool.and_eq_true, Bool.not_eq_true', decide_eq_true_eq, decide_eq_false_iff_not]
    omega
  simp only [BitVec.getLsbD_and, BitVec.getLsbD_or, BitVec.getLsbD_not, hbit, hj, decide_true, Bool.true_and]
  cases en.getLsbD j <;> cases evt.getLsbD j <;> simp

theorem newlyEnabled_eq_zero_iff {w i : Nat} (hi : i < w) (evt en : BitVec w) :
    (evt ||| (1#w <<< i)) &&& en &&& ~~~(evt &&& en) = 0 ↔ en.getLsbD i = false ∨ evt.getLsbD i = true := by
  constructor
  · intro h
    have hbit := getLsbD_newlyEnabled (i := i) hi evt en
    rw [h, decide_eq_true rfl] at hbit
    cases hen : en.getLsbD i <;> simp_all
  · intro h
    refine BitVec.eq_of_getLsbD_eq fun j hj => ?_
    rw [getLsbD_newlyEnabled hj]
    by_cases hji : j = i
    · subst hji
      rcases h with h | h <;> simp [h]
    · simp [hji]

theorem State.evtAssert_of_new {w i : Nat} {evt en : BitVec w} (hi : i < w) (hen : en.getLsbD i = true)
    (hevt : evt.getLsbD i = false) : s.evtAssert v evt en (evt ||| (1#w <<< i)) en = s.raiseVec .pf0 v :=
  if_neg (by rw [newlyEnabled_eq_zero_iff hi]; simp [hen, hevt])

theorem State.evtAssert_of_old {w i : Nat} {evt en : BitVec w} (hi : i < w) (h : en.getLsbD i = false ∨ evt.getLsbD i = true) :
    s.evtAssert v evt en (evt ||| (1#w <<< i)) en = s :=
  if_pos ((newlyEnabled_eq_zero_iff hi evt en).2 h)

/-- Settles O55: the message goes exactly where `msixOpen` says so, and one bit more is new exactly where it is enabled and was 0. -/
theorem eventBitsRaiseTheirVector : Obligations.EventBitsRaiseTheirVector := by
  unfold Obligations.EventBitsRaiseTheirVector
  refine ⟨?sent, ?pending, ?bit⟩
  case sent =>
    intro s f v hen hmask hup hbme hd3
    exact State.raiseVec_of_open (State.msixOpen_iff.2 ⟨hen, hmask, hup, hbme, hd3⟩)
  case pending =>
    intro s f v hv h
    refine State.raiseVec_pends hv ?_
    rw [← Bool.not_eq_true, State.msixOpen_iff]
    rintro ⟨hen, hmask, hup, hbme, hd3⟩
    simp [hen, hmask, hup, hbme, hd3] at h
  case bit =>
    intro s w v i evt en hi
    exact ⟨State.evtAssert_of_new hi, State.evtAssert_of_old hi⟩

end Sys2Proof.Machine
end

section
/-! SUPPORT. What an access to BAR0 comes down to, case by case of its judgement (12 R294, R297). They settle O29. -/
namespace Sys2Proof.Machine

variable {s : State} {f : Func} {be : BitVec 4} {off : Nat} {v : W32}

theorem State.bar0Write_of_passed (ho : s.funcOpen f = true) (hj : s.csrJudge f be off = none) :
    s.bar0Write f be off v = s.regWrite off v := by
  simp only [State.bar0Write, ho, hj, Bool.not_true, Bool.false_eq_true, if_false]

/-- A read of an off domain answers all ones in the bytes asked. -/
theorem State.bar0Read_of_off (ho : s.funcOpen f = true) (hoff : s.offAt off = true) :
    s.bar0Read f be off = ((s.modHost fun h => { h with csrErr := h.csrErr ||| 1 }).csrLast f 0 off).emit
      (.bar0Read f (bytesAsked be 0xFFFFFFFF)) := by
  simp only [State.bar0Read, State.csrRead, ho, hoff, Bool.not_true, Bool.false_eq_true, if_false, if_true]

/-- The function and the ownership come first (R294): function 1 writes nothing, function 0 of another owner its mailbox view alone. -/
theorem State.csrJudge_of_nonOwner (h : f = .pf1 ∨ (s.lk.owner ≠ 1 ∧ inView off = false)) : s.csrJudge f be off = some (2, 2) :=
  if_pos (by simpa using h)

/-- A write of function 0 by the owner, or to its mailbox view: the byte enables are judged before the domain. -/
theorem State.csrJudge_of_allowed (hf : f = .pf0) (hown : s.lk.owner = 1 ∨ inView off = true) :
    s.csrJudge f be off = if be ≠ 15 then some (3, 4) else if s.offAt off then some (1, 1) else none := by
  refine if_neg ?_
  rcases hown with hown | hview <;> simp [*]

/-- Settles O29: the access is the one function of the model, whose cases its judgement tells apart. -/
theorem bar0AccessesAreJudged : Obligations.Bar0AccessesAreJudged := by
  unfold Obligations.Bar0AccessesAreJudged
  refine ⟨?applied, ?dropped, ?judged, ?read, ?shut⟩
  case applied => exact fun s f be off data ho hj => congrArg _ (State.bar0Write_of_passed ho hj)
  case dropped =>
    intro s f be off data kind err ho hj
    change Host.Outcome.next (s.bar0Write f be off.toNat data) = _
    rw [State.bar0Write_of_dropped ho hj]
    cases f <;> simp [State.csrDrop, State.csrLast, State.modHost]
  case judged =>
    intro s f be off
    refine ⟨State.csrJudge_of_nonOwner, fun hf hown hbe => ?_, fun hf hown hbe hoff => ?_, fun hf hown hbe hoff => ?_⟩ <;>
      rw [State.csrJudge_of_allowed hf hown]
    · exact if_pos hbe
    · simp [hbe, hoff]
    · simp [hbe, hoff]
  case read =>
    intro s f be off ho
    refine ⟨fun hoff => ?_, fun hrun => congrArg _ (State.bar0Read_of_run ho hrun)⟩
    change Host.Outcome.next (s.bar0Read f be off.toNat) = _
    rw [State.bar0Read_of_off ho hoff]
    cases f <;> simp [State.csrLast, State.modHost]
  case shut => exact fun s f be off data h => ⟨congrArg _ (State.bar0Write_of_shut h), congrArg _ (State.bar0Read_of_shut h)⟩

end Sys2Proof.Machine
end

section
/-! SUPPORT. What the events of the PCI Express endpoint do, one equation for each case (12 R292, R296, R297, 17 R422, 18 R448). They
settle O39. -/
namespace Sys2Proof.Machine

variable {s : State} {f : Func}

theorem exec_pcieReset (k : PcieReset) : exec (.pcieReset k) s = .next ((s.endpointReset.modHost fun h =>
    { h with perst := h.perst || decide (k = .perst) }).log 0x1005 false false
      (match k with | .perst => 0 | .hot => 1 | .linkDisable => 2) 0 0) := by
  cases k <;> rfl

theorem exec_d3hotExit_of_awake (h : (s.host.func f).d3hot = false) : exec (.d3hotExit f) s = .next s :=
  congrArg Host.Outcome.next (if_neg (by simp [h]))

theorem exec_d3hotExit_pf1 (h : (s.host.func .pf1).d3hot = true) :
    exec (.d3hotExit .pf1) s = .next ((s.modFunc .pf1 fun x => { x with d3hot := false }).sendPending .pf1) :=
  congrArg Host.Outcome.next (if_pos h)

/-- Function 0 that leaves D3hot is a wake source, except in Off (17 R422). -/
theorem exec_d3hotExit_pf0 {u : State} (h : (s.host.func .pf0).d3hot = true)
    (hu : u = (s.modFunc .pf0 fun x => { x with d3hot := false }).sendPending .pf0) :
    exec (.d3hotExit .pf0) s = .next (if u.pwr.dev = .off then u else u.wakeBy 1 none) := by
  change execD3hotExit .pf0 s = _
  rw [execD3hotExit, if_pos h, ← hu]
  simp only [true_and, ite_not]

theorem exec_perstNRelease_of_on (h : s.pwr.dev ≠ .off) :
    exec .perstNRelease s = .next (s.modHost fun h => { h with perst := false }) :=
  congrArg Host.Outcome.next (if_neg h)

theorem exec_perstNRelease_of_off (h : s.pwr.dev = .off) :
    exec .perstNRelease s = .next ((s.modHost fun h => { h with perst := false }).wakeBy 1 none) :=
  congrArg Host.Outcome.next (if_pos h)

theorem exec_pcieLinkUp_of_free {speed : BitVec 3} {width : BitVec 4} {c0 c1 : PcieCfg} (hp : s.host.perst = false)
    (hrun : s.domRun 36 = true) : exec (.pcieLinkUp speed width c0 c1) s = .next (((s.modHost fun h =>
      { h with
        linkUp := true
        speed := speed
        width := width
        pf0 := { h.pf0 with bme := c0.bme, mse := c0.mse, msixEn := c0.msixEn, mrrs := c0.mrrs, mps := c0.mps }
        pf1 := { h.pf1 with bme := c1.bme, mse := c1.mse, msixEn := c1.msixEn, mrrs := c1.mrrs, mps := c1.mps } }).sendPending
          .pf0).sendPending .pf1) :=
  congrArg Host.Outcome.next (if_neg (by simp [hp, hrun]))

theorem exec_pcieLinkUp_of_held {speed : BitVec 3} {width : BitVec 4} {c0 c1 : PcieCfg}
    (h : s.host.perst = true ∨ s.domRun 36 = false) : exec (.pcieLinkUp speed width c0 c1) s = .next s :=
  congrArg Host.Outcome.next (if_pos (by simpa using h))

/-- Settles O39: each row is the equation of its case. -/
theorem endpointEventsAct : Obligations.EndpointEventsAct := by
  unfold Obligations.EndpointEventsAct
  exact ⟨fun s => exec_pcieReset, fun s f => rfl, fun s f => rfl,
    fun s => ⟨fun f => exec_d3hotExit_of_awake, exec_d3hotExit_pf1, fun h u => exec_d3hotExit_pf0 h⟩,
    fun s => ⟨exec_perstNRelease_of_on, exec_perstNRelease_of_off⟩,
    fun s speed width c0 c1 => ⟨exec_pcieLinkUp_of_free, exec_pcieLinkUp_of_held⟩, fun s f v => ⟨rfl, rfl⟩⟩

end Sys2Proof.Machine
end

section
/-! SUPPORT. What the events of the mailboxes and of the SMBus port do, one equation for each case (12 R299 to R302, R313, 13 R326 to
R328). They settle O40. -/
namespace Sys2Proof.Machine

variable {s : State} {f : Func} {bytes : List Byte} {p : Option Byte} {data : Byte}

/-! ### Mailboxes (13 R326, R327) -/

theorem exec_mbxDoorbell_of_open {words : List W32} {tail : Option (BitVec 6)} {v : W32} (h : s.funcOpen f = true) :
    exec (.mbxDoorbell f words tail v) s = .next (((s.mbxTail f tail).mbxWrite f 0 words).doorbell f v) :=
  congrArg Host.Outcome.next (if_pos h)

theorem exec_mbxDoorbell_of_shut {words : List W32} {tail : Option (BitVec 6)} {v : W32} (h : s.funcOpen f = false) :
    exec (.mbxDoorbell f words tail v) s = .next s :=
  congrArg Host.Outcome.next (if_neg (by simp [h]))

theorem State.doorbell_of_clear {v : W32} (h : v.getLsbD 0 = false) : s.doorbell f v = s := by
  simp only [State.doorbell, h, Bool.not_false, if_true]

/-- Two changes that agree on a port's record change the state alike. -/
theorem State.modPort_congr {q : Port} {g g' : PortState → PortState} (h : g (s.lk.port q) = g' (s.lk.port q)) :
    s.modPort q g = s.modPort q g' := by
  cases q <;> simp_all [State.modPort, State.modLk, LkState.port]

theorem State.modPort_modPort (s : State) (q : Port) (g g' : PortState → PortState) :
    (s.modPort q g).modPort q g' = s.modPort q fun x => g' (g x) := by
  cases q <;> rfl

theorem State.doorbell_of_busy {v : W32} (h : v.getLsbD 0 = true) (hheld : (s.lk.port f.port).held.isSome = true) :
    s.doorbell f v = s.modPort f.port fun x => { x with overrun := true } := by
  simp only [State.doorbell, h, Bool.not_true, Bool.false_eq_true, if_false]
  exact State.modPort_congr (if_pos hheld)

/-- The doorbell of an idle port holds the request: at least two words of the mailbox, from word 0 on. -/
theorem State.doorbell_of_idle {v : W32} (h : v.getLsbD 0 = true) (hheld : (s.lk.port f.port).held = none) :
    s.doorbell f v = s.modPort f.port fun x => x.hold ((List.range (max 2 (min 1024 (reqLength (tget x.req 0 0))))).map fun i =>
      tget x.req 0 i) := by
  simp only [State.doorbell, h, Bool.not_true, Bool.false_eq_true, if_false]
  exact State.modPort_congr (if_neg (by simp [hheld]))

theorem headD_map_range {α : Type} {n : Nat} (hn : 0 < n) (g : Nat → α) (d : α) : ((List.range n).map g).headD d = g 0 := by
  obtain ⟨m, rfl⟩ := Nat.exists_eq_succ_of_ne_zero hn.ne'
  rw [List.range_succ_eq_map]
  rfl

theorem State.doorbell_holds {v : W32} (h : v.getLsbD 0 = true) (hheld : (s.lk.port f.port).held = none) :
    ∃ ws, ((s.doorbell f v).lk.port f.port).held = some ws ∧ ws.headD 0 = tget (s.lk.port f.port).req 0 0 ∧
      ((s.doorbell f v).lk.port f.port).replyReady = false := by
  rw [State.doorbell_of_idle h hheld, State.port_modPort]
  exact ⟨_, rfl, headD_map_range (by omega) _ _, rfl⟩

/-! ### Writes on the SMBus (12 R301, R313, 13 R328) -/

section Write
variable {code : Nat} {last : Bool} (hr : s.inReset = false)
include hr

theorem State.smbWrite_of_busy (hheld : s.lk.smbus.held.isSome = true) : s.smbWrite code bytes p last = s.emit .smbusNack := by
  simp only [State.smbWrite, hr, hheld, Bool.false_eq_true, if_false, if_true]

variable (hheld : s.lk.smbus.held = none)
include hheld

theorem State.smbWrite_of_badPec (hpec : s.pecFails (BitVec.ofNat 8 code :: BitVec.ofNat 8 bytes.length :: bytes) p = true) :
    s.smbWrite code bytes p last = (s.pecFailed p).modPort .smbus fun x => { x with chunkErr := true } := by
  simp only [State.smbWrite, hr, hheld, hpec, Option.isSome_none, Bool.false_eq_true, if_false, if_true]

variable (hpec : s.pecFails (BitVec.ofNat 8 code :: BitVec.ofNat 8 bytes.length :: bytes) p = false)
include hpec

theorem State.smbWrite_chunk : s.smbWrite code bytes p false = s.modPort .smbus fun x => x.chunk bytes := by
  simp only [State.smbWrite, hr, hheld, hpec, Option.isSome_none, Bool.false_eq_true, if_false, Bool.not_false, if_true]

theorem State.smbWrite_last {all : List Byte} (hall : all = s.lk.smbus.partialBytes ++ bytes) :
    s.smbWrite code bytes p true = s.modPort .smbus fun x =>
      { (x.chunk bytes).hold (wordsOfBytes all) with
        partialBytes := []
        chunkErr := (x.chunk bytes).chunkErr || (decide (all.length ≠ 4 * reqLength ((wordsOfBytes all).headD 0)) ||
          decide (4096 < all.length)) } := by
  simp only [State.smbWrite, hr, hheld, hpec, Option.isSome_none, Bool.false_eq_true, if_false, Bool.not_true]
  rw [State.modPort_modPort]
  refine State.modPort_congr ?_
  subst hall
  rfl

end Write

theorem exec_smbusAbort_of_badPec (hr : s.inReset = false) (hpec : s.pecFails [0x42, data] p = true) :
    exec (.smbusAbort data p) s = .next (s.pecFailed p) := by
  change execSmbusAbort data p s = _
  simp only [execSmbusAbort, hr, hpec, Bool.false_eq_true, if_false, if_true]

theorem exec_smbusAbort_of_goodPec (hr : s.inReset = false) (hpec : s.pecFails [0x42, data] p = false) :
    exec (.smbusAbort data p) s =
      .next (if data = 0 then s.modPort .smbus fun x => { x with partialBytes := [], chunkErr := false } else s) := by
  change execSmbusAbort data p s = _
  simp only [execSmbusAbort, hr, hpec, Bool.false_eq_true, if_false]

/-! ### Reads on the SMBus (12 R299, 13 R328) -/

section Read
variable (hr : s.inReset = false)
include hr

theorem exec_smbusReply_of_none (h : s.lk.smbus.replyReady = false) : exec .smbusReply s = .next (s.smbSend 0x50 [0]) := by
  change execSmbusReply s = _
  simp only [execSmbusReply, hr, h, Bool.false_eq_true, if_false, Bool.not_false, if_true]

theorem exec_smbusReply_of_ready (h : s.lk.smbus.replyReady = true) {c : List Byte} {pos : Nat}
    (hc : c = smbChunk s.lk.smbus.reply s.lk.smbus.replyPos) (hpos : pos = s.lk.smbus.replyPos + (c.length - 1)) :
    exec .smbusReply s = .next ((s.smbSend 0x50 c).modPort .smbus fun x =>
      { x with replyPos := pos, replyReady := decide (pos < 4 * x.reply.length) }) := by
  change execSmbusReply s = _
  simp only [execSmbusReply, hr, h, Bool.false_eq_true, if_false, Bool.not_true, ← hc, ← hpos]

theorem exec_smbusRecord_of_none (h : s.lk.smbus.records = []) : exec .smbusRecord s = .next (s.smbSend 0x51 [0]) := by
  change execSmbusRecord s = _
  simp only [execSmbusRecord, hr, h, Bool.false_eq_true, if_false]

theorem exec_smbusRecord_of_cons {r : List W32} {l : List (List W32)} {c : List Byte} {pos : Nat}
    (h : s.lk.smbus.records = r :: l) (hc : c = smbChunk r s.lk.smbus.recordPos)
    (hpos : pos = s.lk.smbus.recordPos + (c.length - 1)) :
    exec .smbusRecord s = .next ((s.smbSend 0x51 c).modPort .smbus fun x =>
      if pos < 4 * r.length then { x with recordPos := pos } else { x with records := l, recordPos := 0 }) := by
  change execSmbusRecord s = _
  simp only [execSmbusRecord, hr, h, Bool.false_eq_true, if_false, ← hc, ← hpos]

theorem exec_smbusStatus_of_run {b : Byte} (hb : b = BitVec.ofNat 8 (bitAt s.lk.smbus.held.isSome 0 |||
      bitAt s.lk.smbus.replyReady 1 ||| bitAt (!s.lk.smbus.records.isEmpty) 2 ||| bitAt s.lk.smbus.hwReply 3 |||
      bitAt s.lk.smbus.chunkErr 4 ||| bitAt s.lk.inService 5).toNat) :
    exec .smbusStatus s = .next (s.smbSend 0x60 [b]) := by
  change execSmbusStatus s = _
  simp only [execSmbusStatus, hr, Bool.false_eq_true, if_false, ← hb]

theorem exec_smbusAlertResponse_of_alert (h : s.alertOut = true) :
    exec .smbusAlertResponse s = .next ((s.modHost fun h => { h with alertArmed := false, logAlert := false }).emit
      (.smbusRead [BitVec.ofNat 8 (2 * s.smbAddr)] (pec [0x19, BitVec.ofNat 8 (2 * s.smbAddr)]))) := by
  change execSmbusAlertResponse s = _
  simp only [execSmbusAlertResponse, hr, h, Bool.false_eq_true, if_false, Bool.not_true]

theorem exec_smbusAlertResponse_of_none (h : s.alertOut = false) :
    exec .smbusAlertResponse s = .next (s.emit .smbusNack) := by
  change execSmbusAlertResponse s = _
  simp only [execSmbusAlertResponse, hr, h, Bool.false_eq_true, if_false, Bool.not_false, if_true]

end Read

/-- In reset the port takes and answers nothing. -/
theorem smbus_inReset (hr : s.inReset = true) :
    exec (.smbusReq bytes p) s = .next s ∧ exec (.smbusReqEnd bytes p) s = .next s ∧ exec (.smbusAbort data p) s = .next s ∧
    exec .smbusReply s = .next s ∧ exec .smbusRecord s = .next s ∧ exec .smbusStatus s = .next s ∧
    exec .smbusAlertResponse s = .next s :=
  ⟨congrArg _ (if_pos hr), congrArg _ (if_pos hr), congrArg _ (if_pos hr), congrArg _ (if_pos hr), congrArg _ (if_pos hr),
    congrArg _ (if_pos hr), congrArg _ (if_pos hr)⟩

theorem exec_smbusAddressMatch_of_own {addr : BitVec 7} (h : addr.toNat = 0x5A + s.host.addrSel.toNat) :
    exec (.smbusAddressMatch addr) s = .next (s.wakeBy 0 none) := congrArg Host.Outcome.next (if_pos h)

theorem exec_smbusAddressMatch_of_other {addr : BitVec 7} (h : addr.toNat ≠ 0x5A + s.host.addrSel.toNat) :
    exec (.smbusAddressMatch addr) s = .next s := congrArg Host.Outcome.next (if_neg h)

/-! ### The obligation -/

/-- Settles O40: each row is the equation of its case. -/
theorem mailboxAndSmbusEventsAct : Obligations.MailboxAndSmbusEventsAct := by
  unfold Obligations.MailboxAndSmbusEventsAct
  refine ⟨fun s f words tail data => ⟨exec_mbxDoorbell_of_open, exec_mbxDoorbell_of_shut⟩,
    fun s f data => ⟨State.doorbell_of_clear, State.doorbell_of_busy, State.doorbell_holds⟩, ?write, ?read,
    fun s bytes data p => smbus_inReset,
    fun s addr => ⟨exec_smbusAddressMatch_of_own, exec_smbusAddressMatch_of_other, rfl⟩⟩
  case write =>
    intro s bytes p hr
    refine ⟨fun hheld => ⟨congrArg _ (State.smbWrite_of_busy hr hheld), congrArg _ (State.smbWrite_of_busy hr hheld)⟩,
      fun hheld => ⟨?_, ?_, ?_, ?_⟩, fun data => ⟨exec_smbusAbort_of_badPec hr, exec_smbusAbort_of_goodPec hr⟩⟩
    · exact fun hpec => congrArg _ (State.smbWrite_of_badPec hr hheld hpec)
    · exact fun hpec => congrArg _ (State.smbWrite_of_badPec hr hheld hpec)
    · exact fun hpec => congrArg _ (State.smbWrite_chunk hr hheld hpec)
    · exact fun hpec all hall => congrArg _ (State.smbWrite_last hr hheld hpec hall)
  case read =>
    intro s hr
    exact ⟨exec_smbusReply_of_none hr, fun h c pos => exec_smbusReply_of_ready hr h, exec_smbusRecord_of_none hr,
      fun r l c pos => exec_smbusRecord_of_cons hr, fun b => exec_smbusStatus_of_run hr, exec_smbusAlertResponse_of_alert hr,
      exec_smbusAlertResponse_of_none hr⟩

end Sys2Proof.Machine
end

section
/-! SUPPORT. What the JTAG instructions and command words do, one equation for each case (12 R303, R304, 13 R329). They settle O41. -/
namespace Sys2Proof.Machine

variable {s : State}

/-! ### Instructions (12 R303, R304) -/

theorem State.loadDrive_of_notReleased (h : s.win.shown = .notReleased) (code : Byte) : s.loadDrive code = s.loadIr code := by
  simp only [State.loadDrive, State.tapFree, h, decide_true, if_true]

theorem State.loadDrive_of_released (h : s.win.shown ≠ .notReleased) (code : Byte) : s.loadDrive code = s.loadIr 0xFF := by
  simp only [State.loadDrive, State.tapFree, h, decide_false, Bool.false_eq_true, if_false]

theorem State.loadIr_out (code : Byte) :
    (s.loadIr code).out = s.out ++ [.jtagIr (if s.win.shown = .notReleased then 1 else 5)] := by
  by_cases h : s.win.shown = .notReleased <;> simp [State.loadIr, State.tapFree, State.emit, h]

theorem exec_bypass_of_free {code : Byte} (h : tapCodes.contains code = false) :
    exec (.bypass code) s = .next (s.loadIr code) := congrArg Host.Outcome.next (if_neg (by simpa using h))

/-! ### Command words (13 R329) -/

theorem State.jtagWord_of_taken {w : W32} {last : Bool} (hir : s.host.ir = 0x10) (hr : s.inReset = false)
    (hheld : s.lk.jtag.held = none) : s.jtagWord w last = s.modPort .jtag fun x =>
      if last then { x.hold (x.partialWords ++ [w]) with partialWords := [] } else { x with partialWords := x.partialWords ++ [w] } :=
  if_neg (by simp [hir, hr, hheld])

theorem State.jtagWord_of_ignored {w : W32} {last : Bool} (h : s.host.ir ≠ 0x10 ∨ s.inReset = true ∨ s.lk.jtag.held.isSome = true) :
    s.jtagWord w last = s := if_pos (by tauto)

theorem exec_jtagCapture_of_cmd (hir : s.host.ir = 0x10) : exec .jtagCapture s = .next ((s.freshen.modHost fun h =>
      { h with cmdDr := BitVec.ofNat 34 (2 ^ 32 * s.freshen.jtagPresent.1 + s.freshen.jtagPresent.2.toNat) }).emit
      (.jtagDr 34 (2 ^ 32 * s.freshen.jtagPresent.1 + s.freshen.jtagPresent.2.toNat))) :=
  congrArg Host.Outcome.next (if_neg (by simp [hir]))

/-- JTAG_ADVANCE under JTAG_CMD goes on by one word of what was captured: of the reply, or of the oldest record. -/
theorem exec_jtagAdvance_of_cmd (hir : s.host.ir = 0x10) {op : Nat} (hop : s.host.cmdDr.toNat / 2 ^ 32 = op) :
    exec .jtagAdvance s = .next (s.modPort .jtag fun x =>
      if op = 1 ∧ x.replyReady then
        { x with replyPos := x.replyPos + 1, replyReady := decide (x.replyPos + 1 < x.reply.length) }
      else if op = 2 then
        match x.records with
        | r :: l => if x.recordPos + 1 < r.length then { x with recordPos := x.recordPos + 1 }
          else { x with records := l, recordPos := 0 }
        | [] => x
      else x) := by
  subst hop
  exact congrArg Host.Outcome.next (if_neg (by simp [hir]))

theorem State.modPort_id (s : State) (q : Port) : (s.modPort q fun x => x) = s := by
  cases q <;> rfl

/-! ### The obligation -/

/-- Settles O41: each row loads its code or takes its word, as its case says. -/
theorem jtagEventsAct : Obligations.JtagEventsAct := by
  unfold Obligations.JtagEventsAct
  refine ⟨fun s code => ⟨rfl, State.loadIr_out code⟩, ?instructions, ?words, ?reads, ?others⟩
  case instructions =>
    intro s
    exact ⟨fun h => ⟨congrArg _ (State.loadDrive_of_notReleased h _), congrArg _ (State.loadDrive_of_notReleased h _),
        congrArg _ (State.loadDrive_of_notReleased h _)⟩,
      fun h => ⟨congrArg _ (State.loadDrive_of_released h _), congrArg _ (State.loadDrive_of_released h _),
        congrArg _ (State.loadDrive_of_released h _)⟩,
      fun cells => rfl, rfl, rfl, fun code => exec_bypass_of_free, rfl, rfl⟩
  case words =>
    intro s w
    exact ⟨fun hir hr hheld => ⟨congrArg _ (State.jtagWord_of_taken hir hr hheld), congrArg _ (State.jtagWord_of_taken hir hr hheld)⟩,
      fun h => ⟨congrArg _ (State.jtagWord_of_ignored h), congrArg _ (State.jtagWord_of_ignored h)⟩⟩
  case reads =>
    intro s hir
    refine ⟨exec_jtagCapture_of_cmd hir, fun hop => ?reply, fun hop => ?record, fun h1 h2 => ?none⟩
    case reply =>
      rw [exec_jtagAdvance_of_cmd hir hop]
      simp only [true_and, OfNat.one_ne_ofNat, if_false]
    case record =>
      rw [exec_jtagAdvance_of_cmd hir hop]
      simp only [OfNat.ofNat_ne_one, false_and, if_false, if_true] <;> rfl
    case none =>
      rw [exec_jtagAdvance_of_cmd hir rfl]
      simp only [h1, h2, false_and, if_false]
      rw [State.modPort_id]
  case others => exact fun s hir => ⟨congrArg _ (if_pos hir), congrArg _ (if_pos hir)⟩

end Sys2Proof.Machine
end

section
/-! SUPPORT. What logging does to the queue of entries and what it leaves (13 R323, R324). They settle O54. -/
namespace Sys2Proof.Machine

variable {l : LogState} {e : LogEntry}

theorem LogState.add_of_room (h : l.queue.length < 512) : l.add e = (l.push e, true) := if_pos h

theorem LogState.add_of_full (h : 512 ≤ l.queue.length) (he : e.fault = false) : l.add e = (l.countDrop e.code, false) := by
  simp only [LogState.add, Nat.not_lt.2 h, he, Bool.false_eq_true, if_false]

/-- A queue with an entry without FAULT has one to displace. -/
theorem dropNewest_of_any {q : List LogEntry} (h : (q.any fun e => !e.fault) = true) : ∃ d t, dropNewest q = some (d, t) := by
  induction q with
  | nil => cases h
  | cons e q ih =>
    simp only [dropNewest]
    cases hq : dropNewest q with
    | some x => exact ⟨_, _, rfl⟩
    | none =>
      have hnone : (q.any fun e => !e.fault) = false := by
        by_contra hq'
        obtain ⟨d, t, hd⟩ := ih (by simpa using hq')
        rw [hq] at hd
        cases hd
      rw [List.any_cons, hnone, Bool.or_false, Bool.not_eq_true'] at h
      exact ⟨e, q, if_neg (by simp [h])⟩

theorem LogState.add_displaces (h : 512 ≤ l.queue.length) (he : e.fault = true) (hany : (l.queue.any fun e => !e.fault) = true) :
    (l.add e).1.queue.length = l.queue.length ∧ (l.add e).1.next = l.next + 1 ∧ (l.add e).1.dropped = satInc l.dropped := by
  obtain ⟨d, q, hd⟩ := dropNewest_of_any hany
  have hlen := dropNewest_length hd
  simp only [LogState.add, Nat.not_lt.2 h, he, hd, if_false, if_true]
  refine ⟨?_, rfl, rfl⟩
  simp only [LogState.push, LogState.countDrop, List.length_append, List.length_singleton]
  omega

variable {s : State}

theorem State.raiseVec_frame (s : State) (f : Func) (v : Nat) :
    s.raiseVec f v = { s with host := (s.raiseVec f v).host, out := (s.raiseVec f v).out } := by
  rcases s.raiseVec_cases f v with h | h <;> rw [h] <;> rfl

/-- The entry that an event makes in the present pulse period, before it has its index. -/
def State.logEntry (s : State) (code : Nat) (int fault : Bool) (p0 p1 p2 : W32) : LogEntry :=
  { stamp := s.stamp, seconds := s.lk.seconds, code := BitVec.ofNat 16 code, int := int, fault := fault, p0 := p0, p1 := p1, p2 := p2 }

section Log
variable (s : State) (code : Nat) (int fault : Bool) (p0 p1 p2 : W32)

/-- Of the Lockkeeper logging changes the log alone. -/
theorem State.log_lk :
    (s.log code int fault p0 p1 p2).lk = { s.lk with log := (s.lk.log.add (s.logEntry code int fault p0 p1 p2)).1 } := by
  simp only [State.log, State.logAt]
  split
  · rw [State.raiseVec_lk, State.raiseVec_lk]
    rfl
  · rfl

theorem State.log_frame : s.log code int fault p0 p1 p2 = { s with
    lk := { s.lk with log := (s.log code int fault p0 p1 p2).lk.log }
    host := (s.log code int fault p0 p1 p2).host
    out := (s.log code int fault p0 p1 p2).out } := by
  rw [State.log_lk]
  simp only [State.log, State.logAt]
  split
  · rw [State.raiseVec_frame _ .pf1, State.raiseVec_frame _ .pf0]
    rfl
  · rfl

end Log

/-- Settles O54: the log of the state after is what `LogState.add` makes of the log before. -/
theorem logEntriesAreQueuedDroppedOrDisplace : Obligations.LogEntriesAreQueuedDroppedOrDisplace := by
  unfold Obligations.LogEntriesAreQueuedDroppedOrDisplace
  intro s code int fault p0 p1 p2
  refine ⟨fun hroom => ?room, fun hfull hf => ?dropped, fun hfull hf hany => ?displaced, s.log_frame code int fault p0 p1 p2⟩
  case room =>
    rw [State.log_lk, LogState.add_of_room hroom]
    exact ⟨rfl, rfl, rfl⟩
  case dropped =>
    rw [State.log_lk, LogState.add_of_full hfull hf]
    exact ⟨rfl, rfl⟩
  case displaced =>
    rw [State.log_lk]
    exact LogState.add_displaces hfull hf hany

end Sys2Proof.Machine
end

section
/-! SUPPORT. What committing a reply changes in the Lockkeeper: the port's reply, the owner's lease, the log (13 R327, R333, R336,
R342). They settle O53. -/
namespace Sys2Proof.Machine

/-! ### The owner and the lease (13 R333) -/

section Lease
variable (s : State)

@[simp] theorem State.log_owner (code : Nat) (int fault : Bool) (p0 p1 p2 : W32) :
    (s.log code int fault p0 p1 p2).lk.owner = s.lk.owner := by rw [State.log_lk]

@[simp] theorem State.log_leaseLen (code : Nat) (int fault : Bool) (p0 p1 p2 : W32) :
    (s.log code int fault p0 p1 p2).lk.leaseLen = s.lk.leaseLen := by rw [State.log_lk]

@[simp] theorem State.log_leaseTicks (code : Nat) (int fault : Bool) (p0 p1 p2 : W32) :
    (s.log code int fault p0 p1 p2).lk.leaseTicks = s.lk.leaseTicks := by rw [State.log_lk]

@[simp] theorem State.logCommand_owner (r : Req) (op st : Nat) (own : Own) : (s.logCommand r op st own).lk.owner = s.lk.owner := by
  unfold State.logCommand
  split <;> simp

@[simp] theorem State.logCommand_leaseLen (r : Req) (op st : Nat) (own : Own) :
    (s.logCommand r op st own).lk.leaseLen = s.lk.leaseLen := by
  unfold State.logCommand
  split <;> simp

@[simp] theorem State.logCommand_leaseTicks (r : Req) (op st : Nat) (own : Own) :
    (s.logCommand r op st own).lk.leaseTicks = s.lk.leaseTicks := by
  unfold State.logCommand
  split <;> simp

@[simp] theorem State.logCommand_port (r : Req) (op st : Nat) (own : Own) (q : Port) :
    (s.logCommand r op st own).lk.port q = s.lk.port q := by
  unfold State.logCommand
  split
  · rfl
  · rw [State.log_lk]
    cases q <;> rfl

theorem State.logCommand_frame (r : Req) (op st : Nat) (own : Own) : s.logCommand r op st own = { s with
    lk := { s.lk with log := (s.logCommand r op st own).lk.log }
    host := (s.logCommand r op st own).host
    out := (s.logCommand r op st own).out } := by
  unfold State.logCommand
  split
  · rfl
  · exact s.log_frame ..

@[simp] theorem State.putReply_owner (q : Port) (k : Nat) (ws : List W32) (hw : Bool) :
    (s.putReply q k ws hw).lk.owner = s.lk.owner := by
  cases q <;> simp only [State.putReply, State.raiseVec_lk] <;> rfl

@[simp] theorem State.putReply_leaseLen (q : Port) (k : Nat) (ws : List W32) (hw : Bool) :
    (s.putReply q k ws hw).lk.leaseLen = s.lk.leaseLen := by
  cases q <;> simp only [State.putReply, State.raiseVec_lk] <;> rfl

@[simp] theorem State.putReply_leaseTicks (q : Port) (k : Nat) (ws : List W32) (hw : Bool) :
    (s.putReply q k ws hw).lk.leaseTicks = s.lk.leaseTicks := by
  cases q <;> simp only [State.putReply, State.raiseVec_lk] <;> rfl

theorem State.isOwner_iff {s : State} {q : Port} : s.isOwner q = true ↔ q ≠ .pf1 ∧ s.lk.owner.toNat = q.num := by simp [State.isOwner]

variable (r : Req) (op : Nat) (own : Own) (st : Nat) (poison : Bool) (payload : List W32)

@[simp] theorem State.commit_owner : (s.commit r op own st poison payload).lk.owner = s.lk.owner := by
  simp only [State.commit, State.logCommand_owner]
  split
  · exact s.putReply_owner ..
  · exact s.putReply_owner ..

/-- The lease runs for its full length if the sender is the owner, and else as before. -/
theorem State.commit_leaseTicks : (s.commit r op own st poison payload).lk.leaseTicks =
    if s.isOwner r.port then s.lk.leaseLen.toNat * 100000 else s.lk.leaseTicks := by
  have howner (ws : List W32) : (s.putReply r.port r.link ws false).isOwner r.port = s.isOwner r.port := by
    simp only [State.isOwner, State.putReply_owner]
  simp only [State.commit, State.logCommand_leaseTicks, howner]
  split
  · simp [State.renewLease]
  · simp

end Lease

/-! ### The mailbox of function 0 (13 R327, R336, R341, R342) -/

section Mailbox
variable {s : State} {r : Req} {op : Nat} {own : Own} {st : Nat} {payload : List W32}

@[simp] theorem State.renewLease_port (s : State) (q : Port) : s.renewLease.lk.port q = s.lk.port q := by cases q <;> rfl

theorem replyWords_plain (s : State) (tag : W32) (st : Nat) (payload : List W32) : replyWords s tag st false false payload =
    w32 (st + 2 ^ 16 * (3 + payload.length)) :: tag :: BitVec.ofNat 32 s.win.cnt.toNat :: payload := by
  simp [replyWords, State.wcnt, bitAt]

/-- The reply stands at the mailbox, and the request is gone. -/
theorem State.commit_pf0 (hp : r.port = .pf0) : (s.commit r op own st false payload).lk.port .pf0 =
    { s.lk.port .pf0 with
      held := none, reply := replyWords s r.tag st false false payload, replyReady := true, hwReply := false, replyPos := 0 } := by
  simp only [State.commit, State.logCommand_port]
  split
  · rw [State.renewLease_port, hp]
    simp only [State.putReply, State.raiseVec_lk] <;> rfl
  · rw [hp]
    simp only [State.putReply, State.raiseVec_lk] <;> rfl

theorem State.commit_log_of_anyone (hp : r.port = .pf0) :
    (s.commit r op .anyone st false payload).lk.log = s.lk.log := by
  simp only [State.commit, State.logCommand, if_true, hp, State.putReply]
  split
  · simp [State.renewLease] <;> rfl
  · simp <;> rfl

theorem State.commit_frame_pf0 (hp : r.port = .pf0) : s.commit r op own st false payload = { s with
    lk := (s.commit r op own st false payload).lk
    host := (s.commit r op own st false payload).host
    out := (s.commit r op own st false payload).out } := by
  simp only [State.commit, hp, State.putReply]
  rw [State.logCommand_frame]
  split
  · rw [State.raiseVec_frame]
    rfl
  · rw [State.raiseVec_frame]
    rfl

/-- Settles O53: the three parts of a commit, on the mailbox of function 0. -/
theorem aCommittedReplyStandsInTheMailbox : Obligations.ACommittedReplyStandsInTheMailbox := by
  unfold Obligations.ACommittedReplyStandsInTheMailbox
  intro s r op st own payload hp
  have hmbx : (s.commit r op own st false payload).lk.pf0 = _ := State.commit_pf0 hp
  have howns : s.isOwner r.port = decide (s.lk.owner = 1) := by
    rw [hp, Bool.eq_iff_iff, State.isOwner_iff]
    simp [Port.num, ← BitVec.toNat_inj]
  have hticks := s.commit_leaseTicks r op own st false payload
  rw [howns] at hticks
  refine ⟨?_, ?_, ?_, s.commit_owner .., fun h => ?_, fun h => ?_, ?_, State.commit_frame_pf0 hp⟩
  · rw [hmbx, replyWords_plain]
  · rw [hmbx]
  · rw [hmbx]
  · rw [hticks, if_pos (decide_eq_true h)]
  · rw [hticks, if_neg (by simpa using h)]
  · rintro rfl
    exact State.commit_log_of_anyone hp

end Mailbox

end Sys2Proof.Machine
end

section
/-! SUPPORT. What refuses a request before the opcode's own checks, in the order of R344 (13 R336, R338, 15 R385). They settle O52. -/
namespace Sys2Proof.Machine

variable {s : State} {r : Req} {op : Nat} {own : Own} {ok : Bool} {body : State → Res}

/-- Out of service the hardware responder answers. -/
theorem State.serveCmd_of_outOfService (h : s.lk.inService = false) :
    s.serveCmd r op own ok body = s.hwBusy r.port r.link r.tag := by
  simp only [State.serveCmd, State.serve, h, Bool.not_false, if_true]

section InService
variable (hin : s.lk.inService = true) (hmem : s.lk.memOps = [])
include hin hmem

theorem State.serveCmd_of_badLength (h : r.badLength = true) : s.serveCmd r op own ok body = s.notCommand r stBadLength := by
  simp only [State.serveCmd, State.serve, hin, memCut_none hmem, h, Bool.not_true, Bool.false_eq_true, if_false, if_true]

/-- In recovery an opcode that is not served then. -/
theorem State.serveCmd_of_recovery (h : r.badLength = false) (hrec : s.sec.recovery = true)
    (hop : recoveryOpcodes.contains op = false) : s.serveCmd r op own ok body = s.commit r op own stHwFault false [] := by
  simp only [State.serveCmd, State.serve, hin, memCut_none hmem, h, hrec, hop, Bool.not_true, Bool.not_false, Bool.false_eq_true,
    if_false, and_self, if_true]

/-- A request that its judgement refuses. -/
theorem State.serveCmd_of_judged {st : Nat} (h : r.badLength = false) (hrec : s.sec.recovery = false)
    (hj : s.judgeReq r own ok = some st) : s.serveCmd r op own ok body = s.commit r op own st false [] := by
  simp only [State.serveCmd, State.serve, hin, memCut_none hmem, h, hrec, hj, Bool.not_true, Bool.false_eq_true, if_false,
    false_and, ite_self]

end InService

/-- The judgement of a request of the owner alone, with a good LENGTH: its length, the ownership and the flags, in this order. -/
theorem State.judgeReq_owner (h : r.badLength = false) : s.judgeReq r .owner ok =
    if ok = false then some stBadLength else if s.isOwner r.port = false then some stNotOwner
      else if r.flags ≠ 0 then some stBadParam else none := by
  have hlen : ¬(r.length < 2 ∨ 1024 < r.length ∨ r.length ≠ r.params.length + 2) := by
    simpa [Req.badLength, and_assoc] using h
  rw [State.judgeReq, if_neg hlen]
  simp

/-- Settles O52: the refusals of RELEASE, whose judgement is the owner's, and of ID_GET. -/
theorem requestsAreJudgedInOrder : Obligations.RequestsAreJudgedInOrder := by
  unfold Obligations.RequestsAreJudgedInOrder
  refine ⟨fun s r h => ⟨congrArg _ (State.serveCmd_of_outOfService h), congrArg _ (State.serveCmd_of_outOfService h)⟩, ?inService⟩
  case inService =>
    intro s r hin hmem
    refine ⟨fun h => ⟨congrArg _ (State.serveCmd_of_badLength hin hmem h), congrArg _ (State.serveCmd_of_badLength hin hmem h)⟩,
      fun h hrec => congrArg _ (State.serveCmd_of_recovery hin hmem h hrec (by decide)), fun h hrec => ?judged⟩
    case judged =>
      have hrefused {st : Nat} (hj : s.judgeReq r .owner (r.length = 2) = some st) :
          exec (.release r) s = .next (s.commit r 0x0101 .owner st false []) :=
        congrArg _ (State.serveCmd_of_judged hin hmem h hrec hj)
      refine ⟨fun hlen => hrefused ?_, fun hlen hown => hrefused ?_, fun hlen hown hflags => hrefused ?_⟩ <;>
        rw [State.judgeReq_owner h]
      · simp [hlen]
      · simp [hlen, hown]
      · simpa [hlen, hown] using hflags

end Sys2Proof.Machine
end

section
/-! SUPPORT. What the ownership commands reply once the Lockkeeper takes them, and who owns the device then (13 R332 to R334, 14 R350,
R351). They settle O2 and O59. -/
namespace Sys2Proof.Machine

variable {s : State} {r : Req}

/-! ### The owner (13 R332, R333) -/

/-- Ownership that goes to the owner changes nothing. -/
theorem State.setOwner_of_same {new cause : Nat} (h : s.lk.owner.toNat = new) : s.setOwner new cause = s := if_pos h

theorem State.setOwner_owner {new cause : Nat} (hnew : new < 8) : (s.setOwner new cause).lk.owner.toNat = new := by
  simp only [State.setOwner]
  split
  · assumption
  · simpa using hnew

@[simp] theorem State.setOwner_leaseLen (s : State) (new cause : Nat) : (s.setOwner new cause).lk.leaseLen = s.lk.leaseLen := by
  simp only [State.setOwner]
  split <;> simp

/-! ### The commands (14 R350, R351) -/

/-- The reply of a command that is taken and whose own checks refuse it (13 R344). -/
theorem State.serveCmd_of_takes_of_fail {own : Own} {ok : Bool} {op st : Nat} {body : State → Res} (h : s.takes r own ok)
    (hbody : body s = .fail st) : s.serveCmd r op own ok body = s.commit r op own st false [] := by
  simp only [State.serveCmd, serve_takes h, hbody]

theorem exec_claim_of_takes (h : s.takes r .claim (r.length = 2)) :
    exec (.claim r) s = .next ((s.setOwner r.port.num 0).commit r 0x0100 .claim stOk false
      [w32 (s.setOwner r.port.num 0).lk.owner.toNat, w32 s.lk.leaseLen.toNat]) := by
  change execClaim r s = _
  simp only [execClaim, serve_takes h, State.ownerWords, State.setOwner_leaseLen]

theorem exec_release_of_takes (h : s.takes r .owner (r.length = 2)) :
    exec (.release r) s =
      .next (((s.setOwner 0 2).modLk fun k => { k with leaseTicks := 0 }).commit r 0x0101 .owner stOk false []) := by
  change execRelease r s = _
  rw [execRelease, State.serveCmd_of_takes_of_ok h rfl]

theorem exec_handover_of_takes (h : s.takes r .owner (r.length = 3)) (hmin : 1 ≤ (r.p 0).toNat) (hmax : (r.p 0).toNat ≤ 4) :
    exec (.handover r) s = .next ((s.setOwner (r.p 0).toNat 1).renewLease.commit r 0x0102 .owner stOk false []) := by
  have hparty : ¬ ((r.p 0).toNat = 0 ∨ 4 < (r.p 0).toNat) := by omega
  change execHandover r s = _
  rw [execHandover, State.serveCmd_of_takes_of_ok h (if_neg hparty)]

theorem exec_handover_of_noParty (h : s.takes r .owner (r.length = 3)) (hp : (r.p 0).toNat = 0 ∨ 5 ≤ (r.p 0).toNat) :
    exec (.handover r) s = .next (s.commit r 0x0102 .owner stBadParam false []) := by
  change execHandover r s = _
  rw [execHandover, State.serveCmd_of_takes_of_fail h (if_pos hp)]

theorem exec_leaseSet_of_takes (h : s.takes r .owner (r.length = 3)) (hmin : 1 ≤ (r.p 0).toNat) (hmax : (r.p 0).toNat ≤ 3600) :
    exec (.leaseSet r) s = .next ((s.modLk fun k => { k with leaseLen := BitVec.ofNat 12 (r.p 0).toNat }).commit r 0x0103 .owner
      stOk false []) := by
  have hlen : ¬ ((r.p 0).toNat = 0 ∨ 3600 < (r.p 0).toNat) := by omega
  change execLeaseSet r s = _
  rw [execLeaseSet, State.serveCmd_of_takes_of_ok h (if_neg hlen)]

theorem exec_ownerGet_of_takes (h : s.takes r .anyone (r.length = 2)) :
    exec (.ownerGet r) s = .next (s.commit r 0x0104 .anyone stOk false
      [w32 s.lk.owner.toNat, w32 s.leaseSeconds, w32 s.lk.leaseLen.toNat, w32 r.port.num]) := by
  change execOwnerGet r s = _
  rw [execOwnerGet, State.serveCmd_of_takes_of_ok h rfl]

theorem exec_forward_of_takes (h : s.takes r .owner (decide (5 ≤ r.length) && reqLength (r.p 1) = r.length - 3)) (hroom : s.room r)
    (hlink : only (r.p 0) 4 = true) (hport : r.port ≠ .array) (hvalid : (s.linkAt (r.p 0).toNat).valid = true)
    (hup : (s.linkAt (r.p 0).toNat).isUp = true) :
    exec (.forward r) s = .next (((s.modLk fun k => { k with forwards := k.forwards ++
        [{ origin := r.origin 0x0105, link := (r.p 0).toNat }] }).modLink (r.p 0).toNat fun x =>
      { x with mgmtQ := x.mgmtQ ++ [.words (mgmtWord 0x10 (r.params.drop 1).length :: r.params.drop 1)] }).accepts r 0x0105
        .owner) := by
  have hgood : ¬ (!only (r.p 0) 4 || decide (r.port = Port.array) || !(s.linkAt (r.p 0).toNat).valid) = true := by
    simp [hlink, hport, hvalid]
  have hopen : ¬ (!(s.linkAt (r.p 0).toNat).isUp) = true := by simp [hup]
  change execForward r s = _
  rw [execForward, State.serveCmd_of_takes_of_accept h hroom ((if_neg hgood).trans (if_neg hopen))]

/-! ### The obligations -/

/-- Settles O2: each clause is the equation of its command. -/
theorem ownershipCommandsMoveTheOwner : Obligations.OwnershipCommandsMoveTheOwner := by
  unfold Obligations.OwnershipCommandsMoveTheOwner
  exact ⟨fun s r => exec_claim_of_takes, fun s r => exec_release_of_takes, fun s r => exec_handover_of_takes,
    fun s r => exec_leaseSet_of_takes, fun s r => exec_ownerGet_of_takes, fun s r => exec_forward_of_takes⟩

/-- Settles O59: the commit leaves the owner that the command has set, and its lease runs full whether the commit renews it or not. -/
theorem theOwnerMayHandOverOrRelease : Obligations.TheOwnerMayHandOverOrRelease := by
  unfold Obligations.TheOwnerMayHandOverOrRelease
  refine fun s r => ⟨fun h hmin hmax => ⟨_, exec_handover_of_takes h hmin hmax, ?owner, ?lease, ?same⟩, exec_handover_of_noParty,
    fun h => ⟨_, exec_release_of_takes h, ?released⟩⟩
  case owner =>
    rw [State.commit_owner]
    exact State.setOwner_owner (by omega)
  case lease =>
    rw [State.commit_leaseTicks]
    simp [State.renewLease]
  case same =>
    intro hsame
    rw [State.setOwner_of_same hsame.symm]
  case released =>
    rw [State.commit_owner]
    exact BitVec.eq_of_toNat_eq (State.setOwner_owner (by decide))

end Sys2Proof.Machine
end

section
/-! SUPPORT. What the identity and register commands reply once the Lockkeeper takes them (14 R348, R349). They settle O1. -/
namespace Sys2Proof.Machine

variable {s : State} {r : Req}

theorem exec_idGet_of_takes (h : s.takes r .anyone (r.length = 2)) :
    exec (.idGet r) s = .next (s.commit r 0x0000 .anyone stOk false
      [s.idDevice, wordOf s.sec.fuses.serial 0, wordOf s.sec.fuses.serial 1, s.lk.fwVersion, w32 s.lk.fwSlot.toNat,
        if s.img.st = CfgSt.noImage then 0 else s.actVer, w32 s.img.bootRole.toNat, w32 s.lnk.devNum.toNat]) := by
  change execIdGet r s = _
  rw [execIdGet, State.serveCmd_of_takes_of_ok h rfl]

theorem exec_ping_of_takes (h : s.takes r .anyone (r.length ≤ 1023)) :
    exec (.ping r) s = .next (s.commit r 0x0001 .anyone stOk false r.params) := by
  change execPing r s = _
  rw [execPing, State.serveCmd_of_takes_of_ok h rfl]

/-- A range that is not bad goes to the registers. -/
theorem res_of_goodRange {off count : Nat} {x y : Res} (h : csrRangeBad off count = false) :
    (if csrRangeBad off count then x else y) = y := if_neg (by simp [h])

theorem exec_csrRead_of_takes (h : s.takes r .anyone (r.length = 4)) (hr : csrRangeBad (r.p 0).toNat (r.p 1).toNat = false) :
    exec (.csrRead r) s = .next ((s.csrReads (r.p 0).toNat (r.p 1).toNat).1.commit r 0x0010 .anyone stOk false
      (s.csrReads (r.p 0).toNat (r.p 1).toNat).2) := by
  change execCsrRead r s = _
  rw [execCsrRead, State.serveCmd_of_takes_of_ok h (res_of_goodRange hr)]

theorem exec_csrWrite_of_takes (h : s.takes r .owner (decide (4 ≤ r.length) && r.length = 4 + (r.p 1).toNat))
    (hr : csrRangeBad (r.p 0).toNat (r.p 1).toNat = false) :
    exec (.csrWrite r) s = .next ((s.csrWrites (r.p 0).toNat (r.params.drop 2) 0).1.commit r 0x0011 .owner stOk false
      [w32 (s.csrWrites (r.p 0).toNat (r.params.drop 2) 0).2]) := by
  change execCsrWrite r s = _
  rw [execCsrWrite, State.serveCmd_of_takes_of_ok h (res_of_goodRange hr)]

/-- Settles O1: each clause is the equation of its command. -/
theorem registerCommandsAnswer : Obligations.RegisterCommandsAnswer := by
  unfold Obligations.RegisterCommandsAnswer
  exact ⟨fun s r => exec_idGet_of_takes, fun s r => exec_ping_of_takes, fun s r => exec_csrRead_of_takes,
    fun s r => exec_csrWrite_of_takes⟩

end Sys2Proof.Machine
end

section
/-! SUPPORT. What a warm reset leaves as it is (18 R442, R443): flushing the ledgers changes nothing but the memory, the log and what the
host sees, and holding the domains keeps what R442 names. They settle O60. -/
namespace Sys2Proof.Machine

/-! ### Flushing the ledgers (07 R150, R153, R155) -/

/-- `s` differs from `k` in the deep memory, the log, the endpoint and what has been sent alone. -/
def OnlyMemory (k s : State) : Prop :=
  ∃ mem log host out, s = { k with mem := mem, lk := { k.lk with log := log }, host := host, out := out }

section Flush
variable {k s t : State}

theorem OnlyMemory.refl (s : State) : OnlyMemory s s := ⟨_, _, _, _, rfl⟩

theorem OnlyMemory.trans (h : OnlyMemory k s) (g : OnlyMemory s t) : OnlyMemory k t := by
  obtain ⟨_, _, _, _, rfl⟩ := h
  obtain ⟨_, _, _, _, rfl⟩ := g
  exact ⟨_, _, _, _, rfl⟩

theorem OnlyMemory.modCtl (h : OnlyMemory k s) (m : Nat) (f : MemCtl → MemCtl) : OnlyMemory k (s.modCtl m f) :=
  h.trans ⟨_, _, _, _, rfl⟩

theorem OnlyMemory.putStored (h : OnlyMemory k s) (m page : Nat) (l : List (Nat × Stored)) : OnlyMemory k (s.putStored m page l) :=
  h.trans ⟨_, _, _, _, rfl⟩

theorem OnlyMemory.correct (h : OnlyMemory k s) (m n : Nat) : OnlyMemory k (s.correct m n) := h.modCtl m _

theorem OnlyMemory.log (h : OnlyMemory k s) (code : Nat) (int fault : Bool) (p0 p1 p2 : W32) :
    OnlyMemory k (s.log code int fault p0 p1 p2) :=
  h.trans ⟨_, _, _, _, s.log_frame code int fault p0 p1 p2⟩

theorem OnlyMemory.memEvt (h : OnlyMemory k s) (m i : Nat) : OnlyMemory k (s.memEvt m i) := by
  refine OnlyMemory.modCtl ?_ m _
  rcases s.evtAssert_cases 4 (s.ctlAt m).evt (s.ctlAt m).evtEn ((s.ctlAt m).evt ||| (1#8 <<< i)) (s.ctlAt m).evtEn with e | e <;>
    rw [e]
  · exact h
  · exact h.trans ⟨_, _, _, _, s.raiseVec_frame ..⟩

theorem OnlyMemory.foldl {α : Type} {f : State → α → State} (hf : ∀ u a, OnlyMemory k u → OnlyMemory k (f u a)) (l : List α)
    (h : OnlyMemory k s) : OnlyMemory k (l.foldl f s) := by
  induction l generalizing s with
  | nil => exact h
  | cons a l ih => exact ih (hf s a h)

theorem OnlyMemory.ite {c : Prop} [Decidable c] (h : OnlyMemory k s) (g : OnlyMemory k t) : OnlyMemory k (if c then s else t) := by
  split <;> assumption

theorem OnlyMemory.ledgerLost (h : OnlyMemory k s) (m page : Nat) : OnlyMemory k (s.ledgerLost m page) :=
  ((((h.log ..).memEvt m 7).putStored ..).correct ..).modCtl ..

theorem OnlyMemory.ledgerRead (h : OnlyMemory k s) (m page : Nat) : OnlyMemory k (s.ledgerRead m page).1 := by
  unfold State.ledgerRead
  split
  · exact h
  · split
    · exact h.ledgerLost m page
    · exact (h.correct ..).modCtl ..

theorem OnlyMemory.poisonDelivered (h : OnlyMemory k s) (m req : Nat) (l : List Nat) : OnlyMemory k (s.poisonDelivered m req l) := by
  unfold State.poisonDelivered
  split
  · exact h
  · refine OnlyMemory.memEvt ?_ m 2
    split
    · exact (h.modCtl ..).log ..
    · exact h.modCtl ..

theorem OnlyMemory.endPath (h : OnlyMemory k s) (m page : Nat) : OnlyMemory k (s.endPath m page) := by
  have hread := ((h.ledgerRead m page).correct m (singleFixes 0 ((s.ledgerRead m page).1.pageRead m page)).length).modCtl m fun c =>
    { c.dropEntry page with path := none }
  simp only [State.endPath]
  split
  · exact (((hread.putStored ..).modCtl ..).log ..).memEvt ..
  · have hfail (out : List (Nat × Stored)) (p : W32) := (((hread.putStored m page out).modCtl m fun c =>
      { c with failCnt := satInc c.failCnt }).log 0x0602 true false (w32 m) (w32 page) p).memEvt m 1
    exact .ite ((hfail ..).poisonDelivered ..) (hfail ..)

theorem OnlyMemory.endRunning (h : OnlyMemory k s) (m : Nat) : OnlyMemory k (s.endRunning m) := by
  unfold State.endRunning
  split
  · exact h.endPath ..
  · exact h

theorem OnlyMemory.flushEntry (h : OnlyMemory k s) (m : Nat) (e : Ledger) : OnlyMemory k (s.flushEntry m e false) := by
  have hread := h.ledgerRead m e.page
  simp only [State.flushEntry, Bool.false_eq_true, if_false]
  split
  · rename_i hx
    rwa [hx] at hread
  · rename_i hx
    rw [hx] at hread
    split
    · exact hread.modCtl ..
    · exact ((hread.correct ..).putStored ..).modCtl ..

theorem OnlyMemory.flushAll (h : OnlyMemory k s) (m : Nat) : OnlyMemory k (s.flushAll m) :=
  .foldl (fun _ e hu => (hu.flushEntry m e).endRunning m) _ (h.endRunning m)

end Flush

/-! ### Holding the domains (18 R442) -/

variable {s : State}

/-- The pins are shown as events alone. -/
theorem State.showPins_frame (s : State) : ∃ out, s.showPins = { s with out := out } := by
  unfold State.showPins
  generalize List.range 20 = l
  induction l generalizing s with
  | nil => exact ⟨_, rfl⟩
  | cons b l ih =>
    rw [List.foldl_cons]
    dsimp only
    split
    · exact ih s
    · exact ih (s.emit _)

theorem State.pinsReleased_frame (s : State) :
    ∃ out, s.pinsReleased = { s with fab := { s.fab with outFree := false }, out := out } :=
  State.showPins_frame _

/-- What the held state keeps of each part. -/
theorem State.warmHeld_parts (s : State) : s.warmHeld.win = s.win.warm ∧ s.warmHeld.spl = s.spl.warm ∧
    s.warmHeld.vert.chans = s.vert.chans ∧ s.warmHeld.sec = s.sec.warm ∧ s.warmHeld.img = s.img.warm ∧
    s.warmHeld.lk = s.lk.warm s.img.warm.pend ∧ s.warmHeld.pwr = s.pwr.warm ∧ s.warmHeld.clk = s.clk.warm ∧
    s.warmHeld.thm = s.thm.warm ∧ s.warmHeld.rst.resetN = s.rst.resetN := by
  obtain ⟨out, hpins⟩ := s.pinsReleased_frame
  simp only [State.warmHeld, hpins, and_self]

theorem State.setOwner_frame (s : State) (new cause : Nat) : s.setOwner new cause = { s with
    lk := (s.setOwner new cause).lk
    host := (s.setOwner new cause).host
    out := (s.setOwner new cause).out } := by
  simp only [State.setOwner]
  split
  · rfl
  · rw [State.log_frame]
    rfl

/-- The state whose domains are held when step 2 of a warm reset ends: the ledgers are flushed, and nobody owns the device. -/
def State.flushedUnowned (s : State) : State :=
  (((List.range 40).filter fun m => !([] : List Nat).contains m && decide ((s.ctlAt m).pstate = .run)).foldl
    (fun (s : State) m => s.flushAll m) s).setOwner 0 4

theorem State.flushedUnowned_frame (s : State) : ∃ mem lk host out, lk.owner = 0 ∧
    s.flushedUnowned = { s with mem := mem, lk := lk, host := host, out := out } := by
  obtain ⟨mem, log, host, out, hflush⟩ := OnlyMemory.foldl (fun _ m hu => hu.flushAll m)
    ((List.range 40).filter fun m => !([] : List Nat).contains m && decide ((s.ctlAt m).pstate = .run)) (.refl s)
  refine ⟨mem, s.flushedUnowned.lk, s.flushedUnowned.host, s.flushedUnowned.out,
    BitVec.eq_of_toNat_eq (State.setOwner_owner (by decide)), ?_⟩
  rw [State.flushedUnowned, hflush]
  exact State.setOwner_frame ..

theorem State.quiesced_of_resetN {s : State} (h : s.rst.resetN = true) : s.quiesced [] = s.flushedUnowned.warmHeld := by
  obtain ⟨mem, lk, host, out, -, hframe⟩ := s.flushedUnowned_frame
  obtain ⟨-, -, -, -, -, -, -, -, -, hreset⟩ := s.flushedUnowned.warmHeld_parts
  have hlow : s.flushedUnowned.warmHeld.rst.resetN = true := by rw [hreset, hframe, h]
  simp only [State.quiesced, List.foldl_nil, ← State.flushedUnowned.eq_1]
  rw [if_pos hlow]

/-- Settles O60: what the held state holds is the choice of R442, part by part, of parts that the flush has not changed. -/
theorem aWarmResetKeepsAndClears : Obligations.AWarmResetKeepsAndClears := by
  unfold Obligations.AWarmResetKeepsAndClears
  intro s hst hlow
  obtain ⟨mem, lk, host, out, howner, hframe⟩ := s.flushedUnowned_frame
  obtain ⟨hwin, hspl, hvert, hsec, himg, hlk, hpwr, hclk, hthm, -⟩ := s.flushedUnowned.warmHeld_parts
  refine ⟨s.flushedUnowned.warmHeld, (congrArg _ (if_pos hst)).trans (congrArg _ (State.quiesced_of_resetN hlow)), rfl, ?_⟩
  rw [hwin, hspl, hvert, hsec, himg, hlk, hpwr, hclk, hthm, hframe]
  exact ⟨rfl, howner, rfl, rfl, rfl, rfl, rfl, rfl, rfl, rfl, rfl, rfl, rfl, rfl, rfl, rfl, rfl, rfl, rfl, rfl, rfl, rfl, rfl, rfl,
    rfl, rfl, rfl⟩

end Sys2Proof.Machine
end

section
/-! SUPPORT. What the Lockkeeper's own events do, one equation for each case: boot, mismatches and traps, the log area, the hardware
responder, the lease and the control ring (13 R315, R317 to R320, R324, R331, R333, R336 to R338). They settle O42. -/
namespace Sys2Proof.Machine

variable {s : State} {r : Req} {p : Port}

/-! ### Boot and restarts (13 R315, R318 to R320) -/

theorem exec_lockkeeperInService_of_out (h : s.lk.inService = false) (hst : s.rst.st ≠ .dead) :
    exec .lockkeeperInService s = .next ((s.fwBoot.modLk fun k => { k with inService := true }).postDeferred).startUp :=
  congrArg Host.Outcome.next (if_neg (by simp [h, hst]))

theorem exec_lockkeeperInService_of_done (h : s.lk.inService = true ∨ s.rst.st = .dead) : exec .lockkeeperInService s = .next s :=
  congrArg Host.Outcome.next (if_pos h)

section InService
variable (hin : s.lk.inService = true)
include hin

/-- A mismatch, with `l` the times of those within the last second, this one included. -/
theorem exec_lockstepMismatch_of_inService {l : List Nat}
    (hl : l = (s.lk.mismatches.filter fun t => decide (1000 * s.lk.seconds.toNat + s.lk.ms < t + 1000)) ++
      [1000 * s.lk.seconds.toNat + s.lk.ms]) :
    exec .lockstepMismatch s = .next (if 3 ≤ l.length then s.fullRestart 0
      else (s.modLk fun k => { k with mismatches := l }).log 0x0001 false false (w32 l.length) 0 0) := by
  subst hl
  exact congrArg Host.Outcome.next (if_neg (by simp [hin]))

theorem exec_fetchTrap_of_inService (lo hi : W32) (data : Bool) :
    exec (.fetchTrap lo hi data) s = .next (if data then s.fullRestart 1 else s.log 0x0003 false false lo hi 0) :=
  congrArg Host.Outcome.next (if_neg (by simp [hin]))

/-! ### The log area and the time between commands (13 R317, R324) -/

theorem exec_logHeadgateWrite_of_rails (hrails : s.pwr.railsGood = true) :
    exec .logHeadgateWrite s = .next (s.modLk fun k => { k with log := k.log.writeBlock }).logSuppressed :=
  congrArg Host.Outcome.next (if_pos ⟨hin, hrails⟩)

theorem exec_housekeeping_of_inService : exec .housekeeping s = .next s.memCut.logSuppressed :=
  congrArg Host.Outcome.next (if_pos hin)

/-! ### Requests that are no command (13 R336) -/

theorem exec_badOpcode_of_badLength (opcode : BitVec 16) (hlen : r.badLength = true) :
    exec (.badOpcode opcode r) s = .next (s.memCut.notCommand r stBadLength) := by
  change execBadOpcode opcode r s = _
  simp only [execBadOpcode, hin, hlen, Bool.not_true, Bool.false_eq_true, if_false, if_true]

theorem exec_badOpcode_of_unknown {opcode : BitVec 16} (hlen : r.badLength = false) (hop : opcodes.contains opcode.toNat = false) :
    exec (.badOpcode opcode r) s = .next (s.memCut.notCommand r stBadOpcode) := by
  change execBadOpcode opcode r s = _
  simp only [execBadOpcode, hin, hlen, hop, Bool.not_true, Bool.false_eq_true, if_false]

end InService

theorem exec_logHeadgateWrite_of_noRails (hrails : s.pwr.railsGood = false) : exec .logHeadgateWrite s = .next s :=
  congrArg Host.Outcome.next (if_neg (by simp [hrails]))

/-- Out of service the Lockkeeper's own events wait, and the hardware responder answers. -/
theorem outOfService_waits (h : s.lk.inService = false) (lo hi : W32) (data : Bool) (opcode : BitVec 16) (r : Req) :
    exec .lockstepMismatch s = .next s ∧ exec (.fetchTrap lo hi data) s = .next s ∧ exec .logHeadgateWrite s = .next s ∧
    exec .housekeeping s = .next s ∧ exec (.badOpcode opcode r) s = .next (s.hwBusy r.port r.link r.tag) := by
  have hout : (!s.lk.inService) = true := by simp [h]
  have hnot : ¬ s.lk.inService = true := by simp [h]
  exact ⟨congrArg _ (if_pos hout), congrArg _ (if_pos hout), congrArg _ (if_neg fun hand => hnot hand.1), congrArg _ (if_neg hnot),
    congrArg _ (if_pos hout)⟩

/-! ### The hardware responder (13 R338) -/

theorem exec_hwResponderCutoff_of_memOp {o : MemOp}
    (h : s.lk.memOps.find? (fun o => o.req.port = p && !o.accepted && !o.mute) = some o) :
    exec (.hwResponderCutoff p) s = .next (if o.write then s.memCut
      else (s.modLk fun k => { k with memOps := k.memOps.filter fun x => x.id ≠ o.id }).hwBusy p o.req.link o.req.tag) := by
  change execHwResponderCutoff p s = _
  rw [execHwResponderCutoff, h]

section NoMemOp
variable (hmem : s.lk.memOps.find? (fun o => o.req.port = p && !o.accepted && !o.mute) = none)
include hmem

theorem exec_hwResponderCutoff_of_sluice {n : Nat} (h : s.sluiceWaiting p = some (n, r)) :
    exec (.hwResponderCutoff p) s =
      .next ((s.modSlc n fun x => { x with waiter := none, closing := false, req := x.st }).hwBusy p r.link r.tag) := by
  change execHwResponderCutoff p s = _
  simp only [execHwResponderCutoff, hmem, h]

theorem exec_hwResponderCutoff_of_held {ws : List W32} (h : s.sluiceWaiting p = none) (hheld : (s.lk.port p).held = some ws) :
    exec (.hwResponderCutoff p) s = .next (s.hwBusy p (s.lk.port p).link (ws.getD 1 0)) := by
  change execHwResponderCutoff p s = _
  simp only [execHwResponderCutoff, hmem, h, hheld]

theorem exec_hwResponderCutoff_of_idle (h : s.sluiceWaiting p = none) (hheld : (s.lk.port p).held = none) :
    exec (.hwResponderCutoff p) s = .next s := by
  change execHwResponderCutoff p s = _
  simp only [execHwResponderCutoff, hmem, h, hheld]

end NoMemOp

/-! ### The lease and the control ring (13 R331, R333) -/

theorem State.expireLease_owner (s : State) : s.expireLease.lk.owner = 0 := by
  unfold State.expireLease
  split
  · assumption
  · exact BitVec.eq_of_toNat_eq (State.setOwner_owner (by decide))

theorem exec_controlRingSegmentFail_of_ring {v : VChan} (hp : v.present = true) (hring : v.ring = true) :
    exec (.controlRingSegmentFail v) s = .next ((s.modLk fun x =>
      { x with ringFailed := if x.ringFailed.contains (vP0 v 0).toNat then x.ringFailed
          else x.ringFailed ++ [(vP0 v 0).toNat] }).vFail v) :=
  congrArg Host.Outcome.next (if_neg (by simp [hp, hring]))

theorem exec_controlRingSegmentFail_of_other {v : VChan} (h : v.present = false ∨ v.ring = false) :
    exec (.controlRingSegmentFail v) s = .next s :=
  congrArg Host.Outcome.next (if_pos (by simpa using h))

/-! ### The obligation -/

/-- Settles O42: each row is the equation of its case. -/
theorem lockkeeperEventsAct : Obligations.LockkeeperEventsAct := by
  unfold Obligations.LockkeeperEventsAct
  refine ⟨fun s => ⟨exec_lockkeeperInService_of_out, exec_lockkeeperInService_of_done⟩, ?inService,
    fun s lo hi data opcode r h => outOfService_waits h lo hi data opcode r, ?responder, fun s => ⟨rfl, s.expireLease_owner⟩,
    fun s v => ⟨exec_controlRingSegmentFail_of_ring, exec_controlRingSegmentFail_of_other⟩⟩
  case inService =>
    intro s l hin hl
    have hmismatch := exec_lockstepMismatch_of_inService hin hl
    exact ⟨fun hlen => by rw [hmismatch, if_neg (by omega)], fun hlen => by rw [hmismatch, if_pos hlen],
      fun lo hi => ⟨exec_fetchTrap_of_inService hin lo hi false, exec_fetchTrap_of_inService hin lo hi true⟩,
      exec_logHeadgateWrite_of_rails hin, exec_logHeadgateWrite_of_noRails, exec_housekeeping_of_inService hin,
      fun opcode r => ⟨exec_badOpcode_of_badLength hin opcode, exec_badOpcode_of_unknown hin⟩⟩
  case responder =>
    intro s p
    exact ⟨fun o => exec_hwResponderCutoff_of_memOp, fun hmem => ⟨fun n r => exec_hwResponderCutoff_of_sluice hmem,
      fun ws => exec_hwResponderCutoff_of_held hmem, exec_hwResponderCutoff_of_idle hmem⟩⟩

end Sys2Proof.Machine
end

section
/-! SUPPORT. What the sensor block does with a sample, the end of an orderly stop and a hard trip, one equation for each case (13 R321,
17 R428 to R435). They settle O45. -/
namespace Sys2Proof.Machine

variable {s u : State}

/-! ### The sample (13 R321, 17 R434) -/

theorem exec_sensorSample_of_alive {o : SensorObs} (h : s.rst.st ≠ .dead)
    (hu : u = ((((s.tickMs.sampleDiodes o.diodes).sampleHot.sampleTarget.sampleMon o.mv).railWatch.sampleRest o).orderlyStop).bistSample) :
    exec (.sensorSample o) s = .next (if u.pwr.dev = .thermal ∧ u.thm.hot ≠ 7 ∧
      u.thm.hotT.toInt ≤ 16 * ((u.thm.start.toNat : Int) - 10) then u.wakeBy 4 none else u) := by
  subst hu
  exact congrArg Host.Outcome.next (if_neg h)

theorem exec_sensorSample_of_dead {o : SensorObs} (h : s.rst.st = .dead) : exec (.sensorSample o) s = .next s :=
  congrArg Host.Outcome.next (if_pos h)

/-! ### The end of an orderly stop (17 R433) -/

theorem exec_orderlyStopTimeout_of_none (h : s.thm.stopping = false) : exec .orderlyStopTimeout s = .next s :=
  congrArg Host.Outcome.next (if_pos (by simp [h]))

section Stopping
variable (h : s.thm.stopping = true) (hu : u = s.modThm fun t => { t with stopMs := max t.stopMs 5 })
include h hu

/-- What the end of an orderly stop does in each state of the window. -/
theorem exec_orderlyStopTimeout_of_stopping : exec .orderlyStopTimeout s = .next (match s.win.st with
    | .running => if (u.clockStop stopThermal).fab.clockStop.contains stopThermal then (u.clockStop stopThermal).thermalStop true
      else u.clockStop stopThermal
    | .starting => u.thermalStop true
    | .boundary => u.dropThermalCap.boundaryGoOn
    | _ => if s.idleWindow then u.thermalStop false else u.thermalStop true) := by
  subst hu
  exact congrArg Host.Outcome.next (if_neg (by simp [h]))

theorem exec_orderlyStopTimeout_of_running (hst : s.win.st = .running) :
    exec .orderlyStopTimeout s = .next (if (u.clockStop stopThermal).fab.clockStop.contains stopThermal then
      (u.clockStop stopThermal).thermalStop true else u.clockStop stopThermal) := by
  rw [exec_orderlyStopTimeout_of_stopping h hu, hst]

theorem exec_orderlyStopTimeout_of_boundary (hst : s.win.st = .boundary) :
    exec .orderlyStopTimeout s = .next u.dropThermalCap.boundaryGoOn := by
  rw [exec_orderlyStopTimeout_of_stopping h hu, hst]

theorem exec_orderlyStopTimeout_of_idle
    (hst : s.win.st = .held ∨ s.win.st = .notReleased ∨ (s.win.st = .ready ∧ s.win.edgeAccepted = false)) :
    exec .orderlyStopTimeout s = .next (u.thermalStop false) := by
  rw [exec_orderlyStopTimeout_of_stopping h hu, State.idleWindow]
  rcases hst with hst | hst | ⟨hst, hedge⟩
  · simp only [hst, if_true]
  · simp only [hst, if_true]
  · simp only [hst, hedge, Bool.not_false, if_true]

theorem exec_orderlyStopTimeout_of_starting
    (hst : s.win.st = .starting ∨ (s.win.st = .ready ∧ s.win.edgeAccepted = true)) :
    exec .orderlyStopTimeout s = .next (u.thermalStop true) := by
  rw [exec_orderlyStopTimeout_of_stopping h hu, State.idleWindow]
  rcases hst with hst | ⟨hst, hedge⟩
  · simp only [hst]
  · simp only [hst, hedge, Bool.not_true, Bool.false_eq_true, if_false]

end Stopping

/-! ### The hard trip (17 R435) -/

theorem exec_hardTrip_of_tripped {d : BitVec 6} (hd : d ≠ 0) (hst : s.rst.st ≠ .dead)
    (hu : u = s.dropThermalCap.modThm fun t => { t with stopping := false, shdn := true, tripped := t.tripped ||| d }) :
    exec (.hardTrip d) s = .next (if s.thm.shdn then u else (u.takeStop stopTrip).showPins.emit .thermShdn) := by
  subst hu
  exact congrArg Host.Outcome.next (if_neg (not_or.2 ⟨hd, hst⟩))

theorem exec_hardTrip_of_none {d : BitVec 6} (h : d = 0 ∨ s.rst.st = .dead) : exec (.hardTrip d) s = .next s :=
  congrArg Host.Outcome.next (if_pos h)

/-! ### The obligation -/

/-- Settles O45: each row is the equation of its case. -/
theorem thermalEventsAct : Obligations.ThermalEventsAct := by
  unfold Obligations.ThermalEventsAct
  refine ⟨fun s o u => exec_sensorSample_of_alive, fun s o => exec_sensorSample_of_dead,
    fun s u hu => ⟨exec_orderlyStopTimeout_of_none, fun h => ⟨exec_orderlyStopTimeout_of_running h hu,
      exec_orderlyStopTimeout_of_boundary h hu, exec_orderlyStopTimeout_of_idle h hu, exec_orderlyStopTimeout_of_starting h hu⟩⟩,
    ?trip, fun s d => exec_hardTrip_of_none⟩
  case trip =>
    intro s u d hd hst hu
    have htrip := exec_hardTrip_of_tripped hd hst hu
    exact ⟨fun h => by rw [htrip, if_neg (by simp [h])], fun h => by rw [htrip, if_pos h]⟩

end Sys2Proof.Machine
end

section
/-! SUPPORT. Which diode the sample takes for the governing temperature (17 R430, R431). They settle O57. -/
namespace Sys2Proof.Machine

variable {s : State}

/-- The hottest valid diode so far, `a`, and one more diode. -/
def State.hotter (s : State) (a : Option Nat) (d : Nat) : Option Nat :=
  if !(s.diodeAt d).valid then a
  else match a with
    | none => some d
    | some b => if (s.diodeAt b).t.toInt < (s.diodeAt d).t.toInt then some d else a

/-- The hottest valid diode of a list. -/
def State.hottest (s : State) (l : List Nat) : Option Nat := l.foldl s.hotter none

/-- What makes a diode the hottest valid one of a list, or none. -/
def State.IsHottest (s : State) (l : List Nat) : Option Nat → Prop
  | none => ∀ d ∈ l, (s.diodeAt d).valid = false
  | some b => b ∈ l ∧ (s.diodeAt b).valid = true ∧
      ∀ d ∈ l, (s.diodeAt d).valid = true → (s.diodeAt d).t.toInt ≤ (s.diodeAt b).t.toInt

theorem State.isHottest_hotter {l : List Nat} {a : Option Nat} (h : s.IsHottest l a) (d : Nat) :
    s.IsHottest (l ++ [d]) (s.hotter a d) := by
  have hlast : d ∈ l ++ [d] := List.mem_append_right _ (List.mem_singleton.2 rfl)
  cases hd : (s.diodeAt d).valid with
  | false =>
    simp only [State.hotter, hd, Bool.not_false, if_true]
    cases a with
    | none => exact List.forall_mem_append.2 ⟨h, List.forall_mem_singleton.2 hd⟩
    | some b =>
      obtain ⟨hmem, hvalid, hmax⟩ := h
      exact ⟨List.mem_append_left _ hmem, hvalid,
        List.forall_mem_append.2 ⟨hmax, List.forall_mem_singleton.2 fun hev => absurd hev (by simp [hd])⟩⟩
  | true =>
    simp only [State.hotter, hd, Bool.not_true, Bool.false_eq_true, if_false]
    cases a with
    | none => exact ⟨hlast, hd,
        List.forall_mem_append.2 ⟨fun e he hev => absurd hev (by simp [h e he]), List.forall_mem_singleton.2 fun _ => le_rfl⟩⟩
    | some b =>
      obtain ⟨hmem, hvalid, hmax⟩ := h
      dsimp only
      split
      next hlt => exact ⟨hlast, hd, List.forall_mem_append.2
        ⟨fun e he hev => (hmax e he hev).trans hlt.le, List.forall_mem_singleton.2 fun _ => le_rfl⟩⟩
      next hle => exact ⟨List.mem_append_left _ hmem, hvalid,
        List.forall_mem_append.2 ⟨hmax, List.forall_mem_singleton.2 fun _ => not_lt.1 hle⟩⟩

theorem State.isHottest_hottest (s : State) (l : List Nat) : s.IsHottest l (s.hottest l) := by
  induction l using List.reverseRecOn with
  | nil => exact fun d hd => absurd hd List.not_mem_nil
  | append_singleton l d ih =>
    rw [State.hottest, List.foldl_append]
    exact State.isHottest_hotter ih d

/-! ### The sample (17 R430, R431) -/

theorem State.sampleHot_of_some {b : Nat} (h : s.hottest (List.range 6) = some b) :
    s.sampleHot = s.modThm fun t => { t with hot := BitVec.ofNat 3 b, hotT := (s.diodeAt b).t } := by
  have heq : s.sampleHot = match s.hottest (List.range 6) with
    | some d => s.modThm fun t => { t with hot := BitVec.ofNat 3 d, hotT := (s.diodeAt d).t }
    | none => s.freshen.modThm fun t =>
      { t with hot := 7, hotT := BitVec.ofNat 16 (Config.freeWord s.freshen.fresh 0).toNat } := rfl
  rw [heq, h]

theorem State.sampleHot_of_none (h : s.hottest (List.range 6) = none) : s.sampleHot = s.freshen.modThm fun t =>
    { t with hot := 7, hotT := BitVec.ofNat 16 (Config.freeWord s.freshen.fresh 0).toNat } := by
  have heq : s.sampleHot = match s.hottest (List.range 6) with
    | some d => s.modThm fun t => { t with hot := BitVec.ofNat 3 d, hotT := (s.diodeAt d).t }
    | none => s.freshen.modThm fun t =>
      { t with hot := 7, hotT := BitVec.ofNat 16 (Config.freeWord s.freshen.fresh 0).toNat } := rfl
  rw [heq, h]

/-- With a valid diode the hottest one governs. -/
theorem State.sampleHot_governs {d : Nat} (hd : d < 6) (hvalid : (s.diodeAt d).valid = true) :
    s.sampleHot.thm.hot.toNat < 6 ∧ (s.diodeAt s.sampleHot.thm.hot.toNat).valid = true ∧
    s.sampleHot.thm.hotT = (s.diodeAt s.sampleHot.thm.hot.toNat).t ∧ (s.diodeAt d).t.toInt ≤ s.sampleHot.thm.hotT.toInt := by
  have hmem := List.mem_range.2 hd
  have hbest := s.isHottest_hottest (List.range 6)
  cases hb : s.hottest (List.range 6) with
  | none =>
    rw [hb] at hbest
    rw [hbest d hmem] at hvalid
    cases hvalid
  | some b =>
    rw [hb] at hbest
    obtain ⟨hbmem, hbvalid, hmax⟩ := hbest
    have hb6 := List.mem_range.1 hbmem
    have hhot : (BitVec.ofNat 3 b).toNat = b := by
      rw [BitVec.toNat_ofNat]
      omega
    rw [State.sampleHot_of_some hb]
    simp only [State.modThm_thm, hhot]
    exact ⟨hb6, hbvalid, trivial, hmax d hmem hvalid⟩

theorem State.hottest_of_noneValid {l : List Nat} (h : ∀ d ∈ l, (s.diodeAt d).valid = false) : s.hottest l = none := by
  have hbest := s.isHottest_hottest l
  cases hb : s.hottest l with
  | none => rfl
  | some b =>
    rw [hb] at hbest
    obtain ⟨hmem, hvalid, -⟩ := hbest
    rw [h b hmem] at hvalid
    cases hvalid

theorem State.sampleTarget_thm (s : State) : s.sampleTarget.thm.target = BitVec.ofNat 6 (
      if !(s.diodeAt 3).valid && !(s.diodeAt 4).valid then
        max 25 (if s.thm.hot = 7 then 0 else targetOf s.thm.start.toNat s.thm.hotT.toInt)
      else if s.thm.hot = 7 then 0 else targetOf s.thm.start.toNat s.thm.hotT.toInt) ∧
    s.sampleTarget.thm.fixed = (!(s.diodeAt 3).valid && !(s.diodeAt 4).valid) := by
  simp only [State.sampleTarget]
  split
  · simp [State.thmEvt]
  · exact ⟨rfl, rfl⟩

/-- With no valid diode none governs, and the throttle is fixed at 25 percent. -/
theorem State.sampleTarget_of_noneValid (h : ∀ d, d < 6 → (s.diodeAt d).valid = false) :
    s.sampleHot.thm.hot = 7 ∧ s.sampleHot.sampleTarget.thm.target = 25 ∧ s.sampleHot.sampleTarget.thm.fixed = true := by
  have hnone := State.sampleHot_of_none (State.hottest_of_noneValid fun d hd => h d (List.mem_range.1 hd))
  have hdiode (d : Nat) : s.sampleHot.diodeAt d = s.diodeAt d := by
    rw [hnone]
    rfl
  have hhot : s.sampleHot.thm.hot = 7 := by rw [hnone]; rfl
  obtain ⟨htarget, hfixed⟩ := s.sampleHot.sampleTarget_thm
  rw [htarget, hfixed, hdiode, hdiode, h 3 (by decide), h 4 (by decide), hhot]
  exact ⟨rfl, rfl, rfl⟩

/-- Settles O57: the fold over the diodes finds the hottest valid one, or none. -/
theorem theGoverningTemperatureIsTheHighestValid : Obligations.TheGoverningTemperatureIsTheHighestValid := by
  unfold Obligations.TheGoverningTemperatureIsTheHighestValid
  exact ⟨fun s d => State.sampleHot_governs, fun s => State.sampleTarget_of_noneValid, fun s h => if_pos (.inl h)⟩

end Sys2Proof.Machine
end

section
/-! SUPPORT. What the power commands reply once the Lockkeeper takes them, and what follows the reply (14 R358, 17 R413, R415, R420, R422,
R425, R431, R434). They settle O6. -/
namespace Sys2Proof.Machine

variable {s : State} {r : Req}

theorem exec_pwrStatus_of_takes (h : s.takes r .anyone (r.length = 2)) :
    exec (.pwrStatus r) s = .next (s.commit r 0x0400 .anyone stOk false
      (((List.range 64).map fun d => w32 (s.domCode d)) ++ [s.wakeWord])) := by
  change execPwrStatus r s = _
  rw [execPwrStatus, State.serveCmd_of_takes_of_ok h rfl]

/-! ### Domains (17 R413, R415, R425) -/

section DomainSet
variable {d : Nat} {st : PState} (hd : d = (r.p 0).toNat) (hst : st = pstateOf (r.p 1).toNat) (h : s.takes r .owner (r.length = 4))
  (hroom : s.room r) (hdom : only (r.p 0) 6 = true) (hstate : only (r.p 1) 2 = true) (hgood : s.domSetBad d st = false)
  (hfree : s.domTaken d = false) (hdev : s.pwr.dev ≠ .entering)
include hd hst h hdom hstate hgood hfree hdev

/-- A DOMAIN_SET with good parameters, of a domain that no change is asked of. -/
theorem exec_domainSet_of_takes : exec (.domainSet r) s = .next (s.serveCmd r 0x0401 .owner (r.length = 4) fun s =>
    if s.domSaved d then .accept (s.modDom d fun x => { x with before := some st, waking := some (r.origin 0x0401) })
    else if s.domCode d = st.code then .acceptThen (s.domStays d st) (State.postRecord (r.origin 0x0401) stOk [w32 st.code])
    else .acceptThen s (State.domAsk d st (r.origin 0x0401))) := by
  subst hd hst
  have hparams : ¬ (!only (r.p 0) 6 ∨ !only (r.p 1) 2 ∨ s.domSetBad (r.p 0).toNat (pstateOf (r.p 1).toNat)) := by
    simp [hdom, hstate, hgood]
  have hidle : ¬ (s.domTaken (r.p 0).toNat ∨ s.pwr.dev = .entering) := by simp [hfree, hdev]
  change execDomainSet r s = _
  simp only [execDomainSet, State.serveCmd, serve_takes h, if_neg hparams, if_neg hidle]

include hroom

theorem exec_domainSet_of_saved (hsaved : s.domSaved d = true) : exec (.domainSet r) s = .next ((s.modDom d fun x =>
    { x with before := some st, waking := some (r.origin 0x0401) }).accepts r 0x0401 .owner) := by
  rw [exec_domainSet_of_takes hd hst h hdom hstate hgood hfree hdev, State.serveCmd_of_takes_of_accept h hroom (if_pos hsaved)]

theorem exec_domainSet_of_there (hsaved : s.domSaved d = false) (hcode : s.domCode d = st.code) :
    exec (.domainSet r) s = .next (((s.domStays d st).accepts r 0x0401 .owner).postRecord (r.origin 0x0401) stOk [w32 st.code]) := by
  rw [exec_domainSet_of_takes hd hst h hdom hstate hgood hfree hdev,
    State.serveCmd_of_takes_of_acceptThen h hroom ((if_neg (by simp [hsaved])).trans (if_pos hcode))]

theorem exec_domainSet_of_asked (hsaved : s.domSaved d = false) (hcode : s.domCode d ≠ st.code) :
    exec (.domainSet r) s = .next ((s.accepts r 0x0401 .owner).domAsk d st (r.origin 0x0401)) := by
  rw [exec_domainSet_of_takes hd hst h hdom hstate hgood hfree hdev,
    State.serveCmd_of_takes_of_acceptThen h hroom ((if_neg (by simp [hsaved])).trans (if_neg hcode))]

end DomainSet

/-! ### The device (17 R420, R422, R434) -/

theorem exec_deviceSleep_of_takes (h : s.takes r .owner (r.length = 3)) (hroom : s.room r)
    (hmode : (r.p 0).toNat = 1 ∨ (r.p 0).toNat = 2) (hdev : s.pwr.dev = .run ∨ s.pwr.dev = .sleep ∨ s.pwr.dev = .deep) :
    exec (.deviceSleep r) s =
      .next ((s.accepts r 0x0402 .owner).sleepRequest (BitVec.ofNat 2 (r.p 0).toNat) (some (r.origin 0x0402))) := by
  have hgood : ¬ ((r.p 0).toNat ≠ 1 ∧ (r.p 0).toNat ≠ 2) := by omega
  have hidle : ¬ (s.pwr.dev ≠ .run ∧ s.pwr.dev ≠ .sleep ∧ s.pwr.dev ≠ .deep) := by tauto
  change execDeviceSleep r s = _
  rw [execDeviceSleep, State.serveCmd_of_takes_of_acceptThen h hroom ((if_neg hgood).trans (if_neg hidle))]

theorem exec_wakeConfig_of_takes (h : s.takes r .owner (r.length = 4)) (hp : only (r.p 0) 6 = true) :
    exec (.wakeConfig r) s = .next (((s.wakeEnable (bitsOf 6 (r.p 0))).modPwr fun p => { p with timer := r.p 1 }).commit r 0x0403
      .owner stOk false []) := by
  change execWakeConfig r s = _
  rw [execWakeConfig, State.serveCmd_of_takes_of_ok h (if_neg (by simp [hp]))]

theorem exec_wake_of_run (h : s.takes r .owner (r.length = 2)) (hdev : s.pwr.dev = .run) :
    exec (.wake r) s = .next (s.sleepWithdraw.commit r 0x0404 .owner stOk false []) := by
  change execWake r s = _
  rw [execWake, State.serveCmd_of_takes_of_ok h (if_pos hdev)]

theorem exec_wake_of_asleep (h : s.takes r .owner (r.length = 2)) (hroom : s.room r) (hdev : s.pwr.dev ≠ .run)
    (hcool : s.pwr.dev ≠ .thermal ∨ s.thm.hotStart = false) (hwake : ∀ w, s.pwr.wake = some w → w.origin = none) :
    exec (.wake r) s = .next ((s.accepts r 0x0404 .owner).wakeBy 5 (some (r.origin 0x0404))) := by
  have hnotHot : ¬ (s.pwr.dev = .thermal ∧ s.thm.hotStart = true) := by
    rcases hcool with hcool | hcool <;> simp [hcool]
  have hnone : ¬ (s.pwr.wake.bind (·.origin)).isSome = true := by
    cases hw : s.pwr.wake with
    | none => simp
    | some w => simp [hwake w hw]
  change execWake r s = _
  rw [execWake,
    State.serveCmd_of_takes_of_acceptThen h hroom ((if_neg hdev).trans ((if_neg hnotHot).trans (if_neg hnone)))]

theorem exec_thermalSet_of_takes (h : s.takes r .owner (r.length = 3)) (hmin : 70 ≤ (r.p 0).toNat) (hmax : (r.p 0).toNat ≤ 100) :
    exec (.thermalSet r) s = .next ((s.thmStart (r.p 0).toNat).commit r 0x0405 .owner stOk false []) := by
  have hgood : ¬ ((r.p 0).toNat < 70 ∨ 100 < (r.p 0).toNat) := by omega
  change execThermalSet r s = _
  rw [execThermalSet, State.serveCmd_of_takes_of_ok h (if_neg hgood)]

/-! ### The obligation -/

/-- Settles O6: each clause is the equation of its command. -/
theorem powerCommandsAnswer : Obligations.PowerCommandsAnswer := by
  unfold Obligations.PowerCommandsAnswer
  refine ⟨fun s r => exec_pwrStatus_of_takes, ?domainSet, fun s r => exec_deviceSleep_of_takes,
    fun s r => exec_wakeConfig_of_takes, fun s r => exec_wake_of_run, fun s r => exec_wake_of_asleep,
    fun s r => exec_thermalSet_of_takes⟩
  case domainSet =>
    intro s r h hroom hdom hstate hgood hfree hdev
    exact ⟨exec_domainSet_of_saved rfl rfl h hroom hdom hstate hgood hfree hdev,
      exec_domainSet_of_asked rfl rfl h hroom hdom hstate hgood hfree hdev,
      exec_domainSet_of_there rfl rfl h hroom hdom hstate hgood hfree hdev⟩

end Sys2Proof.Machine
end

section
/-! SUPPORT. What the attestation commands reply once the Lockkeeper takes them, and what a report that is done leaves (14 R366, 15 R386,
R388). They settle O12. -/
namespace Sys2Proof.Machine

variable {s : State} {r : Req}

theorem exec_attest_of_takes (h : s.takes r .anyone (r.length = 10)) (hroom : s.room r) :
    exec (.attest r) s = .next ((s.modSec fun x =>
      { x with attests := x.attests ++ [{ origin := r.origin 0x0B00, nonce := r.params }] }).accepts r 0x0B00 .anyone) :=
  congrArg Host.Outcome.next (State.serveCmd_of_takes_of_accept h hroom rfl)

theorem exec_attestReportDone_of_cons {a : Attest} {rest : List Attest} (h : s.sec.attests = a :: rest) :
    exec .attestReportDone s = .next ((s.freshen.modSec fun x => { x with
        attests := rest, reports := tset x.reports [] a.origin.port.num (s.freshen.report a) }).postRecord a.origin stOk
      [w32 (s.freshen.report a).length]) := by
  change execAttestReportDone s = _
  rw [execAttestReportDone, h]

theorem exec_attestReportDone_of_nil (h : s.sec.attests = []) : exec .attestReportDone s = .next s := by
  change execAttestReportDone s = _
  rw [execAttestReportDone, h]

theorem exec_attestGet_of_takes (h : s.takes r .anyone (r.length = 3)) (hmade : tget s.sec.reports [] r.port.num ≠ []) :
    exec (.attestGet r) s = .next (s.commit r 0x0B01 .anyone stOk false
      (((tget s.sec.reports [] r.port.num).drop (r.p 0).toNat).take 1021)) := by
  obtain ⟨w, ws, hws⟩ := List.exists_cons_of_ne_nil hmade
  change execAttestGet r s = _
  simp only [execAttestGet, State.serveCmd, serve_takes h, hws]

theorem exec_certGet_of_takes (h : s.takes r .anyone (r.length = 3)) (hoff : (r.p 0).toNat % 4 = 0) :
    exec (.certGet r) s = .next (s.commit r 0x0B02 .anyone stOk false
      (w32 s.sec.cert.length :: wordsFrom (((s.sec.cert.drop (r.p 0).toNat).take 4080).map (·.toNat)))) := by
  change execCertGet r s = _
  rw [execCertGet, State.serveCmd_of_takes_of_ok h (if_neg (not_not.2 hoff))]

/-- KEY_STATUS is served in a new epoch of free values, which stand for the hash of a slot that holds no key (log entry 139). -/
theorem exec_keyStatus_of_takes (h : s.takes r .anyone (r.length = 2)) :
    exec (.keyStatus r) s = .next (s.freshen.commit r 0x0B03 .anyone stOk false
      (((List.range 4).map fun i => w32 (s.sec.slot i).st.toNat) ++ (List.range 4).flatMap fun i => s.freshen.slotHash i)) := by
  change execKeyStatus r s = _
  rw [execKeyStatus, State.serveCmd_of_takes_of_ok (State.takes_freshen h) rfl]
  rfl

/-- Settles O12: each row is the equation of its case. -/
theorem attestationCommandsAnswer : Obligations.AttestationCommandsAnswer := by
  unfold Obligations.AttestationCommandsAnswer
  exact ⟨fun s r => exec_attest_of_takes, fun s a rest => exec_attestReportDone_of_cons, fun s => exec_attestReportDone_of_nil,
    fun s r => exec_attestGet_of_takes, fun s r => exec_certGet_of_takes, fun s r => exec_keyStatus_of_takes⟩

end Sys2Proof.Machine
end

section
/-! SUPPORT. What the key and firmware commands do once the Lockkeeper takes them, and how a firmware switch ends (14 R366, 15 R376, R377,
R384). They settle O13. -/
namespace Sys2Proof.Machine

variable {s u : State} {r : Req}

/-! ### Authorisations (15 R376, R377) -/

/-- What an authorisation leaves, by the status `st` that its checks come to: the slot written, the refusal counted, or nothing. -/
def State.authorised (s : State) (b : AuthBlock) (slot op : Nat) (k : KeySlot) (code st : Nat) : State :=
  if st = 0 then s.authAct b slot k code else if st = stSignatureFail then s.authFail b op slot else s

theorem State.serveCmd_of_takes_of_authorise {own : Own} {ok : Bool} {opcode slot op new code : Nat} {b : AuthBlock} {k : KeySlot}
    {body : State → Res} (h : s.takes r own ok) (hbody : body s = s.authorise b slot op new k code) :
    s.serveCmd r opcode own ok body =
      (s.authorised b slot op k code (s.authJudge b slot op new)).commit r opcode own (s.authJudge b slot op new) false [] := by
  rw [State.authorise] at hbody
  rw [State.authorised]
  by_cases hok : s.authJudge b slot op new = 0
  · rw [if_pos hok, hok]
    exact State.serveCmd_of_takes_of_ok h (hbody.trans (if_pos hok))
  · by_cases hsig : s.authJudge b slot op new = stSignatureFail
    · rw [if_neg hok, if_pos hsig]
      exact State.serveCmd_of_takes_of_partly h (hbody.trans ((if_neg hok).trans (if_pos hsig)))
    · rw [if_neg hok, if_neg hsig]
      exact State.serveCmd_of_takes_of_fail h (hbody.trans ((if_neg hok).trans (if_neg hsig)))

theorem exec_keyInstall_of_takes {st : Nat} (h : s.takes r .owner true) (hlen : r.length = 207) (hslot : (r.p 0).toNat ≤ 3)
    (hst : st = s.authJudge ⟨r.params.drop 97⟩ (r.p 0).toNat 1 (beWord (bytesIn ((r.params.drop 1).take 96)))) :
    exec (.keyInstall r) s = .next ((s.authorised ⟨r.params.drop 97⟩ (r.p 0).toNat 1
      { st := 1, key := beWord (bytesIn ((r.params.drop 1).take 96)) } 0x0E01 st).commit r 0x0B04 .owner st false []) := by
  have hgood : ¬ (r.length ≠ 207 ∨ 3 < (r.p 0).toNat) := by omega
  subst hst
  change execKeyInstall r s = _
  rw [execKeyInstall, State.serveCmd_of_takes_of_authorise h (if_neg hgood)]

theorem exec_keyRevoke_of_takes {st : Nat} (h : s.takes r .owner true) (hlen : r.length = 111) (hslot : (r.p 0).toNat ≤ 3)
    (hst : st = s.authJudge ⟨r.params.drop 1⟩ (r.p 0).toNat 2 0) :
    exec (.keyRevoke r) s = .next ((s.authorised ⟨r.params.drop 1⟩ (r.p 0).toNat 2 { st := 2, key := 0 } 0x0E02 st).commit r 0x0B05
      .owner st false []) := by
  have hgood : ¬ (r.length ≠ 111 ∨ 3 < (r.p 0).toNat) := by omega
  subst hst
  change execKeyRevoke r s = _
  rw [execKeyRevoke, State.serveCmd_of_takes_of_authorise h (if_neg hgood)]

theorem State.slot_modSlot {i j : Nat} (hi : i ≤ 3) (hj : j ≤ 3) (s : State) (k : KeySlot) :
    (s.modSlot i k).sec.slot j = if j = i then k else s.sec.slot j := by
  interval_cases i <;> interval_cases j <;> rfl

theorem State.authAct_sec (s : State) (b : AuthBlock) (i : Nat) (k : KeySlot) (code : Nat) : ∃ evt, (s.authAct b i k code).sec =
    { (s.modSlot i k).sec with keyCtr := (s.modSlot i k).sec.keyCtr + 1, evt := evt } := by
  simp only [State.authAct, State.secEvt, State.modSec_sec, State.evtAssert_sec, State.log_sec]
  exact ⟨_, rfl⟩

/-- An authorisation that acts writes its slot and no other, and raises KEY_CTR by one. -/
theorem State.authAct_slots {i : Nat} (hi : i ≤ 3) (b : AuthBlock) (k : KeySlot) (code : Nat) :
    (s.authAct b i k code).sec.slot i = k ∧ (s.authAct b i k code).sec.keyCtr = s.sec.keyCtr + 1 ∧
    ∀ j, j ≤ 3 → j ≠ i → (s.authAct b i k code).sec.slot j = s.sec.slot j := by
  obtain ⟨evt, hsec⟩ := s.authAct_sec b i k code
  rw [hsec]
  refine ⟨(State.slot_modSlot hi hi s k).trans (if_pos rfl), ?_, fun j hj hji => (State.slot_modSlot hi hj s k).trans (if_neg hji)⟩
  interval_cases i <;> rfl

/-! ### Firmware (15 R384) -/

theorem exec_fwChunk_of_takes (h : s.takes r .owner (decide (3 ≤ r.length))) (hoff : (r.p 0).toNat % 4 = 0)
    (hfit : (r.p 0).toNat + (bytesIn (r.params.drop 1)).length ≤ fwBankBytes) (hfree : s.sec.switching = none) :
    exec (.fwChunk r) s = .next ((s.fwWrite (~~~s.sec.fwNamed) (r.p 0).toNat (bytesIn (r.params.drop 1))).commit r 0x0B06 .owner
      stOk false []) := by
  have hgood : ¬ ((r.p 0).toNat % 4 ≠ 0 ∨ fwBankBytes < (r.p 0).toNat + (bytesIn (r.params.drop 1)).length) := by omega
  change execFwChunk r s = _
  rw [execFwChunk, State.serveCmd_of_takes_of_ok h ((if_neg hgood).trans (if_neg (by simp [hfree])))]

theorem exec_fwSwitch_of_takes (h : s.takes r .owner (r.length = 3)) (hroom : s.room r) (hlen : (r.p 0).toNat % 4 = 0)
    (hfit : (r.p 0).toNat ≤ fwBankBytes) (hfree : s.sec.switching = none) :
    exec (.fwSwitch r) s = .next ((s.modSec fun x => { x with switching := some (r.origin 0x0B07, (r.p 0).toNat) }).accepts r
      0x0B07 .owner) := by
  have hgood : ¬ ((r.p 0).toNat % 4 ≠ 0 ∨ fwBankBytes < (r.p 0).toNat) := by omega
  change execFwSwitch r s = _
  rw [execFwSwitch, State.serveCmd_of_takes_of_accept h hroom ((if_neg hgood).trans (if_neg (by simp [hfree])))]

section Switching
variable {o : Origin} {len : Nat} (h : s.sec.switching = some (o, len))
include h

theorem exec_fwVerifyComplete_of_passed (hc : s.switchCause len = none) (hu : u = s.modSec fun x =>
      { x with switching := none, fwNamed := ~~~s.sec.fwNamed, fwOk0 := x.fwOk0 || decide (~~~s.sec.fwNamed = 0),
               fwOk1 := x.fwOk1 || decide (~~~s.sec.fwNamed = 1), switched := some o }) :
    exec .fwVerifyComplete s = .next ((u.log 0x0E04 true false (w32 (~~~s.sec.fwNamed).toNat)
      (fwWord (s.sec.fw (~~~s.sec.fwNamed)) 8) 0).secEvt 2).commandRestart := by
  change execFwVerifyComplete s = _
  simp only [execFwVerifyComplete, h, hc, hu]

theorem exec_fwVerifyComplete_of_failed {c : Nat} (hc : s.switchCause len = some c)
    (hu : u = s.modSec fun x => { x with switching := none, failCnt := satInc x.failCnt }) :
    exec .fwVerifyComplete s = .next (((u.log 0x0E05 true false (w32 c) 0 0).secEvt 3).postRecord o
      (if c = 3 then stVersionRejected else stSignatureFail) []) := by
  change execFwVerifyComplete s = _
  simp only [execFwVerifyComplete, h, hc, hu]

end Switching

theorem exec_fwVerifyComplete_of_none (h : s.sec.switching = none) : exec .fwVerifyComplete s = .next s := by
  change execFwVerifyComplete s = _
  simp only [execFwVerifyComplete, h]

/-- Settles O13: each row is the equation of its case. -/
theorem keyAndFirmwareCommandsAct : Obligations.KeyAndFirmwareCommandsAct := by
  unfold Obligations.KeyAndFirmwareCommandsAct
  exact ⟨fun s r st => exec_keyInstall_of_takes, fun s r st => exec_keyRevoke_of_takes,
    fun s b i k code hi => State.authAct_slots hi b k code, fun s r => exec_fwChunk_of_takes, fun s r => exec_fwSwitch_of_takes,
    fun s u o len h => ⟨exec_fwVerifyComplete_of_passed h, fun c => exec_fwVerifyComplete_of_failed h⟩,
    fun s => exec_fwVerifyComplete_of_none⟩

end Sys2Proof.Machine
end

section
/-! SUPPORT. What the capture and debug commands reply once the Lockkeeper takes them, and what follows the reply (13 R345, 14 R369 to
R371). They settle O14. -/
namespace Sys2Proof.Machine

variable {s : State} {r : Req}

theorem exec_capture_of_takes (h : s.takes r .owner (decide (5 ≤ r.length) && r.length = 5 + (r.p 2).toNat)) (hroom : s.room r)
    (haddr : only (r.p 1) 16 = true) (hcount : (r.p 2).toNat ≤ 1019) (hlocs : (r.params.drop 3).any cstLocBad = false)
    (hdeep : s.deepRoom r.capAddr (s.captureLen (r.p 2).toNat) = true) (hfree : s.capTaken = false) :
    exec (.capture r) s = .next ((s.accepts r 0x0E00 .owner).capAsk
      { restore := false, addr := r.capAddr, cisterns := (r.params.drop 3).map cstOfLoc, origin := some (r.origin 0x0E00) }) := by
  have hgood : ¬ (!only (r.p 1) 16 ∨ 1019 < (r.p 2).toNat ∨ (r.params.drop 3).any cstLocBad ∨
      !s.deepRoom r.capAddr (s.captureLen (r.p 2).toNat)) := by
    simp only [haddr, hlocs, hdeep, Bool.not_true, Bool.false_eq_true, false_or, or_false]
    omega
  change execCapture r s = _
  rw [execCapture, State.serveCmd_of_takes_of_acceptThen h hroom ((if_neg hgood).trans (if_neg (by simp [hfree])))]

theorem exec_restore_of_takes (h : s.takes r .owner (r.length = 4)) (hroom : s.room r) (haddr : only (r.p 1) 16 = true)
    (hdeep : s.deepRoom r.capAddr (s.captureLen 0) = true) (hfree : s.capTaken = false) :
    exec (.restore r) s = .next ((s.accepts r 0x0E01 .owner).capAsk
      { restore := true, addr := r.capAddr, origin := some (r.origin 0x0E01) }) := by
  have hgood : ¬ (!only (r.p 1) 16 ∨ !s.deepRoom r.capAddr (s.captureLen 0)) := by simp [haddr, hdeep]
  change execRestore r s = _
  rw [execRestore, State.serveCmd_of_takes_of_acceptThen h hroom ((if_neg hgood).trans (if_neg (by simp [hfree])))]

/-- FRAME_READ is served in a new epoch of free values, which stand for a CRC that cannot be read. -/
theorem exec_frameRead_of_takes (h : s.takes r .anyone (r.length = 3)) (hframe : frameBad (r.p 0) = false) :
    exec (.frameRead r) s =
      .next (s.freshen.commit r 0x0E02 .anyone stOk false (s.freshen.frameWords (frameAt (r.p 0)))) := by
  change execFrameRead r s = _
  rw [execFrameRead, State.serveCmd_of_takes_of_ok (State.takes_freshen h) (if_neg (by simp [hframe]))]

theorem exec_ffRead_of_takes (h : s.takes r .anyone (r.length = 3)) (hframe : frameBad (r.p 0) = false)
    (hstrand : (r.p 0).getLsbD 0 = false) (hstill : s.windowRunning = false) :
    exec (.ffRead r) s = .next (s.commit r 0x0E03 .anyone stOk false
      ((s.hankWords (256 * (frameAt (r.p 0) / 257) + (frameAt (r.p 0) % 257 - 1))).map fun (w : Word18) => w32 w.toNat)) := by
  have hgood : ¬ (frameBad (r.p 0) ∨ (r.p 0).getLsbD 0) := by simp only [hframe, hstrand]; decide
  change execFfRead r s = _
  rw [execFfRead, State.serveCmd_of_takes_of_ok h ((if_neg hgood).trans (if_neg (by simp [hstill])))]

/-- Settles O14: each clause is the equation of its command. -/
theorem captureCommandsAnswer : Obligations.CaptureCommandsAnswer := by
  unfold Obligations.CaptureCommandsAnswer
  exact ⟨fun s r => exec_capture_of_takes, fun s r => exec_restore_of_takes, fun s r => exec_frameRead_of_takes,
    fun s r => exec_ffRead_of_takes⟩

end Sys2Proof.Machine
end

section
/-! SUPPORT. What the reset commands do once the Lockkeeper takes them, and how the reset of a die or a domain ends (13 R345, 14 R368,
18 R441, R444, R445). They settle O16. -/
namespace Sys2Proof.Machine

variable {s : State} {r : Req}

/-! ### DIE_RESET and DOMAIN_RESET (14 R368, 18 R444, R445) -/

/-- A reset asked of a die or a domain: it stands for step 6f, or begins where an operation may apply at once (13 R345). -/
def State.resetAsked (s u : State) : State := if s.opAtOnce then u.resetBegin else u

theorem exec_dieReset_of_plain (h : s.takes r .owner (r.length = 4)) (hroom : s.room r) (hdie : (r.p 0).toNat ≤ 4)
    (hplain : r.p 1 = 0) : exec (.dieReset r) s = .next ((s.resetAsked (s.modRst fun x =>
      { x with dies := x.dies ++ [{ unit := (r.p 0).toNat, origin := r.origin 0x0D00 }] })).accepts r 0x0D00 .owner) := by
  have hgood : ¬ (4 < (r.p 0).toNat ∨ !only (r.p 1) 1 ∨ (r.p 1 = 1 ∧ (r.p 0).toNat ≠ 0)) := by
    rw [hplain]
    simp only [not_or]
    exact ⟨by omega, by decide, by simp⟩
  have hnot : ¬ r.p 1 = 1 := by rw [hplain]; decide
  exact congrArg Host.Outcome.next (State.serveCmd_of_takes_of_accept h hroom ((if_neg hgood).trans (if_neg hnot)))

/-- FORCE on die 0: the forced Sill reset follows the reply. -/
theorem exec_dieReset_of_force (h : s.takes r .owner (r.length = 4)) (hroom : s.room r) (hforce : r.p 1 = 1)
    (hdie : (r.p 0).toNat = 0) (hfree : s.rst.forced = none) :
    exec (.dieReset r) s = .next ((s.accepts r 0x0D00 .owner).forceSill (r.origin 0x0D00)) := by
  have hgood : ¬ (4 < (r.p 0).toNat ∨ !only (r.p 1) 1 ∨ (r.p 1 = 1 ∧ (r.p 0).toNat ≠ 0)) := by
    rw [hforce, hdie]
    decide
  exact congrArg Host.Outcome.next (State.serveCmd_of_takes_of_acceptThen h hroom
    ((if_neg hgood).trans ((if_pos hforce).trans (if_neg (by simp [hfree])))))

theorem exec_domainReset_of_takes (h : s.takes r .owner (r.length = 3)) (hroom : s.room r) (hmin : 1 ≤ (r.p 0).toNat)
    (hmax : (r.p 0).toNat ≤ 56) (hlane : s.laneDomJoined (r.p 0).toNat = false) :
    exec (.domainReset r) s = .next ((s.resetAsked (s.modRst fun x =>
      { x with doms := x.doms ++ [{ unit := (r.p 0).toNat, origin := r.origin 0x0D01 }] })).accepts r 0x0D01 .owner) := by
  have hgood : ¬ ((r.p 0).toNat = 0 ∨ 57 ≤ (r.p 0).toNat ∨ s.laneDomJoined (r.p 0).toNat) := by
    simp only [hlane, Bool.false_eq_true, or_false]
    omega
  exact congrArg Host.Outcome.next (State.serveCmd_of_takes_of_accept h hroom (if_neg hgood))

theorem State.resetAsked_of_later (h : s.opAtOnce = false) (u : State) : s.resetAsked u = u := if_neg (by simp [h])

theorem State.resetAsked_of_atOnce (h : s.opAtOnce = true) (u : State) : s.resetAsked u = u.resetBegin := if_pos h

/-! ### DEVICE_RESET and LK_RESTART (14 R368) -/

theorem exec_deviceReset_of_takes (h : s.takes r .owner (r.length = 2)) :
    exec (.deviceReset r) s =
      .next ((s.modRst fun x => { x with deviceReset := true }).commit r 0x0D02 .owner stOk false []) := by
  change execDeviceReset r s = _
  rw [execDeviceReset, State.serveCmd_of_takes_of_ok h rfl]

/-- The restart follows the reply. -/
theorem exec_lkRestart_of_takes (h : s.takes r .owner (r.length = 2)) :
    exec (.lkRestart r) s = .next (s.commit r 0x0D03 .owner stOk false []).commandRestart := by
  change execLkRestart r s = _
  simp only [execLkRestart, State.serveCmd, serve_takes h]

/-! ### The ends of the resets (18 R444, R445) -/

theorem exec_dieResetComplete_of_some {die : Fin 5} {q : ResetReq} (h : s.rst.dieRun.find? (fun q => q.unit = die.val) = some q) :
    exec (.dieResetComplete die) s = .next (s.dieResetDone q).powerSettle.boundaryGoOn := by
  change execDieResetComplete die s = _
  rw [execDieResetComplete, h]

theorem exec_dieResetComplete_of_none {die : Fin 5} (h : s.rst.dieRun.find? (fun q => q.unit = die.val) = none) :
    exec (.dieResetComplete die) s = .next s := by
  change execDieResetComplete die s = _
  rw [execDieResetComplete, h]

section Domain
variable {d : Fin 64} {mv : Nat} {q : ResetReq}

theorem exec_domainResetComplete_of_ready (h : s.rst.domRun.find? (fun q => q.unit = d.val) = some q) (hown : s.ownReset d = true)
    (hready : isMemDom d = false ∨ d.val = 10 ∨ (s.ctlAt (32 + (d.val - 12))).ready = true) :
    exec (.domainResetComplete d mv) s = .next (((s.domReset d mv).modRst fun x =>
      { x with domRun := x.domRun.filter fun y => y.unit ≠ d.val }).domResetDone q).powerSettle.boundaryGoOn := by
  have hgo : ¬ (!(!(isMemDom d && d.val ≠ 10) || (s.ctlAt (32 + (d.val - 12))).ready) ∨ !s.ownReset d) := by
    rw [hown]
    rcases hready with hready | hready | hready <;> simp [hready]
  change execDomainResetComplete d mv s = _
  simp only [execDomainResetComplete, h, if_neg hgo]

/-- The reset waits for that of its die, and that of a DDR4 channel for its SPD. -/
theorem exec_domainResetComplete_of_waiting (h : s.rst.domRun.find? (fun q => q.unit = d.val) = some q)
    (hwait : s.ownReset d = false ∨ (isMemDom d = true ∧ d.val ≠ 10 ∧ (s.ctlAt (32 + (d.val - 12))).ready = false)) :
    exec (.domainResetComplete d mv) s = .next s := by
  have hstay : !(!(isMemDom d && d.val ≠ 10) || (s.ctlAt (32 + (d.val - 12))).ready) ∨ !s.ownReset d := by
    rcases hwait with hwait | ⟨hmem, hddr, hready⟩
    · simp [hwait]
    · simp [hmem, hddr, hready]
  change execDomainResetComplete d mv s = _
  simp only [execDomainResetComplete, h, if_pos hstay]

variable (h : s.rst.domRun.find? (fun q => q.unit = d.val) = none)
include h

theorem exec_domainResetComplete_of_later (hlater : s.rst.domLater.find? (fun q => q.unit = d.val) = some q) :
    exec (.domainResetComplete d mv) s = .next (if s.domRun d then ((s.domReset d mv).modRst fun x =>
      { x with domLater := x.domLater.filter fun y => y.unit ≠ d.val }).domResetDone q else s) := by
  change execDomainResetComplete d mv s = _
  simp only [execDomainResetComplete, h, hlater]

theorem exec_domainResetComplete_of_none (hlater : s.rst.domLater.find? (fun q => q.unit = d.val) = none) :
    exec (.domainResetComplete d mv) s = .next s := by
  change execDomainResetComplete d mv s = _
  simp only [execDomainResetComplete, h, hlater]

end Domain

/-! ### The obligation -/

/-- Settles O16: each row is the equation of its case. -/
theorem resetCommandsAnswer : Obligations.ResetCommandsAnswer := by
  unfold Obligations.ResetCommandsAnswer
  refine ⟨?dieReset, ?domainReset, fun s r => exec_deviceReset_of_takes, fun s r => exec_lkRestart_of_takes,
    fun s die => ⟨fun q => exec_dieResetComplete_of_some, exec_dieResetComplete_of_none⟩,
    fun s d mv => ⟨fun q hq => ⟨exec_domainResetComplete_of_ready hq, exec_domainResetComplete_of_waiting hq⟩,
      fun hq => ⟨fun q => exec_domainResetComplete_of_later hq, exec_domainResetComplete_of_none hq⟩⟩⟩
  case dieReset =>
    intro s r h hroom hdie
    exact ⟨fun hplain hlater => by rw [exec_dieReset_of_plain h hroom hdie hplain, State.resetAsked_of_later hlater],
      fun hplain hnow => by rw [exec_dieReset_of_plain h hroom hdie hplain, State.resetAsked_of_atOnce hnow],
      exec_dieReset_of_force h hroom⟩
  case domainReset =>
    intro s r h hroom hmin hmax hlane
    have hreset := exec_domainReset_of_takes h hroom hmin hmax hlane
    exact ⟨fun hlater => by rw [hreset, State.resetAsked_of_later hlater],
      fun hnow => by rw [hreset, State.resetAsked_of_atOnce hnow]⟩

end Sys2Proof.Machine
end

section
/-! SUPPORT. When a firmware slot passes, and what a boot makes of FW_MIN (15 R382, R383). They settle O58. -/
namespace Sys2Proof.Machine

variable {s : State}

/-- A chain of checks that ends with no cause. -/
theorem ite_some_eq_none_iff {α : Type} {c : Prop} [Decidable c] {x : α} {y : Option α} :
    (if c then some x else y) = none ↔ ¬c ∧ y = none := by
  split <;> simp [*]

theorem State.fwCause_eq_none_iff (s : State) (slot : BitVec 1) (body : Nat) : s.fwCause slot body = none ↔
    fwFormat (s.sec.fw slot) body = true ∧ keyHash (beWord (fwRun (s.sec.fw slot) 64 384)) = s.sec.fuses.rootHash ∧
    pssVerify (beWord (fwRun (s.sec.fw slot) 64 384)) (fwRun (s.sec.fw slot) (512 + body) 384) (fwMeasure (s.sec.fw slot) body) = true ∧
    s.sec.fwMin.toNat ≤ (fwWord (s.sec.fw slot) 12).toNat := by
  simp only [State.fwCause, ite_some_eq_none_iff, Bool.not_eq_true', Bool.not_eq_false, ne_eq, not_not, not_lt, and_true]

theorem fwFormat_words {t : Tab Byte} {body : Nat} (h : fwFormat t body = true) : fwWord t 0 = 0x4C4B2080 ∧ fwWord t 4 = 1 := by
  simp only [fwFormat, Bool.and_eq_true, decide_eq_true_eq] at h
  obtain ⟨⟨⟨⟨⟨⟨hmagic, hformat⟩, -⟩, -⟩, -⟩, -⟩, -⟩ := h
  exact ⟨hmagic, hformat⟩

theorem toNat_greater (a b : W32) : (if a.toNat < b.toNat then b else a).toNat = max a.toNat b.toNat := by
  split <;> omega

/-- The slot that boots raises FW_MIN to its SEC_VERSION. -/
theorem State.fwRuns_fwMin (s : State) (slot : BitVec 1) (fallback : Bool) :
    (s.fwRuns slot fallback).sec.fwMin.toNat = max s.sec.fwMin.toNat (fwWord (s.sec.fw slot) 12).toNat :=
  toNat_greater ..

theorem State.fwBoot_of_named (h : s.bootCause s.sec.fwNamed = none) : s.fwBoot = s.fwRuns s.sec.fwNamed false := by
  simp only [State.fwBoot, h]

theorem State.fwBoot_of_other {c : Nat} (h : s.bootCause s.sec.fwNamed = some c) (hother : s.bootCause (~~~s.sec.fwNamed) = none) :
    s.fwBoot = (s.fwRuns (~~~s.sec.fwNamed) true).log 0x0005 true false (w32 s.sec.fwNamed.toNat) 0 0 := by
  simp only [State.fwBoot, h, hother]

/-- Settles O58: the checks in their order, and the boot of either slot. -/
theorem aFirmwareSlotPassesOnlyIfEveryCheckHolds : Obligations.AFirmwareSlotPassesOnlyIfEveryCheckHolds := by
  unfold Obligations.AFirmwareSlotPassesOnlyIfEveryCheckHolds
  refine ⟨State.fwCause_eq_none_iff, fun t body => fwFormat_words, fun s h => ?_, fun s c h hother => ?_⟩
  · rw [State.fwBoot_of_named h, State.fwRuns_fwMin]
  · rw [State.fwBoot_of_other h hother, State.log_sec, State.fwRuns_fwMin]

end Sys2Proof.Machine
end

section
/-! SUPPORT. What the events of references and multiplexers do, one equation for each case (16 R395 to R397, R399, R400, R404 to R406).
They settle O43 with those of PLLs and sluices. -/
namespace Sys2Proof.Machine

variable {s u : State}

/-! ### References (16 R395 to R397, R399) -/

section RefLost
variable {r q : RefIn} (hu : u = s.modClk fun c =>
  { c with validA := c.validA && decide (r ≠ .a), validB := c.validB && decide (r ≠ .b) })
include hu

theorem exec_refLost_eq : exec (.refLost r) s = .next (u.refLost r) := by
  subst hu
  cases r <;> simp only [ne_eq, not_true_eq_false, decide_false, reduceCtorEq, not_false_eq_true, decide_true, Bool.and_false,
    Bool.and_true] <;> rfl

/-- The input that is lost is not valid. -/
theorem valid_refLost : u.clk.valid r = false := by
  subst hu
  cases r <;> exact Bool.and_false _

theorem exec_refLost_of_noneInUse (h : s.clk.inUse = none) : exec (.refLost r) s = .next u := by
  have hin : u.clk.inUse = none := by rw [hu]; exact h
  rw [exec_refLost_eq hu]
  simp only [State.refLost, hin]

theorem exec_refLost_of_otherInUse (h : s.clk.inUse = some q) (hvalid : u.clk.valid q = true) : exec (.refLost r) s = .next u := by
  have hin : u.clk.inUse = some q := by rw [hu]; exact h
  rw [exec_refLost_eq hu]
  simp only [State.refLost, hin, hvalid, if_true]

theorem exec_refLost_of_failover (h : s.clk.inUse = some r) (hsel : s.clk.select = 0) (hother : u.clk.valid r.other = true) :
    exec (.refLost r) s = .next ((u.modClk fun c => { c.hold with failingOver := true }).refSwitch r.other true) := by
  have hin : u.clk.inUse = some r := by rw [hu]; exact h
  have hselu : u.clk.select = 0 := by rw [hu]; exact hsel
  rw [exec_refLost_eq hu]
  simp only [State.refLost, hin, valid_refLost hu, hselu, hother, Bool.false_eq_true, if_false, and_self, if_true]

theorem exec_refLost_of_noneLeft (h : s.clk.inUse = some q) (hvalid : u.clk.valid q = false)
    (hno : q ≠ r ∨ s.clk.select ≠ 0 ∨ u.clk.valid r.other = false) :
    exec (.refLost r) s = .next ((((u.modClk fun c =>
      { c.hold with inUse := none, fosc := 0, failingOver := false, sw := c.sw.filter fun m => m.mux ≠ 0 }).log 0x0C01 true false
        (w32 q.code) 0 0).clkEvt 0).clockStop stopRef) := by
  have hin : u.clk.inUse = some q := by rw [hu]; exact h
  have hselu : u.clk.select = s.clk.select := by rw [hu]; rfl
  have hstay : ¬ (q = r ∧ u.clk.select = 0 ∧ u.clk.valid r.other = true) := by
    rw [hselu, ← Bool.not_eq_false]
    tauto
  rw [exec_refLost_eq hu]
  simp only [State.refLost, hin, hvalid, Bool.false_eq_true, if_false, if_neg hstay]
  rfl

end RefLost

theorem exec_refQualified_of_absent {r : RefIn} (h : s.refPresent r = false) : exec (.refQualified r) s = .next s :=
  congrArg Host.Outcome.next (if_pos (by simp [h]))

theorem exec_refQualified_of_present {r : RefIn} (h : s.refPresent r = true) (hu : u = s.modClk fun c =>
      { c with validA := c.validA || decide (r = .a), validB := c.validB || decide (r = .b), driftLogged := false }) :
    exec (.refQualified r) s = .next (if s.clk.inUse = none ∧ (s.clk.sw.any fun m => m.mux = 0) = false then
      (match u.clk.choose s.clk.select with
        | some q => u.refSwitch q true
        | none => u) else u) := by
  have hbody : exec (.refQualified r) s = .next (if u.clk.inUse.isNone ∧ !(u.clk.sw.any fun m => m.mux = 0) then
      match u.clk.choose u.clk.select with
        | some q => u.refSwitch q true
        | none => u
      else u) := by
    subst hu
    cases r <;> simp only [decide_true, reduceCtorEq, decide_false, Bool.or_true, Bool.or_false] <;>
      exact congrArg Host.Outcome.next (if_neg (by simp [h]))
  have hin : u.clk.inUse = s.clk.inUse := by rw [hu]; rfl
  have hsw : u.clk.sw = s.clk.sw := by rw [hu]; rfl
  have hsel : u.clk.select = s.clk.select := by rw [hu]; rfl
  rw [hbody, hin, hsw, hsel]
  simp only [Option.isNone_iff_eq_none, Bool.not_eq_true']

theorem exec_refCompare_of_drift {ppm : Nat} (ha : s.clk.validA = true) (hb : s.clk.validB = true) (hd : s.clk.driftLogged = false)
    (hppm : 200 < ppm) : exec (.refCompare ppm) s =
      .next (((s.modClk fun c => { c with driftLogged := true }).log 0x0C09 true false (w32 ppm) 0 0).clkEvt 8) :=
  congrArg Host.Outcome.next (if_pos ⟨ha, hb, hppm, by simp [hd]⟩)

theorem exec_refCompare_of_none {ppm : Nat}
    (h : s.clk.validA = false ∨ s.clk.validB = false ∨ s.clk.driftLogged = true ∨ ppm ≤ 200) : exec (.refCompare ppm) s = .next s := by
  refine congrArg Host.Outcome.next (if_neg ?_)
  rintro ⟨ha, hb, hppm, hd⟩
  rcases h with h | h | h | h
  · simp [h] at ha
  · simp [h] at hb
  · simp [h] at hd
  · omega

/-! ### Multiplexers (16 R404 to R406) -/

section Mux
variable {m : Fin 6}

theorem exec_muxSwitchComplete_of_none (h : s.clk.current m = none) : exec (.muxSwitchComplete m) s = .next s := by
  change execMuxSwitchComplete m s = _
  rw [execMuxSwitchComplete, h]

theorem exec_muxSwitchComplete_of_some {x : MuxSwitch} (h : s.clk.current m = some x)
    (hu : u = s.modClk fun c => { c with sw := c.sw.erase x }) :
    exec (.muxSwitchComplete m) s = .next (if x.mux = 0 then u.refTaken (if x.target = 0 then .a else .b)
      else if x.mux = 2 then u.modClk fun c => { c with lkFosc := decide (x.target = 1) } else u) := by
  subst hu
  change execMuxSwitchComplete m s = _
  rw [execMuxSwitchComplete, h]

theorem exec_muxForced_of_idle (h : s.switching m = false) : exec (.muxForced m) s = .next s :=
  congrArg Host.Outcome.next (if_neg (by simp [h]))

theorem exec_muxForced_of_switching (h : s.switching m = true) :
    exec (.muxForced m) s = .next ((s.log 0x0C06 false false (w32 m) 0 0).clkEvt 5) := congrArg Host.Outcome.next (if_pos h)

theorem exec_muxAbandoned_of_idle (h : s.switching m = false) : exec (.muxAbandoned m) s = .next s :=
  congrArg Host.Outcome.next (if_neg (by simp [h]))

/-- An abandoned switch is taken back, as `w`; of the reference it leaves none where the one in use is no longer valid. -/
theorem exec_muxAbandoned_of_switching {v w : State} (h : s.switching m = true)
    (hu : u = s.modClk fun c => { c with sw := match c.current m with | some x => c.sw.erase x | none => c.sw })
    (hv : v = if m.val = 3 then (List.range 16).foldl (fun (t : State) g => t.modGroup g fun x => { x with sought := false }) u else u)
    (hw : w = ((v.modVert fun x =>
        { x with switchA := if m.val = 4 then 0 else x.switchA, switchB := x.switchB && decide (m.val ≠ 5) }).log 0x0C07 true false
          (w32 m) 0 0).clkEvt 6) :
    exec (.muxAbandoned m) s = .next (match w.clk.inUse with
      | some q => if m.val = 0 ∧ w.clk.valid q = false then w.refNone q else w
      | none => w) := by
  have hval (k : Fin 6) : m = k ↔ m.val = k.val := Fin.ext_iff
  subst hu hv hw
  change execMuxAbandoned m s = _
  simp only [execMuxAbandoned, h, if_true, hval, ne_eq, Bool.not_eq_true'] <;> rfl

end Mux

/-! ### The safe state (16 R399, R400) -/

theorem exec_safeEntered_of_holdover (hh : s.clk.holdover = true) (hin : s.clk.inUse = none) (hs : s.clk.safe = false) :
    exec .safeEntered s =
      .next ((((s.modClk fun c => { c with safe := true, safeMs := 0 }).safeItems.log 0x0C03 true true 0 0 0).clkEvt 2)) :=
  congrArg Host.Outcome.next (if_pos (by simp [hh, hin, hs]))

theorem exec_safeEntered_of_none (h : s.clk.holdover = false ∨ s.clk.inUse.isSome = true ∨ s.clk.safe = true) :
    exec .safeEntered s = .next s := by
  refine congrArg Host.Outcome.next (if_neg ?_)
  rintro ⟨hh, hin, hs⟩
  rcases h with h | h | h
  · simp [h] at hh
  · rw [Option.isNone_iff_eq_none.1 hin] at h
    cases h
  · simp [h] at hs

theorem exec_refRestored_of_locked {r : RefIn} (hin : s.clk.inUse = some r) (hs : s.clk.safe = true) (hr : s.clk.resuming = true)
    (hc : s.coreLocked = true) : exec .refRestored s =
      .next ((((((s.modClk fun c => { c with safe := false, resuming := false }).safeEnd).log 0x0C04 true false
        (w32 r.code) s.clk.safeMs 0).clkEvt 3).endStop stopRef)) := by
  change execRefRestored s = _
  rw [execRefRestored, hin]
  exact congrArg Host.Outcome.next (if_pos ⟨hs, hr, hc⟩)

theorem exec_refRestored_of_none
    (h : s.clk.inUse = none ∨ s.clk.safe = false ∨ s.clk.resuming = false ∨ s.coreLocked = false) :
    exec .refRestored s = .next s := by
  change execRefRestored s = _
  rw [execRefRestored]
  cases hin : s.clk.inUse with
  | none => rfl
  | some r =>
    refine congrArg Host.Outcome.next (if_neg ?_)
    rintro ⟨hs, hr, hc⟩
    simp [hin, hs, hr, hc] at h

end Sys2Proof.Machine
end

section
/-! SUPPORT. What the events of PLLs and sluices do, one equation for each case (16 R397, R401, R403, R408, R409). They settle O43. -/
namespace Sys2Proof.Machine

variable {s u : State}

/-! ### PLLs (16 R397, R401, R403) -/

section Pll
variable {p : Fin 25}

theorem exec_pllUnlock_of_none
    (h : s.clk.lock.getLsbD p = false ∨ s.clk.inUse = none ∨ s.clk.holdover = true ∨ s.vert.held p = true) :
    exec (.pllUnlock p) s = .next s := congrArg Host.Outcome.next (if_pos (by simpa using h))

/-- A PLL that loses lock, with `u` the loss itself: the clock it feeds stops or moves. -/
theorem exec_pllUnlock_of_lost (hl : s.clk.lock.getLsbD p = true) (hin : s.clk.inUse.isSome = true) (hh : s.clk.holdover = false)
    (hheld : s.vert.held p = false)
    (hu : u = ((s.modClk fun c => { c with lock := c.lock &&& ~~~(1#25 <<< p.val), fosc := if p.val = 0 then 0 else c.fosc }).log
      0x0C05 true false (w32 p) 0 0).clkEvt 4) :
    exec (.pllUnlock p) s = .next (
      if p.val = 0 then (u.muxSwitch { mux := 2, target := 1, loss := true }).clockStop (stopPll 0)
      else if p.val < 5 then u.clockStop (stopPll p)
      else if p.val < 7 then u
      else if p.val < 23 then
        if (u.groupAt (p.val - 7)).pll = 0 then u.groupUnlock (p.val - 7) else u
      else match (List.range 16).find? fun g => (u.groupAt g).pll.toNat = p.val - 22 with
        | some g => u.groupUnlock g
        | none => u) := by
  have hlost : ¬ (!s.clk.lock.getLsbD p ∨ s.clk.inUse.isNone ∨ s.clk.holdover ∨ s.vert.held p) := by
    rw [hl, hh, hheld, Option.isNone_eq_false_iff.2 hin]
    decide
  subst hu
  exact congrArg Host.Outcome.next (if_neg hlost)

end Pll

/-! ### Sluices (16 R408, R409) -/

section Sluice
variable {n : Fin 56}

theorem exec_sluiceClose_of_idle (h : (s.slcAt n).closing = true) (hidle : s.slcIdle n = true) : exec (.sluiceClose n) s =
    .next ((((slcCtls n).foldl (fun (t : State) m => t.flushAll m) s).slcSet n (s.slcAt n).req).slcAnswer n stOk) :=
  congrArg Host.Outcome.next (if_pos ⟨h, hidle⟩)

theorem exec_sluiceClose_of_open_or_busy (h : (s.slcAt n).closing = false ∨ s.slcIdle n = false) :
    exec (.sluiceClose n) s = .next s := by
  refine congrArg Host.Outcome.next (if_neg ?_)
  rintro ⟨hc, hi⟩
  simp [hc, hi] at h

theorem exec_sluiceFail_of_closing (h : (s.slcAt n).closing = true) : exec (.sluiceFail n) s =
    .next (((((s.modSlc n fun y => { y with closing := false, fail := true }).log 0x0C08 false false (w32 n)
      (w32 (s.slcAt n).req.toNat) 0).clkEvt 7).slcAnswer n stBusy)) :=
  congrArg Host.Outcome.next (if_pos h)

theorem exec_sluiceFail_of_open (h : (s.slcAt n).closing = false) : exec (.sluiceFail n) s = .next s :=
  congrArg Host.Outcome.next (if_neg (by simp [h]))

theorem exec_sluiceReopen_of_work (hn : n.val ≤ 10) (ho : s.slcOpen n = false) (hw : s.slcWork n = true)
    (hrun : (slcCtls n).all (fun m => (s.ctlAt m).pstate = .run) = true) :
    exec (.sluiceReopen n) s = .next ((slcCtls n).foldl (fun s m => s.serveAll m)
      ((s.modSlc n fun x => { x with reopen := satInc x.reopen }).slcSet n 0)) :=
  congrArg Host.Outcome.next (if_pos ⟨hn, by simp [ho], hw, hrun⟩)

theorem exec_sluiceReopen_of_none (h : 10 < n.val ∨ s.slcOpen n = true ∨ s.slcWork n = false ∨
    (slcCtls n).all (fun m => (s.ctlAt m).pstate = .run) = false) : exec (.sluiceReopen n) s = .next s := by
  refine congrArg Host.Outcome.next (if_neg ?_)
  rintro ⟨hn, ho, hw, hrun⟩
  rcases h with h | h | h | h
  · omega
  · simp [h] at ho
  · simp [h] at hw
  · simp [h] at hrun

end Sluice

/-! ### The obligation -/

/-- Settles O43: each row is the equation of its case. -/
theorem clockEventsAct : Obligations.ClockEventsAct := by
  unfold Obligations.ClockEventsAct
  refine ⟨fun s u r hu => ⟨exec_refLost_of_noneInUse hu, fun q => exec_refLost_of_otherInUse hu, exec_refLost_of_failover hu,
      fun q => exec_refLost_of_noneLeft hu⟩,
    fun s u r hu => ⟨exec_refQualified_of_absent, fun h => exec_refQualified_of_present h hu⟩,
    fun s ppm => ⟨exec_refCompare_of_drift, exec_refCompare_of_none⟩,
    fun s m => ⟨exec_muxSwitchComplete_of_none, fun x u => exec_muxSwitchComplete_of_some⟩,
    fun s m => ⟨fun h => ⟨exec_muxForced_of_idle h, exec_muxAbandoned_of_idle h⟩, exec_muxForced_of_switching, ?abandoned⟩,
    fun s => ⟨exec_safeEntered_of_holdover, exec_safeEntered_of_none, fun r => exec_refRestored_of_locked, exec_refRestored_of_none⟩,
    fun s p => ⟨rfl, exec_pllUnlock_of_none, ?unlock⟩,
    fun s n => ⟨fun h => ⟨exec_sluiceClose_of_idle h, fun hi => exec_sluiceClose_of_open_or_busy (.inr hi),
        exec_sluiceFail_of_closing h⟩,
      fun h => ⟨exec_sluiceClose_of_open_or_busy (.inl h), exec_sluiceFail_of_open h⟩, exec_sluiceReopen_of_work,
      exec_sluiceReopen_of_none⟩⟩
  case abandoned =>
    intro u v h hu hv w hw
    rw [exec_muxAbandoned_of_switching h hu hv hw]
    exact ⟨fun q hin => by rw [hin], fun hin => by rw [hin]⟩
  case unlock =>
    intro u hl hin hh hheld hu
    rw [exec_pllUnlock_of_lost hl hin hh hheld hu]
    refine ⟨fun hp => ?_, fun hmin hmax => ?_, fun hmin hmax => ?_, fun hmin hmax => ?_, fun hmin => ?_⟩
    · rw [if_pos hp]
    · rw [if_neg (by omega), if_pos (by omega)]
    · rw [if_neg (by omega), if_neg (by omega), if_pos (by omega)]
    · rw [if_neg (by omega), if_neg (by omega), if_neg (by omega), if_pos (by omega)]
    · rw [if_neg (by omega), if_neg (by omega), if_neg (by omega), if_neg (by omega)]
      exact ⟨fun g hg => by rw [hg], fun hg => by rw [hg]⟩

end Sys2Proof.Machine
end

section
/-! SUPPORT. What the events of sleep, wake and power domains do, one equation for each case (17 R413, R415, R416, R420 to R425, R434).
They settle O44. -/
namespace Sys2Proof.Machine

variable {s u : State}

/-! ### Domains (17 R415, R416, R423) -/

theorem exec_domainChangeComplete_of_changed {d : Fin 64} {mv : Nat} {q : DomReq}
    (h : s.pwr.changed.find? (fun q => q.dom = d.val) = some q) : exec (.domainChangeComplete d mv) s = .next (s.domEnd q) := by
  change execDomainChangeComplete d mv s = _
  rw [execDomainChangeComplete, h]

theorem exec_domainChangeComplete_of_none {d : Fin 64} {mv : Nat} (h : s.pwr.changed.find? (fun q => q.dom = d.val) = none) :
    exec (.domainChangeComplete d mv) s = .next (if s.domSt d = .waking ∧ isQuad d = false then s.otherUp d mv else s) := by
  change execDomainChangeComplete d mv s = _
  rw [execDomainChangeComplete, h]
  simp only [Bool.not_eq_true']

theorem exec_quadrantWakeComplete_of_waking {q : Fin 8} {banks : List Nat} (hst : s.domSt (2 + q.val) = .waking)
    (hno : s.pwr.changed.any (fun r => r.dom = 2 + q.val) = false) :
    exec (.quadrantWakeComplete q banks) s = .next (s.quadUp (2 + q.val) banks) :=
  congrArg Host.Outcome.next (if_pos ⟨hst, by rw [hno]; rfl⟩)

theorem exec_quadrantWakeComplete_of_other {q : Fin 8} {banks : List Nat}
    (h : s.domSt (2 + q.val) ≠ .waking ∨ s.pwr.changed.any (fun r => r.dom = 2 + q.val) = true) :
    exec (.quadrantWakeComplete q banks) s = .next s := by
  refine congrArg Host.Outcome.next (if_neg ?_)
  rintro ⟨hst, hno⟩
  rcases h with h | h
  · exact h hst
  · rw [h] at hno
    cases hno

/-! ### The wake timer (17 R422) -/

theorem exec_wakeTimer_of_off (h : s.pwr.timer = 0) : exec .wakeTimer s = .next s := congrArg Host.Outcome.next (if_pos h)

theorem exec_wakeTimer_of_set (h : s.pwr.timer ≠ 0) : exec .wakeTimer s = .next (s.wakeBy 3 none) :=
  congrArg Host.Outcome.next (if_neg h)

/-! ### Entry (17 R420, R421) -/

theorem exec_sleepEntryComplete_of_none (h : s.pwr.dev ≠ .entering ∨ s.pwr.entry = none) : exec .sleepEntryComplete s = .next s := by
  change execSleepEntryComplete s = _
  unfold execSleepEntryComplete
  split
  next hdev hentry => simp [hdev, hentry] at h
  next => rfl

section Entry
variable {q : SleepReq} (hdev : s.pwr.dev = .entering) (hentry : s.pwr.entry = some q)
  (hu : u = s.pwr.changed.foldl (fun (s : State) c => s.domEnd c) s)
include hdev hentry hu

theorem exec_sleepEntryComplete_of_busy
    (hbusy : (List.range 9).any (fun n => (slcCtls n).any (fun m => u.domRun (ctlDomain m)) && !u.slcIdle n) = true) :
    exec .sleepEntryComplete s = .next (u.entryFails q) := by
  subst hu
  change execSleepEntryComplete s = _
  simp only [execSleepEntryComplete, hdev, hentry]
  rw [if_pos hbusy]

/-- With every memory sluice idle the domains go down, as `v`, in Off also the memories and PWR_EN, as `w`, and the state is entered. -/
theorem exec_sleepEntryComplete_of_idle
    (hidle : (List.range 9).any (fun n => (slcCtls n).any (fun m => u.domRun (ctlDomain m)) && !u.slcIdle n) = false)
    {v w : State} {dev : DevSt} (hv : v = if q.st = 1 then u.domsDown false else (u.domsDown true).deepClocks)
    (hw : w = if q.st = 3 then (((([10, 12, 13, 14, 15, 16, 17, 18, 19] : List Nat).foldl (fun (s : State) d => s.memLeave d .off)
      v).modPwr fun p => { p with pwrEn := false, railsGood := false }).emit (.pwrEn false)) else v)
    (hd : dev = if q.st = 1 then .sleep else if q.st = 2 then .deep else .off) :
    exec .sleepEntryComplete s = .next (((((w.modPwr fun p => { p with dev := dev, entry := none }).log 0x0D01 false false
      (w32 dev.code) 0 0).pwrEvt 0).postRecord? q.origin stOk [w32 q.st.toNat]).wakeHeld) := by
  have hdown : v = if decide (q.st ≠ 1) = true then (u.domsDown (decide (q.st ≠ 1))).deepClocks else u.domsDown (decide (q.st ≠ 1)) := by
    by_cases hst : q.st = 1
    · rw [hv, if_pos hst, decide_eq_false (not_not.2 hst), if_neg Bool.false_ne_true]
    · rw [hv, if_neg hst, decide_eq_true hst, if_pos rfl]
  subst hu hw hd
  change execSleepEntryComplete s = _
  simp only [execSleepEntryComplete, hdev, hentry, ← hdown]
  exact congrArg Host.Outcome.next (if_neg (ne_true_of_eq_false hidle))

end Entry

/-! ### Wake (17 R423 to R425, R434) -/

theorem exec_deviceWakeComplete_of_none {o : WakeObs} (h : s.pwr.dev ≠ .waking ∨ s.pwr.wake = none) :
    exec (.deviceWakeComplete o) s = .next s := by
  change execDeviceWakeComplete o s = _
  unfold execDeviceWakeComplete
  split
  next hdev hwake => simp [hdev, hwake] at h
  next => rfl

section Wake
variable {w : Wake} {o : WakeObs} (hdev : s.pwr.dev = .waking) (hwake : s.pwr.wake = some w)
include hdev hwake

theorem exec_deviceWakeComplete_of_off (hleft : w.left = .off) :
    exec (.deviceWakeComplete o) s = .next (if s.img.st = .released then s.wakeEnd w o else s) := by
  change execDeviceWakeComplete o s = _
  simp only [execDeviceWakeComplete, hdev, hwake, hleft, if_true]

theorem exec_deviceWakeComplete_of_thermal (hleft : w.left = .thermal) :
    exec (.deviceWakeComplete o) s = .next (s.thermalEnd.wakeEnd w o) := by
  change execDeviceWakeComplete o s = _
  simp only [execDeviceWakeComplete, hdev, hwake, hleft, reduceCtorEq, if_false, if_true]

theorem exec_deviceWakeComplete_of_sleep (hoff : w.left ≠ .off) (hthm : w.left ≠ .thermal) (hdeep : w.left ≠ .deep) :
    exec (.deviceWakeComplete o) s =
      .next (((List.range 20).foldl (fun (s : State) d => s.domBack [] d) s).acquireStanding.wakeEnd w o) := by
  change execDeviceWakeComplete o s = _
  simp only [execDeviceWakeComplete, hdev, hwake, hoff, hthm, hdeep, if_false]

theorem exec_deviceWakeComplete_of_deep (hleft : w.left = .deep) {failing : List Nat}
    (hf : failing = o.banks.filter fun b => decide (b < 128) &&
        (List.range 8).any fun i => (quadBanks (2 + i)).contains b && decide ((s.domAt (2 + i)).deepest = .deep))
    (hu : u = (deepPlls.foldl (fun (s : State) p => s.pllLock p) s).safeEnd) :
    exec (.deviceWakeComplete o) s = .next ((((List.range 20).foldl (fun (s : State) d => s.domBack failing d) u).retReport
        failing).acquireStanding.wakeEnd w o) := by
  change execDeviceWakeComplete o s = _
  simp only [execDeviceWakeComplete, hdev, hwake, hleft, reduceCtorEq, if_false, if_true, ← hf, ← hu]

end Wake

/-! ### The obligation -/

/-- Settles O44: each row is the equation of its case. -/
theorem sleepAndWakeEventsAct : Obligations.SleepAndWakeEventsAct := by
  unfold Obligations.SleepAndWakeEventsAct
  exact ⟨fun s d mv => ⟨fun q => exec_domainChangeComplete_of_changed, exec_domainChangeComplete_of_none⟩,
    fun s q banks => ⟨exec_quadrantWakeComplete_of_waking, exec_quadrantWakeComplete_of_other⟩,
    fun s => ⟨exec_wakeTimer_of_off, exec_wakeTimer_of_set⟩, fun s => exec_sleepEntryComplete_of_none,
    fun s u q hdev hentry hu => ⟨exec_sleepEntryComplete_of_busy hdev hentry hu,
      fun hidle v w dev hv hw hd => exec_sleepEntryComplete_of_idle hdev hentry hu hidle hv hw hd⟩,
    fun s o => exec_deviceWakeComplete_of_none,
    fun s w o hdev hwake => ⟨exec_deviceWakeComplete_of_off hdev hwake, exec_deviceWakeComplete_of_thermal hdev hwake,
      exec_deviceWakeComplete_of_sleep hdev hwake,
      fun hleft failing u hf hu => exec_deviceWakeComplete_of_deep hdev hwake hleft hf hu⟩⟩

end Sys2Proof.Machine
end

section
/-! SUPPORT. What the events of power-on, warm and forced resets do, one equation for each case (R441, R443, R446, 20 R465, R467).
They settle O46. -/
namespace Sys2Proof.Machine

variable {s u v : State}

/-! ### The warm reset (R441, R443) -/

theorem exec_resetNAssert_of_dead (h : s.rst.st = .dead) : exec .resetNAssert s = .next s := congrArg Host.Outcome.next (if_pos h)

theorem exec_resetNAssert_of_resetting (h : s.rst.st = .held ∨ s.rst.st = .quiescing) :
    exec .resetNAssert s = .next (s.modRst fun r => { r with resetN := true }) := by
  have halive : s.rst.st ≠ .dead := by rcases h with h | h <;> rw [h] <;> exact ResetSt.noConfusion
  exact congrArg Host.Outcome.next ((if_neg halive).trans (if_pos h))

theorem exec_resetNAssert_of_running (hdead : s.rst.st ≠ .dead) (hheld : s.rst.st ≠ .held) (hquiet : s.rst.st ≠ .quiescing) :
    exec .resetNAssert s = .next ((s.modRst fun r => { r with resetN := true }).warmBegin .resetN) :=
  congrArg Host.Outcome.next ((if_neg hdead).trans (if_neg (not_or.2 ⟨hheld, hquiet⟩)))

theorem exec_warmResetBegin_of_asked (hasked : s.rst.deviceReset = true) (hdead : s.rst.st ≠ .dead) (hheld : s.rst.st ≠ .held)
    (hquiet : s.rst.st ≠ .quiescing) : exec .warmResetBegin s = .next (s.warmBegin .device) :=
  congrArg Host.Outcome.next (if_pos ⟨hasked, hdead, hheld, hquiet⟩)

theorem exec_warmResetBegin_of_other
    (h : s.rst.deviceReset = false ∨ s.rst.st = .dead ∨ s.rst.st = .held ∨ s.rst.st = .quiescing) :
    exec .warmResetBegin s = .next (s.modRst fun r => { r with deviceReset := false }) := by
  refine congrArg Host.Outcome.next (if_neg ?_)
  rintro ⟨hasked, hdead, hheld, hquiet⟩
  rcases h with h | h | h | h
  · rw [h] at hasked
    cases hasked
  · exact hdead h
  · exact hheld h
  · exact hquiet h

/-! ### RESET_N_RELEASE (05 R97, 17 R435) -/

theorem exec_resetNRelease_of_idle {w cool : Bool} (h : s.rst.st = .dead ∨ s.rst.resetN = false) :
    exec (.resetNRelease w cool) s = .next s :=
  congrArg Host.Outcome.next (if_pos (h.imp_right fun hn => by rw [hn]; rfl))

/-- `u` has sampled WIN_MSTR; in `v` a hard trip of a cool device has ended. -/
theorem exec_resetNRelease_of_asserted {w cool : Bool} (hdead : s.rst.st ≠ .dead) (hn : s.rst.resetN = true)
    (hu : u = (s.modRst fun r => { r with resetN := false }).modWin (fun x =>
      { x with winMstr := w, modeReg := if w then 2 else 0, mode := if w then 2 else 0 }))
    (hv : v = (if s.thm.shdn = true ∧ cool = true then
      (u.modThm fun t => { t with shdn := false }).modRst fun r => { r with cause := .trip } else u)) :
    exec (.resetNRelease w cool) s = .next (if s.rst.st = .held then v.startBegin else v) := by
  have hst : v.rst.st = s.rst.st := by subst hu hv; split <;> rfl
  have hasserted : ¬ (s.rst.st = .dead ∨ (!s.rst.resetN) = true) := by simp [hdead, hn]
  rw [← hst]
  subst hu hv
  exact congrArg Host.Outcome.next (if_neg hasserted)

/-! ### POWER_GOOD (20 R465) -/

theorem exec_powerGood_of_idle (h : s.rst.st = .dead ∨ s.pwr.pwrEn = false ∨ s.pwr.railsGood = true) :
    exec .powerGood s = .next s :=
  congrArg Host.Outcome.next (if_pos (h.imp_right fun h => h.imp_left fun hp => by rw [hp]; rfl))

section PowerGood
variable (hen : s.pwr.pwrEn = true) (hbad : s.pwr.railsGood = false)
  (hu : u = s.modPwr (fun p => { p with railsGood := true, railMs := 0 }))
include hen hbad hu

theorem exec_powerGood_of_off (h : s.pwr.dev = .waking ∧ (∃ w, s.pwr.wake = some w ∧ w.left = .off) ∧ s.rst.st = .none) :
    exec .powerGood s = .next u.offStart := by
  obtain ⟨hdev, ⟨w, hwake, hleft⟩, hst⟩ := h
  subst hu
  change execPowerGood s = _
  simp [execPowerGood, State.modPwr, hen, hbad, hdev, hwake, hleft, hst]

theorem exec_powerGood_of_cold (hdead : s.rst.st ≠ .dead)
    (h : s.pwr.dev ≠ .waking ∨ (∀ w, s.pwr.wake = some w → w.left ≠ .off) ∨ s.rst.st ≠ .none) :
    exec .powerGood s = .next u.startUp := by
  subst hu
  refine congrArg Host.Outcome.next ((if_neg (by simp [hdead, hen, hbad])).trans (if_neg ?_))
  rintro ⟨hoff, hst⟩
  obtain ⟨hdev, hwake⟩ := Bool.and_eq_true_iff.1 hoff
  split at hwake
  next w hw =>
    rcases h with h | h | h
    · exact h (of_decide_eq_true hdev)
    · exact h w hw (of_decide_eq_true hwake)
    · exact h hst
  next => cases hwake

end PowerGood

/-! ### Forced resets (R446) -/

section Forced
variable {q : Forced}

theorem exec_sillResetHoldEnd_of_forced (h : s.rst.forced = some q) :
    exec .sillResetHoldEnd s = .next (s.modRst fun r => { r with forced := some { q with released := true } }) := by
  change execSillResetHoldEnd s = _
  simp only [execSillResetHoldEnd, State.modRst, h, Option.map_some]

theorem exec_sillResetHoldEnd_of_none (h : s.rst.forced = none) : exec .sillResetHoldEnd s = .next s := by
  change execSillResetHoldEnd s = _
  simp only [execSillResetHoldEnd, State.modRst, h, Option.map_none]
  rw [← h]

theorem exec_forcedResetComplete_of_none (h : s.rst.forced = none) : exec .forcedResetComplete s = .next s := by
  change execForcedResetComplete s = _
  rw [execForcedResetComplete, h]

theorem exec_forcedResetComplete_of_held (h : s.rst.forced = some q) (hheld : q.released = false) :
    exec .forcedResetComplete s = .next s := by
  change execForcedResetComplete s = _
  simp only [execForcedResetComplete, h, hheld, Bool.not_false, if_true]

theorem exec_forcedResetComplete_of_released (h : s.rst.forced = some q) (hrel : q.released = true) (hu : u = s.forcedEnd q)
    (hv : v = u.modWin (fun w => { w with paused := false })) :
    exec .forcedResetComplete s = .next (if u.win.st = .boundary ∧ u.win.paused = true then
      (if v.win.step = 2 then v.boundaryDrained else v.boundaryGoOn) else u) := by
  subst hv
  have hkept : ¬ (!q.released) = true := by rw [hrel]; decide
  change execForcedResetComplete s = _
  rw [execForcedResetComplete, h, hu]
  exact congrArg Host.Outcome.next (if_neg hkept)

end Forced

/-! ### O46 -/

/-- Settles O46, by the equations above, one for each event and case. -/
theorem resetEventsAct : Obligations.ResetEventsAct := by
  unfold Obligations.ResetEventsAct
  refine ⟨?powerOn, ?powerOff, ?resetN, ?warm, ?quiesce, ?release, ?good, ?forced, ?free⟩
  case powerOn => exact fun s st => ⟨_, rfl, rfl, rfl, rfl, rfl, rfl, rfl, rfl, rfl, rfl, rfl⟩
  case powerOff => exact fun s => ⟨_, rfl, rfl, rfl, rfl, rfl⟩
  case resetN =>
    rintro s u rfl
    exact ⟨exec_resetNAssert_of_dead, exec_resetNAssert_of_resetting, exec_resetNAssert_of_running⟩
  case warm => exact fun s => ⟨exec_warmResetBegin_of_asked, exec_warmResetBegin_of_other⟩
  case quiesce =>
    rintro s ctls l rfl
    exact ⟨fun h => ⟨congrArg Host.Outcome.next (if_pos h), congrArg Host.Outcome.next (if_pos h)⟩,
      fun h => ⟨congrArg Host.Outcome.next (if_neg h), congrArg Host.Outcome.next (if_neg h)⟩⟩
  case release =>
    exact fun s w cool => ⟨exec_resetNRelease_of_idle, fun u v => exec_resetNRelease_of_asserted⟩
  case good =>
    exact fun s => ⟨exec_powerGood_of_idle, fun u hdead hen hbad hu =>
      ⟨exec_powerGood_of_off hen hbad hu, exec_powerGood_of_cold hen hbad hu hdead⟩⟩
  case forced =>
    exact fun s q h => ⟨exec_sillResetHoldEnd_of_forced h, exec_forcedResetComplete_of_held h,
      fun u v hrel => exec_forcedResetComplete_of_released h hrel⟩
  case free => exact fun s h => ⟨exec_sillResetHoldEnd_of_none h, exec_forcedResetComplete_of_none h⟩

end Sys2Proof.Machine
end

section
/-! SUPPORT. What the self-test does (R367, 19 R451 to R459), and that putting what was tested back in order leaves the record of the test
as it is. They settle O15. -/
namespace Sys2Proof.Machine

variable {k s : State}

/-! ### What leaves the self-test's own state as it is -/

theorem foldl_bist {α : Type} {f : State → α → State} (hf : ∀ s a, (f s a).bist = s.bist) (l : List α) (s : State) :
    (l.foldl f s).bist = s.bist := by
  induction l generalizing s with
  | nil => rfl
  | cons a l ih => exact (ih (f s a)).trans (hf s a)

theorem foldl_fst_bist {α β : Type} {f : State × β → α → State × β} (hf : ∀ x a, (f x a).1.bist = x.1.bist) (l : List α)
    (x : State × β) : (l.foldl f x).1.bist = x.1.bist := by
  induction l generalizing x with
  | nil => rfl
  | cons a l ih => exact (ih (f x a)).trans (hf x a)

/-! #### Splice repair (R457, 04 R77 to R84) -/

@[simp] theorem State.logDeclared_bist (c : Nat) (verr : Bool) (k : Carrier) (t : Stamp) : (s.logDeclared c verr k t).bist = s.bist := by
  unfold State.logDeclared
  cases verr <;> dsimp only <;> split <;> simp

@[simp] theorem State.giveUp_bist (c : Nat) (k : Carrier) : (s.giveUp c k).bist = s.bist := by
  unfold State.giveUp
  split <;> simp

@[simp] theorem State.chanUncarried_bist (c : Nat) (late : Bool) : (s.chanUncarried c late).bist = s.bist := by
  simp [State.chanUncarried]

@[simp] theorem State.carryNow_bist (c : Nat) : (s.carryNow c).bist = s.bist := by
  unfold State.carryNow
  dsimp only
  split <;> simp

@[simp] theorem State.chanShadow_bist (c : Nat) : (s.chanShadow c).bist = s.bist := by
  unfold State.chanShadow
  dsimp only
  split <;> split <;> simp

@[simp] theorem State.chanDeclare_bist (now : Bool) (c : Nat) (verr : Bool) (k : Carrier) (t : Stamp) :
    (s.chanDeclare now c verr k t).bist = s.bist := by
  unfold State.chanDeclare
  cases now <;> simp

@[simp] theorem State.bistRepair_bist (pair : Nat) (bad : List Nat) : (s.bistRepair pair bad).bist = s.bist := by
  simp only [State.bistRepair, State.writeRepairRecord, State.modSpl_bist]
  refine foldl_bist (fun s c => ?_) _ s
  split <;> simp

/-! #### What was tested, after the test (R458) -/

@[simp] theorem State.putFrame_bist (fr : Nat) (content : List Nat) : (s.putFrame fr content).bist = s.bist := by
  unfold State.putFrame
  dsimp only
  split <;> rfl

@[simp] theorem State.reloadFrames_bist (plots : List Nat) : (s.reloadFrames plots).bist = s.bist := by
  refine foldl_bist (fun s p => foldl_bist (fun s j => ?_) _ s) plots s
  split <;> simp

@[simp] theorem State.loadRows_bist (c : Nat) (words : Option (Nat → Word18)) : (s.loadRows c words).bist = s.bist := rfl

@[simp] theorem State.loadContents_bist (m : Img) (z : Zeroing) (plots : List Nat) : (s.loadContents m z plots).bist = s.bist := by
  unfold State.loadContents
  split
  · rfl
  · refine foldl_bist (fun s c => ?_) _ s
    split
    · exact State.loadRows_bist ..
    · split
      · exact State.loadRows_bist ..
      · rfl

@[simp] theorem State.reloadCisterns_bist (plot : Nat) : (s.reloadCisterns plot).bist = s.bist := by
  unfold State.reloadCisterns
  dsimp only
  split <;> split <;> simp

@[simp] theorem State.memEvt_bist (m i : Nat) : (s.memEvt m i).bist = s.bist := by simp [State.memEvt]

@[simp] theorem State.filled_bist (m : Nat) : (s.filled m).bist = s.bist := by simp [State.filled]

@[simp] theorem State.bistReinit_bist (kind inst : Nat) : (s.bistReinit kind inst).bist = s.bist := by
  unfold State.bistReinit
  split <;> simp

/-! #### Serving a controller (07 R148 to R158) -/

theorem OnlyMemory.bist (h : OnlyMemory k s) : s.bist = k.bist := by
  obtain ⟨_, _, _, _, rfl⟩ := h
  rfl

theorem OnlyMemory.readRun (h : OnlyMemory k s) (m page off n : Nat) : OnlyMemory k (s.readRun m page off n).1 :=
  (h.putStored ..).correct ..

theorem OnlyMemory.writeRun (h : OnlyMemory k s) (m page off : Nat) (new : List Word18) : OnlyMemory k (s.writeRun m page off new) := by
  unfold State.writeRun
  split
  · exact (h.putStored ..).modCtl ..
  · exact (((h.readRun ..).ledgerRead ..).putStored ..).modCtl ..

/-- The limit flush counts the entry as early first, and then flushes it as any other. -/
theorem OnlyMemory.flushOldest (h : OnlyMemory k s) (m : Nat) : OnlyMemory k (s.flushOldest m) := by
  unfold State.flushOldest
  split
  · exact h
  · exact (((h.modCtl m fun c => { c with early := satInc c.early }).memEvt m 3).flushEntry m _).modCtl m _

theorem OnlyMemory.makeRoom (h : OnlyMemory k s) (m page off n fuel : Nat) : OnlyMemory k (s.makeRoom m page off n fuel) := by
  induction fuel generalizing s with
  | zero => exact h
  | succ fuel ih =>
    unfold State.makeRoom
    split
    · exact ih (h.flushOldest m)
    · exact h

theorem State.writeSeg_bist (m : Nat) (g : Nat × Nat × Nat) (a : State × List MWord × Bool) :
    (State.writeSeg m g a).1.bist = a.1.bist := by
  obtain ⟨s, ws, waits⟩ := a
  have hroom := (OnlyMemory.refl s).makeRoom m g.1 g.2.1 g.2.2 ((s.ctlAt m).ledger.length + 1)
  unfold State.writeSeg
  dsimp only
  split
  · rfl
  · split
    · exact hroom.bist
    · exact (hroom.writeRun ..).bist

@[simp] theorem State.answer_bist (n : Nat) (p : Packet) (st : Status) (words : List MWord) : (s.answer n p st words).bist = s.bist := by
  unfold State.answer
  dsimp only
  split <;> split <;> rfl

@[simp] theorem State.finishWork_bist (m : Nat) (p : Packet) (st : Status) (ws : List MWord) :
    (s.finishWork m p st ws).bist = s.bist := State.answer_bist ..

theorem State.serveRead_bist (m : Nat) (p : Packet) : (s.serveRead m p).bist = s.bist := by
  unfold State.serveRead
  split
  · rfl
  · rw [State.finishWork_bist, ((OnlyMemory.refl _).poisonDelivered ..).bist]
    refine foldl_fst_bist ?_ p.segments (s, [])
    exact fun x g => ((OnlyMemory.refl x.1).readRun m g.1 g.2.1 g.2.2).bist

theorem State.serveWrite_bist (m : Nat) (p : Packet) : (s.serveWrite m p).bist = s.bist := by
  have hsegs := foldl_fst_bist (fun a g => State.writeSeg_bist m g a) p.segments (s, p.words, false)
  unfold State.serveWrite
  split
  · rfl
  · dsimp only
    split
    · exact hsegs
    · rw [State.finishWork_bist, hsegs]

theorem State.serveOne_bist (m : Nat) : (s.serveOne m).bist = s.bist := by
  unfold State.serveOne
  split
  · rfl
  · split
    · simp
    · split
      · exact State.serveRead_bist ..
      · exact State.serveWrite_bist ..

@[simp] theorem State.serveAll_bist (m : Nat) : (s.serveAll m).bist = s.bist :=
  foldl_bist (fun _ _ => State.serveOne_bist m) _ s

@[simp] theorem State.clearHold_bist (i : Nat) : (s.clearHold i).bist = s.bist := rfl

/-! ### The report (R459, R460) -/

/-- The self-test after a report with result `c0` and signature `sig`, but for the event bits. -/
structure BistReported (k s : State) (c0 : BitVec 3) (sig : BitVec 128) : Prop where
  run : s.bist.run = none
  result : s.bist.result = c0
  sig : s.bist.sig = sig
  runs : s.bist.runs = satInc k.bist.runs

theorem State.bistReport_reported (b : BistRun) (c0 : BitVec 3) (sig : BitVec 128) : BistReported s (s.bistReport b c0 sig) c0 sig := by
  unfold State.bistReport State.bistEvt
  constructor <;> dsimp only <;> split <;> simp

/-- The result of a test (R459): the pass, a condition lost, a repair made. -/
def bistResultBits (pass lost repaired : Bool) : BitVec 3 :=
  BitVec.ofNat 3 ((if pass then 1 else 0) + (if lost then 2 else 0) + if repaired then 4 else 0)

theorem bistResultBits_pass (pass lost repaired : Bool) : (bistResultBits pass lost repaired).getLsbD 0 = pass := by
  cases pass <;> cases lost <;> cases repaired <;> rfl

/-! ### The end of a test -/

/-- The test of kind 3 has found failing channels of its pair, which are repaired (R457). -/
def bistFound (b : BistRun) (o : BistObs) (s : State) : List Nat :=
  bistBad (plotPair (framePlot b.inst)) (bistSeed b.kind b.inst s.sec.fuses.serial) o

def bistRepairs (b : BistRun) (o : BistObs) (s : State) : Bool := decide (b.kind = 3) && !(bistFound b o s).isEmpty

def State.bistRepaired (b : BistRun) (o : BistObs) (s : State) : State :=
  if bistRepairs b o s then s.bistRepair (plotPair (framePlot b.inst)) (bistFound b o s) else s

/-- The state that the end of a test reports on: repaired, what was tested put in order, the pulse rate back (R457, R458). -/
def State.bistRestored (b : BistRun) (o : BistObs) (s : State) : State :=
  let s := s.bistRepaired b o
  (s.bistReinit b.kind b.inst).modClk fun c =>
    { c with pulseNow := if b.kind = 2 then c.pulseNow else reducedRate s.fab.pulseKhz s.thm.reduction.toNat }

/-- After the report the hold ends, and a controller serves what waited (R458). -/
def State.bistLeft (b : BistRun) (s : State) : State :=
  let s := if s.img.app.isNone ∧ s.img.load.isNone then s.clearHold holdReconfig else s
  if b.kind = 2 then s.serveAll b.inst else s

@[simp] theorem State.bistRepaired_bist (b : BistRun) (o : BistObs) : (s.bistRepaired b o).bist = s.bist := by
  unfold State.bistRepaired
  split <;> simp

@[simp] theorem State.bistRestored_bist (b : BistRun) (o : BistObs) : (s.bistRestored b o).bist = s.bist := by
  simp [State.bistRestored]

@[simp] theorem State.bistLeft_bist (b : BistRun) : (s.bistLeft b).bist = s.bist := by
  unfold State.bistLeft
  dsimp only
  split <;> split <;> simp

section End
variable {b : BistRun} {o : BistObs} {sig : BitVec 128}

/-- The pass is judged against the reference value, which the repair leaves as it is. -/
theorem exec_bistTestComplete_of_ending (hrun : s.bist.run = some b) (hopen : s.slcOpen 10 = true)
    (hleat : b.kind ≠ 4 ∨ s.leatEmpty = true) (hsig : sig = misr (bistValues b.kind (plotPair (framePlot b.inst)) o)) :
    exec (.bistTestComplete o) s = .next (((s.bistRestored b o).bistReport b
      (bistResultBits (!b.condLost && decide (sig = s.bistRef b.kind b.inst)) b.condLost (bistRepairs b o s)) sig).bistLeft b) := by
  have hgo : ¬ ((!s.slcOpen 10) = true ∨ (b.kind = 4 ∧ (!s.leatEmpty) = true)) := by
    rw [hopen]
    rcases hleat with hkind | hempty
    · simp [hkind]
    · simp [hempty]
  have href : (s.bistRepaired b o).bistRef b.kind b.inst = s.bistRef b.kind b.inst := by
    rw [State.bistRef, State.bistRepaired_bist, State.bistRef]
  subst hsig
  rw [← href]
  change execBistTestComplete o s = _
  rw [execBistTestComplete, hrun]
  exact congrArg Host.Outcome.next (if_neg hgo)

end End

theorem exec_bistTestComplete_of_waiting {o : BistObs} (h : s.bist.run = none ∨ s.slcOpen 10 = false ∨
    (∃ b, s.bist.run = some b ∧ b.kind = 4 ∧ s.leatEmpty = false)) : exec (.bistTestComplete o) s = .next s := by
  change execBistTestComplete o s = _
  unfold execBistTestComplete
  split
  · rfl
  · rename_i b hb
    refine congrArg Host.Outcome.next (if_pos ?_)
    rcases h with h | h | ⟨b', hb', hkind, hleat⟩
    · rw [hb] at h
      cases h
    · exact .inl (by rw [h]; rfl)
    · cases hb.symm.trans hb'
      exact .inr ⟨hkind, by rw [hleat]; rfl⟩

/-! ### BIST_RUN and BIST_RESULT (R367, R454) -/

section Commands
variable {r : Req}

theorem exec_bistRun_of_takes (h : s.takes r .owner (r.length = 4)) (hroom : s.room r) (hkind : (r.p 0).toNat ≤ 4)
    (hstill : s.windowRunning = false)
    (hon : (bistDomains (r.p 0).toNat (r.p 1).toNat).all (fun d => s.domRun d) = true) (hfree : s.bist.run = none)
    (hvalid : bistValid (r.p 0).toNat (r.p 1).toNat = true) (hcond : s.freshen.bistCond = none) :
    exec (.bistRun r) s =
      .next ((s.freshen.bistBegin (r.p 0).toNat (r.p 1).toNat (r.origin 0x0C00)).accepts r 0x0C00 .owner) := by
  have hbody : bistRunBody r s.freshen = .accept (s.freshen.bistBegin (r.p 0).toNat (r.p 1).toNat (r.origin 0x0C00)) :=
    calc bistRunBody r s.freshen
        = _ := if_neg (by omega)
      _ = _ := if_neg (ne_true_of_eq_false hstill)
      _ = _ := if_neg (by rw [Bool.not_eq_true', Bool.not_eq_false]; exact hon)
      _ = _ := if_neg (by rw [State.freshen_bist, hfree]; decide)
      _ = _ := if_neg (by rw [hvalid]; decide)
      _ = _ := if_neg (by rw [hcond]; decide)
  change execBistRun r s = _
  rw [execBistRun, State.serveCmd_of_takes_of_accept (State.takes_freshen h) hroom hbody]

theorem exec_bistResult_of_takes (h : s.takes r .anyone (r.length = 2)) :
    exec (.bistResult r) s = .next (s.commit r 0x0C01 .anyone stOk false
      (w32 s.bist.result.toNat :: sigWords s.bist.sig ++ [w32 s.bist.recKind.toNat])) := by
  change execBistResult r s = _
  rw [execBistResult, State.serveCmd_of_takes_of_ok h rfl]

end Commands

/-- Settles O15: the commands by their equations; the report at the end of a test sets what R459 names, and no later step of the end
touches it. -/
theorem selfTestCommandsRun : Obligations.SelfTestCommandsRun := by
  unfold Obligations.SelfTestCommandsRun
  refine ⟨fun s r => exec_bistRun_of_takes, fun s r => exec_bistResult_of_takes, ?ending, fun s o => exec_bistTestComplete_of_waiting⟩
  case ending =>
    intro s b o sig hrun hopen hleat hsig
    have hrep := (s.bistRestored b o).bistReport_reported b
      (bistResultBits (!b.condLost && decide (sig = s.bistRef b.kind b.inst)) b.condLost (bistRepairs b o s)) sig
    refine ⟨_, exec_bistTestComplete_of_ending hrun hopen hleat hsig, ?_⟩
    rw [State.bistLeft_bist, hrep.run, hrep.runs, hrep.sig, hrep.result, State.bistRestored_bist, bistResultBits_pass]
    exact ⟨rfl, rfl, rfl, by simp⟩

end Sys2Proof.Machine
end
